-- ==== Sys2Proof/Word.lean ====
section
/-! DEFINITION. The word and byte types of the Nikar module (00_scope.md R11): words of 32 bits, bit 0 the least
significant, and the sparse map in which the state keeps what is numbered. -/
namespace Sys2Proof

/-- An instruction or data word (R91, R98). -/
abbrev Word := BitVec 32

/-- One byte of a window, frame or payload. -/
abbrev Byte := BitVec 8

/-- A sparse map by number, kept with rising keys. -/
abbrev NMap (α : Type) := List (Nat × α)

end Sys2Proof
end

