-- ==== Sys2Proof/Wire.lean ====
section
/-! DEFINITION. The plain data that commands carry and the state holds: variants, states, program versions (R235),
instruction contexts, ring frames (R273-R280), link messages (R340), Gelit requests (R437), samples of the local
I/O and the transfers between the modules. Syntax and State both import this file. -/
namespace Sys2Proof.Machine

/-- The variants of R2. -/
inductive Variant where | nk960 | nk940 | nk920
  deriving DecidableEq, Repr

/-- The side of the module, the SIDE contact of R387. -/
inductive Side where | a | b
  deriving DecidableEq, Repr

/-- The other side. -/
def Side.other : Side → Side | .a => .b | .b => .a

/-- The side as a bit, 0 A and 1 B. -/
def Side.bit : Side → Nat | .a => 0 | .b => 1

/-- The module states of R351. -/
inductive ModState where
  | unseated | seated | lantern | joining | standby | owner | standbyFaulted | testHold
  deriving DecidableEq, Repr

/-- The state codes of R351; UNSEATED and SEATED have none and read as LANTERN's 0. -/
def ModState.code : ModState → Nat
  | .unseated => 0 | .seated => 0 | .lantern => 0 | .joining => 1 | .standby => 2 | .owner => 3
  | .standbyFaulted => 4 | .testHold => 5

/-- Causes of a state change, R377. -/
inductive Cause where
  | none | command | lever | seatedLost | powerFail | silenceClaim | revert | assume | autoStart | higherPair
  | watchdog | supply | paceLow | parallaxPersistent | budgetOverrun | ingressOverrun | memory | selftest
  | divergence | joinFail | partnerSolo | variantMismatch | leverRefused
  deriving DecidableEq, Repr

/-- The codes of R377. -/
def Cause.code : Cause → Nat
  | .none => 0 | .command => 1 | .lever => 2 | .seatedLost => 3 | .powerFail => 4 | .silenceClaim => 5 | .revert => 6
  | .assume => 7 | .autoStart => 8 | .higherPair => 9 | .watchdog => 10 | .supply => 11 | .paceLow => 12
  | .parallaxPersistent => 13 | .budgetOverrun => 14 | .ingressOverrun => 15 | .memory => 16 | .selftest => 17
  | .divergence => 18 | .joinFail => 19 | .partnerSolo => 20 | .variantMismatch => 21 | .leverRefused => 22

/-- Why LANTERN holds the module, R396. -/
inductive Hold where
  | none | slotParity | sideConflict | partnerSolo | variant | windowFuse | generation | partInvalid
  | bringupTimeout | testHoldRefused | leverOpen
  deriving DecidableEq, Repr

/-- The HOLD_REASON codes of R396. -/
def Hold.code : Hold → Nat
  | .none => 0 | .slotParity => 1 | .sideConflict => 2 | .partnerSolo => 3 | .variant => 4 | .windowFuse => 5
  | .generation => 6 | .partInvalid => 7 | .bringupTimeout => 8 | .testHoldRefused => 9 | .leverOpen => 10

/-- The LANTERN_PHASE of R396. -/
inductive Phase where | notLantern | bringup | waitOwner | waitJoin | held | fetching
  deriving DecidableEq, Repr

/-- The LANTERN_PHASE codes of R396. -/
def Phase.code : Phase → Nat
  | .notLantern => 0 | .bringup => 1 | .waitOwner => 2 | .waitJoin => 3 | .held => 4 | .fetching => 5

/-- The quality codes of R325, in the order of their codes. -/
inductive Quality where | good | forced | stale | bad
  deriving DecidableEq, Repr

/-- The 2-bit code of R325. -/
def Quality.code : Quality → Nat | .good => 0 | .forced => 1 | .stale => 2 | .bad => 3

/-- A larger code is worse, R325. -/
def Quality.worse (x y : Quality) : Quality := if x.code ≤ y.code then y else x

/-- The areas of R91 that have a code of their own (2#111 is reserved). -/
inductive Area where | I | Q | M | T | L | K | S
  deriving DecidableEq, Repr

/-- The area a 3-bit code names, R91. -/
def Area.ofCode : Nat → Option Area
  | 0 => some .I | 1 => some .Q | 2 => some .M | 3 => some .T | 4 => some .L | 5 => some .K | 6 => some .S | _ => none

/-- The 3-bit code of an area, R91. -/
def Area.code : Area → Nat | .I => 0 | .Q => 1 | .M => 2 | .T => 3 | .L => 4 | .K => 5 | .S => 6

/-! ### Program versions, R235 -/

/-- One signal of an I/O map: the word and bit where it lies in the tenant's I or Q window, the signal (word 0 of
R258), its width code (0 bit, 1 16 bits, 2 32 bits) and its bit position in the block of its I/O module (R625). -/
structure IoBind where
  output : Bool
  word : Nat
  bit : Nat
  signal : Word
  width : Nat
  pos : Nat
  deriving DecidableEq, Repr

/-- A station I/O module that a task's snapshot covers. -/
structure SnapMod where
  ring : Nat
  station : Nat
  slot : Nat
  deriving DecidableEq, Repr

/-- The task attributes of R62 and R583 as the task table holds them, reserved values included, with the task's entry offset
and the I/O modules of its snapshot. -/
structure TaskAttr where
  taskClass : Nat
  cycle : Nat
  consistency : Nat
  sources : List Nat
  minInterval : Nat
  deadline : Nat
  band : Nat
  pin : Nat
  policy : Nat
  wdPeriod : Nat
  entry : Nat
  snap : List SnapMod
  deriving DecidableEq, Repr

/-- One entry of the safe table, R225. -/
structure SafeEntry where
  word : Nat
  tasks : Nat
  mask : Word
  value : Word
  deriving DecidableEq, Repr

/-- One word of the initial-value table of R235. -/
structure InitEntry where
  area : Nat
  word : Nat
  value : Word
  deriving DecidableEq, Repr

/-- A version of a tenant, R235. Positions of the task table are 0 to 15 (R237). -/
structure Version where
  versionId : Word
  code : List Word
  tasks : List (Nat × TaskAttr)
  konst : List Word
  forecast : List Word
  safe : List SafeEntry
  ioMap : List IoBind
  initial : List InitEntry
  agreedImm : Nat
  faultFrame : Nat
  sizeI : Nat
  sizeQ : Nat
  sizeM : Nat
  sizeT : Nat
  sizeL : Nat
  sizeK : Nat
  deriving DecidableEq, Repr

/-! ### Lanes -/

/-- Which lane of which task executes an instruction (R95: each lane holds its own copy). -/
structure Exec where
  task : Nat
  lane : Fin 2
  deriving DecidableEq, Repr

/-- A value of a signal with its quality, R327. -/
structure SigVal where
  signal : Word
  value : Word
  quality : Quality
  deriving DecidableEq, Repr

/-! ### Ring frames -/

/-- One block of an INPUT section, R278: status bit 0 MODULE_FAULT, 1 FREE_RUN, 2 SAMPLE_LATE. -/
structure InBlock where
  slot : Nat
  status : Nat
  data : List Byte
  deriving DecidableEq, Repr

/-- An INPUT section as it arrived, R276. -/
structure InSection where
  station : Nat
  seq : Nat
  task : Nat
  cycleLo : Nat
  crc : Word
  blocks : List InBlock
  deriving DecidableEq, Repr

/-- The envelope and ring header of a received frame, R273 and R274, with what the receiver measured of it: its FCS
check, whether RH_LENGTH agrees, whether every reserved field is zero, a VLAN tag (R269). -/
structure RingHdr where
  port : Nat
  fcsOk : Bool
  vlan : Bool
  etherType : Nat
  version : Nat
  frameType : Nat
  lengthOk : Bool
  reservedZero : Bool
  epoch : Nat
  ownerSide : Side
  senderSide : Side
  ring : Nat
  tick : Nat
  sourcePos : Nat
  deriving DecidableEq, Repr

/-- An INPUT frame: `start` and `stop` are ring time, ns, of its first bit and its end at the port (R294). -/
structure InputFrame where
  hdr : RingHdr
  start : Nat
  stop : Nat
  bytes : Nat
  sections : List InSection
  deriving DecidableEq, Repr

/-- A DISCOVER-RESPONSE, R624; a HOP of 16#FFFF is none. -/
structure DiscRsp where
  hdr : RingHdr
  typeId : Word
  serial : Word
  hopA : Nat
  hopB : Nat
  link : Nat
  rxTime : Nat
  txTime : Nat
  deriving DecidableEq, Repr

/-- An ACYC-RSP section, R312. -/
structure AcycRsp where
  station : Nat
  status : Nat
  slot : Nat
  index : Nat
  reqSeq : Nat
  data : List Byte
  deriving DecidableEq, Repr

/-- A mismatch entry of a STATUS section, R279. -/
structure Mismatch where
  kind : Nat
  task : Nat
  seq : Nat
  crcApplied : Word
  crcDiscarded : Word
  deriving DecidableEq, Repr

/-- A STATUS section, R279. -/
structure StatusSec where
  station : Nat
  link : Nat
  state : Nat
  epochLow : Nat
  duplicates : Nat
  oldSeq : Nat
  forwardDelayed : Nat
  alarmPending : Word
  mismatches : List Mismatch
  deriving DecidableEq, Repr

/-- An ACYC-RESPONSE frame, R275. -/
structure AcycFrame where
  hdr : RingHdr
  responses : List AcycRsp
  statuses : List StatusSec
  deriving DecidableEq, Repr

/-- A frame of the partner at a ring port (R349), with the RING_TIME of a RING-TIME frame (R280). -/
structure PartnerFrame where
  hdr : RingHdr
  ringTime : Nat
  shifts : List (Nat × Nat)
  deriving DecidableEq, Repr

/-- The station table entry of one position, R465. -/
structure StationMod where
  slot : Nat
  inBytes : Nat
  outBytes : Nat
  deriving DecidableEq, Repr

/-- An alarm channel of a station, R465. -/
structure AlarmCh where
  source : Nat
  slot : Nat
  deriving DecidableEq, Repr

/-- One position of a station table, R296 and R465; SERIAL 0 is none. -/
structure StationCfg where
  typeId : Word
  serial : Word
  mods : List StationMod
  alarms : List AlarmCh
  deriving DecidableEq, Repr

/-- An output block of a section this module sends, R277. -/
structure OutBlock where
  slot : Nat
  data : List Byte
  deriving DecidableEq, Repr

/-- A section this module sends, R276: KIND 1 OUTPUT, 2 IMMEDIATE, 5 ACYC-REQ, 7 ASSIGN. -/
structure OutSection where
  kind : Nat
  station : Nat
  seq : Nat
  task : Nat
  cycleLo : Nat
  applyAt : Nat
  blocks : List OutBlock
  payload : List Byte
  deriving DecidableEq, Repr

/-- A frame this module sends at a ring port; `bytes` are its bytes on the wire, none while it waits (R273). -/
structure OutFrame where
  port : Nat
  frameType : Nat
  epoch : Nat
  ownerSide : Side
  senderSide : Side
  tick : Nat
  ringTime : Nat
  sections : List OutSection
  payload : List Byte
  bytes : List Byte
  deriving DecidableEq, Repr

/-! ### Write sets, acyclic transactions, forces -/

/-- One write of a cycle: byte address in the process image (a multiple of 4), bits written, value, mark of R218. -/
structure WriteRec where
  addr : Nat
  mask : Word
  value : Word
  marked : Bool
  deriving DecidableEq, Repr

/-- The write set of (task, cycle), R359: digest, writes, the IMMEDIATE counts that the cycle advanced, and whether the
cycle carries a watchdog service (R589). -/
structure WriteSet where
  task : Nat
  cycle : Nat
  digest : BitVec 64
  writes : List WriteRec
  immCounts : List (Nat × Nat)
  service : Bool
  deriving DecidableEq, Repr

/-- A request of R312 to a station. -/
structure AcycReq where
  ring : Nat
  station : Nat
  op : Nat
  slot : Nat
  index : Nat
  length : Nat
  data : List Byte
  deriving DecidableEq, Repr

/-- An entry of the force table, R258. -/
structure Force where
  signal : Word
  value : Word
  width : Nat
  output : Bool
  setPriv : Nat
  setAt : Word
  deriving DecidableEq, Repr

/-! ### Gelit -/

/-- A received Gelit datagram, R437: the source address it came from, the UDP payload's size, its header fields, the
received tag and whether it is the tag that the session's key gives (R438), and the payload. -/
structure Req where
  source : Word
  udpLen : Nat
  version : Nat
  flags : Nat
  length : Nat
  session : Nat
  seq : Nat
  tenant : Nat
  status : Nat
  rsvd : Nat
  tag : BitVec 128
  tagOk : Bool
  payload : List Byte
  deriving DecidableEq, Repr

/-- A reply datagram, R437: status and body bytes (big-endian fields); `keyed` says that the tag is computed with the
session key and is not the zero tag (R438). -/
structure Reply where
  source : Word
  session : Nat
  seq : Nat
  tenant : Nat
  opcode : Nat
  status : Nat
  keyed : Bool
  body : List Byte
  deriving DecidableEq, Repr

/-- What the signature engine and the random source give at SESSION.OPEN (R446, R447): functions of FIPS and NIST
standards and random values, none of which the spec's own words fix. -/
structure OpenGrant where
  chainOk : Bool
  pointOk : Bool
  session : Nat
  nonce : List Byte
  ephemeral : List Byte
  key : BitVec 256
  deriving DecidableEq, Repr

/-- What a later reply needs of the request it answers, R437 and R441. -/
structure Ticket where
  source : Word
  session : Nat
  seq : Nat
  tenant : Nat
  opcode : Nat
  deriving DecidableEq, Repr

/-! ### Local I/O, HART, CAN -/

/-- What the input stages measure at a tick (R478, R486, R491): AI codes in units of 0.5 µA, the readback of every DO,
and whether L+ is at or above 18 V. Measured values are the environment's. -/
structure LocalSample where
  ai : List Nat
  readback : BitVec 16
  lplusOk : Bool
  deriving DecidableEq, Repr

/-- A HART transaction, R500: KIND 0 AI, 1 AO. -/
structure HartReq where
  kind : Nat
  channel : Nat
  command : Nat
  data : List Byte
  deriving DecidableEq, Repr

/-- A CAN frame with the flags of R513. -/
structure CanFrame where
  id : Nat
  xtd : Bool
  fdf : Bool
  brs : Bool
  esi : Bool
  len : Nat
  data : List Byte
  deriving DecidableEq, Repr

/-! ### Time and keys -/

/-- A PTP message as a domain unit uses it, R413: the port it came by, the sender's clock and sequence, its timestamps
and correction in ns, and what an Announce carries. -/
structure PtpMsg where
  port : Nat
  source : BitVec 64
  seq : Nat
  twoStep : Bool
  stamp : Int
  correction : Int
  rxTime : Nat
  utcOffset : Int
  utcValid : Bool
  leap61 : Bool
  leap59 : Bool
  gmClass : Nat
  gmIdentity : BitVec 64
  stepsRemoved : Nat
  deriving DecidableEq, Repr

/-- A key-tag credential, R551, with the verdicts of its two signatures. -/
structure Credential where
  serial : Word
  priv : Nat
  issuer : Nat
  curve : Nat
  reserved : Nat
  expiry : Nat
  crcOk : Bool
  issuerSigOk : Bool
  challengeSigOk : Bool
  deriving DecidableEq, Repr

/-- What the precheck of R543 finds, in its order. -/
structure Precheck where
  coordinate : Bool
  infinity : Bool
  offCurve : Bool
  range : Bool
  deriving DecidableEq, Repr

/-- A gate entry of R532: PERM bits [3k+2:3k] for level Pk. -/
structure GateEnt where
  base : Nat
  limit : Nat
  tenant : Nat
  match_ : Nat
  perm : Nat
  valid : Bool
  lock : Bool
  deriving DecidableEq, Repr

/-- A time alarm of R432: BASE 0 TB-PLANT, 1 ring time. -/
structure Alarm where
  enable : Nat
  base : Nat
  at_ : Nat
  period : Nat
  deriving DecidableEq, Repr

/-- The identity a module answers with, R356, and its report of R570: whether its slot is held by an update in its bridge interval,
the generation that the update targets, and the BRIDGE_GEN list of its own manifest. -/
structure PeerIdent where
  variant : Variant
  fuse : Nat
  generation : Nat
  side : Side
  solo : Bool
  owner : Bool
  bridge : Bool
  target : Nat
  bridgeGens : List Nat
  deriving DecidableEq, Repr

/-- A version that the owner's check sends to the standby with the task numbers the owner gave it, by task position (R61). -/
structure Numbered where
  version : Version
  numbers : List (Nat × Nat)
  deriving DecidableEq, Repr

/-- Results of a load or change check that the modules of a pair compare, R84 and R240: per task its number, W, G and
strand, and a digest of the version. -/
structure CheckFigures where
  tenant : Nat
  kind : Nat
  code : Nat
  figures : List (Nat × Nat × Nat × Nat)
  digest : BitVec 256
  deriving DecidableEq, Repr

/-- A command that the owner mirrors to its partner, R259, R346, R432, R463, R465, R471, R538 and R548, what it measures and assigns
for both modules (R298, R300), an acyclic response that one of them has filed (R313), and a CAN frame that the serving controller has
lost (R518, R519). -/
inductive Mirror where
  | hostWrite (at_ tenant : Nat) (writes : List WriteRec)
  | settings (at_ unit : Nat) (values : List (Nat × Int))
  | gateEntry (at_ gate index : Nat) (entry : GateEnt) (stored : Bool)
  | revoke (at_ : Nat) (serial : Word)
  | stationTable (at_ ring : Nat) (table : List StationCfg)
  | alarm (no : Nat) (value : Alarm)
  | lanternProgram (version : Version)
  | quiesce (unit : Nat) (on : Bool)
  | canServe (controller : Nat)
  | healthAck (mask : BitVec 64)
  | activate
  | start (tenant mask start0 : Nat)
  | stop (tenant mask : Nat)
  | unload (tenant : Nat)
  | changeAbort (result : Nat)
  | assign (ring station delayA delayB : Nat)
  | delays (ring : Nat) (delays : List Nat)
  | acycDone (ring : Nat) (rsp : AcycRsp)
  | canLost (controller : Nat) (frame : CanFrame)
  deriving DecidableEq, Repr

/-- What a standby forwards to the owner, R311, R300 and R575. -/
inductive Forwarded where
  | acyclic (req : AcycReq)
  | assign (ring station : Nat)
  | slot (kind id : Nat)
  | release (kind : Nat)
  deriving DecidableEq, Repr

end Sys2Proof.Machine
end

