-- ==== Sys2Proof/Parts.lean ====
section
/-! DEFINITION. The parts of the state: what a lane, a task, a tenant, a station, a port, a session and every other
unit of the module holds (one structure per unit, each field with the rule of spec/ that names it). State puts them
together; a state transfer to a joining module (R356) carries the same parts. -/
namespace Sys2Proof.Machine

/-! ### Lanes and tasks (04, 05, 06, 07) -/

/-- A branch-stack entry, R95: operator 0 NONE, 1 AND, 2 ANDN, 3 OR, 4 ORN, 5 XOR, 6 XORN; with the mark of R218. -/
structure BranchEnt where
  value : Bool
  mark : Bool
  op : Nat
  deriving DecidableEq, Repr

/-- A loop-stack entry, R95. -/
structure LoopFrame where
  remaining : Word
  index : Word
  body : BitVec 22
  exit : BitVec 22
  deriving DecidableEq, Repr

/-- A call-stack entry, R95. -/
structure CallFrame where
  ret : BitVec 22
  branchDepth : Nat
  loopDepth : Nat
  deriving DecidableEq, Repr

/-- The registers and stacks of R95, newest stack entry first, with the marks of R218. -/
structure Regs where
  acc : Bool
  wacc : Word
  accMark : Bool
  waccMark : Bool
  branch : List BranchEnt
  loops : List LoopFrame
  calls : List CallFrame
  pc : BitVec 22
  pathMark : Bool
  deriving DecidableEq, Repr

/-- What R96 gives at a start instant. -/
def Regs.start (entry : BitVec 22) : Regs :=
  ⟨false, 0, false, false, [], [], [], entry, false⟩

/-- A fault as the frame of R221 reports it. -/
structure FaultInfo where
  code : Nat
  fromSegment : Bool
  pc : BitVec 22
  instr : Word
  acc : Bool
  wacc : Word
  branchDepth : Nat
  loopDepth : Nat
  callDepth : Nat
  segment : Nat
  operand : Nat
  area : Nat
  detail : Word
  deriving DecidableEq, Repr

/-- A held record, R191; an edge record carries the mark of the ACC that it was taken from (R218). -/
inductive Held where
  | wdserv
  | evpost
  | edge (no : Nat) (value marked : Bool)
  deriving DecidableEq, Repr

/-- A read-set entry, R178: the forecast that was read, the forecast qualities of the word's signals, and whether a
quality was read. -/
structure ReadEnt where
  word : Nat
  value : Word
  qualities : List Quality
  withQuality : Bool
  deriving DecidableEq, Repr

/-- An unverified segment's record, R180; `immLen` is the length of the immediate log of R207 at its start. -/
structure SegRec where
  no : Nat
  restart : Regs
  flags : Nat
  held : List Held
  fault : Option FaultInfo
  reads : List ReadEnt
  wide : Bool
  immLen : Nat
  deriving DecidableEq, Repr

/-- A shadow-buffer entry of one lane half, R181. -/
structure ShadowEnt where
  addr : Nat
  mask : Word
  value : Word
  segment : Nat
  marked : Bool
  deriving DecidableEq, Repr

/-- A queued immediate release, R129: the Q word index, the bits and their value. -/
structure ImmRel where
  word : Nat
  mask : Word
  value : Word
  marked : Bool
  deriving DecidableEq, Repr

/-- SPEC_STATE of R200. -/
inductive SpecState where
  | notSpeculating | speculating | waitForecast | waitBarrier | waitShadow | waitRecords | waitFault
  deriving DecidableEq, Repr

/-- The SPEC_STATE codes of R200. -/
def SpecState.code : SpecState → Nat
  | .notSpeculating => 0 | .speculating => 1 | .waitForecast => 2 | .waitBarrier => 3 | .waitShadow => 4
  | .waitRecords => 5 | .waitFault => 6

/-- One lane's execution of a task's present cycle; `inFlight` while the result of a coprocessor operation has not come (R195). -/
structure Lane where
  regs : Regs
  spec : SpecState
  segNo : Nat
  segs : List SegRec
  shadow : List ShadowEnt
  drained : List WriteRec
  held : List Held
  imms : List ImmRel
  immExcess : Nat
  immLog : List Word
  immOver : Bool
  flags : Nat
  endAt : Option (BitVec 22)
  raised : Option FaultInfo
  done : Nat
  cost : Nat
  lastOp : Nat
  inFlight : Bool
  restore : Option SegRec
  deriving DecidableEq, Repr

/-- A lane at a start instant (R96): nothing executed, nothing written. -/
def Lane.start (entry : BitVec 22) (spec : SpecState) : Lane :=
  { regs := Regs.start entry, spec := spec, segNo := 0, segs := [], shadow := [], drained := [], held := [], imms := [],
    immExcess := 0, immLog := [], immOver := false, flags := 0, endAt := none, raised := none, done := 0, cost := 0,
    lastOp := 0, inFlight := false, restore := none }

/-- The task states of R67. -/
inductive TaskState where | stopped | armed | running | faulted
  deriving DecidableEq, Repr

/-- The TASK_STATE codes of R460. -/
def TaskState.code : TaskState → Nat | .stopped => 0 | .armed => 1 | .running => 2 | .faulted => 3

/-- A filed block of a snapshot with the quality it was judged, R321 to R326. -/
structure FiledBlock where
  slot : Nat
  status : Nat
  data : List Byte
  quality : Quality
  deriving DecidableEq, Repr

/-- The partner's side of one station's agreement, R18. -/
inductive PeerDigest where
  | notYet
  | noFrame
  | digest (crc : Word)
  deriving DecidableEq, Repr

/-- One station's section of a snapshot, R17 and R18. -/
structure Section where
  ring : Nat
  station : Nat
  expected : Bool
  filed : Bool
  blocks : List FiledBlock
  peer : PeerDigest
  asked : Bool
  agreed : Bool
  deriving DecidableEq, Repr

/-- A task's snapshot of one cycle, R15: whether this module was owner at its start (R354), and the force table as it
stood then (R260). -/
structure Snapshot where
  cycle : Nat
  owner : Bool
  forces : List Force
  closeAt : Nat
  closed : Bool
  agreed : Bool
  unagreed : Bool
  sections : List Section
  deriving DecidableEq, Repr

/-- A fire that starts an event task, R71: its source, agreed time and how many further fires merged into it. -/
structure Latch where
  source : Nat
  time : Nat
  merged : Nat
  deriving DecidableEq, Repr

/-- The kinds of parallax, R206. -/
inductive ParKind where | write | transit | release | stall | fault
  deriving DecidableEq, Repr

/-- The codes of R206. -/
def ParKind.code : ParKind → Nat | .write => 1 | .transit => 2 | .release => 3 | .stall => 4 | .fault => 5

/-- A parallax found at a task's transit checkpoint and not yet decided at publication, R208. -/
structure ParPending where
  kind : ParKind
  immediate : Bool
  deriving DecidableEq, Repr

/-- What a task still has to decide or apply at the publication instant of its cycle (R72, R89, R208, R214, R224, R227). -/
structure AtPub where
  committed : Bool
  post : Bool
  overrun : Bool
  parallax : Option ParPending
  fault : Option FaultInfo
  stop : Bool
  displace : Bool
  deriving DecidableEq, Repr

/-- Nothing to do at publication. -/
def AtPub.none : AtPub := ⟨false, false, false, Option.none, Option.none, false, false⟩

/-- A task watchdog, R584 to R594: PERIOD 0 is off; what a judgement leaves for the publication instant. -/
structure Watchdog where
  period : Nat
  lastService : Nat
  lastExpiry : Nat
  expiries : Nat
  early : Nat
  expired : Bool
  pc : Nat
  pcValid : Bool
  runState : Nat
  lastGap : Nat
  first : Bool
  earlyGap : Option Nat
  peerEarly : Option Nat
  expiredAt : Option Nat
  peerExpiredAt : Option Nat
  origin : Nat
  deriving DecidableEq, Repr

/-- A watchdog that has not been written: off, every word zero (R594). -/
def Watchdog.off : Watchdog := ⟨0, 0, 0, 0, 0, false, 0, false, 0, 0, false, none, none, none, none, 0⟩

/-- A cyclic or event task, R61, R62, R67, R94; `outs` are the station output modules whose Q words its code can write. `cycSweep` is the
input sweep as its present cycle began (R142), `applySweeps` the output sweep of each ring, ns, as its admission fixed it (R22); `fresh1` and
`fresh2` are the I words that have no agreed snapshot of cycle n−1 or n−2 since a switch, `freshNext` those of a switch just made (R252);
`latch` is the fire of an event task's next start, `behind` the one latched for the start after it (R71). -/
structure Task where
  no : Nat
  tenant : Nat
  pos : Nat
  attr : TaskAttr
  outs : List SnapMod
  newVersion : Bool
  strand : Nat
  w : Nat
  g : Nat
  sweep : Nat
  cycSweep : Nat
  applySweeps : List Nat
  lBase : Nat
  st : TaskState
  start0 : Nat
  cycle : Nat
  startAt : Nat
  inCycle : Bool
  first : Bool
  following : Bool
  speculates : Bool
  transited : Bool
  released : Bool
  snap : Option Snapshot
  inputs : List SigVal
  hist1 : Option (List SigVal)
  hist2 : Option (List SigVal)
  freshNext : List Nat
  fresh1 : List Nat
  fresh2 : List Nat
  lane0 : Lane
  lane1 : Lane
  fire : Option Latch
  latch : Option Latch
  behind : Option Latch
  nextStart : Option Nat
  prevStart : Option Nat
  faultCount : Nat
  faultCode : Nat
  wideLast : Bool
  replayedLast : Bool
  abandonedLast : Bool
  verifiedLast : Nat
  replayed : Bool
  abandoned : Bool
  wide : Bool
  verified : Nat
  atPub : AtPub
  peerSet : Option WriteSet
  ownSet : Option WriteSet
  peerOverrun : Option Nat
  peerFault : Option Nat
  immRun : Nat
  laneParCycle : Option Nat
  immSeq : List (Nat × Nat)
  dupMismatch : Nat
  wd : Watchdog
  deriving DecidableEq, Repr

/-! ### Pace, supply and the fabric (02) -/

/-- What one strand measures, R33 to R35, and its parallax word, R215; `current` and `current1` are the tasks that lane 0 and lane 1 last
executed (R65), `marginProbe` the lowest probe pace of the last 2 ms of the margin check under way (R45). -/
structure StrandSt where
  probe : Nat
  run : Nat
  marginLow : Bool
  paceLow : Bool
  probeFault : Bool
  lowRuns : Nat
  parKind : Nat
  parImmediate : Bool
  parOutcome : Nat
  parTimes : List Nat
  retired : Bool
  parTask : Nat
  current : Option Nat
  current1 : Option Nat
  marginProbe : Option Nat
  deriving DecidableEq, Repr

/-- A strand after reset (R35, R215). -/
def StrandSt.reset : StrandSt :=
  ⟨0, 0, false, false, false, 0, 0, false, 0, [], false, 0, none, none, none⟩

/-- The core supply and its regulator, R35 to R47; `heldSince` is the instant from which a margin check holds VCORE_CODE at 40 (R45). -/
structure Vcore where
  code : Nat
  limiting : Nat
  marginCheck : Bool
  regOn : Bool
  fixedMax : Bool
  lastRaise : Option Nat
  lastLower : Option Nat
  lastMargin : Option Nat
  marginRun : Bool
  heldSince : Option Nat
  supplyFault : Bool
  deriving DecidableEq, Repr

/-- A transfer across a crossing that has not ended: whether its acknowledge was issued, and the frame it carries at a port. -/
structure CrossTransfer where
  acked : Bool
  frame : Option OutFrame
  deriving DecidableEq, Repr

/-- The crossing between the fabric and one island (R52 to R55): whether the island is stopped and whether its wake failed;
whether transfers may cross, and while they may not, which side has reported that it is out of reset with its flush complete; the transfers
that have not ended; how many ended complete, with an error and flushed. -/
structure Crossing where
  stopped : Bool
  wakeFailed : Bool
  open_ : Bool
  fabricDone : Bool
  islandDone : Bool
  pending : List CrossTransfer
  completed : Nat
  errors : Nat
  flushed : Nat
  deriving DecidableEq, Repr

/-- A crossing that is open with nothing pending; `stopped` says whether its island is stopped (R48, R52). -/
def Crossing.idle (stopped : Bool) : Crossing := ⟨stopped, false, true, false, false, [], 0, 0, 0⟩

/-- A transfer can cross now: the island runs, and no flush is incomplete. -/
def Crossing.passes (c : Crossing) : Bool := !c.stopped && c.open_

/-! ### Tenants (03, 07, 08, 14) -/

/-- The tenant states of R60. -/
inductive TenantState where | free | loaded | running | stopped | frameDisplaced
  deriving DecidableEq, Repr

/-- The TENANT_STATE codes of R460. -/
def TenantState.code : TenantState → Nat
  | .free => 0 | .loaded => 1 | .running => 2 | .stopped => 3 | .frameDisplaced => 4

/-- Where a version's windows lie in the process image, byte addresses, R58; EDGE is the edge area of R150. -/
structure Windows where
  bank : Nat
  q : Nat
  m : Nat
  edge : Nat
  edgeBytes : Nat
  t : Nat
  l : Nat
  deriving DecidableEq, Repr

/-- A chunked write in progress (CHUNK of R454): who holds it, the chunks accepted, whether LAST came. -/
structure Loading where
  session : Nat
  chunks : List (Nat × List Byte)
  last : Bool
  deriving DecidableEq, Repr

/-- One tenant, R57 and R60; `displaceAt` is the publication instant at which it enters FRAME-DISPLACED (R227, R228). -/
structure Tenant where
  state : TenantState
  version : Option Version
  win : Windows
  image : Nat
  loading : Option Loading
  slot : List Word
  displaced : Nat
  restarted : Bool
  displaceAt : Option Nat
  deriving DecidableEq, Repr

/-- The change status and its data, R239, R236 and R248; `plan` holds, by position, each task of the new version with its
number, strand and figures (R237). -/
structure Change where
  state : Nat
  tenant : Nat
  lastResult : Nat
  detail : Nat
  failOffset : Nat
  switchAt : Nat
  confirmed : Bool
  pendingTasks : List Nat
  clamped : Nat
  clampedEntries : List Nat
  version : Option Version
  win : Windows
  image : Nat
  versionBytes : List (Nat × List Byte)
  versionLast : Bool
  mapBytes : List (Nat × List Byte)
  mapLast : Bool
  map : List (List Word)
  plan : List (Nat × Task)
  session : Nat
  deriving DecidableEq, Repr

/-- A force request that waits for its effective instant, R259: entries to set and signals to clear. -/
structure ForceReq where
  at_ : Nat
  sets : List Force
  clears : List Word
  session : Nat
  deriving DecidableEq, Repr

/-- Words of DATA.WRITE that wait for EFFECTIVE_AT, R463. -/
structure HostWrite where
  at_ : Nat
  tenant : Nat
  session : Nat
  writes : List WriteRec
  deriving DecidableEq, Repr

/-- A debug session, R230 to R234: the task whose cycle lane 1 runs, as it stood at that cycle's start; a single step that has not
ended, and whether lane 1 leaves a breakpoint it stands at; `copied` once `inputs` holds the I window of that cycle (R231). -/
structure DebugSt where
  session : Nat
  tenant : Nat
  halted : Bool
  task : Nat
  start : Option Task
  step : Option Ticket
  leaving : Bool
  lane : Lane
  breaks : List (Nat × Nat)
  copy : List (Nat × Byte)
  inputs : List SigVal
  copied : Bool
  refreshed : Option Nat
  closing : List Nat
  deriving DecidableEq, Repr

/-! ### Rings, ports and flow (09, 10) -/

/-- The station states of R299. -/
inductive StationState where | absent | found | assigning | active | resync | refused
  deriving DecidableEq, Repr

/-- The codes of R299. -/
def StationState.code : StationState → Nat
  | .absent => 0 | .found => 1 | .assigning => 2 | .active => 3 | .resync => 4 | .refused => 5

/-- A station as this module sees it, R299 to R305; `missing` where the last snapshot that covers it closed with a frame on neither module
(R303). -/
structure StationView where
  state : StationState
  refuse : Nat
  seenA : Bool
  seenB : Bool
  freeRun : Bool
  typeId : Word
  serial : Word
  delayA : Nat
  delayB : Nat
  slotEdge : Nat
  slotIntrusion : Nat
  late : Nat
  dupMismatch : Nat
  epochLow : Nat
  resyncs : Nat
  edgeRunA : Nat
  edgeRunB : Nat
  intrRunA : Nat
  intrRunB : Nat
  onTimeA : Nat
  onTimeB : Nat
  resyncAt : Option Nat
  remeasure : Bool
  activeFrom : Option Nat
  lastInSeq : Option Nat
  outSeq : Nat
  acycSeq : Nat
  linkBits : Nat
  alarmPending : Word
  lastStatusAt : Option Nat
  answered : Bool
  queue : List Nat
  outstanding : List Nat
  last : List SigVal
  missing : Bool
  duplicates : Nat
  deriving DecidableEq, Repr

/-- A station before anything is known of it (R305: every word 0). -/
def StationView.reset : StationView :=
  { state := .absent, refuse := 0, seenA := false, seenB := false, freeRun := false, typeId := 0, serial := 0,
    delayA := 0, delayB := 0, slotEdge := 0, slotIntrusion := 0, late := 0, dupMismatch := 0, epochLow := 0,
    resyncs := 0, edgeRunA := 0, edgeRunB := 0, intrRunA := 0, intrRunB := 0, onTimeA := 0, onTimeB := 0,
    resyncAt := none, remeasure := false, activeFrom := none, lastInSeq := none, outSeq := 0, acycSeq := 0,
    linkBits := 0, alarmPending := 0, lastStatusAt := none, answered := false, queue := [], outstanding := [], last := [], missing := false, duplicates := 0 }

/-- Where a snapshot's table was placed (R290): its task, its start and SHIFT in units of 8 ns; none where no shift was found. -/
structure Placed where
  task : Nat
  start : Nat
  shift : Option Nat
  deriving DecidableEq, Repr

/-- One ring, R265, R296, R303, R313. -/
structure Ring where
  table : List StationCfg
  loading : Option Loading
  staged : Option (Nat × List StationCfg)
  stations : List StationView
  delays : List Nat
  cut : Option Nat
  acycNext : Nat
  closureDelay : Nat
  closureAt : Option Nat
  lateRun : Bool
  lateAt : Nat
  discovered : Option Nat
  grants : List Nat
  backgroundAt : Option Nat
  placed : List Placed
  deriving DecidableEq, Repr

/-- One I/O port, R268, R304, R317, R374. -/
structure Port where
  linkUp : Bool
  loopbackFail : Bool
  fault : Bool
  cyclicUsed : Nat
  acycFree : Nat
  overruns : Nat
  discarded : Nat
  queue : List OutFrame
  immQueue : List OutFrame
  acycQueue : List OutFrame
  sent : List OutFrame
  deriving DecidableEq, Repr

/-- A port after reset: nothing queued, 128 acyclic blocks free (R317). -/
def Port.reset : Port := ⟨false, false, false, 0, 128, 0, 0, [], [], [], []⟩

/-- An acyclic transaction under its tag, R309 to R316. -/
structure Acyc where
  tag : Nat
  seq : Nat
  req : AcycReq
  attempts : Nat
  deadline : Nat
  mirrored : Bool
  ticket : Option Ticket
  purpose : Nat
  deriving DecidableEq, Repr

/-- A cyclic tag, R308 and R310; tags absent from the pool read as free. -/
structure CycTag where
  tag : Nat
  ring : Nat
  station : Nat
  slot : Nat
  task : Nat
  cycle : Nat
  expect : Nat
  deadline : Nat
  filed : Option Word
  expired : Bool
  deriving DecidableEq, Repr

/-- A log entry of a bank that is COMMITTED, R328; addresses are byte addresses in the process image. -/
structure LogEnt where
  addr : Nat
  mask : Word
  value : Word
  task : Nat
  at_ : Nat
  deriving DecidableEq, Repr

/-- One class of the partner link, R340 to R343. -/
structure LinkClass where
  credits : Nat
  unacked : List (Nat × Nat)
  deriving DecidableEq, Repr

/-- The FRAME-DISPLACED notice of R228: the tenant and the publication instant it names. -/
structure DisplacedNotice where
  tenant : Nat
  at_ : Nat
  deriving DecidableEq, Repr

/-- One side of a crossing, R55: the unit's own island or the fabric. -/
structure CrossingSide where
  unit : Nat
  island : Bool
  deriving DecidableEq, Repr

/-- A join request, R353: the joiner's stored epoch and its identity (R8). -/
structure JoinAsk where
  stored : Nat
  id : PeerIdent
  deriving DecidableEq, Repr

/-- What R7 and R567 read of a manifest fetched from the partner: its generation and the hardware type it is built for. -/
structure FetchedManifest where
  generation : Nat
  typeCode : Nat
  deriving DecidableEq, Repr

/-- A CAN frame that was sent and acknowledged: whether the partner received the same frame (R510), and the loop delay in ns measured in it
(R505). -/
structure CanSent where
  seen : Bool
  loop : Nat
  deriving DecidableEq, Repr

/-- A message this module sends over the partner link, R340 (the class stands in the queue that holds it). -/
inductive LinkMsg where
  | heartbeat (health : BitVec 64) (epoch tick : Nat) (free : List Nat) (credits : List Nat)
  | digest (task cycle ring station : Nat) (crc : Option Word)
  | copyRequest (task cycle ring station : Nat)
  | copy (task cycle : Nat) (sec : Section)
  | fire (source time : Nat)
  | writeSet (ws : WriteSet)
  | writeSetRequest (task cycle : Nat)
  | overrunNotice (task cycle : Nat)
  | faultNotice (task cycle : Nat)
  | displacedNotice (n : DisplacedNotice)
  | earlyNotice (task cycle : Nat)
  | expiryNotice (task : Nat)
  | acycMirror (tx : Acyc)
  | forces (req : ForceReq)
  | switchAt (instant : Nat)
  | switchConfirm (instant : Nat)
  | handover (h epoch : Nat)
  | handoverAck (epoch : Nat)
  | leaving
  | joinRequest (ask : JoinAsk)
  | identityRequest
  | identity (id : PeerIdent)
  | recompute (tenant kind : Nat) (numbers : List (Nat × Nat))
  | recomputeResult (figures : CheckFigures)
  | mirror (m : Mirror)
  | forward (f : Forwarded)
  | partRequest
  | parts (generation : Nat)
  | chunk (select offset : Nat) (data : List Byte) (last : Bool)
  | hartMirror (req : HartReq)
  | canMirror (controller : Nat) (frame : CanFrame)
  | shareChange (tick : Nat) (half : Bool)
  | closureStamps (ring sent arrived : Nat)
  | stateTransfer
  | linkReset
  deriving DecidableEq, Repr

/-- The partner link, R340 to R343: five classes with their queues (priority 1 first), lanes in service. -/
structure Link where
  lane0 : Bool
  lane1 : Bool
  classes : List LinkClass
  out : List (Nat × LinkMsg)
  resends0 : Nat
  resends1 : Nat
  deriving DecidableEq, Repr

/-! ### The pair (11) and bring-up (12) -/

/-- A planned handover under way, R364: at tick H, under the epoch proposed; why it was started; whether the module
leaves after it (R365). -/
structure Handover where
  h : Nat
  epoch : Nat
  acked : Bool
  cause : Cause
  leave : Bool
  ticket : Option Ticket
  deriving DecidableEq, Repr

/-- A join under way on the joiner, R357 and R358. -/
structure Join where
  requestedAt : Nat
  acceptedAt : Option Nat
  static_ : Bool
  tickJ : Option Nat
  deriving DecidableEq, Repr

/-- The pair as this module keeps it, R345 to R379; `stored` is an epoch written to MRAM ahead of its use (R364), 0 where there is none. -/
structure Pair where
  epoch : Nat
  stored : Nat
  ownerSide : Side
  peerHealth : BitVec 64
  peerEpoch : Nat
  peerHealthy : Bool
  peerClaim : Bool
  linkSilent : Bool
  discSilent : Bool
  ringSilent : Bool
  lastLink : Option Nat
  lastDisc : Option Nat
  lastRing : Option Nat
  linkWasSilent : Bool
  handover : Option Handover
  handoverPulse : Bool
  holdoffFrom : Option Nat
  holdoffDue : Bool
  join : Option Join
  raiseTo : Option Nat
  joinAborts : Nat
  synchronised : Bool
  standbySince : Option Nat
  lastDivergence : Option Nat
  divergence : Bool
  ingressOverrun : Bool
  dualOwnership : Bool
  unagreedAt : Option Nat
  unagreedRun : Bool
  faultBudgetOrIngress : Bool
  faultAt : Option Nat
  autoRejoinAt : Option Nat
  selftestRound : Nat
  laneTestFail : Bool
  patternFail : Bool
  scrubCorrected : Bool
  corrected : Nat
  memoryUncorrectable : Bool
  variantMismatch : Bool
  proofTest : Bool
  peerQuiesced : List Nat
  shareTick : Option (Nat × Bool)
  eqLate : Nat
  eqSkipped : Nat
  peerIdent : Option PeerIdent
  peerFree : List Nat
  deriving DecidableEq, Repr

/-- The two feeds, R348 and R385. -/
structure Feeds where
  present1 : Bool
  present2 : Bool
  switch1 : Bool
  switch2 : Bool
  deriving DecidableEq, Repr

/-- The front and the contacts, R386, R387, R400, R403. -/
structure Front where
  seated : Bool
  openings : Nat
  leverOpen : Bool
  leverRefused : Bool
  safeToRemove : Bool
  lampTest : Bool
  cmServed : Bool
  powerFail : Bool
  refStopped : Bool
  powered : Bool
  slotId : Nat
  side : Side
  parityOk : Bool
  deriving DecidableEq, Repr

/-- Lantern mode, R388 to R398; the lantern task itself stands in the task map under number 2,048. -/
structure Lantern where
  phase : Phase
  hold : Hold
  running : Bool
  driven : Bool
  silent : Bool
  plantProgram : Option Version
  plantCrcOk : Bool
  manifestProgram : Option Version
  next : Option Version
  bringupComplete : Bool
  testHoldPin : Bool
  fault : Nat
  ran : Bool
  enteredAt : Nat
  completeAt : Nat
  overruns : Nat
  record : Option (Nat × Side)
  removedSince : Bool
  loading : Option Loading
  deriving DecidableEq, Repr

/-! ### Time (13) -/

/-- A time base held against TB-LOCAL, R408: an offset in ns at the instant `at_`, and a rate in 0.001 ppm. -/
structure Base where
  offset : Int
  rate : Int
  at_ : Nat
  deriving DecidableEq, Repr

/-- A PTP domain, R413 to R418 and R434. -/
structure Domain where
  portState : Nat
  locked : Bool
  holdover : Bool
  activePort : Nat
  utcValid : Bool
  leap61 : Bool
  leap59 : Bool
  gmClass : Nat
  steps : Nat
  gmIdentity : BitVec 64
  offset : Int
  meanPath : Int
  utcOffset : Int
  stepsRemoved : Nat
  base : Base
  good : Nat
  bad : Nat
  foreign : List (Nat × BitVec 64)
  master : Option (BitVec 64)
  lastAnnounce : Option Nat
  outSince : Option Nat
  lockedSince : Option Nat
  twoStep : Option PtpMsg
  delaySent : Option Nat
  seqSync : Nat
  seqAnnounce : Nat
  seqDelay : Nat
  deriving DecidableEq, Repr

/-- A PTP message this module sends, R412 and R415. -/
structure PtpOut where
  domain : Nat
  port : Nat
  kind : Nat
  seq : Nat
  stamp : Int
  turnaround : Nat
  deriving DecidableEq, Repr

/-- The time unit, R405 to R434. -/
structure TimeUnit where
  domains : List Domain
  plant : Base
  plantValid : Bool
  selected : Nat
  inLeap : Bool
  utcOffset : Int
  utcKnown : Bool
  refValid : Bool
  refLocked : Bool
  refHoldover : Bool
  ppsInPresent : Bool
  ppsInLast : Option Nat
  ppsInOffset : Int
  ppsOut : Bool
  ring : Base
  ringMaster : Bool
  ringPlant : Bool
  ringHoldover : Bool
  ringOffset : Int
  ringFollow : Int
  ringSeen : Option Nat
  alarms : List Alarm
  alarmDone : List (Option Nat)
  alarmHeld : List Nat
  plantLink : List Bool
  out : List PtpOut
  deriving DecidableEq, Repr

/-! ### Gelit (14) -/

/-- A stored reply of a session, R450: its sequence and tag; no reply while the command executes (R441). -/
structure Stored where
  seq : Nat
  tag : BitVec 128
  reply : Option Reply
  deriving DecidableEq, Repr

/-- A quiesced unit, R469 and R470. -/
structure Quiesced where
  unit : Nat
  session : Nat
  lease : Nat
  staged : List (Nat × Int)
  deriving DecidableEq, Repr

/-- The configuration store's settings, R471 to R476: stored values by unit × 65,536 + SETTING, the quiesced units,
and PAIR settings that apply at a tick. -/
structure Settings where
  values : List (Nat × Int)
  quiesced : List Quiesced
  applies : List (Nat × Nat × List (Nat × Int))
  deriving DecidableEq, Repr

/-! ### Local I/O (15) -/

/-- An AI channel, R491 and R494. -/
structure AiCh where
  code : Nat
  open_ : Bool
  failLow : Bool
  failHigh : Bool
  overrange : Bool
  converterFault : Bool
  deriving DecidableEq, Repr

/-- An AO channel, R495 and R498. -/
structure AoCh where
  code : Nat
  openLoop : Bool
  clamped : Bool
  alarm : Bool
  fullShare : Bool
  released : Bool
  stageFault : Bool
  refreshed : Option Nat
  deriving DecidableEq, Repr

/-- The local I/O, R477 to R498. -/
structure LocalIo where
  di : BitVec 32
  doCmd : BitVec 16
  doOn : BitVec 16
  readback : BitVec 16
  doMapped : BitVec 16
  doReleased : BitVec 16
  doSilent : BitVec 16
  thermal : BitVec 16
  doFault : Bool
  lplusOk : Bool
  half : Bool
  doRefreshed : Option Nat
  ai : List AiCh
  ao : List AoCh
  deriving DecidableEq, Repr

/-- A HART transaction with its request, R500. -/
structure HartTx where
  req : HartReq
  ticket : Option Ticket
  attempts : Nat
  frameErrors : Nat
  startedAt : Nat
  deriving DecidableEq, Repr

/-- A HART channel, R499 to R501. -/
structure HartCh where
  uid : Bool
  active : Option HartTx
  queue : List HartTx
  mirrors : List HartReq
  held : List (HartReq × Nat × List Byte × Nat)
  bursts : Nat
  deriving DecidableEq, Repr

/-! ### CAN (16) -/

/-- A receive record, R513. -/
structure CanRec where
  frame : CanFrame
  element : Nat
  queue : Nat
  rxTime : Nat
  deriving DecidableEq, Repr

/-- A frame waiting for transmission, R518 and R519: OBJECT of a transmit object, or the CAN.SEND to answer. -/
structure CanTx where
  frame : CanFrame
  ticket : Option Ticket
  object : Option Nat
  timed : Bool
  attempts : Nat
  deriving DecidableEq, Repr

/-- A window of a schedule, R521. -/
structure CanWindow where
  start : Nat
  length : Nat
  kind : Nat
  deriving DecidableEq, Repr

/-- A transmit object of a schedule, R521. -/
structure CanObject where
  object : Nat
  window : Nat
  repeat_ : Nat
  base : Nat
  id : Nat
  xtd : Bool
  fdf : Bool
  brs : Bool
  len : Nat
  period : Nat
  deriving DecidableEq, Repr

/-- A schedule, R521. -/
structure CanSched where
  cycles : Nat
  basicUs : Nat
  refId : Nat
  refXtd : Bool
  windows : List CanWindow
  objects : List CanObject
  deriving DecidableEq, Repr

/-- A CAN controller, R502 to R526; `given`: its serving role lies with the partner (R507); `longLoops` counts measured loop delays above
400 ns (R505). -/
structure CanCtl where
  state : Nat
  serving : Bool
  given : Bool
  redundant : Bool
  timeMaster : Bool
  ttSync : Bool
  xcvrFault : Bool
  rateFound : Bool
  tec : Nat
  rec_ : Nat
  detNominal : Nat
  detData : Nat
  txOk : Nat
  retransmissions : Nat
  txLost : Nat
  rxOk : Nat
  rxOverflow : Nat
  errorFrames : Nat
  busOffs : Nat
  violations : Nat
  lastViolation : Nat
  lastViolationXtd : Bool
  refMissing : Nat
  cycleCount : Nat
  masterPriority : Nat
  basicCycles : Nat
  lastRef : Option Nat
  missedRefs : Nat
  filters : List (Nat × Word × Word)
  queues : List (List CanRec)
  newest : List (Nat × CanRec)
  published : List (Nat × CanRec)
  sending : List CanTx
  mirrors : List CanFrame
  sched : Option CanSched
  failRun : Nat
  matched : Nat
  missed : Nat
  rateIndex : Nat
  rateFrames : Nat
  dataPhase : Bool
  violationIds : List (Nat × Nat)
  longLoops : Nat
  deriving DecidableEq, Repr

/-! ### Security (17) -/

/-- A gate's own state, R532 to R541: the host entries by index, the status block, stored copies of locked entries. -/
structure Gate where
  host : List (Nat × GateEnt)
  stored : List (Nat × GateEnt)
  denied : Nat
  lastGranule : Nat
  lastAccess : Nat
  lastLevel : Nat
  lastNone : Bool
  lastMulti : Bool
  lastTenant : Nat
  lastNoTenant : Bool
  lastFirst : Nat
  lastTime : Nat
  recent : List (Nat × Nat × Nat)
  deriving DecidableEq, Repr

/-- An accepted SEC.GATE-WRITE that waits for its tick, R538. -/
structure GateWrite where
  at_ : Nat
  gate : Nat
  index : Nat
  entry : GateEnt
  storedOnly : Bool
  ticket : Option Ticket
  deriving DecidableEq, Repr

/-- An operation of the signature engine that waits or runs, R542 to R544: kind 0 ECDSA P-256, 1 ECDSA P-384, 2 ECDH,
3 key generation; from the key window or not. -/
structure SigOp where
  kind : Nat
  keyWindow : Bool
  deriving DecidableEq, Repr

/-- The key unit and signature engine, R542 to R548. -/
structure KeyUnit where
  authority : Option (Nat × List Byte)
  moduleCert : Option (List Byte)
  staticKey : List Byte
  revoked : List Word
  revoking : List (Nat × Word × Option Ticket)
  ops : List SigOp
  lastResult : Nat
  lastTimeNs : Nat
  deriving DecidableEq, Repr

/-- A key present at the module, R556. -/
structure KeyPresent where
  serial : Word
  priv : Nat
  expiry : Nat
  until_ : Nat
  deriving DecidableEq, Repr

/-- The key window reader, R549 to R556. -/
structure Reader where
  nonce : List Byte
  challenging : Bool
  answers : List (Nat × Word)
  collided : List Nat
  identified : List Word
  selected : Option Word
  received : Option Credential
  verdicts : List (Word × Bool)
  retries : Nat
  flooded : Bool
  floods : Nat
  failed : List Nat
  lockout : Bool
  quietFrom : Option Nat
  waitQuiet : Bool
  present : Option KeyPresent
  deriving DecidableEq, Repr

/-! ### Firmware, maintenance slot, almanac, counters, test port (18, 19, 20) -/

/-- The update unit, R558 to R574. -/
structure Update where
  state : Nat
  pairStep : Nat
  lastResult : Nat
  part : Nat
  scopePair : Bool
  endCause : Nat
  targetGen : Nat
  bytes : Nat
  loader : Nat
  session : Option Nat
  manifest : List (Nat × List Byte)
  manifestDone : Bool
  parts : List (Nat × Nat × List Byte)
  partsDone : List Nat
  retryFrom : Option Nat
  bridgeList : List Nat
  hashes : List (Nat × List Byte)
  bridge : Bool
  recordSeq : Nat
  retain : Option (List (Nat × Byte))
  retainTasks : List Nat
  ownSlot : Bool
  fetchFrom : Option Nat
  deriving DecidableEq, Repr

/-- The pair's maintenance slot, R575; HOLDER 1 FIRMWARE-UPDATE, 2 PROOF-TEST, 3 DEBUG, 4 ONLINE-CHANGE (R443). -/
structure Slot where
  holder : Nat
  side : Side
  id : Nat
  deriving DecidableEq, Repr

/-- An almanac record, R578; each datum is its width in bytes and its value. -/
structure Rec where
  seq : Nat
  time : Nat
  calTime : Bool
  source : Nat
  rule : Nat
  ordinal : Nat
  tenant : Nat
  severity : Nat
  side : Side
  owner : Bool
  restarts : Nat
  epoch : Nat
  data : List (Nat × Nat)
  deriving DecidableEq, Repr

/-- The almanac, R577 to R580: records oldest first, how many of the newest are not yet in flash, the next SEQ. -/
structure Almanac where
  records : List Rec
  staged : Nat
  next : Nat
  lost : Nat
  restarts : Nat
  deriving DecidableEq, Repr

/-- A performance counter, R596 to R599. -/
structure Counter where
  source : Nat
  value : Nat
  chained : Bool
  deriving DecidableEq, Repr

/-- A privileged watchdog, R591 to R594. -/
structure PrivWd where
  lastService : Nat
  lastExpiry : Nat
  expiries : Nat
  early : Nat
  evidence : Nat
  evidenceValid : Bool
  lastGap : Nat
  expired : Bool
  deriving DecidableEq, Repr

/-- The test access port, R617 to R622: the instruction and the one it acts as, the boundary and IOLOOP registers, the SCANGUARD flags;
`taken` says that R622 has acted since the last restart. -/
structure Tap where
  ir : Nat
  selected : Nat
  boundary : List Bool
  preload : List Bool
  ioloop : BitVec 49
  captured : BitVec 49
  extestDenied : Bool
  driveDenied : Bool
  ioloopDenied : Bool
  driveTaken : Bool
  taken : Bool
  deriving DecidableEq, Repr

/-- The module's identity, R7. -/
structure Ident where
  variant : Variant
  fuse : Nat
  serial : Nat
  generation : Nat
  dieRevision : Nat
  jep106 : Nat
  deriving DecidableEq, Repr

/-- A fire that waits for its match, R70: its source, own timestamp (ring time). -/
structure FireWait where
  source : Nat
  time : Nat
  deriving DecidableEq, Repr

/-- What an admission gives: the tasks as the module will hold them, windows and image, and the input sweeps of all tasks. -/
structure Admitted where
  tasks : List Task
  win : Windows
  image : Nat
  sweeps : List (Nat × Nat)
  deriving DecidableEq, Repr

/-- What a load or change check leaves waiting for the standby's recomputation, R84 and R240; `fail` holds the result, detail and offset of a
change check that failed on this module. -/
structure CheckWait where
  tenant : Nat
  kind : Nat
  version : Version
  map : List (List Word)
  admitted : Admitted
  shared : Nat
  figures : CheckFigures
  fail : Option (Nat × Nat × Nat)
  ticket : Option Ticket
  deriving DecidableEq, Repr

/-- The full state that an owner sends to a joining module, R356 and R357. -/
structure Transfer where
  tickJ : Option Nat
  config : List (Nat × Int)
  tenants : List (Nat × Tenant)
  tasks : List (Nat × Task)
  change : Change
  image : List (Nat × Byte)
  log : List LogEnt
  inputs : List SigVal
  forces : List Force
  slot : Option Slot
  epoch : Nat
  ownerSide : Side
  acyc : List (Nat × Acyc)
  tables : List (List StationCfg)
  outSeqs : List (List Nat)
  gates : List (List (Nat × GateEnt))
  revoked : List Word
  alarms : List Alarm
  lanternProgram : Option Version
  plant : Base
  plantValid : Bool
  deriving DecidableEq, Repr

end Sys2Proof.Machine
end

