-- ==== Sys2Proof/Syntax.lean ====
section
/-! DEFINITION. The commands: one constructor for each row of spec/opcode_table.json, in its order. An engine
instruction names the task and lane that execute it (R95) and carries bits [23:0] of its word, and its extension word
where its format has one (R98, R132). A Gelit command carries the received datagram (R437). An event carries what
arrives or is measured; values that only the environment or a random source gives are its operands. -/
namespace Sys2Proof
open Machine

/-- The commands of the module. -/
inductive Instr where
  /-- LD, R105: Load the bit operand into ACC. -/
  | opLd (x : Exec) (w : BitVec 24)
  /-- LDN, R105: Load the inverse of the bit operand into ACC. -/
  | opLdn (x : Exec) (w : BitVec 24)
  /-- AND, R105: ACC becomes ACC AND the bit operand. -/
  | opAnd (x : Exec) (w : BitVec 24)
  /-- ANDN, R105: ACC becomes ACC AND NOT the bit operand. -/
  | opAndn (x : Exec) (w : BitVec 24)
  /-- OR, R105: ACC becomes ACC OR the bit operand. -/
  | opOr (x : Exec) (w : BitVec 24)
  /-- ORN, R105: ACC becomes ACC OR NOT the bit operand. -/
  | opOrn (x : Exec) (w : BitVec 24)
  /-- XOR, R105: ACC becomes ACC XOR the bit operand. -/
  | opXor (x : Exec) (w : BitVec 24)
  /-- XORN, R105: ACC becomes ACC XOR NOT the bit operand. -/
  | opXorn (x : Exec) (w : BitVec 24)
  /-- ST, R105: Store ACC to the bit operand through the shadow. -/
  | opSt (x : Exec) (w : BitVec 24)
  /-- STN, R105: Store NOT ACC to the bit operand. -/
  | opStn (x : Exec) (w : BitVec 24)
  /-- SETB, R105: Set the bit operand when ACC is 1. -/
  | opSetb (x : Exec) (w : BitVec 24)
  /-- RSTB, R105: Clear the bit operand when ACC is 1. -/
  | opRstb (x : Exec) (w : BitVec 24)
  /-- ANDP, R106: Push (ACC, AND) on the branch stack and load the operand. -/
  | opAndp (x : Exec) (w : BitVec 24)
  /-- ANDNP, R106: Push (ACC, ANDN) and load the operand. -/
  | opAndnp (x : Exec) (w : BitVec 24)
  /-- ORP, R106: Push (ACC, OR) and load the operand. -/
  | opOrp (x : Exec) (w : BitVec 24)
  /-- ORNP, R106: Push (ACC, ORN) and load the operand. -/
  | opOrnp (x : Exec) (w : BitVec 24)
  /-- XORP, R106: Push (ACC, XOR) and load the operand. -/
  | opXorp (x : Exec) (w : BitVec 24)
  /-- XORNP, R106: Push (ACC, XORN) and load the operand. -/
  | opXornp (x : Exec) (w : BitVec 24)
  /-- NOT, R105: Invert ACC. -/
  | opNot (x : Exec) (w : BitVec 24)
  /-- SET1, R105: Set ACC to 1. -/
  | opSet1 (x : Exec) (w : BitVec 24)
  /-- CLR0, R105: Set ACC to 0. -/
  | opClr0 (x : Exec) (w : BitVec 24)
  /-- LDWB, R105: Load a bit of WACC into ACC. -/
  | opLdwb (x : Exec) (w : BitVec 24)
  /-- STWB, R105: Store ACC into a bit of WACC. -/
  | opStwb (x : Exec) (w : BitVec 24)
  /-- LDQG, R107: ACC is 1 if the input signal quality is GOOD. -/
  | opLdqg (x : Exec) (w : BitVec 24)
  /-- LDQU, R107: ACC is 1 if the input signal quality is GOOD or FORCED. -/
  | opLdqu (x : Exec) (w : BitVec 24)
  /-- TGL, R105: Toggle the bit operand when ACC is 1. -/
  | opTgl (x : Exec) (w : BitVec 24)
  /-- BPUSH, R109: Push (ACC, NONE) on the branch stack. -/
  | opBpush (x : Exec) (w : BitVec 24)
  /-- BPEEK, R109: Copy the top branch-stack value into ACC. -/
  | opBpeek (x : Exec) (w : BitVec 24)
  /-- BPOP, R109: Pop the top branch-stack value into ACC. -/
  | opBpop (x : Exec) (w : BitVec 24)
  /-- CLOSE, R109: Pop an entry and combine its value with ACC by its operator. -/
  | opClose (x : Exec) (w : BitVec 24)
  /-- NOP, R112: No operation. -/
  | opNop (x : Exec) (w : BitVec 24)
  /-- JMP, R113: Jump forward to TARGET. -/
  | opJmp (x : Exec) (w : BitVec 24)
  /-- JMPC, R113: Jump forward when ACC is 1. -/
  | opJmpc (x : Exec) (w : BitVec 24)
  /-- JMPCN, R113: Jump forward when ACC is 0. -/
  | opJmpcn (x : Exec) (w : BitVec 24)
  /-- CALL, R114: Push a call frame and jump to the called block. -/
  | opCall (x : Exec) (w : BitVec 24)
  /-- CALLC, R114: Call when ACC is 1. -/
  | opCallc (x : Exec) (w : BitVec 24)
  /-- CALLCN, R114: Call when ACC is 0. -/
  | opCallcn (x : Exec) (w : BitVec 24)
  /-- RET, R114: Pop the call frame and return, or end the cycle with an empty call stack. -/
  | opRet (x : Exec) (w : BitVec 24)
  /-- RETC, R112: Return when ACC is 1. -/
  | opRetc (x : Exec) (w : BitVec 24)
  /-- RETCN, R112: Return when ACC is 0. -/
  | opRetcn (x : Exec) (w : BitVec 24)
  /-- FOR, R115: Open a loop with count MAX. -/
  | opFor (x : Exec) (w : BitVec 24) (e : Word)
  /-- FORW, R115: Open a loop with count WACC clamped to MAX. -/
  | opForw (x : Exec) (w : BitVec 24) (e : Word)
  /-- NEXT, R116: Close a loop iteration and loop back or pop the frame. -/
  | opNext (x : Exec) (w : BitVec 24)
  /-- LEAVE, R112: Pop the innermost loop frame and jump to its EXIT. -/
  | opLeave (x : Exec) (w : BitVec 24)
  /-- LIDX, R112: Load the innermost loop INDEX into WACC. -/
  | opLidx (x : Exec) (w : BitVec 24)
  /-- SEGMENT, R119: End the running segment, record restart state, open a new read set; a preemption point. -/
  | opSegment (x : Exec) (w : BitVec 24)
  /-- END, R121: End solving of the cycle. -/
  | opEnd (x : Exec) (w : BitVec 24)
  /-- ENDC, R121: End solving of the cycle when ACC is 1. -/
  | opEndc (x : Exec) (w : BitVec 24)
  /-- WDSERV, R123: Record one service of the task watchdog, effective at transit. -/
  | opWdserv (x : Exec) (w : BitVec 24)
  /-- EVPOST, R124: Record one post to the tenant's own event source, fired at publication. -/
  | opEvpost (x : Exec) (w : BitVec 24)
  /-- AGREE, R127: Make lane 1's selected registers equal to lane 0's. -/
  | opAgree (x : Exec) (w : BitVec 24)
  /-- IMMIN, R126: Read the present value of an input bit into ACC. -/
  | opImmin (x : Exec) (w : BitVec 24)
  /-- IMMINW, R126: Read the present value of an input word into WACC. -/
  | opImminw (x : Exec) (w : BitVec 24)
  /-- IMMOUT, R129: Write ACC to a Q bit and queue an immediate release at transit. -/
  | opImmout (x : Exec) (w : BitVec 24)
  /-- IMMOUTW, R129: Write WACC to a Q word and queue an immediate release at transit. -/
  | opImmoutw (x : Exec) (w : BitVec 24)
  /-- LDW, R141: Load a word into WACC. -/
  | opLdw (x : Exec) (w : BitVec 24)
  /-- STW, R139: Store WACC to a word. -/
  | opStw (x : Exec) (w : BitVec 24)
  /-- LDK, R139: Load a sign-extended constant into WACC. -/
  | opLdk (x : Exec) (w : BitVec 24)
  /-- LDKH, R139: Load a constant into the high half of WACC. -/
  | opLdkh (x : Exec) (w : BitVec 24)
  /-- ADD, R137: Checked signed addition. -/
  | opAdd (x : Exec) (w : BitVec 24)
  /-- SUB, R137: Checked signed subtraction. -/
  | opSub (x : Exec) (w : BitVec 24)
  /-- MUL, R137: Checked signed multiplication. -/
  | opMul (x : Exec) (w : BitVec 24)
  /-- DIV, R138: Signed division truncating towards zero. -/
  | opDiv (x : Exec) (w : BitVec 24)
  /-- MOD, R138: Signed remainder with the sign of the dividend. -/
  | opMod (x : Exec) (w : BitVec 24)
  /-- ADDU, R139: Wrapping addition. -/
  | opAddu (x : Exec) (w : BitVec 24)
  /-- SUBU, R139: Wrapping subtraction. -/
  | opSubu (x : Exec) (w : BitVec 24)
  /-- NEG, R139: Checked negation of WACC. -/
  | opNeg (x : Exec) (w : BitVec 24)
  /-- ABS, R139: Checked absolute value of WACC. -/
  | opAbs (x : Exec) (w : BitVec 24)
  /-- ANDW, R139: Bitwise AND into WACC. -/
  | opAndw (x : Exec) (w : BitVec 24)
  /-- ORW, R139: Bitwise OR into WACC. -/
  | opOrw (x : Exec) (w : BitVec 24)
  /-- XORW, R139: Bitwise XOR into WACC. -/
  | opXorw (x : Exec) (w : BitVec 24)
  /-- NOTW, R139: Bitwise NOT of WACC. -/
  | opNotw (x : Exec) (w : BitVec 24)
  /-- SHLW, R139: Shift WACC left. -/
  | opShlw (x : Exec) (w : BitVec 24)
  /-- SHRW, R139: Shift WACC right with zeros. -/
  | opShrw (x : Exec) (w : BitVec 24)
  /-- SARW, R139: Shift WACC right arithmetically. -/
  | opSarw (x : Exec) (w : BitVec 24)
  /-- ROLW, R139: Rotate WACC left. -/
  | opRolw (x : Exec) (w : BitVec 24)
  /-- EQ, R139: ACC becomes WACC equal to operand. -/
  | opEq (x : Exec) (w : BitVec 24)
  /-- NE, R139: ACC becomes WACC not equal to operand. -/
  | opNe (x : Exec) (w : BitVec 24)
  /-- LT, R139: Signed less-than compare into ACC. -/
  | opLt (x : Exec) (w : BitVec 24)
  /-- LE, R139: Signed less-or-equal compare into ACC. -/
  | opLe (x : Exec) (w : BitVec 24)
  /-- GT, R139: Signed greater-than compare into ACC. -/
  | opGt (x : Exec) (w : BitVec 24)
  /-- GE, R139: Signed greater-or-equal compare into ACC. -/
  | opGe (x : Exec) (w : BitVec 24)
  /-- LTU, R139: Unsigned less-than compare into ACC. -/
  | opLtu (x : Exec) (w : BitVec 24)
  /-- GEU, R139: Unsigned greater-or-equal compare into ACC. -/
  | opGeu (x : Exec) (w : BitVec 24)
  /-- MINW, R139: Signed minimum into WACC. -/
  | opMinw (x : Exec) (w : BitVec 24)
  /-- MAXW, R139: Signed maximum into WACC. -/
  | opMaxw (x : Exec) (w : BitVec 24)
  /-- LIMW, R139: Limit WACC to the range of two operand words. -/
  | opLimw (x : Exec) (w : BitVec 24)
  /-- ADDK, R139: Checked addition of a constant. -/
  | opAddk (x : Exec) (w : BitVec 24)
  /-- SELW, R139: Load the operand into WACC when ACC is 1. -/
  | opSelw (x : Exec) (w : BitVec 24)
  /-- MOVW, R139: Copy one word from source to destination. -/
  | opMovw (x : Exec) (w : BitVec 24) (e : Word)
  /-- LDQW, R140: Load the quality code of an input word into WACC. -/
  | opLdqw (x : Exec) (w : BitVec 24)
  /-- TON, R145: On-delay timer on a T block. -/
  | opTon (x : Exec) (w : BitVec 24)
  /-- TOF, R145: Off-delay timer on a T block. -/
  | opTof (x : Exec) (w : BitVec 24)
  /-- TP, R145: Pulse timer on a T block. -/
  | opTp (x : Exec) (w : BitVec 24)
  /-- TONR, R145: Retentive on-delay timer on a T block. -/
  | opTonr (x : Exec) (w : BitVec 24)
  /-- TRST, R145: Reset a timer block when ACC is 1. -/
  | opTrst (x : Exec) (w : BitVec 24)
  /-- CTU, R149: Up counter on a rising edge. -/
  | opCtu (x : Exec) (w : BitVec 24)
  /-- CTD, R149: Down counter on a rising edge. -/
  | opCtd (x : Exec) (w : BitVec 24)
  /-- CTUD, R149: Up-down counter. -/
  | opCtud (x : Exec) (w : BitVec 24)
  /-- CRST, R149: Clear a counter when ACC is 1. -/
  | opCrst (x : Exec) (w : BitVec 24)
  /-- CLDV, R149: Load the preset into a counter when ACC is 1. -/
  | opCldv (x : Exec) (w : BitVec 24)
  /-- EDGEP, R151: Rising-edge detection against the committed edge bit. -/
  | opEdgep (x : Exec) (w : BitVec 24)
  /-- EDGEN, R151: Falling-edge detection against the committed edge bit. -/
  | opEdgen (x : Exec) (w : BitVec 24)
  /-- SHFB, R153: Shift a bit shift register by one place atomically. -/
  | opShfb (x : Exec) (w : BitVec 24) (e : Word)
  /-- SHFW, R153: Shift a word shift register by one place atomically. -/
  | opShfw (x : Exec) (w : BitVec 24) (e : Word)
  /-- FADD, R159: binary32 addition. -/
  | opFadd (x : Exec) (w : BitVec 24)
  /-- FSUB, R159: binary32 subtraction. -/
  | opFsub (x : Exec) (w : BitVec 24)
  /-- FMUL, R159: binary32 multiplication. -/
  | opFmul (x : Exec) (w : BitVec 24)
  /-- FDIV, R159: binary32 division. -/
  | opFdiv (x : Exec) (w : BitVec 24)
  /-- FSQRT, R159: binary32 square root. -/
  | opFsqrt (x : Exec) (w : BitVec 24)
  /-- FLT, R159: binary32 less-than compare. -/
  | opFlt (x : Exec) (w : BitVec 24)
  /-- FEQ, R159: binary32 equality compare. -/
  | opFeq (x : Exec) (w : BitVec 24)
  /-- ITOF, R159: Convert integer WACC to binary32. -/
  | opItof (x : Exec) (w : BitVec 24)
  /-- FTOI, R159: Convert binary32 WACC to integer. -/
  | opFtoi (x : Exec) (w : BitVec 24)
  /-- DADD, R159: binary64 addition memory to memory. -/
  | opDadd (x : Exec) (w : BitVec 24) (e : Word)
  /-- DSUB, R159: binary64 subtraction. -/
  | opDsub (x : Exec) (w : BitVec 24) (e : Word)
  /-- DMUL, R159: binary64 multiplication. -/
  | opDmul (x : Exec) (w : BitVec 24) (e : Word)
  /-- DDIV, R159: binary64 division. -/
  | opDdiv (x : Exec) (w : BitVec 24) (e : Word)
  /-- DSQRT, R159: binary64 square root. -/
  | opDsqrt (x : Exec) (w : BitVec 24) (e : Word)
  /-- DLT, R159: binary64 less-than compare. -/
  | opDlt (x : Exec) (w : BitVec 24) (e : Word)
  /-- FTOD, R159: Widen binary32 to binary64. -/
  | opFtod (x : Exec) (w : BitVec 24) (e : Word)
  /-- DTOF, R159: Round binary64 to binary32. -/
  | opDtof (x : Exec) (w : BitVec 24) (e : Word)
  /-- PID, R163: Execute a PID control block. -/
  | opPid (x : Exec) (w : BitVec 24)
  /-- LAG, R165: Execute a first-order lag block. -/
  | opLag (x : Exec) (w : BitVec 24)
  /-- RLIM, R165: Execute a rate-limit block. -/
  | opRlim (x : Exec) (w : BitVec 24)
  /-- UNDEFINED_OPCODE, R131: An undefined opcode met at run time faults the task before any effect. -/
  | undefinedOpcode (x : Exec) (op : Byte) (w : BitVec 24)
  /-- TICK, R271: At every 50 µs tick the owner sends RING-TIME, heartbeats go out, local I/O is sampled and refreshed, trains and grants are sent. -/
  | tick (m : LocalSample)
  /-- CYCLE_START, R15: At start_n of a cyclic task, outputs of n-1 are transmitted, the snapshot opens and solving starts. -/
  | cycleStart (task : Nat)
  /-- EVENT_TASK_START, R70: An event task starts at its start instant after an agreed fire. -/
  | eventTaskStart (task : Nat)
  /-- FIRE_REPORT, R70: A partner's event-fire report arrives and is matched with the local fire. -/
  | fireReport (source : Nat) (time : Nat)
  /-- FIRE_MATCH_TIMEOUT, R70: A fire not matched by the partner within 20 µs is taken alone. -/
  | fireMatchTimeout (source : Nat)
  /-- INPUT_FRAME, R321: An INPUT frame from a station is checked, judged against its window and filed. -/
  | inputFrame (f : InputFrame)
  /-- SNAPSHOT_CLOSE, R322: The collector closes the snapshot at its scheduled close. -/
  | snapshotClose (task : Nat)
  /-- STATION_DIGEST, R18: A partner's per-station digest arrives and is compared for input agreement. -/
  | stationDigest (task : Nat) (cycle : Nat) (ring : Nat) (station : Nat) (crc : Option Word)
  /-- COPY_REQUEST, R18: A partner's request for a station section copy arrives and is answered. -/
  | copyRequest (task : Nat) (cycle : Nat) (ring : Nat) (station : Nat)
  /-- STATION_COPY, R18: A station section copy from the partner arrives and is filed. -/
  | stationCopy (task : Nat) (cycle : Nat) (sec : Section)
  /-- AGREEMENT_TIMEOUT, R19: The 10 µs agreement allowance ends; the module uses its own copies. -/
  | agreementTimeout (task : Nat)
  /-- SQUASHED_COPROC_COMPLETE, R195: A coprocessor operation of a squashed segment ends and the restart record is restored. -/
  | squashedCoprocComplete (x : Exec)
  /-- TRANSIT, R198: A task's cycle becomes committed once all transit conditions hold and lane digests match. -/
  | transit (task : Nat) (t : Nat)
  /-- LANE_STALL, R206: A lane that fails to arrive or progress for 20 µs causes STALL parallax. -/
  | laneStall (task : Nat)
  /-- RELEASE_CHECKPOINT, R205: The output assembler takes a strand's sections after release digests match and queues frames. -/
  | releaseCheckpoint (strand : Nat) (lane1 : Option (BitVec 64))
  /-- IMMEDIATE_FRAME_SEND, R339: Immediate frames are sent in the next gap ahead of acyclic frames. -/
  | immediateFrameSend (port : Fin 8)
  /-- ACYCLIC_FRAME_SEND, R291: An ACYCLIC frame is sent in a gap between placed windows. -/
  | acyclicFrameSend (port : Fin 8)
  /-- BUDGET_OVERRUN, R88: Transit has not occurred by the overrun instant; the task is stopped and a notice sent. -/
  | budgetOverrun (task : Nat)
  /-- PUBLICATION_INSTANT, R72: Committed writes are published and pending overrun, parallax and fault decisions are taken. -/
  | publicationInstant (task : Nat)
  /-- INPUT_PUBLICATION, R324: Agreed snapshot blocks are published at start_n + S_i + 10 µs. -/
  | inputPublication (task : Nat)
  /-- WRITE_SET, R360: The partner's write set arrives and is compared or held. -/
  | writeSet (ws : WriteSet)
  /-- WRITE_SET_REQUEST, R208: A partner's request for a write set arrives and is answered. -/
  | writeSetRequest (task : Nat) (cycle : Nat)
  /-- OVERRUN_NOTICE, R88: A partner's overrun notice for a task cycle arrives. -/
  | overrunNotice (task : Nat) (cycle : Nat)
  /-- FAULT_NOTICE, R214: A partner's fault notice for an IMMEDIATE-class persistent task arrives. -/
  | faultNotice (task : Nat) (cycle : Nat)
  /-- FRAME_DISPLACED_NOTICE, R228: A partner's FRAME-DISPLACED notice puts the tenant in FRAME-DISPLACED. -/
  | frameDisplacedNotice (n : DisplacedNotice)
  /-- EARLY_SERVICE_NOTICE, R587: A partner's early-service notice arrives. -/
  | earlyServiceNotice (task : Nat) (cycle : Nat)
  /-- EXPIRY_NOTICE, R588: A partner's watchdog expiry notice arrives. -/
  | expiryNotice (task : Nat)
  /-- WATCHDOG_EXPIRY, R588: A task watchdog period passes without service. -/
  | watchdogExpiry (task : Nat)
  /-- PRIVILEGED_WATCHDOG_EXPIRY, R592: A privileged watchdog expires; evidence saved, emergency handover and restart into LANTERN. -/
  | privilegedWatchdogExpiry (unit : Fin 8) (evidence : Nat) (valid : Bool)
  /-- PACE_PROBE_RUN, R33: The 2 µs probe run every 100 µs yields the probe pace. -/
  | paceProbeRun (strand : Nat) (p0 : Nat) (p1 : Nat)
  /-- RUN_PACE_WINDOW, R33: At the end of each 100 µs window the run pace is computed and cross-checked. -/
  | runPaceWindow (strand : Nat) (count : Nat) (busy : Nat)
  /-- VCORE_REGULATOR_STEP, R37: The regulator raises, lowers or holds VCORE_CODE from pace slack. -/
  | vcoreRegulatorStep (t : Nat)
  /-- MARGIN_CHECK_START, R45: A margin check raises VCORE to 0.90 V at bring-up and every 3,600 s. -/
  | marginCheckStart
  /-- MARGIN_CHECK_END, R46: After 10 ms the probes are read and VCORE returned to the regulator. -/
  | marginCheckEnd
  /-- VCORE_SUPPLY_FAULT, R42: VCORE outside 0.685-0.915 V for 5 µs is a supply fault. -/
  | vcoreSupplyFault (millivolts : Nat)
  /-- ISLAND_WAKE, R52: A stopped island acknowledges a wake and takes the pending transfer. -/
  | islandWake (unit : Nat)
  /-- ISLAND_WAKE_FAIL, R53: An island that does not acknowledge a wake within 1 ms fails its transfers. -/
  | islandWakeFail (unit : Nat)
  /-- CROSSING_RESET_NOTICE, R54: A reset notice across a crossing flushes pending transfers. -/
  | crossingResetNotice (unit : Nat)
  /-- CROSSING_REOPEN, R55: A crossing reopens once both sides report flush complete. -/
  | crossingReopen (side : CrossingSide)
  /-- CHANGE_SWITCH, R249: At SWITCH_AT the online change enters SWITCHING and tasks switch at their meridians. -/
  | changeSwitch
  /-- SWITCH_AT_CONFIRM, R248: The partner's confirmation of a change's switch instant arrives. -/
  | switchAtConfirm (instant : Nat)
  /-- CHANGE_CONFIRM_DEADLINE, R248: An unconfirmed change is aborted at SWITCH_AT − 5 ms with NOT-CONFIRMED. -/
  | changeConfirmDeadline
  /-- FORCE_EFFECTIVE, R259: An accepted force request takes effect on both modules. -/
  | forceEffective
  /-- FORCE_TABLE_EXCHANGE, R262: A force-table update from the owner arrives over the link. -/
  | forceTableExchange (req : ForceReq)
  /-- HOST_WRITE_EFFECTIVE, R463: Values of DATA.WRITE are published at EFFECTIVE_AT. -/
  | hostWriteEffective
  /-- PAIR_SETTINGS_APPLY, R471: Staged PAIR settings apply on both modules at APPLY_AT. -/
  | pairSettingsApply
  /-- STATION_TABLE_APPLY, R465: An accepted station table applies at the first tick ≥1 ms after acceptance. -/
  | stationTableApply (ring : Fin 4)
  /-- GATE_ENTRY_APPLY, R538: An accepted host gate entry applies on both modules at its tick. -/
  | gateEntryApply
  /-- REVOCATION_APPLY, R548: A revoked serial applies, ending sessions and key presence. -/
  | revocationApply
  /-- DISCOVER_SEND, R297: The owner sends DISCOVER every 100 ms, or every tick while ISOLATED. -/
  | discoverSend (ring : Fin 4)
  /-- DISCOVER_RESPONSE, R297: A DISCOVER-RESPONSE arrives; position and identity are checked. -/
  | discoverResponse (f : DiscRsp)
  /-- SEGMENT_DELAY_MEASURE, R298: Segment delays are measured again every 1 s. -/
  | segmentDelayMeasure (ring : Fin 4) (delays : List Nat)
  /-- BACKGROUND_CYCLE, R287: A background train serves output modules no cyclic task serves. -/
  | backgroundCycle (ring : Fin 4)
  /-- ACYC_RESPONSE_FRAME, R312: An ACYC-RESPONSE frame arrives with ACYC-RSP and STATUS sections. -/
  | acycResponseFrame (f : AcycFrame)
  /-- ACYCLIC_RETRY, R315: A request without response for 100 ms is resent, or ends TIMEOUT after three. -/
  | acyclicRetry (tag : Nat)
  /-- ACYCLIC_MIRROR, R311: The owner's mirrored acyclic request arrives at the standby. -/
  | acyclicMirror (tx : Acyc)
  /-- RESYNC_TIMEOUT, R295: A RESYNC that lasts 200 ms refuses the station with DELAY. -/
  | resyncTimeout (ring : Fin 4) (station : Nat)
  /-- PORT_LINK_CHANGE, R304: An I/O port link is lost or restored. -/
  | portLinkChange (port : Fin 8) (up : Bool)
  /-- PORT_LOOPBACK_TEST, R374: PCS loopback of disabled and open closure ports every 10 s. -/
  | portLoopbackTest (port : Fin 8) (pass : Bool)
  /-- PARTNER_RING_FRAME, R349: A partner frame arrives at a ring port, feeding the ring view, ring time and pair checks. -/
  | partnerRingFrame (f : PartnerFrame)
  /-- CLOSURE_HEARTBEAT, R428: A HEARTBEAT frame arrives on a closure and is timestamped. -/
  | closureHeartbeat (hdr : RingHdr) (health : BitVec 64) (stored : Nat) (stamp : Nat)
  /-- CLOSURE_DELAY_MEASURE, R428: The closure delay is computed every 1 s from exchanged stamps. -/
  | closureDelayMeasure (ring : Fin 4) (sent : Nat) (arrived : Nat) (peerSent : Nat) (peerArrived : Nat)
  /-- LINK_HEARTBEAT, R340: A heartbeat-class link frame arrives with HEALTH word, epoch and credits. -/
  | linkHeartbeat (health : BitVec 64) (epoch : Nat) (tick : Nat) (free : List Nat) (credits : List Nat)
  /-- LINK_FRAME_RESEND, R342: A link frame not acknowledged in 20 µs is resent; the third loss declares the lane lost. -/
  | linkFrameResend (lane : Fin 2) (cls : Fin 5) (seq : Nat)
  /-- LINK_LOSS_OF_LOCK, R342: Loss of lock declares a link lane lost at once. -/
  | linkLossOfLock (lane : Fin 2)
  /-- LINK_RESET, R343: A link-engine reset flushes every class and restores credits. -/
  | linkReset
  /-- SCRUBBER_REPAIR, R335: A single-bit error found in patrol is repaired. -/
  | scrubberRepair (bank : Fin 8)
  /-- MEMORY_UNCORRECTABLE, R335: An uncorrectable memory error is a module fault. -/
  | memoryUncorrectable
  /-- FEED_LOST, R348: A monitored feed below 16.5 V for 200 µs is lost. -/
  | feedLost (feed : Fin 2)
  /-- FEED_RESTORED, R348: A feed above 17.5 V for 100 ms is present again. -/
  | feedRestored (feed : Fin 2)
  /-- PATH_SILENT, R349: A heartbeat path delivers nothing for 3 ms. -/
  | pathSilent (path : Fin 3)
  /-- HEALTHY_LOST, R350: The partner's HEALTHY discrete shows no edge for 16 µs. -/
  | healthyLost
  /-- HEALTHY_PRESENT, R350: The partner's HEALTHY is present after 64 edges. -/
  | healthyPresent
  /-- OWNER_CLAIM_CHANGE, R350: The partner's OWNER-CLAIM discrete changes level. -/
  | ownerClaimChange (level : Bool)
  /-- HANDOVER_PULSE, R366: A HANDOVER pulse makes a synchronised standby owner within 50 µs. -/
  | handoverPulse
  /-- HANDOVER_PROPOSAL, R364: The standby receives H and epoch e+1, writes it to MRAM and acknowledges. -/
  | handoverProposal (h : Nat) (epoch : Nat)
  /-- HANDOVER_ACK, R364: The owner receives the acknowledgement and writes e+1. -/
  | handoverAck (epoch : Nat)
  /-- HANDOVER_TICK, R364: At tick H both modules send under the new pair and roles change. -/
  | handoverTick
  /-- HANDOVER_CANCEL, R364: No acknowledgement by H − 100 µs cancels the planned handover. -/
  | handoverCancel
  /-- REVERT_HOLDOFF_EXPIRY, R369: The preferred side starts revertive return after REVERT_HOLDOFF. -/
  | revertHoldoffExpiry
  /-- LEAVING_NOTICE, R365: A partner's leaving notice arrives. -/
  | leavingNotice
  /-- JOIN_REQUEST, R357: The owner accepts a join request and records its instant. -/
  | joinRequest (ask : JoinAsk)
  /-- STATE_TRANSFER, R357: A state-transfer frame from the owner arrives at the joiner. -/
  | stateTransfer (tr : Transfer)
  /-- JOIN_COMPLETE, R357: The joiner writes its stores as one switch and enters STANDBY. -/
  | joinComplete (agrees : Bool)
  /-- JOIN_TIMEOUT, R358: A join not complete in 10 s aborts and restarts. -/
  | joinTimeout
  /-- IDENTITY_READ, R356: The owner's identity arrives and is checked for variant, fuse and generation. -/
  | identityRead (id : PeerIdent)
  /-- AUTO_REJOIN, R373: After 60 s a module faulted by overrun or ingress overrun rejoins. -/
  | autoRejoin (pass : Bool)
  /-- PATTERN_TEST, R374: A pattern test of a sleeping strand completes; failure is a self-test failure. -/
  | patternTest (strand : Nat) (pass : Bool)
  /-- PROOF_TEST_DONE, R375: The standby's proof-test patterns end and it joins or faults. -/
  | proofTestDone (pass : Bool)
  /-- SHARE_CHANGE, R488: At the announced tick both modules change output SHARE. -/
  | shareChange (half : Bool)
  /-- FEED_SWITCH_CLOSE, R385: A feed's hot-swap switch closes once SEATED and sense hold for 100 ms. -/
  | feedSwitchClose (feed : Fin 2)
  /-- SEATED_MADE, R386: Both SEATED contacts closed for 10 ms. -/
  | seatedMade
  /-- SEATED_LOST, R402: A SEATED contact open for 10 µs stops transmission and opens the switches. -/
  | seatedLost
  /-- LEVER_OPEN, R400: Opening the extraction lever starts a handover and leave, or is refused. -/
  | leverOpen
  /-- LEVER_CLOSE, R365: Closing the lever ends a refusal or makes the module join. -/
  | leverClose
  /-- SLOT_ID_CHANGE, R387: A slot identity change while seated is recorded only. -/
  | slotIdChange (id : Nat) (side : Side) (parity : Bool)
  /-- LAMP_TEST_END, R388: The 0.5 s lamp test ends. -/
  | lampTestEnd
  /-- LOADER_DONE, R388: The resident loader finishes its checks and the module enters LANTERN. -/
  | loaderDone (id : Nat) (side : Side) (parity : Bool) (testHold : Bool) (badPart : Nat)
  /-- BRINGUP_COMPLETE, R397: Remaining parts are loaded; the leave-LANTERN checks run. -/
  | bringupComplete
  /-- BRINGUP_PHASE_OVERRUN, R389: A bring-up phase overrunning its bound restarts the module. -/
  | bringupPhaseOverrun
  /-- PART_FETCH_DONE, R568: Parts fetched from the partner are checked, written and the module restarts. -/
  | partFetchDone (ok : Bool) (manifest : FetchedManifest)
  /-- PART_FETCH_TIMEOUT, R568: No partner answer in 10 s leaves the module with PART-INVALID. -/
  | partFetchTimeout
  /-- LANTERN_CYCLE, R390: The lantern task runs its 100 ms cycle. -/
  | lanternCycle
  /-- ACTIVATION_DONE, R566: Parts and activation record are written and read back; the module restarts. -/
  | activationDone (ok : Bool)
  /-- UPDATE_HANDOVER_RETRY, R571: A refused update handover is repeated every 1 s up to 600 s. -/
  | updateHandoverRetry
  /-- RETAIN_IMAGE_WRITE, R573: A solo owner writes its retain image at the next fast publication and restarts. -/
  | retainImageWrite
  /-- UPDATE_CHUNK_FORWARD, R561: An update or change chunk forwarded by the owner arrives for staging. -/
  | updateChunkForward (select : Nat) (offset : Nat) (data : List Byte) (last : Bool)
  /-- ALMANAC_FLASH_COPY, R577: Staged almanac records are copied to flash; overwritten ones give a LOST record. -/
  | almanacFlashCopy (count : Nat)
  /-- REF10M_VALID, R406: REF10M within ±3 ppm for 1 s becomes valid; lock follows. -/
  | ref10mValid
  /-- REF10M_LOST, R406: Missing cycles or frequency error put the reference in holdover. -/
  | ref10mLost
  /-- PTP_SYNC, R416: A Sync message arrives and feeds the domain servo. -/
  | ptpSync (d : Fin 2) (m : PtpMsg) (rate : Int)
  /-- PTP_FOLLOW_UP, R413: A Follow_Up message of a two-step master arrives. -/
  | ptpFollowUp (d : Fin 2) (m : PtpMsg) (rate : Int)
  /-- PTP_ANNOUNCE, R413: An Announce arrives and feeds the best master clock algorithm. -/
  | ptpAnnounce (d : Fin 2) (m : PtpMsg) (best : Bool)
  /-- PTP_DELAY_REQ, R413: A Delay_Req arrives at a master port. -/
  | ptpDelayReq (d : Fin 2) (m : PtpMsg)
  /-- PTP_DELAY_RESP, R413: A Delay_Resp arrives. -/
  | ptpDelayResp (d : Fin 2) (m : PtpMsg)
  /-- PTP_PDELAY_REQ, R412: A Pdelay_Req arrives and is answered one-step. -/
  | ptpPdelayReq (d : Fin 2) (m : PtpMsg)
  /-- PTP_PDELAY_RESP, R413: A Pdelay_Resp arrives. -/
  | ptpPdelayResp (d : Fin 2) (m : PtpMsg)
  /-- PTP_PDELAY_RESP_FOLLOW_UP, R413: A Pdelay_Resp_Follow_Up arrives. -/
  | ptpPdelayRespFollowUp (d : Fin 2) (m : PtpMsg)
  /-- PTP_SYNC_INTERVAL, R415: As master the domain sends Sync every LOG_SYNC interval. -/
  | ptpSyncInterval (d : Fin 2)
  /-- PTP_ANNOUNCE_INTERVAL, R415: As master the domain sends Announce every LOG_ANNOUNCE interval. -/
  | ptpAnnounceInterval (d : Fin 2)
  /-- PTP_DELAY_INTERVAL, R415: The domain sends Delay_Req or Pdelay_Req every LOG_DELAY interval. -/
  | ptpDelayInterval (d : Fin 2)
  /-- ANNOUNCE_RECEIPT_TIMEOUT, R417: No Announce within the timeout moves the domain to HOLDOVER or LISTENING. -/
  | announceReceiptTimeout (d : Fin 2)
  /-- SELECT_DELAY_EXPIRY, R421: In AUTO the plant domain selection changes after SELECT_DELAY. -/
  | selectDelayExpiry
  /-- LEAP_SECOND, R423: TB-CAL inserts or deletes a leap second. -/
  | leapSecond (insert : Bool)
  /-- RING_TIME_HOLDOVER, R427: A standby without RING-TIME for over one tick enters ring-time holdover. -/
  | ringTimeHoldover
  /-- PPS_OUT_EDGE, R430: PPS out rises at each whole second of its base. -/
  | ppsOutEdge
  /-- PPS_OUT_FALL, R430: PPS out falls after PPS_OUT_WIDTH. -/
  | ppsOutFall
  /-- PPS_IN_EDGE, R431: A PPS in edge is stamped and its offset reported. -/
  | ppsInEdge (t : Nat)
  /-- PPS_IN_LOSS, R431: PPS_IN_PRESENT clears after 2 s without an edge. -/
  | ppsInLoss
  /-- TIME_ALARM, R432: A time alarm's base reaches AT or AT + k × PERIOD and fires. -/
  | timeAlarm (no : Fin 16)
  /-- DI_EDGE, R482: A digital input takes a new state after DI_FILTER and may fire its source. -/
  | diEdge (ch : Fin 32) (level : Bool) (t : Nat)
  /-- OUTPUT_STAGE_SILENCE, R489: An output stage not refreshed times out to off or its safe state. -/
  | outputStageSilence
  /-- DO_THERMAL_SHUTDOWN, R485: An overheated DO switch turns off. -/
  | doThermalShutdown (ch : Fin 16)
  /-- DO_THERMAL_RESTART, R485: A cooled DO switch turns on again. -/
  | doThermalRestart (ch : Fin 16)
  /-- DO_FAULT_SET, R486: A DO fault condition reaches its time and sets DO_FAULT. -/
  | doFaultSet
  /-- DO_FAULT_CLEAR, R486: DO_FAULT clears 100 ms after the last condition ends. -/
  | doFaultClear
  /-- AI_STATUS_CHANGE, R494: An AI channel status condition changes. -/
  | aiStatusChange (ch : Fin 8) (code : Nat) (fault : Bool)
  /-- AO_LOOP_LOW, R497: Loop total below 75 % for 50 µs changes the AO share to FULL. -/
  | aoLoopLow (ch : Fin 4)
  /-- OPEN_LOOP, R498: An AO stage that does not reach its share for 10 ms sets OPEN_LOOP. -/
  | openLoop (ch : Fin 4) (on : Bool)
  /-- HART_RESPONSE, R500: A HART device response arrives and ends the transaction DONE. -/
  | hartResponse (ch : Fin 12) (code : Nat) (data : List Byte)
  /-- HART_ATTEMPT_TIMEOUT, R500: A HART attempt without valid response is repeated, or the transaction ends after three. -/
  | hartAttemptTimeout (ch : Fin 12) (frameError : Bool)
  /-- HART_MIRROR, R501: A mirrored HART request arrives at the partner. -/
  | hartMirror (req : HartReq)
  /-- HART_REPLY_HOLD_EXPIRY, R501: A held HART reply is dropped after 60 s. -/
  | hartReplyHoldExpiry (ch : Fin 12)
  /-- CAN_FRAME_RECEIVED, R512: A CAN frame passes its CRC and is filtered into a queue. -/
  | canFrameReceived (k : Fin 4) (f : CanFrame) (remote : Bool) (own : Bool) (t : Nat)
  /-- CAN_TX_COMPLETE, R519: A CAN frame is sent and acknowledged. -/
  | canTxComplete (k : Fin 4) (sent : CanSent)
  /-- CAN_TX_ERROR, R519: A CAN transmission fails and is retransmitted or lost. -/
  | canTxError (k : Fin 4) (peerSaw : Bool)
  /-- CAN_BUS_OFF, R502: The controller enters bus-off. -/
  | canBusOff (k : Fin 4)
  /-- CAN_BUS_OFF_RECOVERY, R502: Recovery after 128 occurrences of 11 recessive bits. -/
  | canBusOffRecovery (k : Fin 4)
  /-- DOMINANT_TIMEOUT, R508: The transmitter dominant time-out acts. -/
  | dominantTimeout (k : Fin 4)
  /-- CAN_MIRROR, R518: A mirrored CAN.SEND frame arrives at the partner. -/
  | canMirror (k : Fin 4) (f : CanFrame)
  /-- RATE_DETECT_TIMEOUT, R520: RATE-DETECT moves to the next rate after 1 s. -/
  | rateDetectTimeout (k : Fin 4)
  /-- BASIC_CYCLE_START, R523: A time master sends its reference at a basic cycle start. -/
  | basicCycleStart (k : Fin 4) (ok : Bool)
  /-- REFERENCE_WATCH_TIMEOUT, R522: No valid reference for 256 bit times; a potential master sends its own. -/
  | referenceWatchTimeout (k : Fin 4)
  /-- TT_WINDOW, R518: An exclusive window opens and its object is sent. -/
  | ttWindow (k : Fin 4) (window : Nat)
  /-- PERIOD_MS, R518: A periodic transmit object is queued every PERIOD_MS. -/
  | periodMs (k : Fin 4) (object : Nat)
  /-- TT_SYNC_LOSS, R524: Two basic cycles without a valid reference invalidate TB-CAN. -/
  | ttSyncLoss (k : Fin 4)
  /-- KEY_CHALLENGE, R550: The reader sends a challenge with a fresh nonce. -/
  | keyChallenge (nonce : List Byte)
  /-- TAG_SERIAL_ANSWER, R550: A tag answers in a slot with its TAG_SERIAL. -/
  | tagSerialAnswer (slot : Fin 16) (serial : Word) (crcOk : Bool)
  /-- KEY_SLOTS_END, R553: After the 16 slots the reader selects a tag, or rechallenges on collision. -/
  | keySlotsEnd
  /-- CREDENTIAL, R551: A tag's credential frame arrives whole and is verified. -/
  | credential (c : Credential)
  /-- KEY_VERIFY_DONE, R552: Credential verification ends; a key becomes present or a failed attempt is counted. -/
  | keyVerifyDone
  /-- LIGHT_FLOODING, R554: Flooding discards the frame and waits to retry. -/
  | lightFlooding
  /-- FLOOD_QUIET, R554: 10 ms without flooding restarts the presentation or ends it FLOODED. -/
  | floodQuiet
  /-- KEY_LOCKOUT_END, R555: The 60 s reader lockout ends. -/
  | keyLockoutEnd
  /-- KEY_HOLD_EXPIRY, R556: A presented key stops counting as present. -/
  | keyHoldExpiry
  /-- SIGNATURE_OPERATION_DONE, R543: A signature-engine operation ends at its fixed time. -/
  | signatureOperationDone (p : Precheck) (valid : Bool)
  /-- SESSION_IDLE_EXPIRY, R449: A session ends after SESSION_IDLE without an accepted request. -/
  | sessionIdleExpiry (session : Nat)
  /-- HALF_OPEN_EXPIRY, R448: A half-open session ends 5 s after its open. -/
  | halfOpenExpiry (session : Nat)
  /-- QUIESCE_LEASE_EXPIRY, R470: A quiesce lease runs out and the unit restarts with old settings. -/
  | quiesceLeaseExpiry (unit : Nat)
  /-- REASSEMBLY_TIMEOUT, R436: A datagram whose fragments are incomplete after 1 s is discarded. -/
  | reassemblyTimeout (source : Word)
  /-- UNKNOWN_OPCODE, R439: A Gelit request with an undefined opcode gets UNKNOWN-OPCODE. -/
  | unknownOpcode (r : Req) (op : Nat)
  /-- SESSION_OPEN, R446: Check the host chain and create a half-open session. -/
  | sessionOpen (r : Req) (g : OpenGrant)
  /-- SESSION_CONFIRM, R448: Verify the host signature and open the session. -/
  | sessionConfirm (r : Req) (sigOk : Bool)
  /-- SESSION_CLOSE, R449: End the session. -/
  | sessionClose (r : Req)
  /-- MODULE_IDENTITY, R7: Return type code, fuse, serial and manifest generation. -/
  | moduleIdentity (r : Req)
  /-- MODULE_CAPABILITY, R457: Return the variant's unit map and limits. -/
  | moduleCapability (r : Req)
  /-- MODULE_STATE, R458: Return module state, epoch, HEALTH and LANTERN_STATUS. -/
  | moduleState (r : Req)
  /-- MODULE_TEST_HOLD, R399: Enter TEST-HOLD from solo OWNER with a key. -/
  | moduleTestHold (r : Req)
  /-- MODULE_RESTART, R458: Restart the module, after a planned handover on an owner. -/
  | moduleRestart (r : Req)
  /-- FUNC_QUIESCE, R469: Quiesce a unit and start its lease. -/
  | funcQuiesce (r : Req)
  /-- FUNC_STAGE, R469: Check and stage setting values. -/
  | funcStage (r : Req)
  /-- FUNC_RESTART, R469: Apply staged values and restart the unit. -/
  | funcRestart (r : Req)
  /-- FUNC_DISCARD, R469: Drop staged values and restart with old settings. -/
  | funcDiscard (r : Req)
  /-- FUNC_READ, R459: Read setting values and staged values. -/
  | funcRead (r : Req)
  /-- FUNC_STATUS, R459: Read a unit's quiesce status. -/
  | funcStatus (r : Req)
  /-- PROG_LOAD_BEGIN, R460: Begin loading a free tenant. -/
  | progLoadBegin (r : Req)
  /-- PROG_LOAD_WRITE, R460: Write a chunk of the tenant program. -/
  | progLoadWrite (r : Req)
  /-- PROG_LOAD_CHECK, R623: Run the code check and admission and reply the load result. -/
  | progLoadCheck (r : Req) (v : Version)
  /-- PROG_START, R67: Start or restart selected tasks. -/
  | progStart (r : Req)
  /-- PROG_STOP, R224: Stop selected tasks at the next publication. -/
  | progStop (r : Req)
  /-- PROG_UNLOAD, R460: Unload a tenant. -/
  | progUnload (r : Req)
  /-- PROG_TENANT_STATUS, R460: Return tenant and task status. -/
  | progTenantStatus (r : Req)
  /-- PROG_CHANGE_BEGIN, R238: Take the maintenance slot and start an online change. -/
  | progChangeBegin (r : Req)
  /-- PROG_CHANGE_WRITE, R238: Write a chunk of the new version or carry-over map. -/
  | progChangeWrite (r : Req)
  /-- PROG_CHANGE_CHECK, R240: Run the change checks on both modules. -/
  | progChangeCheck (r : Req) (v : Version)
  /-- PROG_CHANGE_ARM, R248: Fix the switch instant and arm the change. -/
  | progChangeArm (r : Req)
  /-- PROG_CHANGE_ABORT, R238: Discard the new version and release the slot. -/
  | progChangeAbort (r : Req)
  /-- PROG_CHANGE_STATUS, R239: Return the change status. -/
  | progChangeStatus (r : Req)
  /-- PROG_LANTERN_LOAD, R391: Load a plant lantern program. -/
  | progLanternLoad (r : Req) (v : Version)
  /-- DATA_READ, R462: Read published values with qualities. -/
  | dataRead (r : Req)
  /-- DATA_READ_PROVISIONAL, R199: Read provisional values. -/
  | dataReadProvisional (r : Req)
  /-- DATA_WRITE, R463: Write M words, effective at EFFECTIVE_AT. -/
  | dataWrite (r : Req)
  /-- FORCE_SET, R259: Set forces atomically. -/
  | forceSet (r : Req)
  /-- FORCE_CLEAR, R259: Clear forces. -/
  | forceClear (r : Req)
  /-- FORCE_CLEAR_ALL, R259: Clear every force. -/
  | forceClearAll (r : Req)
  /-- FORCE_LIST, R259: List force-table entries. -/
  | forceList (r : Req)
  /-- RING_READ_STATUS, R293: Return a ring's sweeps, occupancy and cut. -/
  | ringReadStatus (r : Req)
  /-- RING_LOAD_CONFIG, R465: Write a ring's station table. -/
  | ringLoadConfig (r : Req)
  /-- RING_READ_STATION, R305: Return one station's status. -/
  | ringReadStation (r : Req)
  /-- ACYCLIC_READ, R312: RING.ACYCLIC with OP READ reads a station parameter. -/
  | acyclicRead (r : Req)
  /-- ACYCLIC_WRITE, R312: RING.ACYCLIC with OP WRITE writes a station parameter. -/
  | acyclicWrite (r : Req)
  /-- ALARM_FETCH, R312: RING.ACYCLIC with OP ALARM-FETCH fetches a station alarm. -/
  | alarmFetch (r : Req)
  /-- RING_ACYCLIC_ABORT, R464: Withdraw an earlier acyclic transaction. -/
  | ringAcyclicAbort (r : Req)
  /-- PAIR_STATUS, R466: Return both HEALTH words and the epoch. -/
  | pairStatus (r : Req)
  /-- PAIR_ASSUME, R355: Make a LANTERN module owner. -/
  | pairAssume (r : Req)
  /-- PAIR_HANDOVER, R364: Start a planned handover. -/
  | pairHandover (r : Req)
  /-- PAIR_REJOIN, R373: Leave STANDBY-FAULTED after a self-test and join. -/
  | pairRejoin (r : Req) (selftestOk : Bool)
  /-- PAIR_HEALTH_ACK, R376: Clear RW1C HEALTH bits on both modules. -/
  | pairHealthAck (r : Req)
  /-- PAIR_PROOF_TEST, R375: Start a standby proof test. -/
  | pairProofTest (r : Req)
  /-- TIME_READ, R434: Return all time bases latched together and TIME_STATUS. -/
  | timeRead (r : Req)
  /-- TIME_DOMAIN_STATUS, R434: Return one PTP domain's status. -/
  | timeDomainStatus (r : Req)
  /-- TIME_SET_PLANT, R420: Initialise TB-PLANT while it is invalid. -/
  | timeSetPlant (r : Req)
  /-- TIME_ALARM_WRITE, R432: Write a time alarm. -/
  | timeAlarmWrite (r : Req)
  /-- TIME_ALARM_READ, R432: Read a time alarm. -/
  | timeAlarmRead (r : Req)
  /-- LOCAL_READ, R467: Return local I/O states and statuses. -/
  | localRead (r : Req)
  /-- HART_TRANSACT, R500: Pass one HART command through to a field device. -/
  | hartTransact (r : Req)
  /-- CAN_STATUS, R526: Return a controller's status words. -/
  | canStatus (r : Req)
  /-- CAN_FILTER_WRITE, R511: Write filter elements. -/
  | canFilterWrite (r : Req)
  /-- CAN_FILTER_READ, R511: Read filter elements. -/
  | canFilterRead (r : Req)
  /-- CAN_SEND, R519: Queue a CAN frame for transmission and reply when it ends. -/
  | canSend (r : Req)
  /-- CAN_RECEIVE, R514: Remove and return records from a receive queue. -/
  | canReceive (r : Req)
  /-- CAN_SCHEDULE_WRITE, R521: Write a controller's time-triggered schedule. -/
  | canScheduleWrite (r : Req)
  /-- SEC_GATE_READ, R541: Read gate entries or the gate status block. -/
  | secGateRead (r : Req)
  /-- SEC_GATE_WRITE, R538: Write one host gate entry. -/
  | secGateWrite (r : Req)
  /-- SEC_AUTHORITY_INSTALL, R547: Install the plant authority key. -/
  | secAuthorityInstall (r : Req) (pointOk : Bool)
  /-- SEC_MODULE_CERT_INSTALL, R547: Install the MODULE certificate. -/
  | secModuleCertInstall (r : Req) (sigOk : Bool)
  /-- SEC_REVOKE, R548: Add a serial to the revocation list. -/
  | secRevoke (r : Req)
  /-- SEC_KEY_STATUS, R556: Return key presence and expiry. -/
  | secKeyStatus (r : Req)
  /-- UPDATE_BEGIN, R561: Take the maintenance slot and open staging. -/
  | updateBegin (r : Req)
  /-- UPDATE_WRITE, R562: Stage a chunk of the manifest or a part. -/
  | updateWrite (r : Req)
  /-- UPDATE_VERIFY, R563: Verify the staged manifest and parts. -/
  | updateVerify (r : Req) (sigOk : Bool) (badHash : Nat) (peerAgrees : Bool)
  /-- UPDATE_ACTIVATE_MODULE, R565: UPDATE.ACTIVATE with SCOPE 0 activates on this module. -/
  | updateActivateModule (r : Req)
  /-- UPDATE_ACTIVATE_PAIR, R569: UPDATE.ACTIVATE with SCOPE 1 runs the pair update steps. -/
  | updateActivatePair (r : Req)
  /-- UPDATE_ABORT, R564: Discard staging and release the slot. -/
  | updateAbort (r : Req)
  /-- UPDATE_STATUS, R574: Return update status. -/
  | updateStatus (r : Req)
  /-- ALMANAC_READ, R579: Return almanac records from FROM_SEQ. -/
  | almanacRead (r : Req)
  /-- ALMANAC_CLEAR, R580: Clear almanac records and write a CLEAR record. -/
  | almanacClear (r : Req) (sigOk : Bool)
  /-- ALMANAC_STATUS, R579: Return oldest and newest record SEQ. -/
  | almanacStatus (r : Req)
  /-- DIAG_COUNTER_READ, R600: Read performance counters. -/
  | diagCounterRead (r : Req)
  /-- DIAG_COUNTER_SELECT, R599: Select a counter's source or chain a pair. -/
  | diagCounterSelect (r : Req)
  /-- DIAG_WATCHDOG_READ, R594: Return watchdog state and evidence. -/
  | diagWatchdogRead (r : Req)
  /-- DIAG_STRAND_STATUS, R468: Return PACE_STATUS, PARALLAX_STATUS and VCORE_STATUS. -/
  | diagStrandStatus (r : Req)
  /-- DIAG_TASK_SPEC, R200: Return a task's SPEC_STATUS. -/
  | diagTaskSpec (r : Req)
  /-- DIAG_DISPLACED_READ, R226: Return the tenant's displaced-frame slot. -/
  | diagDisplacedRead (r : Req)
  /-- DIAG_TAG_READ, R310: Return one collector tag. -/
  | diagTagRead (r : Req)
  /-- DEBUG_OPEN, R230: Open a debug session on a tenant. -/
  | debugOpen (r : Req)
  /-- DEBUG_HALT, R232: DEBUG.CONTROL OP HALT halts lane 1. -/
  | debugHalt (r : Req)
  /-- DEBUG_STEP, R232: DEBUG.CONTROL OP STEP single-steps lane 1. -/
  | debugStep (r : Req)
  /-- DEBUG_RUN, R232: DEBUG.CONTROL OP RUN lets lane 1 run. -/
  | debugRun (r : Req)
  /-- DEBUG_SET_BREAK, R232: DEBUG.CONTROL OP SET-BREAK sets a breakpoint. -/
  | debugSetBreak (r : Req)
  /-- DEBUG_CLEAR_BREAK, R232: DEBUG.CONTROL OP CLEAR-BREAK clears a breakpoint. -/
  | debugClearBreak (r : Req)
  /-- DEBUG_READ, R232: Read lane 1 registers or the debug copy. -/
  | debugRead (r : Req)
  /-- DEBUG_WRITE, R232: Write the debug copy. -/
  | debugWrite (r : Req)
  /-- DEBUG_CLOSE, R234: End the debug session. -/
  | debugClose (r : Req)
  /-- CM_WRITE, R612: A write on the carrier management bus is not acknowledged and has no effect. -/
  | cmWrite (offset : Nat) (data : List Byte)
  /-- CM_BLOCK_REFRESH, R613: The carrier management block is refreshed every 100 ms. -/
  | cmBlockRefresh (temp : Int) (feed1 : Nat) (feed2 : Nat)
  /-- TAP_RESET, R620: Test-Logic-Reset clears SCANGUARD flags and selects IDCODE. -/
  | tapReset
  /-- EXTEST, R619: EXTEST in TEST-HOLD, SAMPLE elsewhere with EXTEST_DENIED. -/
  | extest (cells : List Bool)
  /-- SAMPLE, R619: Sample the boundary register without disturbing contacts. -/
  | sample (cells : List Bool)
  /-- PRELOAD, R619: Preload the boundary register. -/
  | preload (cells : List Bool)
  /-- IDCODE, R619: Select the identification register. -/
  | idcode
  /-- CLAMP, R619: CLAMP in TEST-HOLD, BYPASS elsewhere with DRIVE_DENIED. -/
  | clamp
  /-- HIGHZ, R619: HIGHZ in TEST-HOLD, BYPASS elsewhere with DRIVE_DENIED. -/
  | highz
  /-- EXTEST_PULSE, R619: IEEE 1149.6 pulse test in TEST-HOLD, SAMPLE elsewhere. -/
  | extestPulse (cells : List Bool)
  /-- EXTEST_TRAIN, R619: IEEE 1149.6 train test in TEST-HOLD, SAMPLE elsewhere. -/
  | extestTrain (cells : List Bool)
  /-- IOLOOP, R621: Drive DO and capture readback and DI in TEST-HOLD; BYPASS elsewhere. -/
  | ioloop
  /-- SCANGUARD, R620: Select the SCANGUARD register. -/
  | scanguard
  /-- BYPASS, R619: Select the bypass register. -/
  | bypass
  /-- REF10M_LOCKED, R406: The REF10M loop settles, at most 10 s after validity, and REF10M_LOCKED is set. -/
  | ref10mLocked
  /-- PRIVILEGED_WATCHDOG_SERVICE, R591: A unit's control loop services its privileged watchdog, and an early service acts as an expiry. -/
  | privilegedWatchdogService (unit : Fin 8) (t : Nat)
  /-- LOSS_OF_POWER, R348: The hold-up ends after power-fail or removal, and the module stops with only MRAM and flash state kept. -/
  | lossOfPower
  /-- MAIN_REFERENCE_STOP, R405: The 25 MHz main reference stops, which stops TB-LOCAL, the watchdogs and HEALTHY together. -/
  | mainReferenceStop
  /-- RESET_RELEASED, R388: The rails are up and reset is released, ending power start; the lamp test begins and the carrier bus is served. -/
  | resetReleased
  /-- STAGE_FAULT, R498: An AO stage fails its self-check and carries no current; the change is recorded. -/
  | stageFault (ch : Fin 4) (on : Bool)
  /-- PLANT_PORT_LINK_CHANGE, R414: A plant port link is lost or restored; the PTP servo changes port, and source 969 fires. -/
  | plantPortLinkChange (port : Fin 2) (up : Bool)
  /-- PART_FETCH_REQUEST, R568: A partner's request for the active manifest and parts arrives, and the module sends them. -/
  | partFetchRequest
  /-- IDENTITY_REQUEST, R356: A newcomer's identity read arrives at the owner, which answers with variant, fuse and generation, and the bridge report of R570. -/
  | identityRequest
  /-- SWITCH_AT_PROPOSAL, R248: The owner's SWITCH_AT arrives at the partner, which converts the published state and confirms. -/
  | switchAtProposal (instant : Nat)
  /-- RECOMPUTE_REQUEST, R84: The owner's load or change check arrives at the standby, which recomputes W, G, the assignment and the checks. -/
  | recomputeRequest (tenant : Nat) (kind : Nat) (v : Numbered)
  /-- RECOMPUTE_RESULT, R240: The standby's check results and digest arrive at the owner, which compares them and replies, or refuses with PARTNER-DISAGREE. -/
  | recomputeResult (figures : CheckFigures)
  /-- COMMAND_MIRROR, R463: A mirrored owner command, such as DATA.WRITE values, staged PAIR settings, a gate entry, a revocation, a station table or a time alarm, arrives at the partner. -/
  | commandMirror (m : Mirror)
  /-- FORWARDED_REQUEST, R311: A request accepted by the standby, an acyclic transaction or a maintenance-slot request, arrives forwarded at the owner, which decides it. -/
  | forwardedRequest (req : Forwarded)
  /-- ECC_PATROL_PASS, R374: A full ECC patrol of SRAM or DRAM completes, advancing SELFTEST_ROUND and updating SCRUB_CORRECTED. -/
  | eccPatrolPass (dram : Bool) (corrected : Nat)
  /-- SEATED_OPENING, R386: A SEATED contact opens for less than 10 µs and closes again; the opening is counted and changes nothing. -/
  | seatedOpening
  /-- UPDATE_DR, R621: Update-DR under IOLOOP switches DO k on or off from the register. -/
  | updateDr (v : BitVec 49)
  /-- CAPTURE_DR, R621: Capture-DR under IOLOOP captures the DO readback, DI states and LPLUS_OK. -/
  | captureDr (readback : BitVec 16) (di : BitVec 32) (lplus : Bool)
  deriving DecidableEq, Repr

end Sys2Proof
end

