-- ==== Sys2Proof/Decode.lean ====
section
/-! DEFINITION. The words of the opcode table, and of a program. The table gives none of its rows any bits, so no word of the table spells a
command. What an instruction word of a program spells (R98, R132, R153) stands here too: the opcode in bits [31:24] names the command, and bits
[23:0] and the extension word are its operands. -/
namespace Sys2Proof

open Machine

/-- The command that a word spells by the table's bits: no row has bits. -/
def decodeTableWord (_nbits _w : Nat) : Option Instr := none

/-- An opcode with the command it names, from the operands of its word and the extension word. -/
abbrev OpRow := Nat × (Exec → BitVec 24 → Word → Instr)

/-- The opcodes from 16#00 to 16#45. -/
def opRows0 : List OpRow := [
  (0x00, fun x w _ => .opLd x w),
  (0x01, fun x w _ => .opLdn x w),
  (0x02, fun x w _ => .opAnd x w),
  (0x03, fun x w _ => .opAndn x w),
  (0x04, fun x w _ => .opOr x w),
  (0x05, fun x w _ => .opOrn x w),
  (0x06, fun x w _ => .opXor x w),
  (0x07, fun x w _ => .opXorn x w),
  (0x08, fun x w _ => .opSt x w),
  (0x09, fun x w _ => .opStn x w),
  (0x0A, fun x w _ => .opSetb x w),
  (0x0B, fun x w _ => .opRstb x w),
  (0x0C, fun x w _ => .opAndp x w),
  (0x0D, fun x w _ => .opAndnp x w),
  (0x0E, fun x w _ => .opOrp x w),
  (0x0F, fun x w _ => .opOrnp x w),
  (0x10, fun x w _ => .opXorp x w),
  (0x11, fun x w _ => .opXornp x w),
  (0x12, fun x w _ => .opNot x w),
  (0x13, fun x w _ => .opSet1 x w),
  (0x14, fun x w _ => .opClr0 x w),
  (0x15, fun x w _ => .opLdwb x w),
  (0x16, fun x w _ => .opStwb x w),
  (0x17, fun x w _ => .opLdqg x w),
  (0x18, fun x w _ => .opLdqu x w),
  (0x19, fun x w _ => .opTgl x w),
  (0x40, fun x w _ => .opLdw x w),
  (0x41, fun x w _ => .opStw x w),
  (0x42, fun x w _ => .opLdk x w),
  (0x43, fun x w _ => .opLdkh x w),
  (0x44, fun x w _ => .opAdd x w),
  (0x45, fun x w _ => .opSub x w)]

/-- The opcodes from 16#46 to 16#81. -/
def opRows1 : List OpRow := [
  (0x46, fun x w _ => .opMul x w),
  (0x47, fun x w _ => .opDiv x w),
  (0x48, fun x w _ => .opMod x w),
  (0x49, fun x w _ => .opAddu x w),
  (0x4A, fun x w _ => .opSubu x w),
  (0x4B, fun x w _ => .opNeg x w),
  (0x4C, fun x w _ => .opAbs x w),
  (0x4D, fun x w _ => .opAndw x w),
  (0x4E, fun x w _ => .opOrw x w),
  (0x4F, fun x w _ => .opXorw x w),
  (0x50, fun x w _ => .opNotw x w),
  (0x51, fun x w _ => .opShlw x w),
  (0x52, fun x w _ => .opShrw x w),
  (0x53, fun x w _ => .opSarw x w),
  (0x54, fun x w _ => .opRolw x w),
  (0x55, fun x w _ => .opEq x w),
  (0x56, fun x w _ => .opNe x w),
  (0x57, fun x w _ => .opLt x w),
  (0x58, fun x w _ => .opLe x w),
  (0x59, fun x w _ => .opGt x w),
  (0x5A, fun x w _ => .opGe x w),
  (0x5B, fun x w _ => .opLtu x w),
  (0x5C, fun x w _ => .opGeu x w),
  (0x5D, fun x w _ => .opMinw x w),
  (0x5E, fun x w _ => .opMaxw x w),
  (0x5F, fun x w _ => .opLimw x w),
  (0x60, fun x w _ => .opAddk x w),
  (0x61, fun x w _ => .opSelw x w),
  (0x62, fun x w e => .opMovw x w e),
  (0x63, fun x w _ => .opLdqw x w),
  (0x80, fun x w _ => .opTon x w),
  (0x81, fun x w _ => .opTof x w)]

/-- The opcodes from 16#82 to 16#B3. -/
def opRows2 : List OpRow := [
  (0x82, fun x w _ => .opTp x w),
  (0x83, fun x w _ => .opTonr x w),
  (0x84, fun x w _ => .opTrst x w),
  (0x85, fun x w _ => .opCtu x w),
  (0x86, fun x w _ => .opCtd x w),
  (0x87, fun x w _ => .opCtud x w),
  (0x88, fun x w _ => .opCrst x w),
  (0x89, fun x w _ => .opCldv x w),
  (0x8A, fun x w _ => .opEdgep x w),
  (0x8B, fun x w _ => .opEdgen x w),
  (0x8C, fun x w e => .opShfb x w e),
  (0x8D, fun x w e => .opShfw x w e),
  (0xA0, fun x w _ => .opFadd x w),
  (0xA1, fun x w _ => .opFsub x w),
  (0xA2, fun x w _ => .opFmul x w),
  (0xA3, fun x w _ => .opFdiv x w),
  (0xA4, fun x w _ => .opFsqrt x w),
  (0xA5, fun x w _ => .opFlt x w),
  (0xA6, fun x w _ => .opFeq x w),
  (0xA7, fun x w _ => .opItof x w),
  (0xA8, fun x w _ => .opFtoi x w),
  (0xA9, fun x w e => .opDadd x w e),
  (0xAA, fun x w e => .opDsub x w e),
  (0xAB, fun x w e => .opDmul x w e),
  (0xAC, fun x w e => .opDdiv x w e),
  (0xAD, fun x w e => .opDsqrt x w e),
  (0xAE, fun x w e => .opDlt x w e),
  (0xAF, fun x w e => .opFtod x w e),
  (0xB0, fun x w e => .opDtof x w e),
  (0xB1, fun x w _ => .opPid x w),
  (0xB2, fun x w _ => .opLag x w),
  (0xB3, fun x w _ => .opRlim x w)]

/-- The opcodes from 16#C0 to 16#DD. -/
def opRows3 : List OpRow := [
  (0xC0, fun x w _ => .opNop x w),
  (0xC1, fun x w _ => .opJmp x w),
  (0xC2, fun x w _ => .opJmpc x w),
  (0xC3, fun x w _ => .opJmpcn x w),
  (0xC4, fun x w _ => .opCall x w),
  (0xC5, fun x w _ => .opCallc x w),
  (0xC6, fun x w _ => .opCallcn x w),
  (0xC7, fun x w _ => .opRet x w),
  (0xC8, fun x w _ => .opRetc x w),
  (0xC9, fun x w _ => .opRetcn x w),
  (0xCA, fun x w e => .opFor x w e),
  (0xCB, fun x w e => .opForw x w e),
  (0xCC, fun x w _ => .opNext x w),
  (0xCD, fun x w _ => .opLeave x w),
  (0xCE, fun x w _ => .opLidx x w),
  (0xD0, fun x w _ => .opBpush x w),
  (0xD1, fun x w _ => .opBpeek x w),
  (0xD2, fun x w _ => .opBpop x w),
  (0xD3, fun x w _ => .opClose x w),
  (0xD4, fun x w _ => .opSegment x w),
  (0xD5, fun x w _ => .opEnd x w),
  (0xD6, fun x w _ => .opEndc x w),
  (0xD7, fun x w _ => .opWdserv x w),
  (0xD8, fun x w _ => .opAgree x w),
  (0xD9, fun x w _ => .opImmin x w),
  (0xDA, fun x w _ => .opImminw x w),
  (0xDB, fun x w _ => .opImmout x w),
  (0xDC, fun x w _ => .opImmoutw x w),
  (0xDD, fun x w _ => .opEvpost x w)]

/-- Every opcode of the two instruction chapters. -/
def opRows : List OpRow := opRows0 ++ opRows1 ++ opRows2 ++ opRows3

/-- The command that a word of a program spells for a lane (R98): bits [31:24] choose it; an opcode that no row has is undefined (R131). `ext` is
the extension word, for a format that has one. -/
def decodeProgramWord (x : Exec) (word ext : Word) : Instr :=
  match opRows.find? fun r => r.1 == word.toNat / 16777216 with
  | some r => r.2 x (word.setWidth 24) ext
  | none => .undefinedOpcode x (BitVec.ofNat 8 (word.toNat / 16777216)) (word.setWidth 24)

end Sys2Proof
end

