-- ==== Sys2Proof/Config.lean ====
section
/-! DEFINITION. What the spec fixes for a module once and for all: the limits of each variant (R2, R3), the unit
identities that exist, the factory selection of the performance counters (R598), the system and default host entries of
the gates (R536, R537), and the sizes of the gates' targets (R529, R530). Values that the spec leaves open and that are
fixed here are named in the assumption log. -/
namespace Sys2Proof.Config
open Machine

/-- Strands fitted, R2. -/
def strands : Variant → Nat | .nk960 => 16 | .nk940 => 16 | .nk920 => 8

/-- Rings fitted, R2. -/
def rings : Variant → Nat | .nk960 => 4 | .nk940 => 4 | .nk920 => 2

/-- I/O ports fitted, R2. -/
def ports (v : Variant) : Nat := 2 * rings v

/-- PTP domains fitted, R2. -/
def domains : Variant → Nat | .nk960 => 2 | .nk940 => 2 | .nk920 => 1

/-- CAN controllers fitted, R2. -/
def cans : Variant → Nat | .nk960 => 4 | .nk940 => 2 | .nk920 => 0

/-- Collector tags, R2 and R306. -/
def tags : Variant → Nat | .nk960 => 131072 | .nk940 => 131072 | .nk920 => 65536

/-- Remote stations per pair, R2. -/
def stations : Variant → Nat | .nk960 => 1024 | .nk940 => 1024 | .nk920 => 512

/-- I/O signals per pair, R2. -/
def signals : Variant → Nat | .nk960 => 131072 | .nk940 => 131072 | .nk920 => 65536

/-- Hardware type code, R2. -/
def typeCode : Variant → Nat | .nk960 => 0x0960 | .nk940 => 0x0940 | .nk920 => 0x0920

/-- The unit identities that exist: 16#00 engine, 16#10-17 I/O ports, 16#20-23 CAN, 16#30-33 local I/O, 16#40-41 PTP
domains, 16#42 domain selection, 16#50 plant ports, 16#60 pair, 16#70 key reader (R475, R476). -/
def unitExists (u : Nat) : Bool :=
  u == 0 || (0x10 ≤ u && u ≤ 0x17) || (0x20 ≤ u && u ≤ 0x23) || (0x30 ≤ u && u ≤ 0x33)
    || u == 0x40 || u == 0x41 || u == 0x42 || u == 0x50 || u == 0x60 || u == 0x70

/-- The absent unit identities of R3. -/
def unitAbsent : Variant → Nat → Bool
  | .nk960, _ => false
  | .nk940, u => u == 0x22 || u == 0x23 || u == 0x32 || u == 0x33
  | .nk920, u => (0x14 ≤ u && u ≤ 0x17) || (0x20 ≤ u && u ≤ 0x23) || (0x30 ≤ u && u ≤ 0x33) || u == 0x41

/-- A unit that exists and is fitted. -/
def unitFitted (v : Variant) (u : Nat) : Bool := unitExists u && !unitAbsent v u

/-- Sources that never fire in any variant (R304, R379, R595). -/
def sourceNever (n : Nat) : Bool :=
  n > 1023 || (972 ≤ n && n ≤ 1023) || (912 ≤ n && n ≤ 959) || (880 ≤ n && n ≤ 895)
    || (832 ≤ n && n ≤ 863 && (n % 8 == 6 || n % 8 == 7))

/-- Sources of absent units, R4. -/
def sourceAbsent : Variant → Nat → Bool
  | .nk960, _ => false
  | .nk940, n => 40 ≤ n && n ≤ 47
  | .nk920, n => n ≤ 47 || (848 ≤ n && n ≤ 863) || (872 ≤ n && n ≤ 879)

/-- The admitted rate of R43, instruction-equivalents per µs. -/
def admittedRate : Nat := 200

/-- The release margin of R79, µs. -/
def releaseMargin : Nat := 40

/-- Is EVENT with INSTANCE a SOURCE that R597 lists for this variant? -/
def counterSource (v : Variant) (source : Nat) : Bool :=
  let e := source / 256
  let i := source % 256
  if e == 0 then i == 0
  else if (1 ≤ e && e ≤ 7) || e == 0x0A then decide (i < strands v)
  else if e == 8 || e == 9 then decide (i < 2 * strands v)
  else if 0x10 ≤ e && e ≤ 0x13 then i == 0
  else if 0x20 ≤ e && e ≤ 0x25 then decide (i < ports v)
  else if e == 0x26 then decide (i ≤ 4)
  else if e == 0x30 then decide (i < 8)
  else if e == 0x40 then decide (i < 2)
  else if e == 0x41 then i == 0
  else if e == 0x50 then 1 ≤ i && i ≤ 5
  else if e == 0x60 then decide (i < 16)
  else if e == 0x70 || e == 0x71 then i == 0
  else false

/-- The selection of R598 for counter `n`, before the variant is considered. -/
def counterTable (n : Nat) : Nat :=
  if n < 16 then 0x0100 + n
  else if n < 32 then 0x0200 + (n - 16)
  else if n < 48 then 0x0300 + (n - 32)
  else if n < 64 then 0x0500 + (n - 48)
  else if n < 96 then 0x0800 + (n - 64)
  else if n < 104 then 0x3000 + (n - 96)
  else if n < 112 then 0x2000 + (n - 104)
  else if n < 120 then 0x2100 + (n - 112)
  else if n < 128 then 0x2200 + (n - 120)
  else if n < 132 then (0x10 + (n - 128)) * 256
  else if n < 137 then 0x2600 + (n - 132)
  else if n == 137 then 0x4100
  else if n < 140 then 0x4000 + (n - 138)
  else if n < 145 then 0x5001 + (n - 140)
  else if n < 161 then 0x6000 + (n - 145)
  else if n == 161 then 0x7000
  else if n == 162 then 0x7100
  else 0

/-- The selection of R598 on a variant: an instance that is not fitted holds NONE. -/
def counterDefault (v : Variant) (n : Nat) : Nat :=
  if counterSource v (counterTable n) then counterTable n else 0

/-- The counters at reset, R598. -/
def counters (v : Variant) : List Counter :=
  (List.range 256).map fun n => ⟨counterDefault v n, 0, false⟩

/-- Granules of each gate's target, R529 and R530 (the spaces of gates 10, 12, 13 and 14 have no size in the spec). -/
def gateGranules (g : Nat) : Nat :=
  if g == 0 then 131072
  else if g ≤ 8 then 8192
  else if g == 9 then 16777216
  else if g == 11 then 262144
  else if g == 15 then 256
  else 65536

/-- Granules of the key unit's private-key store, which no system entry covers (R536). -/
def privateKeyFirst : Nat := 65280

/-- The system entries of R536, by index. -/
def systemEntries (g : Nat) : List (Nat × GateEnt) :=
  let whole := gateGranules g - 1
  if g == 0 then [(0, ⟨0, whole, 0, 2, 5, true, true⟩), (1, ⟨0, whole, 0, 1, 3 * 512, true, true⟩)]
  else if g ≤ 8 then
    [(0, ⟨3072, 8191, 0, 2, 3, true, true⟩), (1, ⟨2048, 3071, 0, 1, 1, true, true⟩),
     (2, ⟨0, whole, 0, 1, 3 * 512, true, true⟩)]
  else if g == 12 then [(0, ⟨0, privateKeyFirst - 1, 0, 1, 3 * 512, true, true⟩)]
  else [(0, ⟨0, whole, 0, 1, 3 * 512, true, true⟩)]

/-- The default host entries of R537: PERM bits 3 to 5 are P1's, 6 to 8 P2's. The ranges of the debug copies (gate 9),
of the key status registers (gate 12) and of the displaced-frame slots (gate 15) are the model's. -/
def hostDefaults (g : Nat) : List (Nat × GateEnt) :=
  let whole := gateGranules g - 1
  let p1r := 8
  let p1w := 16
  let p2r := 64
  let p2w := 128
  if g == 0 || g == 14 then []
  else if g ≤ 8 then
    [(32, ⟨3072, 8191, 0, 2, p1r + p1w + p2r + p2w, true, false⟩), (33, ⟨2048, 3071, 0, 1, p1r + p2r, true, false⟩)]
  else if g == 9 then [(32, ⟨8388608, 8454143, 0, 1, p2r + p2w, true, false⟩)]
  else if g == 10 || g == 13 then [(32, ⟨0, whole, 0, 1, p1r + p2r + p2w, true, false⟩)]
  else if g == 11 then [(32, ⟨0, whole, 0, 1, p1r + p2r, true, false⟩)]
  else if g == 12 then [(32, ⟨0, 0, 0, 1, p1r + p2r, true, false⟩)]
  else [(32, ⟨0, 127, 0, 1, p2r, true, false⟩)]

/-- A gate after bring-up with no stored host entries (R537, R541). -/
def gate (g : Nat) : Gate :=
  { host := hostDefaults g, stored := [], denied := 0, lastGranule := 0, lastAccess := 0, lastLevel := 0,
    lastNone := false, lastMulti := false, lastTenant := 0, lastNoTenant := false, lastFirst := 0, lastTime := 0,
    recent := [] }

/-- Periods of the privileged watchdogs in ns, R591. -/
def privPeriod (k : Nat) : Nat :=
  if k == 0 then 100000000 else if k ≤ 5 then 1000000 else 10000000

/-- The default of a setting, R38, R268, R307, R345, R415, R419, R475 and R476: unit, SETTING (number and channel). -/
def settingDefault (unit setting : Nat) : Int :=
  let no := setting / 256
  if unit == 0 then (if no == 2 then 15 else if no == 3 then 16384 else 0)
  else if 0x10 ≤ unit && unit ≤ 0x17 then (if no == 4 then 10000 else 0)
  else if 0x20 ≤ unit && unit ≤ 0x23 then
    (if no == 3 then 500 else if no == 4 then 80 else if no == 6 then 75 else if no == 7 then 8 else 0)
  else if unit == 0x30 then (if no == 2 then 1000 else 0)
  else if unit == 0x31 then (if no == 2 then 100 else 0)
  else if unit == 0x40 || unit == 0x41 then
    (if no == 2 then 2 else if no == 4 then (if unit == 0x41 then 1 else 0) else if no == 6 || no == 7 then 128
     else if no == 10 then 3 else if no == 12 then 3 else 0)
  else if unit == 0x42 then
    (if no == 2 then 1 else if no == 3 then 10 else if no == 4 then 1 else if no == 7 then 100
     else if no == 8 then 37 else 0)
  else if unit == 0x50 then (if no == 3 then 16 else if no == 5 then 300 else 0)
  else if unit == 0x60 then (if no == 1 || no == 2 then 1 else if no == 4 then 30 else 0)
  else if unit == 0x70 then 60
  else 0

/-- The source address of a port's frames, out of the module's address block (R273). The spec does not say which address it is, so nothing is
known of this function; its arguments are the module's serial number and the port. -/
opaque portAddress : Nat → Nat → BitVec 48

/-- The ring time of a station alarm as its ALARM-FETCH response gives it. The layout of that response is station-defined
and the spec does not state it (R69, R312), so nothing is known of this function. -/
opaque alarmStamp : List Byte → Nat

/-- The SHA-256 digest of bytes, R240 and R559: the function of FIPS 180, whose arithmetic the spec does not give. -/
opaque sha256 : List Byte → BitVec 256

/-- The lantern program that the bytes of firmware part 7 spell, R558: the spec does not lay that part out. -/
opaque lanternPart : List Byte → Option Version

/-- The credits of the link classes, R340. -/
def linkCredits : List Nat := [8, 1024, 1024, 256, 128]

end Sys2Proof.Config
end

