-- ==== Sys2Proof/Machine/State.lean ====
section
/-! DEFINITION. The state of the module: every register, window, buffer, counter, mode and contact that the spec gives
it, put together from the parts of Sys2Proof.Parts, and the queue of the commands that wait. The reasons a step can stop
and the state after reset stand here too. -/
namespace Sys2Proof.Machine

/-- Nothing in the spec stops the module: a task fault is state of the task (R193), a refused request is a reply
(R439), a module fault is a change of state (R372), and loss of power is a state in which every command is idle. So
there is no fault. -/
inductive Fault where
  deriving DecidableEq, Repr

/-- Why a command has no meaning. -/
inductive Refusal where
  /-- Raised by Dispatch for a command that this model gives no meaning yet; safe, the run stops. -/
  | notModelled (mnemonic : String)
  deriving DecidableEq, Repr

/-- The clocks every rule measures with: TB-LOCAL in ns (R407), ring time as this module holds it (R424), and the last
tick of ring time that ran (R270). -/
structure Clock where
  local_ : Nat
  ring : Nat
  tick : Nat
  deriving DecidableEq, Repr

/-- The process image, R328, R329 and R324: the baseline bytes (unlisted addresses read 0), the COMMITTED entries of
the publication logs, the published input image with its qualities. -/
structure Image where
  base : List Host.Cell
  log : List LogEnt
  inputs : List SigVal
  deriving DecidableEq, Repr

/-- What a request brings beside its datagram: a verdict of the signature engine, a decoded program, the findings of a verification. -/
inductive Brought where
  | none
  | flag (ok : Bool)
  | version (v : Version)
  | verify (sigOk : Bool) (badHash : Nat) (peerAgrees : Bool)
  deriving DecidableEq, Repr

/-- A request that waits for its turn in its session (R441). -/
structure Waiting where
  op : Nat
  req : Req
  brought : Brought
  deriving DecidableEq, Repr

/-- A session, R446 to R450. Requests that arrive while a command of the session executes wait, and execute in the order of their
arrival (R441); `ready` is the sequence of the one whose turn has come. -/
structure Session where
  no : Nat
  isOpen : Bool
  priv : Nat
  moduleWide : Bool
  tenantFirst : Nat
  tenantLast : Nat
  commissioning : Bool
  chainSent : Bool
  highest : Nat
  accepted : List Nat
  stored : List Stored
  openedAt : Nat
  lastAt : Nat
  key : BitVec 256
  serials : List Word
  ready : Option Nat
  waiting : List Waiting
  deriving DecidableEq, Repr

/-- Gelit reception and what it sends, R436 to R450. -/
structure Gelit where
  sessions : List Session
  replies : List Reply
  noSession : List (Word × Nat)
  deriving DecidableEq, Repr

/-- The state of the module. -/
structure State where
  ident : Ident
  clk : Clock
  mode : ModState
  cause : Cause
  settings : Settings
  strands : List StrandSt
  vcore : Vcore
  crossings : List (Nat × Crossing)
  tenants : List (Nat × Tenant)
  tasks : List (Nat × Task)
  change : Change
  forces : List Force
  forceReqs : List ForceReq
  hostWrites : List HostWrite
  dbg : Option DebugSt
  image : Image
  rings : List Ring
  ports : List Port
  acyc : List (Nat × Acyc)
  cyclicTags : List CycTag
  link : Link
  pair : Pair
  fires : List FireWait
  peerFires : List FireWait
  checks : List CheckWait
  feeds : Feeds
  front : Front
  lantern : Lantern
  time : TimeUnit
  gelit : Gelit
  io : LocalIo
  hart : List HartCh
  can : List CanCtl
  gates : List Gate
  gateWrites : List GateWrite
  keys : KeyUnit
  reader : Reader
  update : Update
  saved : Option Transfer
  slot : Option Slot
  almanac : Almanac
  counters : List Counter
  privWds : List PrivWd
  tap : Tap
  cmBlock : List Byte
  pending : List Instr
  deriving DecidableEq, Repr

/-- A time base at its origin. -/
def baseZero : Base := ⟨0, 0, 0⟩

/-- A PTP domain after reset: DISABLED, every field 0 (R434). -/
def domainReset : Domain :=
  { portState := 3, locked := false, holdover := false, activePort := 0, utcValid := false, leap61 := false,
    leap59 := false, gmClass := 0, steps := 0, gmIdentity := 0, offset := 0, meanPath := 0, utcOffset := 0,
    stepsRemoved := 0, base := baseZero, good := 0, bad := 0, foreign := [], master := none, lastAnnounce := none,
    outSince := none, lockedSince := none, twoStep := none, delaySent := none, seqSync := 0, seqAnnounce := 0,
    seqDelay := 0 }

/-- A CAN controller after reset: OFF, every word 0, every filter DISABLED (R511, R526). -/
def canReset : CanCtl :=
  { state := 0, serving := false, given := false, redundant := false, timeMaster := false, ttSync := false, xcvrFault := false,
    rateFound := false, tec := 0, rec_ := 0, detNominal := 0, detData := 0, txOk := 0, retransmissions := 0,
    txLost := 0, rxOk := 0, rxOverflow := 0, errorFrames := 0, busOffs := 0, violations := 0, lastViolation := 0,
    lastViolationXtd := false, refMissing := 0, cycleCount := 0, masterPriority := 0, basicCycles := 0,
    lastRef := none, missedRefs := 0, filters := [], queues := List.replicate 8 [], newest := [], published := [],
    sending := [], mirrors := [], sched := none, failRun := 0, matched := 0, missed := 0,
    rateIndex := 0, rateFrames := 0, dataPhase := false, violationIds := [], longLoops := 0 }

/-- A HART channel after reset. -/
def hartReset : HartCh := ⟨false, none, [], [], [], 0⟩

/-- A ring after reset: no station table, nothing known (R296, R305). -/
def ringReset : Ring :=
  { table := [], loading := none, staged := none, stations := [], delays := [], cut := none, acycNext := 0,
    closureDelay := 0, closureAt := none, lateRun := false, lateAt := 0, discovered := none, grants := [], backgroundAt := none, placed := [] }

/-- The change status after reset: IDLE, every word 0 (R239). -/
def changeReset : Change :=
  { state := 0, tenant := 0, lastResult := 0, detail := 0, failOffset := 0, switchAt := 0, confirmed := false,
    pendingTasks := [], clamped := 0, clampedEntries := [], version := none, win := ⟨0, 0, 0, 0, 0, 0, 0⟩, image := 0,
    versionBytes := [], versionLast := false, mapBytes := [], mapLast := false, map := [], plan := [], session := 0 }

/-- The update unit after reset: IDLE (R574). LOADER_VERSION is factory data; 1 is the model's choice. -/
def updateReset : Update :=
  { state := 0, pairStep := 0, lastResult := 0, part := 0, scopePair := false, endCause := 0, targetGen := 0,
    bytes := 0, loader := 1, session := none, manifest := [], manifestDone := false, parts := [], partsDone := [],
    retryFrom := none, bridgeList := [], hashes := [], bridge := false, recordSeq := 0, retain := none,
    retainTasks := [], ownSlot := false, fetchFrom := none }

/-- The pair after reset: every HEALTH bit 0 (R376). -/
def pairReset : Pair :=
  { epoch := 0, stored := 0, ownerSide := .a, peerHealth := 0, peerEpoch := 0, peerHealthy := false, peerClaim := false,
    linkSilent := false, discSilent := false, ringSilent := false, lastLink := none, lastDisc := none,
    lastRing := none, linkWasSilent := false, handover := none, handoverPulse := false, holdoffFrom := none,
    holdoffDue := false, join := none, raiseTo := none, joinAborts := 0, synchronised := false,
    standbySince := none, lastDivergence := none, divergence := false, ingressOverrun := false,
    dualOwnership := false, unagreedAt := none, unagreedRun := false, faultBudgetOrIngress := false,
    faultAt := none, autoRejoinAt := none, selftestRound := 0, laneTestFail := false, patternFail := false,
    scrubCorrected := false, corrected := 0, memoryUncorrectable := false, variantMismatch := false,
    proofTest := false, peerQuiesced := [], shareTick := none, eqLate := 0, eqSkipped := 0, peerIdent := none, peerFree := [] }

/-- The time unit after reset, R434: every base reads 0, every status 0, 16 alarms disabled (R432). -/
def timeReset : TimeUnit :=
  { domains := [domainReset, domainReset], plant := baseZero, plantValid := false, selected := 0,
    inLeap := false, utcOffset := 37, utcKnown := false, refValid := false, refLocked := false,
    refHoldover := false, ppsInPresent := false, ppsInLast := none, ppsInOffset := 0, ppsOut := false,
    ring := baseZero, ringMaster := false, ringPlant := false, ringHoldover := false, ringOffset := 0,
    ringFollow := 0, ringSeen := none, alarms := List.replicate 16 ⟨0, 0, 0, 0⟩,
    alarmDone := List.replicate 16 none, alarmHeld := [], plantLink := [false, false], out := [] }

/-- The local I/O after reset: AI and AO channels DISABLED, AO FULL_SHARE and RELEASED (R494, R498), DO off and
released (R393). -/
def ioReset : LocalIo :=
  { di := 0, doCmd := 0, doOn := 0, readback := 0, doMapped := 0, doReleased := 0xFFFF, doSilent := 0, thermal := 0,
    doFault := false, lplusOk := false, half := false, doRefreshed := none,
    ai := List.replicate 8 ⟨0, false, false, false, false, false⟩,
    ao := List.replicate 4 ⟨0, false, false, false, true, true, false, none⟩ }

/-- The key unit after reset: in commissioning (R546). The static key pair is random; 64 zero bytes stand for it. -/
def keysReset : KeyUnit :=
  { authority := none, moduleCert := none, staticKey := List.replicate 64 0, revoked := [], revoking := [], ops := [],
    lastResult := 0, lastTimeNs := 0 }

/-- The reader after reset: no key read or present (R549, R556). -/
def readerReset : Reader :=
  { nonce := [], challenging := false, answers := [], collided := [], identified := [], selected := none,
    received := none, verdicts := [], retries := 0, flooded := false, floods := 0, failed := [], lockout := false,
    quietFrom := none, waitQuiet := false, present := none }

/-- The machine right after reset: what is present when the module enters LANTERN, as 00_scope.md says of its column After reset; every field at the
value the spec gives for it, and otherwise at the value that the assumption log names. -/
def State.reset : State :=
  { ident := ⟨.nk960, 2, 0, 0, 0, 0⟩
    clk := ⟨0, 0, 0⟩
    mode := .lantern
    cause := .none
    settings := ⟨[], [], []⟩
    strands := List.replicate 16 StrandSt.reset
    vcore := ⟨0, 0, false, false, false, none, none, none, false, none, false⟩
    crossings := []
    tenants := []
    tasks := []
    change := changeReset
    forces := []
    forceReqs := []
    hostWrites := []
    dbg := none
    image := ⟨[], [], []⟩
    rings := List.replicate 4 ringReset
    ports := List.replicate 8 Port.reset
    acyc := []
    cyclicTags := []
    link := ⟨false, false, Config.linkCredits.map fun c => ⟨c, []⟩, [], 0, 0⟩
    pair := pairReset
    fires := []
    peerFires := []
    checks := []
    feeds := ⟨false, false, true, true⟩
    front := ⟨true, 0, false, false, false, false, true, false, false, true, 0, .a, true⟩
    lantern := ⟨.bringup, .none, false, false, false, none, true, none, none, false, false, 0, false, 0, 0, 0, none, false, none⟩
    time := timeReset
    gelit := ⟨[], [], []⟩
    io := ioReset
    hart := List.replicate 12 hartReset
    can := List.replicate 4 canReset
    gates := (List.range 16).map Config.gate
    gateWrites := []
    keys := keysReset
    reader := readerReset
    update := updateReset
    saved := none
    slot := none
    almanac := ⟨[], 0, 1, 0, 0⟩
    counters := Config.counters .nk960
    privWds := List.replicate 8 ⟨0, 0, 0, 0, 0, false, 0, false⟩
    tap := ⟨3, 3, [], [], 0, 0, false, false, false, false, false⟩
    cmBlock := []
    pending := [] }

end Sys2Proof.Machine
end

