-- ==== Sys2Proof/WellFormed.lean ====
section
/-! DEFINITION. Which commands are well formed: every operand lies in the range of the field or number that the spec
gives it. A command that is not well formed is one that nothing in the spec can send. -/
namespace Sys2Proof
open Machine

/-- The module task numbers of R61, and 2,048 for the lantern task. -/
def wfTask (n : Nat) : Bool := decide (n ≤ 2048)

/-- A tenant number of R57. -/
def wfTenant (n : Nat) : Bool := decide (n < 512)

/-- A station position of R265. -/
def wfStation (n : Nat) : Bool := decide (n < 256)

/-- A strand number of R2. -/
def wfStrand (n : Nat) : Bool := decide (n < 16)

/-- A unit identity of 8 bits. -/
def wfUnit (n : Nat) : Bool := decide (n < 256)

/-- An event source of R68. -/
def wfSource (n : Nat) : Bool := decide (n < 1024)

/-- A 32-bit number. -/
def wf32 (n : Nat) : Bool := decide (n < 4294967296)

/-- A 64-bit number. -/
def wf64 (n : Nat) : Bool := decide (n < 18446744073709551616)

/-- A 16-bit number. -/
def wf16 (n : Nat) : Bool := decide (n < 65536)

/-- A byte. -/
def wf8 (n : Nat) : Bool := decide (n < 256)

/-- The lane of a task. -/
def Machine.Exec.wf (x : Exec) : Bool := wfTask x.task

/-- A datagram whose header fields have the widths of R437, with the payload between its header and its tag. -/
def Machine.Req.wf (r : Req) : Bool :=
  wf16 r.udpLen && wf8 r.version && wf8 r.flags && wf16 r.length && wf32 r.session && wf32 r.seq && wf16 r.tenant
    && wf16 r.status && wf16 r.rsvd && r.payload.length == r.udpLen - 36

/-- A ring header whose fields have the widths of R274. -/
def Machine.RingHdr.wf (h : RingHdr) : Bool :=
  decide (h.port < 8) && wf16 h.etherType && wf8 h.version && wf8 h.frameType && wf32 h.epoch && decide (h.ring < 4)
    && wf64 h.tick && wf16 h.sourcePos

/-- Is the command well formed? -/
def Instr.wf : Instr → Bool
  | .opLd x _ => x.wf
  | .opLdn x _ => x.wf
  | .opAnd x _ => x.wf
  | .opAndn x _ => x.wf
  | .opOr x _ => x.wf
  | .opOrn x _ => x.wf
  | .opXor x _ => x.wf
  | .opXorn x _ => x.wf
  | .opSt x _ => x.wf
  | .opStn x _ => x.wf
  | .opSetb x _ => x.wf
  | .opRstb x _ => x.wf
  | .opAndp x _ => x.wf
  | .opAndnp x _ => x.wf
  | .opOrp x _ => x.wf
  | .opOrnp x _ => x.wf
  | .opXorp x _ => x.wf
  | .opXornp x _ => x.wf
  | .opNot x _ => x.wf
  | .opSet1 x _ => x.wf
  | .opClr0 x _ => x.wf
  | .opLdwb x _ => x.wf
  | .opStwb x _ => x.wf
  | .opLdqg x _ => x.wf
  | .opLdqu x _ => x.wf
  | .opTgl x _ => x.wf
  | .opBpush x _ => x.wf
  | .opBpeek x _ => x.wf
  | .opBpop x _ => x.wf
  | .opClose x _ => x.wf
  | .opNop x _ => x.wf
  | .opJmp x _ => x.wf
  | .opJmpc x _ => x.wf
  | .opJmpcn x _ => x.wf
  | .opCall x _ => x.wf
  | .opCallc x _ => x.wf
  | .opCallcn x _ => x.wf
  | .opRet x _ => x.wf
  | .opRetc x _ => x.wf
  | .opRetcn x _ => x.wf
  | .opFor x _ _ => x.wf
  | .opForw x _ _ => x.wf
  | .opNext x _ => x.wf
  | .opLeave x _ => x.wf
  | .opLidx x _ => x.wf
  | .opSegment x _ => x.wf
  | .opEnd x _ => x.wf
  | .opEndc x _ => x.wf
  | .opWdserv x _ => x.wf
  | .opEvpost x _ => x.wf
  | .opAgree x _ => x.wf
  | .opImmin x _ => x.wf
  | .opImminw x _ => x.wf
  | .opImmout x _ => x.wf
  | .opImmoutw x _ => x.wf
  | .opLdw x _ => x.wf
  | .opStw x _ => x.wf
  | .opLdk x _ => x.wf
  | .opLdkh x _ => x.wf
  | .opAdd x _ => x.wf
  | .opSub x _ => x.wf
  | .opMul x _ => x.wf
  | .opDiv x _ => x.wf
  | .opMod x _ => x.wf
  | .opAddu x _ => x.wf
  | .opSubu x _ => x.wf
  | .opNeg x _ => x.wf
  | .opAbs x _ => x.wf
  | .opAndw x _ => x.wf
  | .opOrw x _ => x.wf
  | .opXorw x _ => x.wf
  | .opNotw x _ => x.wf
  | .opShlw x _ => x.wf
  | .opShrw x _ => x.wf
  | .opSarw x _ => x.wf
  | .opRolw x _ => x.wf
  | .opEq x _ => x.wf
  | .opNe x _ => x.wf
  | .opLt x _ => x.wf
  | .opLe x _ => x.wf
  | .opGt x _ => x.wf
  | .opGe x _ => x.wf
  | .opLtu x _ => x.wf
  | .opGeu x _ => x.wf
  | .opMinw x _ => x.wf
  | .opMaxw x _ => x.wf
  | .opLimw x _ => x.wf
  | .opAddk x _ => x.wf
  | .opSelw x _ => x.wf
  | .opMovw x _ _ => x.wf
  | .opLdqw x _ => x.wf
  | .opTon x _ => x.wf
  | .opTof x _ => x.wf
  | .opTp x _ => x.wf
  | .opTonr x _ => x.wf
  | .opTrst x _ => x.wf
  | .opCtu x _ => x.wf
  | .opCtd x _ => x.wf
  | .opCtud x _ => x.wf
  | .opCrst x _ => x.wf
  | .opCldv x _ => x.wf
  | .opEdgep x _ => x.wf
  | .opEdgen x _ => x.wf
  | .opShfb x _ _ => x.wf
  | .opShfw x _ _ => x.wf
  | .opFadd x _ => x.wf
  | .opFsub x _ => x.wf
  | .opFmul x _ => x.wf
  | .opFdiv x _ => x.wf
  | .opFsqrt x _ => x.wf
  | .opFlt x _ => x.wf
  | .opFeq x _ => x.wf
  | .opItof x _ => x.wf
  | .opFtoi x _ => x.wf
  | .opDadd x _ _ => x.wf
  | .opDsub x _ _ => x.wf
  | .opDmul x _ _ => x.wf
  | .opDdiv x _ _ => x.wf
  | .opDsqrt x _ _ => x.wf
  | .opDlt x _ _ => x.wf
  | .opFtod x _ _ => x.wf
  | .opDtof x _ _ => x.wf
  | .opPid x _ => x.wf
  | .opLag x _ => x.wf
  | .opRlim x _ => x.wf
  | .undefinedOpcode x _ _ => x.wf
  | .tick _ => true
  | .cycleStart task => wfTask task
  | .eventTaskStart task => wfTask task
  | .fireReport source time => wfSource source && wf64 time
  | .fireMatchTimeout source => wfSource source
  | .inputFrame f => f.hdr.wf
  | .snapshotClose task => wfTask task
  | .stationDigest task cycle ring station _ => wfTask task && wf64 cycle && decide (ring < 4) && wfStation station
  | .copyRequest task cycle ring station => wfTask task && wf64 cycle && decide (ring < 4) && wfStation station
  | .stationCopy task cycle _ => wfTask task && wf64 cycle
  | .agreementTimeout task => wfTask task
  | .squashedCoprocComplete x => x.wf
  | .transit task t => wfTask task && wf64 t
  | .laneStall task => wfTask task
  | .releaseCheckpoint strand _ => wfStrand strand
  | .immediateFrameSend _ => true
  | .acyclicFrameSend _ => true
  | .budgetOverrun task => wfTask task
  | .publicationInstant task => wfTask task
  | .inputPublication task => wfTask task
  | .writeSet _ => true
  | .writeSetRequest task cycle => wfTask task && wf64 cycle
  | .overrunNotice task cycle => wfTask task && wf64 cycle
  | .faultNotice task cycle => wfTask task && wf64 cycle
  | .frameDisplacedNotice n => wfTenant n.tenant && wf64 n.at_
  | .earlyServiceNotice task cycle => wfTask task && wf64 cycle
  | .expiryNotice task => wfTask task
  | .watchdogExpiry task => wfTask task
  | .privilegedWatchdogExpiry _ _ _ => true
  | .paceProbeRun strand _ _ => wfStrand strand
  | .runPaceWindow strand _ _ => wfStrand strand
  | .vcoreRegulatorStep t => wf64 t
  | .marginCheckStart => true
  | .marginCheckEnd => true
  | .vcoreSupplyFault _ => true
  | .islandWake unit => wfUnit unit
  | .islandWakeFail unit => wfUnit unit
  | .crossingResetNotice unit => wfUnit unit
  | .crossingReopen side => wfUnit side.unit
  | .changeSwitch => true
  | .switchAtConfirm instant => wf64 instant
  | .changeConfirmDeadline => true
  | .forceEffective => true
  | .forceTableExchange _ => true
  | .hostWriteEffective => true
  | .pairSettingsApply => true
  | .stationTableApply _ => true
  | .gateEntryApply => true
  | .revocationApply => true
  | .discoverSend _ => true
  | .discoverResponse f => f.hdr.wf
  | .segmentDelayMeasure _ _ => true
  | .backgroundCycle _ => true
  | .acycResponseFrame f => f.hdr.wf
  | .acyclicRetry _ => true
  | .acyclicMirror _ => true
  | .resyncTimeout _ station => wfStation station
  | .portLinkChange _ _ => true
  | .portLoopbackTest _ _ => true
  | .partnerRingFrame f => f.hdr.wf
  | .closureHeartbeat hdr _ stored _ => hdr.wf && wf32 stored
  | .closureDelayMeasure _ _ _ _ _ => true
  | .linkHeartbeat _ epoch _ _ _ => wf32 epoch
  | .linkFrameResend _ _ _ => true
  | .linkLossOfLock _ => true
  | .linkReset => true
  | .scrubberRepair _ => true
  | .memoryUncorrectable => true
  | .feedLost _ => true
  | .feedRestored _ => true
  | .pathSilent _ => true
  | .healthyLost => true
  | .healthyPresent => true
  | .ownerClaimChange _ => true
  | .handoverPulse => true
  | .handoverProposal h epoch => wf64 h && wf32 epoch
  | .handoverAck epoch => wf32 epoch
  | .handoverTick => true
  | .handoverCancel => true
  | .revertHoldoffExpiry => true
  | .leavingNotice => true
  | .joinRequest ask => wf32 ask.stored
  | .stateTransfer _ => true
  | .joinComplete _ => true
  | .joinTimeout => true
  | .identityRead _ => true
  | .autoRejoin _ => true
  | .patternTest strand _ => wfStrand strand
  | .proofTestDone _ => true
  | .shareChange _ => true
  | .feedSwitchClose _ => true
  | .seatedMade => true
  | .seatedLost => true
  | .leverOpen => true
  | .leverClose => true
  | .slotIdChange _ _ _ => true
  | .lampTestEnd => true
  | .loaderDone _ _ _ _ _ => true
  | .bringupComplete => true
  | .bringupPhaseOverrun => true
  | .partFetchDone _ _ => true
  | .partFetchTimeout => true
  | .lanternCycle => true
  | .activationDone _ => true
  | .updateHandoverRetry => true
  | .retainImageWrite => true
  | .updateChunkForward _ _ _ _ => true
  | .almanacFlashCopy _ => true
  | .ref10mValid => true
  | .ref10mLost => true
  | .ptpSync _ _ _ => true
  | .ptpFollowUp _ _ _ => true
  | .ptpAnnounce _ _ _ => true
  | .ptpDelayReq _ _ => true
  | .ptpDelayResp _ _ => true
  | .ptpPdelayReq _ _ => true
  | .ptpPdelayResp _ _ => true
  | .ptpPdelayRespFollowUp _ _ => true
  | .ptpSyncInterval _ => true
  | .ptpAnnounceInterval _ => true
  | .ptpDelayInterval _ => true
  | .announceReceiptTimeout _ => true
  | .selectDelayExpiry => true
  | .leapSecond _ => true
  | .ringTimeHoldover => true
  | .ppsOutEdge => true
  | .ppsOutFall => true
  | .ppsInEdge t => wf64 t
  | .ppsInLoss => true
  | .timeAlarm _ => true
  | .diEdge _ _ t => wf64 t
  | .outputStageSilence => true
  | .doThermalShutdown _ => true
  | .doThermalRestart _ => true
  | .doFaultSet => true
  | .doFaultClear => true
  | .aiStatusChange _ _ _ => true
  | .aoLoopLow _ => true
  | .openLoop _ _ => true
  | .hartResponse _ _ _ => true
  | .hartAttemptTimeout _ _ => true
  | .hartMirror _ => true
  | .hartReplyHoldExpiry _ => true
  | .canFrameReceived _ _ _ _ t => wf64 t
  | .canTxComplete _ _ => true
  | .canTxError _ _ => true
  | .canBusOff _ => true
  | .canBusOffRecovery _ => true
  | .dominantTimeout _ => true
  | .canMirror _ _ => true
  | .rateDetectTimeout _ => true
  | .basicCycleStart _ _ => true
  | .referenceWatchTimeout _ => true
  | .ttWindow _ _ => true
  | .periodMs _ _ => true
  | .ttSyncLoss _ => true
  | .keyChallenge _ => true
  | .tagSerialAnswer _ _ _ => true
  | .keySlotsEnd => true
  | .credential _ => true
  | .keyVerifyDone => true
  | .lightFlooding => true
  | .floodQuiet => true
  | .keyLockoutEnd => true
  | .keyHoldExpiry => true
  | .signatureOperationDone _ _ => true
  | .sessionIdleExpiry session => wf32 session
  | .halfOpenExpiry session => wf32 session
  | .quiesceLeaseExpiry unit => wfUnit unit
  | .reassemblyTimeout _ => true
  | .unknownOpcode r op => r.wf && wf16 op
  | .sessionOpen r _ => r.wf
  | .sessionConfirm r _ => r.wf
  | .sessionClose r => r.wf
  | .moduleIdentity r => r.wf
  | .moduleCapability r => r.wf
  | .moduleState r => r.wf
  | .moduleTestHold r => r.wf
  | .moduleRestart r => r.wf
  | .funcQuiesce r => r.wf
  | .funcStage r => r.wf
  | .funcRestart r => r.wf
  | .funcDiscard r => r.wf
  | .funcRead r => r.wf
  | .funcStatus r => r.wf
  | .progLoadBegin r => r.wf
  | .progLoadWrite r => r.wf
  | .progLoadCheck r _ => r.wf
  | .progStart r => r.wf
  | .progStop r => r.wf
  | .progUnload r => r.wf
  | .progTenantStatus r => r.wf
  | .progChangeBegin r => r.wf
  | .progChangeWrite r => r.wf
  | .progChangeCheck r _ => r.wf
  | .progChangeArm r => r.wf
  | .progChangeAbort r => r.wf
  | .progChangeStatus r => r.wf
  | .progLanternLoad r _ => r.wf
  | .dataRead r => r.wf
  | .dataReadProvisional r => r.wf
  | .dataWrite r => r.wf
  | .forceSet r => r.wf
  | .forceClear r => r.wf
  | .forceClearAll r => r.wf
  | .forceList r => r.wf
  | .ringReadStatus r => r.wf
  | .ringLoadConfig r => r.wf
  | .ringReadStation r => r.wf
  | .acyclicRead r => r.wf
  | .acyclicWrite r => r.wf
  | .alarmFetch r => r.wf
  | .ringAcyclicAbort r => r.wf
  | .pairStatus r => r.wf
  | .pairAssume r => r.wf
  | .pairHandover r => r.wf
  | .pairRejoin r _ => r.wf
  | .pairHealthAck r => r.wf
  | .pairProofTest r => r.wf
  | .timeRead r => r.wf
  | .timeDomainStatus r => r.wf
  | .timeSetPlant r => r.wf
  | .timeAlarmWrite r => r.wf
  | .timeAlarmRead r => r.wf
  | .localRead r => r.wf
  | .hartTransact r => r.wf
  | .canStatus r => r.wf
  | .canFilterWrite r => r.wf
  | .canFilterRead r => r.wf
  | .canSend r => r.wf
  | .canReceive r => r.wf
  | .canScheduleWrite r => r.wf
  | .secGateRead r => r.wf
  | .secGateWrite r => r.wf
  | .secAuthorityInstall r _ => r.wf
  | .secModuleCertInstall r _ => r.wf
  | .secRevoke r => r.wf
  | .secKeyStatus r => r.wf
  | .updateBegin r => r.wf
  | .updateWrite r => r.wf
  | .updateVerify r _ _ _ => r.wf
  | .updateActivateModule r => r.wf
  | .updateActivatePair r => r.wf
  | .updateAbort r => r.wf
  | .updateStatus r => r.wf
  | .almanacRead r => r.wf
  | .almanacClear r _ => r.wf
  | .almanacStatus r => r.wf
  | .diagCounterRead r => r.wf
  | .diagCounterSelect r => r.wf
  | .diagWatchdogRead r => r.wf
  | .diagStrandStatus r => r.wf
  | .diagTaskSpec r => r.wf
  | .diagDisplacedRead r => r.wf
  | .diagTagRead r => r.wf
  | .debugOpen r => r.wf
  | .debugHalt r => r.wf
  | .debugStep r => r.wf
  | .debugRun r => r.wf
  | .debugSetBreak r => r.wf
  | .debugClearBreak r => r.wf
  | .debugRead r => r.wf
  | .debugWrite r => r.wf
  | .debugClose r => r.wf
  | .cmWrite _ _ => true
  | .cmBlockRefresh _ _ _ => true
  | .tapReset => true
  | .extest _ => true
  | .sample _ => true
  | .preload _ => true
  | .idcode => true
  | .clamp => true
  | .highz => true
  | .extestPulse _ => true
  | .extestTrain _ => true
  | .ioloop => true
  | .scanguard => true
  | .bypass => true
  | .ref10mLocked => true
  | .privilegedWatchdogService _ t => wf64 t
  | .lossOfPower => true
  | .mainReferenceStop => true
  | .resetReleased => true
  | .stageFault _ _ => true
  | .plantPortLinkChange _ _ => true
  | .partFetchRequest => true
  | .identityRequest => true
  | .switchAtProposal instant => wf64 instant
  | .recomputeRequest tenant _ _ => wfTenant tenant
  | .recomputeResult _ => true
  | .commandMirror _ => true
  | .forwardedRequest _ => true
  | .eccPatrolPass _ _ => true
  | .seatedOpening => true
  | .updateDr _ => true
  | .captureDr _ _ _ => true

end Sys2Proof
end

