-- ==== Sys2Proof/Machine/Ops.lean ====
section
/-! DEFINITION. The named operations that every meaning uses: sparse maps, bytes and checksums, the process image, the
clocks and settings, almanac records, counters, event fires, link messages and replies. -/
namespace Sys2Proof.Machine

/-! ### Sparse maps, kept with rising keys -/

/-- The value under a key. -/
def NMap.get {α : Type} (m : List (Nat × α)) (k : Nat) : Option α := (m.find? fun e => e.1 == k).map (·.2)

/-- The map with a key's value replaced or added in its place. -/
def NMap.set {α : Type} : List (Nat × α) → Nat → α → List (Nat × α)
  | [], k, v => [(k, v)]
  | e :: m, k, v => if k < e.1 then (k, v) :: e :: m else if k = e.1 then (k, v) :: m else e :: NMap.set m k v

/-- The map without a key. -/
def NMap.del {α : Type} (m : List (Nat × α)) (k : Nat) : List (Nat × α) := m.filter fun e => e.1 != k

/-- The map with the value under a key changed, if there is one. -/
def NMap.mod {α : Type} (m : List (Nat × α)) (k : Nat) (f : α → α) : List (Nat × α) :=
  m.map fun e => if e.1 = k then (e.1, f e.2) else e

/-- The list with one element changed, if it has that many. -/
def modAt {α : Type} : List α → Nat → (α → α) → List α
  | [], _, _ => []
  | a :: as, 0, f => f a :: as
  | a :: as, n + 1, f => a :: modAt as n f

/-- The first number from `n` on that a list does not hold, among the next `k`. -/
def firstFree (used : List Nat) : Nat → Nat → Nat
  | 0, n => n
  | k + 1, n => if used.contains n then firstFree used k (n + 1) else n

/-- Saturation at 32 bits. -/
def sat32 (n : Nat) : Nat := min n 4294967295

/-- One more, saturating at 32 bits. -/
def satInc (n : Nat) : Nat := sat32 (n + 1)

/-- A Bool as the word 1 or 0. -/
def boolWord (b : Bool) : Word := if b then 1 else 0

/-! ### Bytes and checksums -/

/-- The `k` big-endian bytes of a number. -/
def be : Nat → Nat → List Byte
  | 0, _ => []
  | k + 1, n => BitVec.ofNat 8 (n / 256 ^ k) :: be k n

/-- The number of big-endian bytes. -/
def ofBe (bs : List Byte) : Nat := bs.foldl (fun n b => n * 256 + b.toNat) 0

/-- `n` bytes from offset `off`, as a big-endian number; bytes beyond the end read as nothing. -/
def field (bs : List Byte) (off n : Nat) : Nat := ofBe ((bs.drop off).take n)

/-- The four little-endian bytes of a word (R11). -/
def leWord (w : Word) : List Byte := (List.range 4).map fun k => BitVec.ofNat 8 (w.toNat / 256 ^ k)

/-- The word of little-endian bytes. -/
def ofLe (bs : List Byte) : Nat := bs.foldr (fun b n => n * 256 + b.toNat) 0

/-- A two's-complement number in `n` bits. -/
def twos (n : Nat) (i : Int) : Nat := (i % (2 ^ n : Nat)).toNat

/-- Padding with zero bytes to a multiple of four (R440). -/
def pad4 (bs : List Byte) : List Byte := bs ++ List.replicate ((4 - bs.length % 4) % 4) 0

/-- One bit of the reflected CRC-32 of IEEE 802.3. -/
def crc32Bit (c : BitVec 32) : BitVec 32 := if c.getLsbD 0 then (c >>> 1) ^^^ 0xEDB88320#32 else c >>> 1

/-- One byte of it. -/
def crc32Byte (c : BitVec 32) (b : Byte) : BitVec 32 :=
  (List.range 8).foldl (fun c _ => crc32Bit c) (c ^^^ b.setWidth 32)

/-- CRC-32 with the IEEE 802.3 polynomial. -/
def crc32 (bs : List Byte) : Word := ~~~ (bs.foldl crc32Byte 0xFFFFFFFF#32)

/-- One bit of CRC-64 with the ECMA-182 polynomial, most significant bit first. -/
def crc64Bit (c : BitVec 64) : BitVec 64 := if c.msb then (c <<< 1) ^^^ 0x42F0E1EBA9EA3693#64 else c <<< 1

/-- One byte of it. -/
def crc64Byte (c : BitVec 64) (b : Byte) : BitVec 64 :=
  (List.range 8).foldl (fun c _ => crc64Bit c) (c ^^^ (b.setWidth 64 <<< 56))

/-- CRC-64 with the ECMA-182 polynomial (R203), starting from zero. -/
def crc64 (bs : List Byte) : BitVec 64 := bs.foldl crc64Byte 0

/-! ### The process image's bytes -/

/-- What an address that is not listed reads as. -/
def cellDefault : Byte := 0

/-- The byte at an address. -/
def Cells.read (m : List Host.Cell) (a : Nat) : Byte := (NMap.get m a).getD cellDefault

/-- The memory with one byte written: writing what an unlisted address reads as removes the entry. -/
def Cells.write (m : List Host.Cell) (a : Nat) (b : Byte) : List Host.Cell :=
  if b = cellDefault then NMap.del m a else NMap.set m a b

/-- The word at an address, little-endian (R11). -/
def Cells.readWord (m : List Host.Cell) (a : Nat) : Word :=
  BitVec.ofNat 32 (ofLe ((List.range 4).map fun k => Cells.read m (a + k)))

/-- The memory with a word written. -/
def Cells.writeWord (m : List Host.Cell) (a : Nat) (w : Word) : List Host.Cell :=
  (List.range 4).foldl (fun m k => Cells.write m (a + k) (BitVec.ofNat 8 (w.toNat / 256 ^ k))) m

/-- A list of bytes as memory, in canonical form. -/
def Cells.ofList (m : List (Nat × Byte)) : List Host.Cell := m.foldl (fun m e => Cells.write m e.1 e.2) []

/-- The canonical form: addresses strictly rising, no entry equal to what an unlisted address reads as. -/
def Cells.wf : List Host.Cell → Bool
  | [] => true
  | [e] => decide (e.2 ≠ cellDefault)
  | e :: f :: m => decide (e.2 ≠ cellDefault) && decide (e.1 < f.1) && Cells.wf (f :: m)

/-- A word with some of its bits replaced. -/
def overlay (old mask value : Word) : Word := (old &&& ~~~ mask) ||| (value &&& mask)

/-- The memory with `n` bytes from an address cleared. -/
def Cells.clear (m : List Host.Cell) (a n : Nat) : List Host.Cell :=
  m.filter fun e => !(decide (a ≤ e.1) && decide (e.1 < a + n))

/-- The published value of the word at an address for a reader that started at ring time `t` (R329): the baseline with
the COMMITTED entries whose publication instant is at or before `t` laid over it, oldest first. -/
def Image.wordAt (m : Image) (t addr : Nat) : Word :=
  m.log.foldl (fun w e => if e.addr = addr ∧ e.at_ ≤ t then overlay w e.mask e.value else w)
    (Cells.readWord m.base addr)

/-- A COMMITTED entry in its place: rising publication instants, and rising task numbers within one (R72). -/
def logInsert : List LogEnt → LogEnt → List LogEnt
  | [], e => [e]
  | f :: l, e => if e.at_ < f.at_ ∨ (e.at_ = f.at_ ∧ e.task < f.task) then e :: f :: l else f :: logInsert l e

/-- One entry folded into the baseline (R329). -/
def foldEntry (b : List Host.Cell) (e : LogEnt) : List Host.Cell :=
  Cells.writeWord b e.addr (overlay (Cells.readWord b e.addr) e.mask e.value)

/-- The entries whose instant is at or before `t` folded into the baseline and dropped from the log (R329). -/
def Image.fold (m : Image) (t : Nat) : Image :=
  { m with
    base := (m.log.filter fun e => decide (e.at_ ≤ t)).foldl foldEntry m.base
    log := m.log.filter fun e => decide (t < e.at_) }

/-! ### Parts of the state by number -/

/-- The state with one task changed. -/
def State.modTask (s : State) (n : Nat) (f : Task → Task) : State := { s with tasks := NMap.mod s.tasks n f }

/-- The state with one tenant changed. -/
def State.modTenant (s : State) (n : Nat) (f : Tenant → Tenant) : State :=
  { s with tenants := NMap.mod s.tenants n f }

/-- The task of a number. -/
def State.task (s : State) (n : Nat) : Option Task := NMap.get s.tasks n

/-- A tenant that holds nothing (FREE). -/
def Tenant.free : Tenant := ⟨.free, none, ⟨0, 0, 0, 0, 0, 0, 0⟩, 0, none, [], 0, false, none⟩

/-- A tenant; one that the map does not list is FREE. -/
def State.tenant (s : State) (n : Nat) : Tenant := (NMap.get s.tenants n).getD Tenant.free

/-- The state with one strand changed. -/
def State.modStrand (s : State) (n : Nat) (f : StrandSt → StrandSt) : State :=
  { s with strands := modAt s.strands n f }

/-- A strand's words. -/
def State.strand (s : State) (n : Nat) : StrandSt := (s.strands[n]?).getD StrandSt.reset

/-- The state with one ring changed. -/
def State.modRing (s : State) (n : Nat) (f : Ring → Ring) : State := { s with rings := modAt s.rings n f }

/-- A ring. -/
def State.ring (s : State) (n : Nat) : Ring := (s.rings[n]?).getD ringReset

/-- The state with one port changed. -/
def State.modPort (s : State) (n : Nat) (f : Port → Port) : State := { s with ports := modAt s.ports n f }

/-- A port. -/
def State.port (s : State) (n : Nat) : Port := (s.ports[n]?).getD Port.reset

/-- The state with one station's view changed; positions that nothing was known of are listed up to it. -/
def State.modStation (s : State) (ring pos : Nat) (f : StationView → StationView) : State :=
  s.modRing ring fun r =>
    { r with stations := modAt (r.stations ++ List.replicate (pos + 1 - r.stations.length) StationView.reset) pos f }

/-- A station's view. -/
def State.station (s : State) (ring pos : Nat) : StationView :=
  ((s.ring ring).stations[pos]?).getD StationView.reset

/-- The state with one controller changed. -/
def State.modCan (s : State) (k : Nat) (f : CanCtl → CanCtl) : State := { s with can := modAt s.can k f }

/-- A controller. -/
def State.ctl (s : State) (k : Nat) : CanCtl := (s.can[k]?).getD canReset

/-- The state with one PTP domain changed. -/
def State.modDomain (s : State) (d : Nat) (f : Domain → Domain) : State :=
  { s with time := { s.time with domains := modAt s.time.domains d f } }

/-- A PTP domain. -/
def State.domain (s : State) (d : Nat) : Domain := (s.time.domains[d]?).getD domainReset

/-- The state with the pair changed. -/
def State.modPair (s : State) (f : Pair → Pair) : State := { s with pair := f s.pair }

/-- The state with the local I/O changed. -/
def State.modIo (s : State) (f : LocalIo → LocalIo) : State := { s with io := f s.io }

/-- The state with the front and its contacts changed. -/
def State.modFront (s : State) (f : Front → Front) : State := { s with front := f s.front }

/-- The state with the lantern unit changed. -/
def State.modLantern (s : State) (f : Lantern → Lantern) : State := { s with lantern := f s.lantern }

/-- The state with the time unit changed. -/
def State.modTime (s : State) (f : TimeUnit → TimeUnit) : State := { s with time := f s.time }

/-- The state with the update unit changed. -/
def State.modUpdate (s : State) (f : Update → Update) : State := { s with update := f s.update }

/-- The state with the key reader changed. -/
def State.modReader (s : State) (f : Reader → Reader) : State := { s with reader := f s.reader }

/-- The state with the key unit changed. -/
def State.modKeys (s : State) (f : KeyUnit → KeyUnit) : State := { s with keys := f s.keys }

/-- The state with the core supply changed. -/
def State.modVcore (s : State) (f : Vcore → Vcore) : State := { s with vcore := f s.vcore }

/-- VCORE_CODE set; PACE_LOW stands at 40 alone (R35). -/
def State.setCode (s : State) (n : Nat) : State :=
  { s with
    vcore := { s.vcore with code := n }
    strands := if n = 40 then s.strands else s.strands.map fun x => { x with paceLow := false } }

/-- VCORE at 0.70 V, as R40 holds it; a margin check under way runs to its end. -/
def State.restVcore (s : State) : State := if s.vcore.marginRun then s else s.setCode 0

/-- The state with the partner link changed. -/
def State.modLink (s : State) (f : Link → Link) : State := { s with link := f s.link }

/-- The state with the online change changed. -/
def State.modChange (s : State) (f : Change → Change) : State := { s with change := f s.change }

/-- The state with the test access port changed. -/
def State.modTap (s : State) (f : Tap → Tap) : State := { s with tap := f s.tap }

/-- The state with the feeds changed. -/
def State.modFeeds (s : State) (f : Feeds → Feeds) : State := { s with feeds := f s.feeds }

/-- The state with the configuration store changed. -/
def State.modSettings (s : State) (f : Settings → Settings) : State := { s with settings := f s.settings }

/-! ### Clocks and settings -/

/-- The value of a time base at an instant of TB-LOCAL, its rate in 0.001 ppm, to the nearest nanosecond (R408, R434). -/
def Base.valueAt (b : Base) (t : Nat) : Int :=
  (t : Int) + b.offset + (b.rate * ((t : Int) - b.at_) + 500000000) / 1000000000

/-- A base whose value at `t` is `v`, running at a rate of its own. -/
def Base.setAt (t : Nat) (v rate : Int) : Base := ⟨v - t, rate, t⟩

/-- Ring time at an instant of TB-LOCAL (R425, R426): on its master the master base less RING_OFFSET, elsewhere as followed. -/
def State.ringAt (s : State) (t : Nat) : Nat :=
  if s.time.ringMaster then ((if s.time.ringPlant then s.time.plant.valueAt t else (t : Int)) - s.time.ringOffset).toNat
  else (s.time.ring.valueAt t).toNat

/-- TB-LOCAL moved forward to an instant, and ring time with it; a past instant moves nothing. -/
def State.advanceTo (s : State) (t : Nat) : State :=
  if s.clk.local_ < t then { s with clk := { s.clk with local_ := t, ring := max s.clk.ring (s.ringAt t) } } else s

/-- The earlier of two figures, where there are any. -/
def minOpt (a : Option Nat) (b : Nat) : Option Nat := some (match a with | some x => min x b | none => b)

/-- The next multiple of 50 µs of ring time at or after an instant (R270). -/
def tickAtOrAfter (t : Nat) : Nat := (t + 49999) / 50000 * 50000

/-- The first tick at least `d` ns after now, in ring time. -/
def State.tickIn (s : State) (d : Nat) : Nat := tickAtOrAfter (s.clk.ring + d)

/-- The value of a setting (R475, R476). -/
def State.setting (s : State) (unit no ch : Nat) : Int :=
  (NMap.get s.settings.values (unit * 65536 + no * 256 + ch)).getD (Config.settingDefault unit (no * 256 + ch))

/-- The value of a setting that is never negative. -/
def State.settingNat (s : State) (unit no ch : Nat) : Nat := (s.setting unit no ch).toNat

/-- PAIR_MODE is SOLO (R345). -/
def State.solo (s : State) : Bool := s.setting 0x60 1 0 == 0

/-- FEED_MODE is DUAL (R345). -/
def State.feedDual (s : State) : Bool := s.setting 0x60 2 0 == 1

/-- The preferred side (R345). -/
def State.preferred (s : State) : Side := if s.setting 0x60 3 0 == 1 then .b else .a

/-- AUTO_START is ON (R345). -/
def State.autoStart (s : State) : Bool := s.setting 0x60 5 0 == 1

/-- The quiesce that holds a unit on this module (R470). -/
def State.quiesce (s : State) (unit : Nat) : Option Quiesced := s.settings.quiesced.find? fun q => q.unit == unit

/-- Is a unit quiesced on this module? -/
def State.isQuiesced (s : State) (unit : Nat) : Bool := (s.quiesce unit).isSome

/-- This module owns: OWNER, or TEST-HOLD, which computes as a solo owner (R399). -/
def State.owns (s : State) : Bool := s.mode == .owner || s.mode == .testHold

/-- The state code in the partner's HEALTH word (R376). -/
def State.peerState (s : State) : Nat := (s.pair.peerHealth.extractLsb' 0 3).toNat

/-- SYNCHRONISED in the partner's HEALTH word. -/
def State.peerSync (s : State) : Bool := s.pair.peerHealth.getLsbD 5

/-- The fault bits of R376 in a HEALTH word: SUPPLY_FAULT, PACE_LOW, PROBE_FAULT, STRAND_RETIRED, LANE_TEST_FAIL,
PATTERN_FAIL, MEMORY_UNCORRECTABLE. -/
def healthFaults (h : BitVec 64) : Bool :=
  h.getLsbD 43 || h.getLsbD 33 || h.getLsbD 34 || h.getLsbD 35 || h.getLsbD 28 || h.getLsbD 31 || h.getLsbD 30

/-- The partner is in STANDBY with SYNCHRONISED set. -/
def State.peerStandbySync (s : State) : Bool := s.peerState == 2 && s.peerSync

/-- No partner takes part: PAIR_MODE SOLO, TEST-HOLD, or the partner's HEALTHY absent (R19, R70, R89). -/
def State.alone (s : State) : Bool := s.solo || s.mode == .testHold || !s.pair.peerHealthy

/-- ISOLATED: every path silent (R349). -/
def State.isolated (s : State) : Bool := s.pair.linkSilent && s.pair.discSilent && s.pair.ringSilent

/-! ### Almanac, counters, fires -/

/-- UTC_OFFSET, R422: a known value, or UTC_OFFSET_DEFAULT. -/
def State.utcOffset (s : State) : Int := if s.time.utcKnown then s.time.utcOffset else s.setting 0x42 8 0

/-- CAL_VALID, R422. -/
def State.calValid (s : State) : Bool := s.time.plantValid && s.time.utcKnown

/-- TB-CAL in ns, R422; during an inserted leap second the second 23:59:59 is repeated (R423). -/
def State.cal (s : State) : Int :=
  s.time.plant.valueAt s.clk.local_ - s.utcOffset * 1000000000 - (if s.time.inLeap then 1000000000 else 0)

/-- TB-CAL in seconds. -/
def State.calSec (s : State) : Nat := (s.cal / 1000000000).toNat

/-- The group of R626 for the rule a record is written under. -/
def ruleGroup (r : Nat) : Nat :=
  if r ≤ 14 then 1 else if r ≤ 29 then 6 else if r ≤ 56 then 0x0D else if r ≤ 166 then 3 else if r ≤ 234 then 0x0D
  else if r ≤ 256 then 3 else if r ≤ 264 then 4 else if r ≤ 344 then 5 else if r ≤ 383 then 6 else if r ≤ 404 then 1
  else if r ≤ 435 then 7 else if 444 ≤ r ∧ r ≤ 450 then 0 else if r ≤ 476 then 2 else if r ≤ 501 then 8
  else if r ≤ 527 then 9 else if r ≤ 557 then 0x0A else if r ≤ 576 then 0x0B else if r ≤ 582 then 0x0C
  else if r ≤ 601 then 0x0D else 1

/-- The severities of R578. -/
def sevInfo : Nat := 0
/-- WARNING. -/
def sevWarning : Nat := 1
/-- FAULT. -/
def sevFault : Nat := 2
/-- ALARM. -/
def sevAlarm : Nat := 3
/-- SOURCE and TENANT of a record that has none. -/
def noSource : Nat := 0xFFFF

/-- A record added to the almanac (R577, R578). The staging ring holds 65,536 records: the oldest that is not yet
copied is overwritten when it is full, and counted. The flash ring holds the 1,048,576 newest. -/
def State.record (s : State) (rule ordinal severity source tenant : Nat) (data : List (Nat × Nat)) : State :=
  let cal := s.calValid
  let r : Rec :=
    { seq := s.almanac.next, time := if cal then s.cal.toNat else s.clk.local_, calTime := cal, source := source,
      rule := rule, ordinal := ordinal, tenant := tenant, severity := severity, side := s.front.side,
      owner := s.mode == .owner, restarts := s.almanac.restarts % 65536, epoch := s.pair.epoch, data := data }
  let a := s.almanac
  let keep := a.records.length - a.staged
  { s with almanac :=
      if a.staged < 65536 then
        { a with records := (a.records ++ [r]).drop (a.records.length + 1 - 1048576), staged := a.staged + 1,
                 next := a.next + 1 }
      else
        { a with records := (a.records.take keep ++ a.records.drop (keep + 1)) ++ [r], next := a.next + 1,
                 lost := a.lost + 1 } }

/-- Is counter `n` of the list the odd half of a chained pair? -/
def chainedOdd (cs : List Counter) (n : Nat) : Bool :=
  n % 2 == 1 && ((cs[n - 1]?).map (·.chained)).getD false

/-- Every counter selected for a SOURCE moved on by `k` (R596); an even counter that wraps passes its wraps to the
chained counter above it. -/
def countAll (src k : Nat) : List Counter → List Counter
  | a :: b :: cs =>
    let a' := if a.source = src then a.value + k else a.value
    let b' := if a.chained then b.value + a' / 4294967296 else if b.source = src then b.value + k else b.value
    { a with value := a' % 4294967296 } :: { b with value := b' % 4294967296 } :: countAll src k cs
  | cs => cs

/-- A happening counted (R596, R597). -/
def State.count (s : State) (source : Nat) : State := { s with counters := countAll source 1 s.counters }

/-- `k` happenings counted. -/
def State.countN (s : State) (source k : Nat) : State :=
  if k = 0 then s else { s with counters := countAll source k s.counters }

/-- A message put into the queue of its link class (1 to 5, R340); it takes a credit of its class. -/
def State.send (s : State) (cls : Nat) (m : LinkMsg) : State :=
  s.modLink fun l =>
    { l with
      out := l.out ++ [(cls, m)]
      classes := modAt l.classes (cls - 1) fun c => { c with credits := c.credits - 1 } }

/-- A mirrored command goes to the partner. -/
def State.tellPartner (s : State) (m : Mirror) : State := if s.solo then s else s.send 3 (.mirror m)

/-- Sources of a task's bindings: is the task an EVENT task started by this source? (R62, R69) -/
def Task.startedBy (t : Task) (source : Nat) : Bool := t.attr.taskClass == 3 && t.attr.sources.contains source

/-- The start instant of R70 and R71 for a fire: the first tick at or after it plus 50 µs, and not before
MIN_INTERVAL has passed since the previous start. -/
def eventStart (prev : Option Nat) (minInterval time : Nat) : Nat :=
  let t := tickAtOrAfter time + 50000
  match prev with
  | none => t
  | some p => if t < p + minInterval * 1000 then tickAtOrAfter (p + minInterval * 1000) else t

/-- A fire merged into one that is latched (R71). -/
def Latch.merge (l : Latch) : Latch := { l with merged := l.merged + 1 }

/-- An agreed fire reaches an event task (R71): it gives the task its next start instant. A fire that comes while the next start still waits
is latched for the start after it, or merged into the fire that is latched already; a start that MIN_INTERVAL has put off is latched itself. -/
def Task.takeFire (t : Task) (source time : Nat) : Task :=
  if t.st = .armed ∨ t.st = .running then
    match t.latch with
    | some l =>
      if t.nextStart ≠ some (tickAtOrAfter l.time + 50000) then { t with latch := some l.merge }
      else { t with behind := some (match t.behind with | some b => b.merge | none => ⟨source, time, 0⟩) }
    | none =>
      { t with latch := some ⟨source, time, 0⟩, nextStart := some (eventStart t.prevStart t.attr.minInterval time) }
  else t

/-- A fire with its agreed time reaches every task that its source starts (R66, R70). -/
def State.agreedFire (s : State) (source time : Nat) : State :=
  { s with tasks := s.tasks.map fun e => if e.2.startedBy source then (e.1, e.2.takeFire source time) else e }

/-- A source fires on this module at ring time `time` (R70): taken alone where no partner takes part; matched with the
partner's report where that is here already; otherwise it waits, and is reported to the partner. A source that the
variant does not fit never fires (R4). -/
def State.fireAt (s : State) (source time : Nat) : State :=
  if Config.sourceAbsent s.ident.variant source || Config.sourceNever source then s
  else if s.alone then s.agreedFire source time
  else
    let s1 := s.send 2 (.fire source time)
    match s1.peerFires.find? fun f => f.source == source with
    | some f =>
      { s1 with peerFires := s1.peerFires.erase f }.agreedFire source (min time f.time)
    | none => { s1 with fires := s1.fires ++ [⟨source, time⟩] }

/-- A source fires now. -/
def State.fire (s : State) (source : Nat) : State := s.fireAt source s.clk.ring

/-! ### Gelit replies -/

/-- A reply datagram sent (R437, R438); nothing leaves a port once R622 has acted. -/
def State.sendReply (s : State) (r : Reply) : State :=
  if s.tap.taken then s else { s with gelit := { s.gelit with replies := s.gelit.replies ++ [r] } }

/-- The state with one session changed. -/
def State.modSession (s : State) (no : Nat) (f : Session → Session) : State :=
  { s with gelit := { s.gelit with sessions := s.gelit.sessions.map fun x => if x.no = no then f x else x } }

/-- A session by its number. -/
def State.session (s : State) (no : Nat) : Option Session := s.gelit.sessions.find? fun x => x.no == no

/-- The command of a ticket has finished: its reply is sent and stored with the session (R441, R450). A session that
has ended gets no reply. -/
def State.finish (s : State) (k : Ticket) (status : Nat) (body : List Byte) : State :=
  match s.session k.session with
  | none => s
  | some _ =>
    let r : Reply := ⟨k.source, k.session, k.seq, k.tenant, k.opcode, status, true, body⟩
    (s.modSession k.session fun x =>
      { x with stored := x.stored.map fun d => if d.seq = k.seq then { d with reply := some r } else d }).sendReply r

/-- The same for a ticket that may be absent. -/
def State.finishOpt (s : State) (k : Option Ticket) (status : Nat) (body : List Byte) : State :=
  match k with
  | none => s
  | some k => s.finish k status body

/-- The 12-byte error block of R443. -/
def errorBlock (fld reason holder : Nat) (side : Side) (id : Nat) : List Byte :=
  be 2 fld ++ be 1 reason ++ be 1 holder ++ be 1 side.bit ++ [0, 0, 0] ++ be 4 id

/-- The error block with no field and no reason. -/
def errorPlain : List Byte := errorBlock 0xFFFF 0 0 .a 0

end Sys2Proof.Machine
end

