-- ==== Sys2Proof/Machine/Gates.lean ====
section
/-! DEFINITION. The gates (R528 to R541): how an access is decided and what a denial leaves. -/
namespace Sys2Proof.Machine

/-- An access to a gate: the granule of its first byte, its kind (0 R, 1 W, 2 X), its level and the tenant it carries. -/
structure Access where
  gate : Nat
  granule : Nat
  kind : Nat
  level : Nat
  tenant : Option Nat
  deriving DecidableEq, Repr

/-- A denied access, with what R222 and R541 report of it. -/
structure Denial where
  access : Access
  none : Bool
  multi : Bool
  first : Nat
  deriving DecidableEq, Repr

/-- Bytes of one process-image bank (R328). -/
def bankBytes : Nat := 2097152

/-- The code-region and window granules that a tenant owns (R531), as byte ranges (start, length) in the process image. -/
def windowRanges (w : Windows) (v : Version) : List (Nat × Nat) :=
  [(w.q, v.sizeQ), (w.m, v.sizeM), (w.edge, w.edgeBytes), (w.t, v.sizeT), (w.l, v.sizeL)]

/-- Does an address lie in one of the ranges? -/
def inRanges (rs : List (Nat × Nat)) (a : Nat) : Bool := rs.any fun r => decide (r.1 ≤ a) && decide (a < r.1 + r.2)

/-- The tenant that the owner map shows for the byte at an address of the process image (R531): the one whose windows, or
whose new version's windows during an online change, hold it. -/
def State.ownerOf (s : State) (a : Nat) : Option Nat :=
  let byChange : Option Nat :=
    match s.change.version with
    | some v => if inRanges (windowRanges s.change.win v) a then some s.change.tenant else none
    | none => none
  match s.tenants.find? fun e => match e.2.version with | some v => inRanges (windowRanges e.2.win v) a | none => false with
  | some e => some e.1
  | none => byChange

/-- The tenant that the owner map of a gate shows for a granule. Gate 0's granules are owned through K windows and code
regions, whose reach the caller has checked. -/
def State.ownerMap (s : State) (gate granule : Nat) (carried : Option Nat) : Option Nat :=
  if gate = 0 then carried else s.ownerOf ((gate - 1) * bankBytes + granule * 256)

/-- Does an entry match an access (R533)? -/
def GateEnt.matches (e : GateEnt) (owner : Option Nat) (a : Access) : Bool :=
  e.valid && decide (e.base ≤ a.granule) && decide (a.granule ≤ e.limit) && decide (e.perm / 8 ^ a.level % 8 ≠ 0)
    && (if e.match_ = 0 then a.tenant == some e.tenant
        else if e.match_ = 1 then true
        else if e.match_ = 2 then a.tenant.isSome && decide (owner = a.tenant)
        else false)

/-- Does an entry grant the access's kind at its level? -/
def GateEnt.grants (e : GateEnt) (a : Access) : Bool := decide (e.perm / 8 ^ a.level / 2 ^ a.kind % 2 = 1)

/-- Every entry of a gate by its index, system entries first (R536, R537). -/
def State.gateEntries (s : State) (g : Nat) : List (Nat × GateEnt) :=
  Config.systemEntries g ++ ((s.gates[g]?).map (·.host)).getD []

/-- The decision of R534: nothing where the access is permitted. -/
def State.gateCheck (s : State) (a : Access) : Option Denial :=
  match (s.gateEntries a.gate).filter fun e => e.2.matches (s.ownerMap a.gate a.granule a.tenant) a with
  | [] => some ⟨a, true, false, 0⟩
  | [e] => if e.2.grants a then none else some ⟨a, false, false, e.1⟩
  | e :: _ :: _ => some ⟨a, false, true, e.1⟩

/-- The DETAIL of a GATE-DENIED fault, R222. -/
def Denial.detail (d : Denial) : Nat :=
  d.access.gate + 16 * d.first + (if d.none then 1024 else 0) + (if d.multi then 2048 else 0) + 4096 * d.access.kind

/-- What a denial leaves (R540, R541): the gate's status block and count, and, for the first denial of its gate, level
and tenant within 1 s, an almanac record and source 964. -/
def State.deny (s : State) (d : Denial) : State :=
  let g := d.access.gate
  let key := (d.access.tenant.map (· + 1)).getD 0
  let s1 : State :=
    { s with gates := modAt s.gates g fun x =>
        { x with
          denied := satInc x.denied, lastGranule := d.access.granule, lastAccess := d.access.kind,
          lastLevel := d.access.level, lastNone := d.none, lastMulti := d.multi,
          lastTenant := (d.access.tenant).getD 0 % 512, lastNoTenant := d.access.tenant.isNone, lastFirst := d.first,
          lastTime := s.clk.local_ / 1000 % 4294967296 } }
  let s2 := s1.count (0x6000 + g)
  let seen := ((s.gates[g]?).map (·.recent)).getD []
  if seen.any fun r => r.1 == d.access.level && r.2.1 == key && decide (s.clk.local_ < r.2.2 + 1000000000) then s2
  else
    let keep := seen.filter fun r => decide (s.clk.local_ < r.2.2 + 1000000000)
    ({ s2 with gates := modAt s2.gates g fun x => { x with recent := keep ++ [(d.access.level, key, s.clk.local_)] } }.record
        540 1 sevFault 964 ((d.access.tenant).getD noSource)
        [(4, g), (4, d.access.level), (4, (d.access.tenant).getD noSource)]).fire 964

/-- An access by P0 to a byte address of the process image; memory above 16 MiB is the lantern task's own and has no
gate. -/
def p0Access (tenant addr kind : Nat) : Option Access :=
  if addr < 8 * bankBytes then some ⟨1 + addr / bankBytes, addr % bankBytes / 256, kind, 0, some tenant⟩ else none

end Sys2Proof.Machine
end

