-- ==== Sys2Proof/Machine/Flags.lean ====
section
/-! DEFINITION. The number rules: what ends an instruction early, checked integer arithmetic (R137, R138), binary32 and
binary64 arithmetic (R157) and the sampling time of the control blocks (R161). Every result is computed exactly and
rounded once. -/
namespace Sys2Proof.Machine

/-- What ends an instruction before it has any effect: a fault of R222 with its DETAIL, a gate
denial, or a wait of R196. -/
inductive Stop where
  | fault (code : Nat) (detail : Nat)
  | denied (d : Denial)
  | wait (st : SpecState)
  deriving DecidableEq, Repr

/-! ### Fault codes, R222 -/

/-- UNDEFINED-OPCODE. -/
def fUndefined : Stop := .fault 1 0
/-- RESERVED-FIELD. -/
def fReserved : Stop := .fault 2 0
/-- BRANCH-STACK-OVERFLOW. -/
def fBranchOver : Stop := .fault 4 0
/-- BRANCH-STACK-UNDERFLOW. -/
def fBranchUnder : Stop := .fault 5 0
/-- CALL-STACK-OVERFLOW. -/
def fCallOver : Stop := .fault 6 0
/-- LOOP-STACK. -/
def fLoop : Stop := .fault 7 0
/-- DIVIDE-BY-ZERO. -/
def fDivZero : Stop := .fault 8 0
/-- ARITH-OVERFLOW. -/
def fOverflow : Stop := .fault 9 0
/-- FLOAT-INVALID with a NaN or infinity operand. -/
def fNan : Stop := .fault 10 1
/-- FLOAT-INVALID with an invalid operation. -/
def fInvalid : Stop := .fault 10 2
/-- FLOAT-INVALID with a block parameter. -/
def fParam : Stop := .fault 10 4
/-- ALIGNMENT, with the effective word index. -/
def fAlign (index : Nat) : Stop := .fault 11 index

/-! ### Integers, R137 and R138 -/

/-- A signed result that must fit in 32 bits. -/
def checked (i : Int) : Except Stop Word :=
  if -2147483648 ≤ i ∧ i ≤ 2147483647 then .ok (BitVec.ofInt 32 i) else .error fOverflow

/-- Signed limits of 32 bits. -/
def clamp32 (i : Int) : Int := if i < -2147483648 then -2147483648 else if i > 2147483647 then 2147483647 else i

/-- DIV truncates towards zero (R138). -/
def divChecked (a b : Int) : Except Stop Word := if b = 0 then .error fDivZero else checked (Int.tdiv a b)

/-- MOD has the sign of the dividend (R138). -/
def modChecked (a b : Int) : Except Stop Word := if b = 0 then .error fDivZero else checked (Int.tmod a b)

/-! ### Floating point, R157 -/

/-- A binary format: precision with the hidden bit, and exponent bits. -/
structure Fmt where
  p : Nat
  ebits : Nat
  deriving DecidableEq, Repr

/-- binary32. -/
def binary32 : Fmt := ⟨24, 8⟩
/-- binary64. -/
def binary64 : Fmt := ⟨53, 11⟩

/-- The exponent bias. -/
def Fmt.bias (f : Fmt) : Nat := 2 ^ (f.ebits - 1) - 1
/-- The bits of infinity without the sign. -/
def Fmt.inf (f : Fmt) : Nat := (2 ^ f.ebits - 1) * 2 ^ (f.p - 1)
/-- The sign bit's weight. -/
def Fmt.signBit (f : Fmt) : Nat := 2 ^ (f.ebits + f.p - 1)

/-- A finite value, exactly: ±m × 2^e. -/
structure Dy where
  neg : Bool
  m : Nat
  e : Int
  deriving DecidableEq, Repr

/-- The value that bits spell; a NaN or an infinity has none. -/
def Fmt.decode (f : Fmt) (bits : Nat) : Option Dy :=
  let neg := decide (f.signBit ≤ bits)
  let mag := bits % f.signBit
  if f.inf ≤ mag then none
  else
    let ex := mag / 2 ^ (f.p - 1)
    let fr := mag % 2 ^ (f.p - 1)
    if ex = 0 then some ⟨neg, fr, 1 - (f.bias : Int) - (f.p - 1 : Nat)⟩
    else some ⟨neg, fr + 2 ^ (f.p - 1), (ex : Int) - f.bias - (f.p - 1 : Nat)⟩

/-- Floor of q / 2^n, rounded to nearest with ties to even; `sticky` says that more lies below. -/
def roundShift (q n : Nat) (sticky : Bool) : Nat :=
  let m := q / 2 ^ n
  let r := 2 * (q % 2 ^ n)
  let h := 2 ^ n
  if h < r || (r == h && (sticky || m % 2 == 1)) then m + 1 else m

/-- The magnitude num / den × 2^e rounded to the format; nothing where it rounds beyond the largest finite value. -/
def Fmt.roundMag (f : Fmt) (num den : Nat) (e : Int) : Option Nat :=
  if num = 0 then some 0
  else
    let k : Int := (f.p : Int) + 3 - ((Nat.log2 num : Int) - (Nat.log2 den : Int))
    let n := num * 2 ^ k.toNat
    let d := den * 2 ^ (-k).toNat
    let q := n / d
    let ex : Int := (Nat.log2 q : Int) + e - k
    let lsb : Int := max (ex - (f.p - 1 : Nat)) (1 - (f.bias : Int) - (f.p - 1 : Nat))
    let m := roundShift q (lsb - (e - k)).toNat (n % d != 0)
    let bits := (lsb + (f.p - 1 : Nat) + f.bias - 1).toNat * 2 ^ (f.p - 1) + m
    if f.inf ≤ bits then none else some bits

/-- The bits of a rounded value. -/
def Fmt.encode (f : Fmt) (neg : Bool) (mag : Nat) : Nat := if neg then f.signBit + mag else mag

/-- A value rounded to the format, or ARITH-OVERFLOW. -/
def Fmt.round (f : Fmt) (neg : Bool) (num den : Nat) (e : Int) : Except Stop Nat :=
  match f.roundMag num den e with
  | some mag => .ok (f.encode neg mag)
  | none => .error fOverflow

/-- An operand: a NaN or an infinity is FLOAT-INVALID (R157). -/
def Fmt.operand (f : Fmt) (bits : Nat) : Except Stop Dy :=
  match f.decode bits with
  | some d => .ok d
  | none => .error fNan

/-- A value as a signed integer times 2^e0, for e0 at most its exponent. -/
def Dy.at (d : Dy) (e0 : Int) : Int :=
  let v : Int := (d.m : Int) * 2 ^ (d.e - e0).toNat
  if d.neg then -v else v

/-- The exact sum; an exact zero is +0 unless both addends are negative (IEEE 754, round to nearest). -/
def Dy.add (a b : Dy) : Dy :=
  let e0 := min a.e b.e
  let v := a.at e0 + b.at e0
  if v = 0 then ⟨a.neg && b.neg, 0, e0⟩ else ⟨decide (v < 0), v.natAbs, e0⟩

/-- The negation. -/
def Dy.negate (d : Dy) : Dy := { d with neg := !d.neg }

/-- The exact product. -/
def Dy.mul (a b : Dy) : Dy := ⟨a.neg != b.neg, a.m * b.m, a.e + b.e⟩

/-- Is a less than b? Zeros of either sign are equal. -/
def Dy.lt (a b : Dy) : Bool := let e0 := min a.e b.e; decide (a.at e0 < b.at e0)

/-- Are a and b equal? -/
def Dy.eq (a b : Dy) : Bool := let e0 := min a.e b.e; decide (a.at e0 = b.at e0)

/-- The integer square root, bit by bit from bit `n - 1`. -/
def isqrtFrom : Nat → Nat → Nat → Nat
  | 0, _, r => r
  | n + 1, x, r => isqrtFrom n x (if (r + 2 ^ n) * (r + 2 ^ n) ≤ x then r + 2 ^ n else r)

/-- The integer square root. -/
def isqrt (x : Nat) : Nat := isqrtFrom (Nat.log2 x / 2 + 1) x 0

/-- A value rounded to a format. -/
def Fmt.ofDy (f : Fmt) (d : Dy) : Except Stop Nat := f.round d.neg d.m 1 d.e

/-- Addition. -/
def Fmt.add (f : Fmt) (a b : Nat) : Except Stop Nat := do
  let x ← f.operand a
  let y ← f.operand b
  f.ofDy (x.add y)

/-- Subtraction. -/
def Fmt.sub (f : Fmt) (a b : Nat) : Except Stop Nat := do
  let x ← f.operand a
  let y ← f.operand b
  f.ofDy (x.add y.negate)

/-- Multiplication. -/
def Fmt.mul (f : Fmt) (a b : Nat) : Except Stop Nat := do
  let x ← f.operand a
  let y ← f.operand b
  f.ofDy (x.mul y)

/-- Division: 0 / 0 is invalid, a non-zero value by zero DIVIDE-BY-ZERO. -/
def Fmt.div (f : Fmt) (a b : Nat) : Except Stop Nat := do
  let x ← f.operand a
  let y ← f.operand b
  if y.m = 0 then .error (if x.m = 0 then fInvalid else fDivZero)
  else f.round (x.neg != y.neg) x.m y.m (x.e - y.e)

/-- Square root: of a negative value other than −0 invalid; the root of −0 is −0. -/
def Fmt.sqrt (f : Fmt) (a : Nat) : Except Stop Nat := do
  let x ← f.operand a
  if x.m = 0 then .ok (f.encode x.neg 0)
  else if x.neg then .error fInvalid
  else
    let odd := x.e % 2 = 1
    let m := if odd then 2 * x.m else x.m
    let e := if odd then x.e - 1 else x.e
    let k := f.p + 2
    let r := isqrt (m * 4 ^ k)
    let sticky := if r * r = m * 4 ^ k then 0 else 1
    f.round false (2 * r + sticky) 1 (e / 2 - (k : Int) - 1)

/-- Less-than. -/
def Fmt.lt (f : Fmt) (a b : Nat) : Except Stop Bool := do
  let x ← f.operand a
  let y ← f.operand b
  .ok (x.lt y)

/-- Equality. -/
def Fmt.eq (f : Fmt) (a b : Nat) : Except Stop Bool := do
  let x ← f.operand a
  let y ← f.operand b
  .ok (x.eq y)

/-- A value of one format rounded to another (R159: FTOD, DTOF). -/
def Fmt.convert (src dst : Fmt) (a : Nat) : Except Stop Nat := do
  let x ← src.operand a
  dst.ofDy x

/-- A signed integer as a floating-point value. -/
def Fmt.ofInt (f : Fmt) (i : Int) : Except Stop Nat := f.round (decide (i < 0)) i.natAbs 1 0

/-- A value truncated towards zero. -/
def Dy.trunc (d : Dy) : Int :=
  let v : Int := if 0 ≤ d.e then (d.m : Int) * 2 ^ d.e.toNat else ((d.m / 2 ^ (-d.e).toNat : Nat) : Int)
  if d.neg then -v else v

/-- A value truncated towards zero that must fit in 32 bits. -/
def Fmt.toInt (f : Fmt) (a : Nat) : Except Stop Word := do
  let x ← f.operand a
  checked x.trunc

/-- The smaller of two values that both pass, otherwise the limit (limit of R163 and R165). -/
def Fmt.limit (f : Fmt) (x lo hi : Nat) : Except Stop Nat := do
  let below ← f.lt x lo
  let above ← f.lt hi x
  .ok (if below then lo else if above then hi else x)

/-- dt of R161 in binary64: the period in µs times 10^−6, exact and rounded once. -/
def sampleTime (micros : Nat) : Except Stop Nat := binary64.round false micros 1000000 0

/-- 2 × v1 − v2 in binary32, rounded once; nothing where an operand or the result is not finite (R167, R169). -/
def rampF32 (v1 v2 : Word) : Option Word :=
  match binary32.decode v1.toNat, binary32.decode v2.toNat with
  | some a, some b =>
    match binary32.ofDy (({ a with e := a.e + 1 } : Dy).add b.negate) with
    | .ok r => some (BitVec.ofNat 32 r)
    | .error _ => none
  | _, _ => none

/-- 2 × v1 − v2 as saturated signed integers (R167). -/
def rampInt (v1 v2 : Word) : Word := BitVec.ofInt 32 (clamp32 (2 * v1.toInt - v2.toInt))

/-! ### Bits -/

/-- WACC rotated left (R139, ROLW). -/
def rotl (w : Word) (n : Nat) : Word := w.rotateLeft n

/-- The branch-stack operators of R109: v operator acc. -/
def branchOp (op : Nat) (v acc : Bool) : Bool :=
  if op = 1 then v && acc else if op = 2 then v && !acc else if op = 3 then v || acc else if op = 4 then v || !acc
  else if op = 5 then v != acc else if op = 6 then v != !acc else acc

end Sys2Proof.Machine
end

