-- ==== Sys2Proof/Machine/Signals.lean ====
section
/-! DEFINITION. Signals: the fields of a signal's name (R258), the words of the local units and of CAN records (R477, R513),
the force table laid over a value (R260), and how an I/O map places signals in a tenant's words (R625). -/
namespace Sys2Proof.Machine

/-- SPACE, bits [31:30] of R258. -/
def sigSpace (g : Word) : Nat := (g.extractLsb' 30 2).toNat
/-- RING, bits [29:28]. -/
def sigRing (g : Word) : Nat := (g.extractLsb' 28 2).toNat
/-- STATION, bits [27:20]; for a word of a CAN record, the number of the word (R516). -/
def sigStation (g : Word) : Nat := (g.extractLsb' 20 8).toNat
/-- SLOT, bits [19:12]; for SPACE 1 the unit. -/
def sigSlot (g : Word) : Nat := (g.extractLsb' 12 8).toNat
/-- CHANNEL, bits [11:0]. -/
def sigChannel (g : Word) : Nat := (g.extractLsb' 0 12).toNat

/-- The name of a local signal. -/
def localSignal (unit channel : Nat) : Word := BitVec.ofNat 32 (1073741824 + unit * 4096 + channel)

/-- The name of a word of a CAN record. -/
def canSignal (k element word : Nat) : Word := BitVec.ofNat 32 (1073741824 + word * 1048576 + (0x20 + k) * 4096 + element)

/-- The CAN controller a signal belongs to (units 16#20 to 16#23). -/
def sigCan (g : Word) : Option Nat :=
  if sigSpace g = 1 ∧ 0x20 ≤ sigSlot g ∧ sigSlot g ≤ 0x23 then some (sigSlot g - 0x20) else none

/-- The flags word of a CAN frame: ID, XTD, FDF, BRS (word 0 of R513). -/
def CanFrame.head (f : CanFrame) : Word :=
  BitVec.ofNat 32 (f.id % 536870912 + (if f.xtd then 536870912 else 0) + (if f.fdf then 1073741824 else 0)
    + (if f.brs then 2147483648 else 0))

/-- Word `n` of a receive record, R513; data bytes beyond LEN read zero. -/
def CanRec.word (r : CanRec) (n : Nat) : Word :=
  if n = 0 then r.frame.head
  else if n = 1 then
    BitVec.ofNat 32 (r.frame.len % 128 + (if r.frame.esi then 128 else 0) + r.element % 512 * 256 + r.queue % 8 * 131072)
  else if n = 2 then BitVec.ofNat 32 r.rxTime
  else if n = 3 then BitVec.ofNat 32 (r.rxTime / 4294967296)
  else BitVec.ofNat 32 (ofLe (((r.frame.data.take r.frame.len).drop (4 * (n - 4))).take 4))

/-- AI channel `k`. -/
def LocalIo.aiCh (io : LocalIo) (k : Nat) : AiCh := (io.ai[k]?).getD ⟨0, false, false, false, false, false⟩

/-- The present value of a local input signal, R477. In LANTERN bits [3:0] of an AI code read zero (R491), and the names of unit
16#3F give word 9 of the lantern windows (R392). -/
def State.localInput (s : State) (unit ch : Nat) : Word :=
  if unit = 0x30 then boolWord (s.io.di.getLsbD ch)
  else if unit = 0x31 then
    (if 16 ≤ ch ∧ ch < 32 then boolWord (s.io.readback.getLsbD (ch - 16))
     else if ch = 32 then boolWord s.io.doFault else 0)
  else if unit = 0x32 then
    BitVec.ofNat 32 (if s.mode = .lantern then (s.io.aiCh ch).code / 16 * 16 else (s.io.aiCh ch).code)
  else if unit = 0x3F then
    boolWord (if ch = 0 then s.pair.peerClaim || s.peerState == 3 else if ch = 1 then s.feeds.present1 else s.feedDual && s.feeds.present2)
  else 0

/-- The quality of a local input signal before forces, R480. -/
def State.localQuality (s : State) (unit ch : Nat) : Quality :=
  if unit = 0x31 ∧ 16 ≤ ch ∧ ch < 32 then (if s.io.lplusOk then .good else .bad)
  else if unit = 0x32 then
    let a := s.io.aiCh ch
    if s.setting 0x32 1 ch = 0 || a.open_ || a.failLow || a.failHigh || a.converterFault then .bad else .good
  else .good

/-- The force on a signal, if there is one. -/
def forceOf (fs : List Force) (g : Word) : Option Force := fs.find? fun f => f.signal == g

/-- A value with the force table applied (R260). -/
def applyForce (fs : List Force) (v : SigVal) : SigVal :=
  match forceOf fs v.signal with
  | some f => ⟨v.signal, f.value, .forced⟩
  | none => v

/-- The value of a signal in a list of values. -/
def sigFind (vs : List SigVal) (g : Word) : Option SigVal := vs.find? fun v => v.signal == g

/-- The list with a signal's value replaced or added. -/
def sigPut (vs : List SigVal) (v : SigVal) : List SigVal := (vs.filter fun x => x.signal != v.signal) ++ [v]

/-- The present value of an input signal at the instant of the read, R126: the local stage after its filter, or the newest
upstream frame of its station that was received; a force stands over either (R260). Before any frame of the station has been received the value is 0 (DESIGN CHOICE:
R126 gives none; log 100). -/
def State.live (s : State) (g : Word) : Word :=
  match forceOf s.forces g with
  | some f => f.value
  | none =>
    match sigCan g with
    | some k => ((NMap.get (s.ctl k).newest (sigChannel g)).map (·.word (sigStation g))).getD 0
    | none =>
      if sigSpace g = 1 then s.localInput (sigSlot g) (sigChannel g)
      else ((sigFind (s.station (sigRing g) (sigStation g)).last g).map (·.value)).getD 0

/-! ### Words of a tenant's I window -/

/-- The bits of a word that a binding covers. -/
def IoBind.mask (b : IoBind) : Word :=
  if b.width = 0 then 1#32 <<< b.bit else if b.width = 1 then 0xFFFF#32 else 0xFFFFFFFF#32

/-- A signal's value laid at its place in a word (R625). -/
def IoBind.place (b : IoBind) (v : Word) : Word := (if b.width = 0 then v <<< b.bit else v) &&& b.mask

/-- The bindings of an I word. -/
def Version.inputsAt (v : Version) (w : Nat) : List IoBind := v.ioMap.filter fun b => !b.output && b.word == w

/-- The word that signals' values give. -/
def Version.inputWord (v : Version) (val : Word → Word) (w : Nat) : Word :=
  (v.inputsAt w).foldl (fun acc b => acc ||| b.place (val b.signal)) 0

/-- The value of a signal in a snapshot; one that is not in it reads 0. -/
def valueIn (vs : List SigVal) (g : Word) : Word := ((sigFind vs g).map (·.value)).getD 0

/-- The quality of a signal in a snapshot; one that is not in it is BAD. -/
def qualityIn (vs : List SigVal) (g : Word) : Quality := ((sigFind vs g).map (·.quality)).getD .bad

/-- The quality of the signal that holds bit `bit` of a word; a bit of no mapped signal is BAD (R107). -/
def Version.bitQuality (v : Version) (vs : List SigVal) (w bit : Nat) : Quality :=
  match (v.inputsAt w).find? fun b => b.mask.getLsbD bit with
  | some b => qualityIn vs b.signal
  | none => .bad

/-- The qualities of a word's signals, in the order of the map. -/
def Version.wordQualities (v : Version) (vs : List SigVal) (w : Nat) : List Quality :=
  (v.inputsAt w).map fun b => qualityIn vs b.signal

/-- The worse of the qualities of a word's signals; BAD where it holds none (R140). -/
def Version.wordQuality (v : Version) (vs : List SigVal) (w : Nat) : Quality :=
  match v.inputsAt w with
  | [] => .bad
  | bs => bs.foldl (fun q b => q.worse (qualityIn vs b.signal)) .good

end Sys2Proof.Machine
end

