-- ==== Sys2Proof/Machine/Operands.lean ====
section
/-! DEFINITION. Operand forms: the opcode table (formats, areas, costs of R98, R105 to R165), the effective operand of
an instruction with the checks of R100, and every way an instruction reads and writes data (R91 to R95, R126, R133,
R167 to R183). -/
namespace Sys2Proof.Machine

/-! ### The opcode table -/

/-- The formats of R98 and R132. -/
inductive Format where | B | W | X | N | J | L | A | WX | C | D | TM | E | SRB | SRW | K
  deriving DecidableEq, Repr

/-- Words of an instruction: format L, D and SR have an extension word. -/
def Format.words : Format → Nat
  | .L => 2 | .D => 2 | .SRB => 2 | .SRW => 2 | _ => 1

/-- A row of the opcode tables. `reads` and `writes` say what the instruction does with its operand (for format D, the
destination); `only` is the single area it admits, if it is so limited (R101); `n1` and `n2` are the words of the
operands, 2 for a 64-bit one; `cost` is the cost of R103 and `agreed` the cost with agreed immediates (R125). -/
structure OpInfo where
  op : Nat
  fmt : Format
  reads : Bool
  writes : Bool
  only : Option Area
  n1 : Nat
  n2 : Nat
  cost : Nat
  agreed : Nat
  deriving DecidableEq, Repr

/-- An opcode that uses no data operand. -/
def rowN (op : Nat) (fmt : Format) (cost : Nat) : OpInfo := ⟨op, fmt, false, false, none, 0, 0, cost, cost⟩
/-- An opcode that reads its operand. -/
def rowR (op : Nat) (fmt : Format) (cost : Nat) : OpInfo := ⟨op, fmt, true, false, none, 1, 1, cost, cost⟩
/-- An opcode that writes its operand only. -/
def rowS (op : Nat) (fmt : Format) (cost : Nat) : OpInfo := ⟨op, fmt, false, true, none, 1, 1, cost, cost⟩
/-- An opcode that reads and writes its operand. -/
def rowU (op : Nat) (fmt : Format) (n1 cost : Nat) : OpInfo := ⟨op, fmt, true, true, none, n1, 1, cost, cost⟩
/-- An opcode that reads inputs only. -/
def rowI (op : Nat) (fmt : Format) (cost agreed : Nat) : OpInfo := ⟨op, fmt, true, false, some .I, 1, 1, cost, agreed⟩
/-- An immediate output. -/
def rowQ (op : Nat) (fmt : Format) (cost : Nat) : OpInfo := ⟨op, fmt, false, true, some .Q, 1, 1, cost, cost⟩
/-- A 64-bit operation from memory to memory. -/
def rowD (op : Nat) (reads writes : Bool) (n1 n2 cost : Nat) : OpInfo := ⟨op, .D, reads, writes, none, n1, n2, cost, cost⟩

/-- The bit-logic opcodes, R105. -/
def bitTable : List OpInfo :=
  [rowR 0x00 .B 1, rowR 0x01 .B 1, rowR 0x02 .B 1, rowR 0x03 .B 1, rowR 0x04 .B 1, rowR 0x05 .B 1, rowR 0x06 .B 1,
   rowR 0x07 .B 1, rowS 0x08 .B 1, rowS 0x09 .B 1, rowS 0x0A .B 1, rowS 0x0B .B 1, rowR 0x0C .B 2, rowR 0x0D .B 2,
   rowR 0x0E .B 2, rowR 0x0F .B 2, rowR 0x10 .B 2, rowR 0x11 .B 2, rowN 0x12 .N 1, rowN 0x13 .N 1, rowN 0x14 .N 1,
   rowN 0x15 .X 1, rowN 0x16 .X 1, rowI 0x17 .B 2 2, rowI 0x18 .B 2 2, rowU 0x19 .B 1 1]

/-- The word and arithmetic opcodes, R139. -/
def wordTable : List OpInfo :=
  [rowR 0x40 .WX 1, rowS 0x41 .WX 1, rowN 0x42 .C 1, rowN 0x43 .C 1, rowR 0x44 .WX 1, rowR 0x45 .WX 1, rowR 0x46 .WX 3,
   rowR 0x47 .WX 12, rowR 0x48 .WX 12, rowR 0x49 .WX 1, rowR 0x4A .WX 1, rowN 0x4B .N 1, rowN 0x4C .N 1, rowR 0x4D .WX 1,
   rowR 0x4E .WX 1, rowR 0x4F .WX 1, rowN 0x50 .N 1, rowN 0x51 .X 1, rowN 0x52 .X 1, rowN 0x53 .X 1, rowN 0x54 .X 1,
   rowR 0x55 .WX 1, rowR 0x56 .WX 1, rowR 0x57 .WX 1, rowR 0x58 .WX 1, rowR 0x59 .WX 1, rowR 0x5A .WX 1, rowR 0x5B .WX 1,
   rowR 0x5C .WX 1, rowR 0x5D .WX 1, rowR 0x5E .WX 1, ⟨0x5F, .WX, true, false, none, 2, 1, 2, 2⟩, rowN 0x60 .C 1,
   rowR 0x61 .WX 1, ⟨0x62, .D, false, true, none, 1, 1, 2, 2⟩, rowI 0x63 .WX 2 2]

/-- The timer, counter, edge, shift and coprocessor opcodes, R145, R149, R151, R153, R159, R165. -/
def blockTable : List OpInfo :=
  [rowU 0x80 .TM 4 16, rowU 0x81 .TM 4 16, rowU 0x82 .TM 4 16, rowU 0x83 .TM 4 16, rowU 0x84 .TM 4 4, rowU 0x85 .TM 4 8,
   rowU 0x86 .TM 4 8, rowU 0x87 .TM 4 10, rowU 0x88 .TM 4 3, rowU 0x89 .TM 4 3, rowN 0x8A .E 3, rowN 0x8B .E 3,
   rowU 0x8C .SRB 1 4, rowU 0x8D .SRW 1 4, rowR 0xA0 .WX 6, rowR 0xA1 .WX 6, rowR 0xA2 .WX 6, rowR 0xA3 .WX 20,
   rowN 0xA4 .N 24, rowR 0xA5 .WX 4, rowR 0xA6 .WX 4, rowN 0xA7 .N 4, rowN 0xA8 .N 4, rowD 0xA9 true true 2 2 10,
   rowD 0xAA true true 2 2 10, rowD 0xAB true true 2 2 14, rowD 0xAC true true 2 2 40, rowD 0xAD false true 2 2 48,
   rowD 0xAE true false 2 2 6, rowD 0xAF false true 2 1 4, rowD 0xB0 false true 1 2 6, rowU 0xB1 .K 16 160,
   rowU 0xB2 .K 4 40, rowU 0xB3 .K 4 32]

/-- The control opcodes, R109, R112, R118, R122, R125. -/
def controlTable : List OpInfo :=
  [rowN 0xC0 .N 1, rowN 0xC1 .J 2, rowN 0xC2 .J 2, rowN 0xC3 .J 2, rowN 0xC4 .J 4, rowN 0xC5 .J 4, rowN 0xC6 .J 4,
   rowN 0xC7 .N 8, rowN 0xC8 .N 8, rowN 0xC9 .N 8, rowN 0xCA .L 3, rowN 0xCB .L 3, rowN 0xCC .N 2, rowN 0xCD .N 2,
   rowN 0xCE .N 1, rowN 0xD0 .N 1, rowN 0xD1 .N 1, rowN 0xD2 .N 1, rowN 0xD3 .N 1, rowN 0xD4 .N 4, rowN 0xD5 .N 8,
   rowN 0xD6 .N 8, rowN 0xD7 .N 2, rowN 0xD8 .A 64, rowI 0xD9 .B 40 104, rowI 0xDA .W 40 104, rowQ 0xDB .B 8,
   rowQ 0xDC .W 8, rowN 0xDD .N 2]

/-- Every defined opcode; the others are undefined (R131, R166). -/
def opTable : List OpInfo := bitTable ++ wordTable ++ blockTable ++ controlTable

/-- The row of an opcode. -/
def opInfo (op : Nat) : Option OpInfo := opTable.find? fun r => r.op == op

/-! ### Fields and effective operands -/

/-- A bit field of the first word, bits [hi:lo]. -/
def fld (w : BitVec 24) (lo n : Nat) : Nat := w.toNat / 2 ^ lo % 2 ^ n

/-- A bit field of an extension word. -/
def fldE (e : Word) (lo n : Nat) : Nat := e.toNat / 2 ^ lo % 2 ^ n

/-- A data operand. `index` is a bit address where `isBit` holds and otherwise a word index; `words` is how many words it
takes from there; `even` marks a 64-bit operand, and one that holds a 64-bit word pair (R134). -/
structure Opnd where
  area : Nat
  isBit : Bool
  index : Nat
  indexed : Bool
  words : Nat
  even : Bool
  reads : Bool
  writes : Bool
  deriving DecidableEq, Repr

/-- No operand. -/
def noOpnd : Opnd := ⟨0, false, 0, false, 0, false, false, false⟩

/-- What an instruction's words name: are the reserved fields zero, and the operands. -/
structure Form where
  ok : Bool
  o1 : Opnd
  o2 : Opnd
  deriving DecidableEq, Repr

/-- Words that an SHFB or SHFW register takes, R153. -/
def shiftWords (bits : Bool) (e : Word) : Nat := if bits then (fldE e 0 13 + 32) / 32 else fldE e 0 10 + 1

/-- The fields of an instruction (R98, R132): which are reserved, and its operands as they are encoded. -/
def formOf (r : OpInfo) (w : BitVec 24) (e : Word) : Form :=
  match r.fmt with
  | .B => ⟨true, ⟨fld w 21 3, true, fld w 0 21, false, 1, false, r.reads, r.writes⟩, noOpnd⟩
  | .W => ⟨fld w 16 5 == 0, ⟨fld w 21 3, false, fld w 0 16, false, r.n1, false, r.reads, r.writes⟩, noOpnd⟩
  | .WX => ⟨fld w 16 4 == 0, ⟨fld w 21 3, false, fld w 0 16, fld w 20 1 == 1, r.n1, false, r.reads, r.writes⟩, noOpnd⟩
  | .X => ⟨fld w 5 19 == 0, noOpnd, noOpnd⟩
  | .N => ⟨fld w 0 24 == 0, noOpnd, noOpnd⟩
  | .J => ⟨fld w 22 2 == 0, noOpnd, noOpnd⟩
  | .L => ⟨fld w 16 8 == 0 && fld w 0 16 != 0 && fldE e 22 10 == 0, noOpnd, noOpnd⟩
  | .A => ⟨fld w 2 22 == 0 && fld w 0 2 != 0, noOpnd, noOpnd⟩
  | .C => ⟨fld w 16 8 == 0, noOpnd, noOpnd⟩
  | .E => ⟨fld w 16 8 == 0, noOpnd, noOpnd⟩
  | .D =>
    ⟨fld w 16 4 == 0 && fldE e 24 8 == 0 && fldE e 16 4 == 0,
     ⟨fld w 21 3, false, fld w 0 16, fld w 20 1 == 1, r.n1, r.n1 == 2, r.reads, r.writes⟩,
     ⟨fldE e 21 3, false, fldE e 0 16, fldE e 20 1 == 1, r.n2, r.n2 == 2, true, false⟩⟩
  | .TM => ⟨fld w 16 8 == 0 && fld w 0 2 == 0, ⟨3, false, fld w 0 16, false, r.n1, false, r.reads, r.writes⟩, noOpnd⟩
  | .SRB =>
    ⟨fld w 16 5 == 0 && fldE e 13 19 == 0,
     ⟨fld w 21 3, false, fld w 0 16, false, shiftWords true e, false, true, true⟩, noOpnd⟩
  | .SRW =>
    ⟨fld w 16 5 == 0 && fldE e 10 22 == 0,
     ⟨fld w 21 3, false, fld w 0 16, false, shiftWords false e, false, true, true⟩, noOpnd⟩
  | .K => ⟨fld w 16 5 == 0, ⟨fld w 21 3, false, fld w 0 16, false, r.n1, r.n1 == 16, r.reads, r.writes⟩, noOpnd⟩

/-- Is the operand's area one that the instruction admits (R101, R136)? -/
def Opnd.areaOk (o : Opnd) (only : Option Area) : Bool :=
  o.words == 0
    || (o.area != 7 && (!o.writes || (1 ≤ o.area && o.area ≤ 4))
        && (match only with | some a => o.area == a.code | none => true))

/-- The cost of an instruction, R103, R133 and R153, without the arbiter allowance. -/
def costOf (r : OpInfo) (agreed : Bool) (w : BitVec 24) (e : Word) : Nat :=
  let f := formOf r w e
  let base :=
    match r.fmt with
    | .SRB => 4 + 2 * ((fldE e 0 13 + 32) / 32)
    | .SRW => 4 + 2 * (fldE e 0 10 + 1)
    | _ => if agreed then r.agreed else r.cost
  base + (if f.o1.indexed then 1 else 0) + (if f.o2.indexed then 1 else 0)

/-- The arbiter allowance of R77 and R103: one where an operand lies in I, Q, M, T or L, or in the edge area. -/
def allowanceOf (r : OpInfo) (w : BitVec 24) (e : Word) : Nat :=
  let f := formOf r w e
  if r.fmt == .E || (f.o1.words != 0 && f.o1.area ≤ 4) || (f.o2.words != 0 && f.o2.area ≤ 4) then 1 else 0

/-! ### What an executing instruction sees -/

/-- The machine as the instruction finds it: the state before it, its task, the version and windows its tenant runs,
its lane, whether reads of I return agreed values, and the debug session where lane 1 runs under one (R231). -/
structure Env where
  s : State
  task : Task
  ver : Version
  win : Windows
  lane : Fin 2
  agreed : Bool
  dbg : Option DebugSt
  deriving DecidableEq

/-- A version with nothing in it, for a task whose tenant holds none. -/
def Version.empty : Version :=
  { versionId := 0, code := [], tasks := [], konst := [], forecast := [], safe := [], ioMap := [], initial := [],
    agreedImm := 0, faultFrame := 0, sizeI := 0, sizeQ := 0, sizeM := 0, sizeT := 0, sizeL := 0, sizeK := 0 }

/-- The version that a task runs: the new one once it has switched at its meridian (R249). -/
def State.versionOf (s : State) (t : Task) : Version :=
  if t.newVersion then (s.change.version).getD .empty else ((s.tenant t.tenant).version).getD .empty

/-- The windows of that version. -/
def State.windowsOf (s : State) (t : Task) : Windows := if t.newVersion then s.change.win else (s.tenant t.tenant).win

/-- The debug session that a task runs under (R230). After its end (session 0) a task stays under it until lane 1 has
started a cycle together with lane 0 (R234). -/
def State.debugFor (s : State) (t : Task) : Option DebugSt :=
  match s.dbg with
  | some d => if d.tenant = t.tenant ∧ (d.session ≠ 0 ∨ t.no ∈ d.closing) then some d else none
  | none => none

/-- Reads of I return agreed values: an ASYNC or event task's own copy, or a snapshot that is agreed (R73, R74). -/
def Task.isAgreed (t : Task) : Bool :=
  match t.snap with
  | some p => p.agreed
  | none => true

/-- What a lane of a task sees; lane 1 under debug sees the task as its own cycle began (R231). -/
def State.env (s : State) (t : Task) (lane : Fin 2) : Env :=
  let d := if lane = 1 then s.debugFor t else none
  let t := match d with
    | some d => if d.task = t.no then d.start.getD t else t
    | none => t
  { s := s, task := t, ver := s.versionOf t, win := s.windowsOf t, lane := lane, agreed := t.isAgreed, dbg := d }

/-- The lane's context: the task's, or lane 1's debug context. -/
def Env.ctx (e : Env) : Lane :=
  match e.dbg with
  | some d => d.lane
  | none => if e.lane = 0 then e.task.lane0 else e.task.lane1

/-- Entries that the lane's half of the strand's shadow buffer holds for other tasks (R181). -/
def Env.shadowOther (e : Env) : Nat :=
  e.s.tasks.foldl (fun n x =>
    if x.2.strand = e.task.strand ∧ x.2.no ≠ e.task.no then
      n + (if e.lane = 0 then x.2.lane0 else x.2.lane1).shadow.length
    else n) 0

/-- Unverified segment records of other tasks on the strand (R180). -/
def Env.recordsOther (e : Env) : Nat :=
  e.s.tasks.foldl (fun n x =>
    if x.2.strand = e.task.strand ∧ x.2.no ≠ e.task.no then
      n + (if e.lane = 0 then x.2.lane0 else x.2.lane1).segs.length
    else n) 0

/-- Read-set entries of a lane's segments. -/
def Lane.readCount (l : Lane) : Nat := l.segs.foldl (fun n r => n + r.reads.length) 0

/-- Read-set entries of other tasks on the strand (R179). -/
def Env.readsOther (e : Env) : Nat :=
  e.s.tasks.foldl (fun n x =>
    if x.2.strand = e.task.strand ∧ x.2.no ≠ e.task.no then
      n + (if e.lane = 0 then x.2.lane0 else x.2.lane1).readCount
    else n) 0

/-- The loop-stack and branch-stack depths below which a called block may not reach (R97, R110, R116). -/
def Lane.branchFloor (l : Lane) : Nat := ((l.regs.calls.head?).map (·.branchDepth)).getD 0
/-- The loop depth recorded in the innermost call frame. -/
def Lane.loopFloor (l : Lane) : Nat := ((l.regs.calls.head?).map (·.loopDepth)).getD 0

/-- The innermost loop frame that is visible (R116, R133). -/
def Lane.loop (l : Lane) : Option LoopFrame := if l.loopFloor < l.regs.loops.length then l.regs.loops.head? else none

/-- Step 3 of R100: the effective index of an indexed operand (R133). -/
def Lane.effective (l : Lane) (o : Opnd) : Except Stop Opnd :=
  if o.indexed then
    match l.loop with
    | some f => .ok { o with index := o.index + f.index.toNat }
    | none => .error fLoop
  else .ok o

/-- The word index an operand starts at. -/
def Opnd.word (o : Opnd) : Nat := if o.isBit then o.index / 32 else o.index

/-- The byte address in the process image of a word of Q, M, T or L; L reaches the task's own part (R93). -/
def Env.addr (e : Env) (area word : Nat) : Nat :=
  (if area = 1 then e.win.q else if area = 2 then e.win.m else if area = 3 then e.win.t
   else e.win.l + e.task.lBase) + 4 * word

/-- One access by the task at the process image's gate. -/
def Env.gate (e : Env) (addr kind : Nat) : Option Denial :=
  match p0Access e.task.tenant addr kind with
  | some a => e.s.gateCheck a
  | none => none

/-- Does a word of an operand pass its target's gate? K words pass gate 0 within the tenant's K window; the shared input
region admits every read by P0; S is not gated. The debug copy of R231 has no gate for its own lane. -/
def Env.gateWord (e : Env) (area word kind : Nat) : Option Denial :=
  if e.dbg.isSome then none
  else if area = 5 then
    (if 4 * word < e.ver.sizeK then none
     else some ⟨⟨0, 4 * word / 256 % 16777216, kind, 0, some e.task.tenant⟩, true, false, 0⟩)
  else if 1 ≤ area ∧ area ≤ 4 then e.gate (e.addr area word) kind
  else none

/-- The first denial over a list of words. -/
def Env.gateWords (e : Env) (area kind : Nat) (words : List Nat) : Option Denial :=
  words.findSome? fun k => e.gateWord area k kind

/-- Step 4 of R100: every line that the operand's words lie in, for reading and for writing. -/
def Env.passGate (e : Env) (o : Opnd) : Except Stop Unit :=
  let ws := (List.range o.words).map (o.word + ·)
  match (if o.reads then e.gateWords o.area 0 ws else none) with
  | some d => .error (.denied d)
  | none =>
    match (if o.writes then e.gateWords o.area 1 ws else none) with
    | some d => .error (.denied d)
    | none => .ok ()

/-- The alignment of R134. -/
def Opnd.aligned (o : Opnd) : Except Stop Unit := if o.even && o.index % 2 == 1 then .error (fAlign o.index) else .ok ()

/-! ### Reads -/

/-- The timer timestamp NOW of R142, in µs of ring time: it stands for the whole cycle, a replay included, whatever a load does to the
schedule meanwhile. -/
def Env.now (e : Env) : Word :=
  BitVec.ofNat 32 ((e.task.startAt + (if e.task.attr.taskClass = 3 ∨ e.task.attr.consistency = 1 then 0 else e.task.cycSweep)) / 1000)

/-- TASK_FLAGS of R94. -/
def Env.taskFlags (e : Env) (l : Lane) : Word :=
  BitVec.ofNat 32 ((if e.task.first then 1 else 0) + l.flags + (if e.ver.agreedImm = 1 then 8 else 0))

/-- The system words of R94. -/
def Env.sysWord (e : Env) (l : Lane) (n : Nat) : Word :=
  let t := e.task
  if n = 0 then BitVec.ofNat 32 t.cycle
  else if n = 1 then BitVec.ofNat 32 (t.cycle / 4294967296)
  else if n = 2 then BitVec.ofNat 32 t.startAt
  else if n = 3 then BitVec.ofNat 32 (t.startAt / 4294967296)
  else if n = 4 then BitVec.ofNat 32 t.no
  else if n = 5 then BitVec.ofNat 32 t.tenant
  else if n = 6 then (match t.fire with | some f => BitVec.ofNat 32 f.source | none => 0xFFFFFFFF)
  else if n = 7 then BitVec.ofNat 32 ((t.fire.map (·.time)).getD 0)
  else if n = 8 then BitVec.ofNat 32 ((t.fire.map (·.time)).getD 0 / 4294967296)
  else if n = 9 then BitVec.ofNat 32 ((t.fire.map (·.merged)).getD 0)
  else if n = 10 then e.taskFlags l
  else 0

/-- The forecast code of an I word, R168. -/
def Version.forecastCode (v : Version) (w : Nat) : Nat := ((v.forecast[w / 8]?).getD 0).toNat / 16 ^ (w % 8) % 16

/-- The forecast of an I word, or nothing where the read waits (R167 to R171); a word whose signals a switch has changed has no history
of the cycles before it (R252). -/
def Task.forecast (t : Task) (v : Version) (w : Nat) : Option Word :=
  let has (h : List SigVal) : Bool := (v.inputsAt w).all fun b => (sigFind h b.signal).isSome
  match (if t.fresh1.contains w then none else t.hist1) with
  | none => none
  | some h1 =>
    if !has h1 then none else
    let v1 := v.inputWord (valueIn h1) w
    let ramp (f : Word → Word → Word) : Word :=
      match (if t.fresh2.contains w then none else t.hist2) with
      | some h2 => if has h2 then f v1 (v.inputWord (valueIn h2) w) else v1
      | none => v1
    match v.forecastCode w with
    | 0 => some v1
    | 1 => some (ramp rampInt)
    | 2 => some (ramp fun a b => (rampF32 a b).getD a)
    | _ => none

/-- The forecast qualities of an I word's signals, those of cycle n−1 (R170). -/
def Task.forecastQualities (t : Task) (v : Version) (w : Nat) : List Quality := v.wordQualities ((t.hist1).getD []) w

/-- The running segment changed. -/
def Lane.modSeg (l : Lane) (f : SegRec → SegRec) : Lane :=
  match l.segs.reverse with
  | [] => l
  | r :: rs => { l with segs := (f r :: rs).reverse }

/-- A read entered in the running segment's read set (R178, R179): one entry for a word; a 4,097th word, or one that finds
no free entry of the strand's 16,384, makes the segment WIDE and releases its entries. -/
def Env.enter (e : Env) (l : Lane) (r : ReadEnt) : Lane :=
  let full := decide (16384 ≤ e.readsOther + l.readCount)
  l.modSeg fun g =>
    if g.wide then g
    else if g.reads.any fun x => x.word == r.word then
      { g with reads := g.reads.map fun x => if x.word = r.word then { x with withQuality := x.withQuality || r.withQuality } else x }
    else if 4096 ≤ g.reads.length || full then { g with wide := true, reads := [] }
    else { g with reads := g.reads ++ [r] }

/-- The inputs that the lane reads once they are agreed: the snapshot, or under debug the frozen copy (R231). -/
def Env.inputs (e : Env) : List SigVal :=
  match e.dbg with
  | some d => d.inputs
  | none => e.task.inputs

/-- The lane's reads of I return agreed values: the task's snapshot is agreed, or under debug the frozen copy holds the cycle's I
window (R231). -/
def Env.settled (e : Env) : Bool := match e.dbg with | some d => d.copied | none => e.agreed

/-- A read of an I word (R170, R171, R178): the agreed value; before agreement the forecast, which enters the read set; a
wait where there is none. `quality` says that the read takes the word's quality. -/
def Env.readI (e : Env) (l : Lane) (w : Nat) (quality : Bool) : Except Stop (Word × Lane) :=
  if e.settled then .ok (e.ver.inputWord (valueIn e.inputs) w, l)
  else if l.spec = .speculating then
    match e.task.forecast e.ver w with
    | some v => .ok (v, e.enter l ⟨w, v, e.task.forecastQualities e.ver w, quality⟩)
    | none => .error (.wait .waitForecast)
  else .error (.wait .waitForecast)

/-- The signals whose qualities a quality read judges: the agreed ones, or those of cycle n−1 (R170). -/
def Env.qualities (e : Env) : List SigVal := if e.settled then e.inputs else (e.task.hist1).getD []

/-- A word of Q, M, T or L as R183 gives it, with the mark of R218: the task's own provisional writes, newest last, laid
over what is published at the task's start. A lane reads its own drained writes as the pending copies. -/
def Env.readImage (e : Env) (l : Lane) (addr : Nat) : Word × Bool :=
  let base : Word :=
    match e.dbg with
    | some d => Cells.readWord d.copy addr
    | none => e.s.image.wordAt e.task.startAt addr
  let drained := l.drained.foldl (fun (p : Word × Bool) r =>
    if r.addr = addr then (overlay p.1 r.mask r.value, p.2 || r.marked) else p) (base, false)
  l.shadow.foldl (fun (p : Word × Bool) r =>
    if r.addr = addr then (overlay p.1 r.mask r.value, p.2 || r.marked) else p) drained

/-- A read of a word of any area (R91, R104): its value, its mark, and the lane with the read entered. -/
def Env.read (e : Env) (l : Lane) (area word : Nat) : Except Stop (Word × Bool × Lane) :=
  if area = 0 then do
    let (v, l) ← e.readI l word false
    .ok (v, false, l)
  else if area = 5 then .ok ((e.ver.konst[word]?).getD 0, false, l)
  else if area = 6 then .ok (e.sysWord l word, false, l)
  else
    let (v, m) := e.readImage l (e.addr area word)
    .ok (v, m, l)

/-- A read of several words one after the other. -/
def Env.readMany (e : Env) (area : Nat) : List Nat → Lane → Except Stop (List Word × Bool × Lane)
  | [], l => .ok ([], false, l)
  | k :: ks, l => do
    let (v, m, l) ← e.read l area k
    let (vs, ms, l) ← e.readMany area ks l
    .ok (v :: vs, m || ms, l)

/-- The value of a bit operand. -/
def Env.readBit (e : Env) (l : Lane) (o : Opnd) : Except Stop (Bool × Bool × Lane) := do
  let (v, m, l) ← e.read l o.area o.word
  .ok (v.getLsbD (o.index % 32), m, l)

/-- The value of a word operand. -/
def Env.readOp (e : Env) (l : Lane) (o : Opnd) : Except Stop (Word × Bool × Lane) := e.read l o.area o.word

/-- The words of an operand. -/
def Env.readWords (e : Env) (l : Lane) (o : Opnd) : Except Stop (List Word × Bool × Lane) :=
  e.readMany o.area ((List.range o.words).map (o.word + ·)) l

/-- A live read of the inputs of a word, R126. -/
def Env.live (e : Env) (w : Nat) : Word := e.ver.inputWord e.s.live w

/-! ### Writes -/

/-- The lane's half of the shadow buffer, R181. -/
def shadowHalf : Nat := 2048

/-- One write laid into the running segment's entry of its word, or into a new entry. -/
def shadowPut (seg : Nat) : List ShadowEnt → WriteRec → List ShadowEnt
  | [], r => [⟨r.addr, r.mask, r.value &&& r.mask, seg, r.marked⟩]
  | x :: xs, r =>
    if x.addr = r.addr ∧ x.segment = seg then
      ⟨x.addr, x.mask ||| r.mask, overlay x.value r.mask r.value, seg, x.marked || r.marked⟩ :: xs
    else x :: shadowPut seg xs r

/-- Writes that enter as one unit (R155, R181, R182, R184): to the shadow buffer while the task speculates, where they wait
if the half cannot take them all; otherwise to the lane's drained writes, in execution order. Every write under the path
mark is marked (R218). -/
def Env.store (e : Env) (l : Lane) (ws : List WriteRec) : Except Stop Lane :=
  let ws := ws.map fun r => { r with value := r.value &&& r.mask, marked := r.marked || l.regs.pathMark }
  if l.spec = .speculating then
    let after := ws.foldl (shadowPut l.segNo) l.shadow
    if shadowHalf < e.shadowOther + after.length then .error (.wait .waitShadow)
    else .ok { l with shadow := after }
  else .ok { l with drained := l.drained ++ ws }

/-- A write of whole words. -/
def Env.wordWrites (e : Env) (area word : Nat) (vs : List Word) (marked : Bool) : List WriteRec :=
  vs.zipIdx.map fun p => ⟨e.addr area (word + p.2), 0xFFFFFFFF, p.1, marked⟩

/-- A store to a word operand. -/
def Env.storeWord (e : Env) (l : Lane) (o : Opnd) (v : Word) (marked : Bool) : Except Stop Lane :=
  e.store l (e.wordWrites o.area o.word [v] marked)

/-- The byte of a word that holds a bit, as a mask (R181: a write carries a byte mask). -/
def byteMask (bit : Nat) : Word := 0xFF#32 <<< (bit % 32 / 8 * 8)

/-- The write of a bit operand: the byte that holds it, with the bit changed and its other bits as the lane reads them. -/
def Env.bitWrite (e : Env) (l : Lane) (o : Opnd) (b : Bool) (marked : Bool) : WriteRec :=
  let a := e.addr o.area o.word
  let (old, m) := e.readImage l a
  ⟨a, byteMask o.index, overlay old (1#32 <<< (o.index % 32)) (if b then 0xFFFFFFFF else 0), marked || m⟩

/-- A store to a bit operand. -/
def Env.storeBit (e : Env) (l : Lane) (o : Opnd) (b : Bool) (marked : Bool) : Except Stop Lane :=
  e.store l [e.bitWrite l o b marked]

/-! ### Registers -/

/-- ACC set, with its mark. -/
def Lane.setAcc (l : Lane) (b : Bool) (mark : Bool) : Lane := { l with regs := { l.regs with acc := b, accMark := mark } }
/-- WACC set, with its mark. -/
def Lane.setWacc (l : Lane) (w : Word) (mark : Bool) : Lane := { l with regs := { l.regs with wacc := w, waccMark := mark } }
/-- PC set. -/
def Lane.setPc (l : Lane) (pc : BitVec 22) : Lane := { l with regs := { l.regs with pc := pc } }

/-- An entry pushed on the branch stack (R106, R110). -/
def Lane.pushBranch (l : Lane) (op : Nat) : Except Stop Lane :=
  if 32 ≤ l.regs.branch.length then .error fBranchOver
  else .ok { l with regs := { l.regs with branch := ⟨l.regs.acc, l.regs.accMark, op⟩ :: l.regs.branch } }

/-- The top entry above the depth of the innermost call frame (R110). -/
def Lane.topBranch (l : Lane) : Except Stop BranchEnt :=
  if l.branchFloor < l.regs.branch.length then
    match l.regs.branch with
    | b :: _ => .ok b
    | [] => .error fBranchUnder
  else .error fBranchUnder

/-- The branch stack without its top entry. -/
def Lane.popBranch (l : Lane) : Lane := { l with regs := { l.regs with branch := l.regs.branch.tail } }

/-- A conditional jump, call, return or end on a marked ACC sets the path mark (R218). -/
def Lane.pathOn (l : Lane) (mark : Bool) : Lane :=
  { l with regs := { l.regs with pathMark := l.regs.pathMark || mark } }

/-- A held record in execution order: in the running segment while the task speculates, else with the admitted work
(R191). -/
def Lane.hold (l : Lane) (h : Held) : Lane :=
  if l.spec = .speculating then l.modSeg fun g => { g with held := g.held ++ [h] } else { l with held := l.held ++ [h] }

end Sys2Proof.Machine
end

