-- ==== Sys2Proof/Machine/Engine.lean ====
section
/-! DEFINITION. The engine: one instruction of one lane from its checks to its effect (R100), pending and raised faults
(R192), the shadow buffer that is full (R184), abandonment (R176), squash and verification (R188, R189), and what a
snapshot's agreement does to a task that speculates. -/
namespace Sys2Proof.Machine

/-! ### Lanes of a task -/

/-- A task with one of its lanes changed. -/
def Task.modLane (t : Task) (lane : Fin 2) (f : Lane → Lane) : Task :=
  if lane = 0 then { t with lane0 := f t.lane0 } else { t with lane1 := f t.lane1 }

/-- One lane of a task. -/
def Task.lane (t : Task) (lane : Fin 2) : Lane := if lane = 0 then t.lane0 else t.lane1

/-- Both lanes changed. -/
def Task.modLanes (t : Task) (f : Lane → Lane) : Task := { t with lane0 := f t.lane0, lane1 := f t.lane1 }

/-! ### Squash and abandonment -/

/-- Is an opcode a coprocessor operation (R156)? -/
def isCoproc (op : Nat) : Bool := decide (0xA0 ≤ op) && decide (op ≤ 0xB3)

/-- The registers and TASK_FLAGS [2:1] of a record restored (R189). -/
def Lane.restoreFrom (l : Lane) (g : SegRec) : Lane :=
  { l with regs := g.restart, flags := g.flags, immLog := l.immLog.take g.immLen, endAt := none, done := 0,
           restore := none, lastOp := 0, inFlight := false }

/-- The record of segment `g` as it stands when the segment starts afresh. -/
def SegRec.fresh (g : SegRec) : SegRec := { g with held := [], fault := none, reads := [], wide := false }

/-- The squash steps of R189 on one lane from segment `k` onwards: shadow entries, held records, pending faults, read sets
and records go, and the record of `k` is restored, after a coprocessor operation in flight has ended (R195). `speculates`
says whether the task goes on speculating from there. -/
def Lane.squash (l : Lane) (k : Nat) (speculates : Bool) : Lane :=
  match l.segs.find? fun g => g.no == k with
  | none => l
  | some g =>
    let cut : Lane :=
      { l with
        shadow := l.shadow.filter fun x => decide (x.segment < k)
        segs := (l.segs.filter fun x => decide (x.no < k)) ++ (if speculates then [g.fresh] else [])
        spec := if speculates then .speculating else .notSpeculating
        segNo := k }
    if l.inFlight then { cut with restore := some g, endAt := none } else cut.restoreFrom g

/-- The first unverified segment of a task, over both lanes. -/
def Task.firstSeg (t : Task) : Option Nat :=
  match t.lane0.segs.head?, t.lane1.segs.head? with
  | some a, some b => some (min a.no b.no)
  | some a, none => some a.no
  | none, some b => some b.no
  | none, none => none

/-- The segment that runs, the lower one where the lanes differ. -/
def Task.lastSeg (t : Task) : Option Nat :=
  match t.lane0.segs.getLast?, t.lane1.segs.getLast? with
  | some a, some b => some (min a.no b.no)
  | some a, none => some a.no
  | none, some b => some b.no
  | none, none => none

/-- Speculation of a task squashed from segment `k`, and counted as abandoned on its strand (R176, R184, R200). -/
def State.abandon (s : State) (n k : Nat) : State :=
  match s.task n with
  | none => s
  | some t =>
    (s.modTask n fun t => { t.modLanes (·.squash k true) with abandoned := true }).countN (0x0200 + t.strand)
      ((t.lane0.segs.filter fun g => decide (k ≤ g.no)).length)

/-- The priority of a task on its strand, R64: its band, then its deadline, then its number; a lower key is a higher
priority. -/
def Task.band (t : Task) : Nat :=
  if t.attr.taskClass = 0 then 2
  else if t.attr.taskClass = 1 then 4
  else if t.attr.taskClass = 2 then 6
  else 2 * t.attr.band + 1

/-- From a cycle's start to its publication, µs (R72). -/
def Task.deadline (t : Task) : Nat := if t.attr.taskClass = 3 then t.attr.deadline else t.attr.cycle

/-- The relative deadline D of R80 without the release margin, which is the same for every task, in ns. -/
def Task.relative (t : Task) : Int := (t.deadline * 1000 : Nat) - (t.sweep : Int)

/-- Is `a` of higher priority than `b`? -/
def Task.before (a b : Task) : Bool :=
  decide (a.band < b.band)
    || (a.band == b.band && (decide (a.relative < b.relative) || (a.relative == b.relative && decide (a.no < b.no))))

/-- The lowest-priority task below `t` on its strand that holds unverified entries (R184). -/
def State.victim (s : State) (t : Task) : Option Nat :=
  let below := s.tasks.filter fun x =>
    x.2.strand == t.strand && t.before x.2 && (!x.2.lane0.shadow.isEmpty || !x.2.lane1.shadow.isEmpty)
  (below.foldl (fun (m : Option Task) x =>
    match m with
    | none => some x.2
    | some y => if y.before x.2 then some x.2 else m) none).map (·.no)

/-- A speculative segment of the task runs. -/
def Task.specRunning (u : Task) : Bool := u.inCycle && u.lane0.spec == SpecState.speculating && u.lane0.endAt.isNone

/-- Admitted work is ready on a strand: a speculative segment of another task than `n` that runs there is abandoned (R176). -/
def State.yieldSpec (s : State) (strand n : Nat) : State :=
  match (s.strand strand).current with
  | some m =>
    if m = n then s
    else
      match s.task m with
      | some u => if u.specRunning then (match u.lastSeg with | some k => s.abandon m k | none => s) else s
      | none => s
  | none => s

/-- Task `n` takes a lane of its strand; where its work is admitted, a speculative segment of another task that runs there is
abandoned (R176). -/
def State.takeStrand (s : State) (n : Nat) (t : Task) (lane : Fin 2) (admitted : Bool) : State :=
  (if admitted then s.yieldSpec t.strand n else s).modStrand t.strand fun x =>
    if lane = 0 then { x with current := some n } else { x with current1 := some n }

/-! ### One instruction -/

/-- What an instruction does with its operands, once the checks of R100 up to the gate have passed. -/
abbrev Body := Env → Opnd → Opnd → Lane → Except Stop Lane

/-- The checks of R100 after the opcode, in their order, and then the body; PC already points after the instruction. -/
def checkAndRun (r : OpInfo) (f : Form) (words : Nat) (body : Body) (e : Env) (l : Lane) : Except Stop Lane := do
  if !(f.ok && f.o1.areaOk r.only && f.o2.areaOk none) then .error fReserved
  let o1 ← l.effective f.o1
  let o2 ← l.effective f.o2
  e.passGate o1
  e.passGate o2
  o1.aligned
  o2.aligned
  body e o1 o2 (l.setPc (l.regs.pc + BitVec.ofNat 22 words))

/-- The faulting instruction as the frame of R221 reports it. -/
def faultInfo (l : Lane) (op : Nat) (w : BitVec 24) (o : Opnd) (code detail : Nat) (pending : Bool) : FaultInfo :=
  { code := code, fromSegment := pending, pc := l.regs.pc, instr := BitVec.ofNat 32 (op * 16777216 + w.toNat),
    acc := l.regs.acc, wacc := l.regs.wacc, branchDepth := l.regs.branch.length, loopDepth := l.regs.loops.length,
    callDepth := l.regs.calls.length, segment := min l.segNo 65535, operand := o.index, area := o.area,
    detail := BitVec.ofNat 32 detail }

/-- A fault on a lane: held pending in an unverified segment, where the task stops speculating (R192); raised at once by
admitted work. -/
def Lane.fault (l : Lane) (i : FaultInfo) : Lane :=
  if l.spec = .speculating then
    { l.modSeg (fun g => { g with fault := some { i with fromSegment := true } }) with spec := .waitFault, inFlight := false }
  else { l with raised := some i, inFlight := false }

/-- The state with a lane's context replaced: the task's lane, or lane 1's debug context. -/
def State.putLane (s : State) (e : Env) (l : Lane) : State :=
  match e.dbg with
  | some _ => { s with dbg := s.dbg.map fun d => { d with lane := l } }
  | none => s.modTask e.task.no (·.modLane e.lane fun _ => l)

/-- Writes of lane 1 under debug go to the debug copy (R231, R232). -/
def debugFlush (d : DebugSt) : DebugSt :=
  { d with
    copy := d.lane.drained.foldl (fun m r => Cells.writeWord m r.addr (overlay (Cells.readWord m r.addr) r.mask r.value)) d.copy
    lane := { d.lane with drained := [], held := [], imms := [] } }

/-- A lane that can go on: it has not ended, faulted, stopped at a wait or to restore a record. -/
def Lane.goes (l : Lane) : Bool :=
  l.endAt.isNone && l.raised.isNone && l.restore.isNone && (l.spec == .notSpeculating || l.spec == .speculating)

/-- A lane stands at a segment boundary (R65, R119): at the start of its cycle or of what it replays, or just after a SEGMENT. -/
def Lane.atBoundary (l : Lane) : Bool := l.done == 0 || l.lastOp == 0xD4

/-- A lane of a task has ready work. A cycle that has overrun has it to the end of its running segment only (R88). -/
def Task.laneReady (t : Task) (l : Lane) : Bool :=
  t.inCycle && !t.transited && t.atPub.parallax.isNone && l.goes && (!t.atPub.overrun || !l.atBoundary)

/-- A task has ready work on a lane of its strand; lane 1 has none of a task under debug, whose work lane 0 does alone (R231). -/
def State.readyOn (s : State) (t : Task) (lane : Fin 2) : Bool :=
  t.laneReady (t.lane lane) && (lane == 0 || (s.debugFor t).isNone)

/-- A task has ready work on its strand, on either lane; without any the strand sleeps (R32). -/
def State.taskReady (s : State) (t : Task) : Bool := s.readyOn t 0 || s.readyOn t 1

/-- The lane stands in the middle of a segment of admitted work (R65), where it is ready. -/
def Task.holdsLane (t : Task) (lane : Fin 2) : Bool :=
  let l := t.lane lane
  l.spec == .notSpeculating && !l.atBoundary

/-- Is it a task's turn on a lane of its strand (R64, R65, R66, R175)? A task in the middle of a segment of admitted work keeps the lane to the
segment's end. Otherwise admitted work goes before speculative work, and each in the order of R64; a speculative segment that runs goes
on until admitted work is ready. -/
def State.turn (s : State) (t : Task) (lane : Fin 2) : Bool :=
  let cur := if lane = 0 then (s.strand t.strand).current else (s.strand t.strand).current1
  let mine := cur == some t.no
  let l := t.lane lane
  let admitted (u : Task) : Bool := (u.lane lane).spec == .notSpeculating
  let others := (s.tasks.map (·.2)).filter fun u => u.strand == t.strand && u.no != t.no && s.readyOn u lane
  if mine && t.holdsLane lane then true
  else if others.any fun u => cur == some u.no && u.holdsLane lane then false
  else if l.spec = .notSpeculating then !(others.any fun u => admitted u && u.before t)
  else
    !(others.any admitted)
      && ((mine && !l.atBoundary)
          || !(others.any fun u => u.before t || (cur == some u.no && !(u.lane lane).atBoundary)))

/-- Lane 1 does debug work only while lane 0 runs the tenant's tasks or sleeps (R231). -/
def State.debugTurn (s : State) (d : DebugSt) (strand : Nat) : Bool :=
  match ((s.strand strand).current).bind s.task with
  | none => true
  | some u => u.tenant == d.tenant || !s.readyOn u 0

/-- Can the lane execute an instruction now? Its task is in a cycle; it has not ended, faulted, stopped at a wait or to
restore a record; it is the task's turn on the strand; and it is not 64 instructions ahead of the other lane (R31). -/
def Env.canRun (e : Env) : Bool :=
  let l := e.ctx
  let other := if e.lane = 0 then e.task.lane1 else e.task.lane0
  let coupled := e.dbg.isNone && (e.s.debugFor e.task).isNone
  e.task.laneReady l
    && (match e.dbg with
        | some d => !d.halted && d.start.isSome && d.task == e.task.no && e.s.debugTurn d e.task.strand
        | none => e.s.turn e.task e.lane)
    && !(coupled && decide (other.done + 64 ≤ l.done) && other.endAt.isNone && other.raised.isNone)

/-- The instruction's lane as the run leaves it: counts and the last opcode (R195, R202). -/
def Lane.ran (l : Lane) (op cost : Nat) : Lane := { l with done := l.done + 1, cost := l.cost + cost, lastOp := op, inFlight := isCoproc op }

/-- The operands that a fault frame may name (R221): none is formed where step 2 of R100 fails. -/
def Form.named (f : Form) (r : OpInfo) : Form :=
  if f.ok && f.o1.areaOk r.only && f.o2.areaOk none then f else ⟨f.ok, noOpnd, noOpnd⟩

/-- Both effective operands; none where one cannot be formed (step 3 of R100). -/
def Lane.formed (l : Lane) (f : Form) : Opnd × Opnd :=
  match l.effective f.o1, l.effective f.o2 with
  | .ok a, .ok b => (a, b)
  | _, _ => (noOpnd, noOpnd)

/-- What a stop leaves: a pending or raised fault, a gate's record of a denial (R540), or the state of the wait (R196).
The gate counts, records and fires a denial at once, also in a segment that may still be squashed (DESIGN CHOICE: R540 says every denial, R185 and
R200 let records and counters wait for transit; log 93). -/
def State.stopLane (s : State) (e : Env) (op : Nat) (w : BitVec 24) (f : Form) (st : Stop) : State :=
  let l := e.ctx
  let o := (l.formed f).1
  let o2 := (l.formed f).2
  match st with
  | .fault code detail =>
    let named := if code == 11 && !(o.even && o.index % 2 == 1) then o2 else o
    s.putLane e (l.fault (faultInfo l op w named code detail (l.spec == .speculating)))
  | .denied d =>
    let named := match e.passGate o with | .ok _ => o2 | .error _ => o
    (s.putLane e (l.fault (faultInfo l op w named 3 d.detail (l.spec == .speculating)))).deny d
  | .wait st => s.putLane e { l with spec := st, inFlight := false }

/-- A write that finds its half full: tasks of lower priority give up their speculation one after the other, lowest first,
and the writer tries again; when none remains it waits (R184). -/
def retryShadow (run : State → Except Stop Lane) (t : Task) : Nat → State → State × Except Stop Lane
  | 0, s => (s, run s)
  | k + 1, s =>
    match run s with
    | .error (.wait .waitShadow) =>
      (match s.victim t with
       | some n =>
         (match (s.task n).bind (·.firstSeg) with
          | some k0 => retryShadow run t k (s.abandon n k0)
          | none => (s, .error (.wait .waitShadow)))
       | none => (s, .error (.wait .waitShadow)))
    | r => (s, r)

/-- The segments that became WIDE in an instruction are counted on the strand (R179, R200). -/
def State.countWide (s : State) (e : Env) (l : Lane) : State :=
  if e.lane = 0 ∧ (l.segs.filter (·.wide)).length > (e.ctx.segs.filter (·.wide)).length then
    (s.count (0x0300 + e.task.strand)).modTask e.task.no fun t => { t with wide := true }
  else s

/-- Under debug lane 1 halts before an instruction that has a breakpoint (R232), unless it is told to go on from there. -/
def DebugSt.atBreak (d : DebugSt) : Bool := !d.leaving && d.breaks.contains (d.task, d.lane.regs.pc.toNat)

/-- The reply of DEBUG.CONTROL (R468): the state of lane 1. -/
def DebugSt.body (d : DebugSt) : List Byte :=
  be 1 (if d.halted then 1 else 0) ++ [0] ++ be 2 d.task ++ be 4 d.lane.regs.pc.toNat

/-- Lane 1 has executed an instruction under debug: its writes stand in the debug copy (R232); a single step halts it and has
finished, and so does a fault. -/
def State.debugRan (s : State) : State :=
  match s.dbg with
  | none => s
  | some d =>
    let d1 := debugFlush d
    let d2 := { d1 with leaving := false, step := none, halted := d.step.isSome || d.lane.raised.isSome }
    ({ s with dbg := some d2 }).finishOpt d.step 0 d2.body

/-- One instruction on one lane. A lane that cannot execute now takes none: the state stays as it is. -/
def runOn (r : OpInfo) (body : Body) (w : BitVec 24) (ext : Word) (s : State) (t : Task) (lane : Fin 2) : State :=
  let e := s.env t lane
  if e.canRun && (e.dbg.map (·.atBreak)) == some true then
    { s with dbg := s.dbg.map fun d => { d with halted := true } }
  else if e.canRun then
    let f := formOf r w ext
    let s1 := if e.dbg.isSome then s else s.takeStrand t.no t lane (e.ctx.spec == .notSpeculating)
    let run (s : State) : Except Stop Lane :=
      checkAndRun r f r.fmt.words body { e with s := s } e.ctx
    match retryShadow run t s.tasks.length s1 with
    | (s2, .ok l) =>
      let s3 := (s2.putLane e (l.ran r.op (costOf r (e.ver.agreedImm = 1) w ext))).countWide e l
      if e.dbg.isSome then s3.debugRan else s3
    | (s2, .error st) => if e.dbg.isSome then (s2.stopLane e r.op w (f.named r) st).debugRan else s2.stopLane e r.op w (f.named r) st
  else s

/-- An instruction of the opcode table, executed by the lane that `x` names. -/
def runEngine (op : Nat) (body : Body) (x : Exec) (w : BitVec 24) (ext : Word) (s : State) : State :=
  match opInfo op, s.task x.task with
  | some r, some t => runOn r body w ext s t x.lane
  | _, _ => s

/-- An undefined opcode faults the task before any effect (R131, R166); a breakpoint on it halts first (R232). -/
def runUndefined (op : Nat) (x : Exec) (w : BitVec 24) (s : State) : State :=
  match s.task x.task with
  | none => s
  | some t =>
    let e := s.env t x.lane
    if e.canRun && (opInfo op).isNone && (e.dbg.map (·.atBreak)) == some true then
      { s with dbg := s.dbg.map fun d => { d with halted := true } }
    else if e.canRun && (opInfo op).isNone then
      let s1 := if e.dbg.isSome then s else s.takeStrand t.no t x.lane (e.ctx.spec == .notSpeculating)
      let s2 := s1.stopLane e op w ⟨true, noOpnd, noOpnd⟩ fUndefined
      if e.dbg.isSome then s2.debugRan else s2
    else s

/-! ### Rendezvous of the two lanes: AGREE and agreed immediates (R125, R127, R217) -/

/-- Two lanes stand at the same place of the same path. -/
def samePlace (a b : Lane) : Bool :=
  a.regs.pc == b.regs.pc && a.regs.calls == b.regs.calls
    && a.regs.loops.map (·.remaining) == b.regs.loops.map (·.remaining)
    && a.regs.loops.map (·.exit) == b.regs.loops.map (·.exit)

/-- An instruction that both lanes execute together: it runs when both have reached it; until then the lane that asks
waits. `first` is what lane 0 does, `second` what lane 1 does with lane 0's result. Under a debug session lane 0 acts alone,
and so does lane 1. -/
def runTogether (op : Nat) (first : Body) (second : Lane → Body) (x : Exec) (w : BitVec 24) (s : State) : State :=
  match opInfo op, s.task x.task with
  | some r, some t =>
    if (s.debugFor t).isSome then runOn r first w 0 s t x.lane
    else if (s.env t 0).canRun && (s.env t 1).canRun && samePlace t.lane0 t.lane1 then
      let s1 := runOn r first w 0 s t 0
      match s1.task x.task with
      | some t1 => runOn r (second t1.lane0) w 0 s1 t1 1
      | none => s1
    else s
  | _, _ => s

/-! ### Verification (R187 to R189) -/

/-- Does a word's forecast fail against the agreed inputs (R172)? Of a word that holds several signals, a quality read has read the quality of
every one of them (DESIGN CHOICE: R170 and R172 speak of one signal; log 92). -/
def Version.missed (v : Version) (inputs : List SigVal) (word : Nat) (value : Word) (qs : List Quality)
    (withQ : Bool) : Bool :=
  v.inputWord (valueIn inputs) word != value || (withQ && v.wordQualities inputs word != qs)

/-- The words of the I window that the task's snapshot covers (R188): a station's signal belongs to it where its I/O module does. -/
def Version.snapWords (v : Version) (t : Task) (inputs : List SigVal) : List Nat :=
  ((v.ioMap.filter fun b => !b.output && (sigFind inputs b.signal).isSome
      && (sigSpace b.signal != 0 || t.attr.snap.contains ⟨sigRing b.signal, sigStation b.signal, sigSlot b.signal⟩)).map (·.word)).eraseDups

/-- The verdict of a segment is MISS (R188). -/
def segMiss (t : Task) (v : Version) (inputs : List SigVal) (g : SegRec) : Bool :=
  (g.reads.any fun r => v.missed inputs r.word r.value r.qualities r.withQuality)
    || (g.wide && (v.snapWords t inputs).any fun w =>
          match t.forecast v w with
          | some x => v.missed inputs w x (t.forecastQualities v w) true
          | none => false)

/-- The shadow entries of verified segments drained to pending copies (R182), and their held records kept (R191). -/
def Lane.verify (l : Lane) (upTo : Nat → Bool) : Lane :=
  { l with
    drained := l.drained ++ (l.shadow.filter fun x => upTo x.segment).map fun x => ⟨x.addr, x.mask, x.value, x.marked⟩
    shadow := l.shadow.filter fun x => !upTo x.segment
    held := l.held ++ ((l.segs.filter fun g => upTo g.no).map (·.held)).flatten
    raised := match l.raised with
      | some i => some i
      | none => ((l.segs.filter fun g => upTo g.no).findSome? (·.fault))
    segs := l.segs.filter fun g => !upTo g.no }

/-- One lane at its snapshot's agreement: segments before the first MISS are verified, and the rest is squashed and goes on
as admitted work; waits end (R189, R197). -/
def Lane.agreed (l : Lane) (k : Option Nat) : Lane :=
  match k with
  | some k =>
    let v := l.verify fun n => decide (n < k)
    if v.segs.isEmpty then { v with spec := .notSpeculating }
    else
      let q := v.squash k false
      { q with segs := [] }
  | none => { l.verify (fun _ => true) with spec := .notSpeculating }

/-- The debug copy's I window taken from the agreed snapshot of the cycle that lane 1 runs (R231); a read that waited for it goes on. -/
def DebugSt.freeze (d : DebugSt) (n cycle : Nat) (inputs : List SigVal) : DebugSt :=
  if d.task = n ∧ d.start.map (·.cycle) = some cycle ∧ ¬ d.copied then
    { d with inputs := inputs, copied := true, lane := { d.lane with spec := .notSpeculating } }
  else d

/-- The task's snapshot is agreed: its inputs are the agreed ones, every segment gets its verdict, and the verdicts are
counted on the strand (R187 to R189, R200). The task's work is admitted from here on, and a speculative segment of another task gives way
to it (R176). -/
def State.specAgreed (s : State) (n : Nat) (inputs : List SigVal) : State :=
  match s.task n with
  | none => s
  | some t =>
    let v := s.versionOf t
    let misses := ((t.lane0.segs ++ t.lane1.segs).filter (segMiss t v inputs)).map (·.no)
    let k := misses.foldl (fun (m : Option Nat) x => match m with | none => some x | some y => some (min x y)) none
    let hits := (t.lane0.segs.filter fun g => match k with | some k => decide (g.no < k) | none => true).length
    let lost := t.lane0.segs.length - hits
    let s1 := (s.countN (0x0400 + t.strand) hits).countN (0x0100 + t.strand) lost
    let s2 := s1.modTask n fun t =>
      { t with
        inputs := inputs
        lane0 := t.lane0.agreed k
        lane1 := t.lane1.agreed k
        verified := min 65535 (t.verified + hits)
        replayed := t.replayed || k.isSome }
    let s3 : State := { s2 with dbg := s2.dbg.map fun d => d.freeze n t.cycle inputs }
    if ((s3.task n).map s3.taskReady) == some true then s3.yieldSpec t.strand n else s3

/-- The record of a squashed segment restored once its coprocessor operation has ended (R195). -/
def Lane.coprocEnded (l : Lane) : Lane := match l.restore with | some g => l.restoreFrom g | none => l

end Sys2Proof.Machine
end

