-- ==== Sys2Proof/Machine/Frames.lean ====
section
/-! DEFINITION. What a frame of this module is on the wire (R273 to R277): blocks, sections, ring header, envelope, padding and FCS; and the
crossing of the clocked island through which it goes (R48, R52 to R55). -/
namespace Sys2Proof.Machine

/-- A block of an OUTPUT or IMMEDIATE payload (R277). -/
def OutBlock.wire (b : OutBlock) : List Byte := be 1 b.slot ++ [0] ++ be 2 b.data.length ++ b.data

/-- A section's payload before padding: APPLY_AT and the blocks of an OUTPUT or IMMEDIATE section (R277), otherwise its own. -/
def OutSection.body (x : OutSection) : List Byte :=
  if x.kind = 1 ∨ x.kind = 2 then be 8 x.applyAt ++ x.blocks.flatMap OutBlock.wire else x.payload

/-- A section on the wire (R276): its 16 bytes of header, PAYLOAD_LEN and SEC_CRC among them, and its padded payload. -/
def OutSection.wire (x : OutSection) : List Byte :=
  be 1 x.station ++ be 1 x.kind ++ be 2 x.seq ++ be 2 x.task ++ be 2 x.body.length ++ be 4 x.cycleLo ++ be 4 (crc32 x.body).toNat
    ++ pad4 x.body

/-- What follows the ring header: the sections in order, or the payload of a frame without them (R273). -/
def OutFrame.content (f : OutFrame) : List Byte := if f.sections.isEmpty then f.payload else f.sections.flatMap OutSection.wire

/-- The ring header of a module's frame (R274); FROM_STATION and TOWARD are 0. -/
def OutFrame.header (f : OutFrame) : List Byte :=
  be 1 1 ++ be 1 f.frameType ++ be 2 (24 + f.content.length) ++ be 4 f.epoch ++ be 1 (f.ownerSide.bit + 2 * f.senderSide.bit)
    ++ be 1 (f.port / 2) ++ be 2 f.sections.length ++ be 8 f.tick ++ be 2 0xFFFF ++ be 2 0

/-- The whole frame from destination address to FCS (R273): padded with zero bytes to 64 bytes. The FCS stands as IEEE 802.3 sends it, the
low byte first (PRESUMED, log 94). -/
def OutFrame.onWire (f : OutFrame) (source : BitVec 48) : List Byte :=
  let x := [0x03, 0x56, 0x4E, 0x00, 0x00, BitVec.ofNat 8 (f.port / 2)] ++ be 6 source.toNat ++ be 2 0x88B5 ++ f.header ++ f.content
  let y := x ++ List.replicate (60 - x.length) 0
  y ++ leWord (crc32 y)

/-- A frame of this module (R273, R274): it carries the pair as this module knows it, and this module's side (R281). -/
def State.frame (s : State) (port frameType : Nat) (sections : List OutSection) (payload : List Byte) : OutFrame :=
  { port := port, frameType := frameType, epoch := s.pair.epoch, ownerSide := s.pair.ownerSide, senderSide := s.front.side,
    tick := s.clk.tick, ringTime := s.clk.ring, sections := sections, payload := payload, bytes := [] }

/-- A frame that has waited, as it is sent now (R281). -/
def State.stamp (s : State) (f : OutFrame) : OutFrame :=
  { f with epoch := s.pair.epoch, ownerSide := s.pair.ownerSide, senderSide := s.front.side, tick := s.clk.tick, ringTime := s.clk.ring }

/-- A frame with its bytes, as it goes onto the wire (R273). -/
def State.sealed (s : State) (f : OutFrame) : OutFrame := { f with bytes := f.onWire (Config.portAddress s.ident.serial f.port) }

/-! ### Islands and crossings (R48, R52 to R55) -/

/-- The island of a unit is stopped while the unit is disabled (R48): a disabled port, a solo pair's link, a disabled CAN
controller, the analogue units with no channel enabled. -/
def State.islandOff (s : State) (unit : Nat) : Bool :=
  if 0x10 ≤ unit ∧ unit ≤ 0x17 then s.setting unit 1 0 != 1
  else if 0x20 ≤ unit ∧ unit ≤ 0x23 then s.setting unit 1 0 != 1
  else if unit = 0x32 ∨ unit = 0x33 then
    (List.range 8).all (fun k => s.setting 0x32 1 k != 1) && (List.range 4).all (fun k => s.setting 0x33 1 k != 1)
  else if unit = 0x60 then s.solo
  else false

/-- The unit under which an island is kept: the analogue converters and HART modems of 16#32 and 16#33 are one island (R48). -/
def islandOf (unit : Nat) : Nat := if unit = 0x33 then 0x32 else unit

/-- The crossing of a unit's island; one that nothing has happened on is open. -/
def State.crossing (s : State) (unit : Nat) : Crossing :=
  (NMap.get s.crossings (islandOf unit)).getD (Crossing.idle (s.islandOff unit))

/-- The state with a crossing changed. -/
def State.modCrossing (s : State) (unit : Nat) (f : Crossing → Crossing) : State :=
  { s with crossings := NMap.set s.crossings (islandOf unit) (f (s.crossing unit)) }

/-- Frames on their ports' wires. -/
def State.putSent (s : State) (fs : List OutFrame) : State :=
  fs.foldl (fun (s : State) f => s.modPort f.port fun p => { p with sent := p.sent ++ [f] }) s

/-- What waits at a crossing goes across (R52, R55). -/
def State.takePending (s : State) (unit : Nat) : State :=
  let c := s.crossing unit
  (s.putSent (c.pending.filterMap (·.frame))).modCrossing unit fun c => { c with completed := c.completed + c.pending.length, pending := [] }

/-- A transfer that a requester in the fabric offers (R52, R53, R55): it waits while its island is stopped or a flush is incomplete, and ends with
an error where the island's wake has failed. -/
def State.offerTransfer (s : State) (unit : Nat) (x : CrossTransfer) : State :=
  s.modCrossing unit fun c =>
    if c.wakeFailed then { c with errors := c.errors + 1 } else { c with pending := c.pending ++ [x] }

/-- A frame put on a port's wire, through the crossing of the port's island. -/
def State.emit (s : State) (f : OutFrame) : State :=
  if (s.crossing (0x10 + f.port)).passes then s.putSent [s.sealed f] else s.offerTransfer (0x10 + f.port) ⟨false, some (s.sealed f)⟩

end Sys2Proof.Machine
end

