-- ==== Sys2Proof/Machine/Stages.lean ====
section
/-! DEFINITION. The local output stages (R484 to R498): what the active image commands of a channel, refresh, release,
share, logic-side silence and what a stage then does. -/
namespace Sys2Proof.Machine

/-- A bit of a bit vector set to a value. -/
def putBit {n : Nat} (v : BitVec n) (k : Nat) (b : Bool) : BitVec n :=
  if b then v ||| (1#n <<< k) else v &&& ~~~ (1#n <<< k)

/-- The number of the lantern task (R390): one above the module task numbers. -/
def lanternTask : Nat := 2048
/-- The number under which the lantern program stands among the tenants: one above the tenant numbers. -/
def lanternTenant : Nat := 512

/-- The program versions whose I/O maps are in force, each with its windows: the lantern program's in LANTERN, otherwise
those of the tenants; from SWITCH_AT the new version of the tenant that changes (R251). -/
def State.activeVersions (s : State) : List (Version × Windows) :=
  s.tenants.filterMap fun e =>
    if (e.1 == lanternTenant) != (s.mode == .lantern) then none
    else if s.change.state == 4 && s.change.tenant == e.1 && s.change.version.isSome then
      s.change.version.map fun v => (v, s.change.win)
    else e.2.version.map fun v => (v, e.2.win)

/-- The bits of a word that a binding covers, moved to bit 0. -/
def IoBind.take (b : IoBind) (w : Word) : Word := if b.width = 0 then (w >>> b.bit) &&& 1 else w &&& b.mask

/-- What the committed Q words command of an output signal (R72, R76); nothing where no active image maps it. -/
def State.commanded (s : State) (g : Word) : Option Word :=
  s.activeVersions.findSome? fun p =>
    (p.1.ioMap.find? fun b => b.output && b.signal == g).map fun b =>
      b.take (s.image.wordAt s.clk.ring (p.2.q + 4 * b.word))

/-- The commanded value with a force over it (R261). -/
def State.outputValue (s : State) (g : Word) : Option Word :=
  (s.commanded g).map fun v => match forceOf s.forces g with | some f => f.value | none => v

/-- The module refreshes its local output stages (R487), unless a test instruction has driven a contact (R622). -/
def State.drivesLocal (s : State) : Bool :=
  s.front.powered && !s.tap.taken && !s.front.refStopped && !s.front.powerFail
    && (s.owns || (s.mode == .standby && s.pair.synchronised) || (s.mode == .lantern && s.lantern.driven))

/-- What the switch of DO `k` does: off when released; after silence the state of R489; otherwise the commanded state;
and off while it is too hot (R485). IOLOOP switches it instead, where it is in effect (R621). -/
def State.doSwitch (s : State) (k : Nat) : Bool :=
  if s.tap.selected = 0x20 ∧ s.mode = .testHold then !s.io.thermal.getLsbD k && s.tap.ioloop.getLsbD k
  else !s.io.thermal.getLsbD k && !s.io.doReleased.getLsbD k
    && (if s.io.doSilent.getLsbD k then !s.io.half && s.setting 0x31 1 k == 1 else s.io.doCmd.getLsbD k)

/-- The switches after a change of what drives them. -/
def State.settleDo (s : State) : State :=
  s.modIo fun io => { io with doOn := (List.range 16).foldl (fun v k => putBit v k (s.doSwitch k)) 0 }

/-- A release of every channel (R487): every DO off, every AO without current. -/
def State.releaseLocal (s : State) : State :=
  (s.modIo fun io =>
    { io with doReleased := 0xFFFF, doSilent := 0,
              ao := io.ao.map fun c => { c with released := true, alarm := false } }).settleDo

/-- The stages are no longer released: each channel's silence is measured from now (R394, R489). -/
def State.engageLocal (s : State) : State :=
  (s.modIo fun io =>
    { io with doReleased := 0, doSilent := 0, doRefreshed := some s.clk.local_,
              ao := io.ao.map fun c =>
                { c with released := false, alarm := false, refreshed := some s.clk.local_ } }).settleDo

/-- A change of a channel status that R498 records: source 971. -/
def State.channelChange (s : State) (unit ch : Nat) : State :=
  (s.record 498 1 sevWarning 971 noSource [(4, unit), (4, ch)]).fire 971

/-- An AI channel with a code, at most 48,000, and the conditions that follow it (R491, R494). -/
def aiMeasured (code : Nat) (fault : Bool) : AiCh :=
  let c := min 48000 code
  ⟨c, decide (c < 2000), decide (c ≤ 7200), decide (42000 ≤ c), decide (c = 48000), fault⟩

/-- The code that an AO stage drives: the nearer limit outside 7,600 to 41,000 (R495). -/
def aoClamp (code : Nat) : Nat := if code < 7600 then 7600 else if 41000 < code then 41000 else code

/-- A standby does not compute any task of a tenant that maps an output signal: it follows them all since its join (R357, R487; DESIGN
CHOICE: a map does not say which task of a tenant writes a channel, so the channel is the tenant's; log 116). -/
def State.onlyFollows (s : State) (g : Word) : Bool :=
  s.mode == .standby && s.tenants.any fun e =>
    (match e.2.version with | some v => v.ioMap.any fun b => b.output && b.signal == g | none => false)
      && (s.tasks.any fun t => t.2.tenant == e.1) && s.tasks.all fun t => t.2.tenant != e.1 || t.2.following

/-- One refresh of an AO channel (R487, R495). -/
def State.refreshAo (s : State) (k : Nat) (c : AoCh) : AoCh :=
  if s.onlyFollows (localSignal 0x33 k) then { c with released := true, alarm := false }
  else match s.outputValue (localSignal 0x33 k) with
  | none => c
  | some v =>
    let code := v.toNat % 65536
    { c with code := code, clamped := decide (code < 7600 ∨ 41000 < code), alarm := false, released := false,
             fullShare := !s.io.half, refreshed := some s.clk.local_ }

/-- One refresh of a DO channel. -/
def State.refreshDo (s : State) (io : LocalIo) (k : Nat) : LocalIo :=
  if s.onlyFollows (localSignal 0x31 k) then
    { io with doMapped := putBit io.doMapped k true, doReleased := putBit io.doReleased k true, doSilent := putBit io.doSilent k false }
  else match s.outputValue (localSignal 0x31 k) with
  | none => { io with doMapped := putBit io.doMapped k false }
  | some v =>
    { io with doMapped := putBit io.doMapped k true, doCmd := putBit io.doCmd k (v.getLsbD 0),
              doReleased := putBit io.doReleased k false, doSilent := putBit io.doSilent k false }

/-- The refresh of a tick (an AO channel has none while its island, being enabled, is stopped or flushed: R52, R55): committed values, forces applied, for each DO and AO channel that the active image maps (R487). A
module that does not drive sends a release instead; a lantern program that stopped leaves its outputs in their safe state
(R393), and so does a solo module that its lever took out (R400). -/
def State.refreshLocal (s : State) : State :=
  if s.mode == .lantern && (s.lantern.silent || (s.lantern.driven && !s.lantern.running)) then s
  else if s.drivesLocal then
    (s.modIo fun io =>
      { (List.range 16).foldl s.refreshDo io with
        doRefreshed := some s.clk.local_, ao := if s.islandOff 0x33 || (s.crossing 0x33).passes then io.ao.zipIdx.map fun p => s.refreshAo p.2 p.1 else io.ao }).settleDo
  else if s.front.refStopped || !s.front.powered then s
  else s.releaseLocal

/-- The safe state of logic-side silence at once, on every channel that is not released (R393, R489). -/
def State.silenceNow (s : State) : State :=
  (s.modIo fun io =>
    { io with
      doSilent := io.doSilent ||| ~~~ io.doReleased,
      ao := io.ao.map fun c =>
        if c.released then c else if io.half then { c with released := true } else { c with alarm := true } }).settleDo

/-- SHARE is HALF while the partner also drives, R488. -/
def State.shareHalf (s : State) : Bool :=
  !s.alone && (s.peerState == 3 || s.peerStandbySync)

/-- Every AO stage takes the whole current (R497). -/
def State.fullShare (s : State) : State :=
  s.modIo fun io => { io with half := false, ao := io.ao.map fun c => { c with fullShare := true } }

/-- The time after which a stage that is not refreshed acts, ns (R489). -/
def State.silenceNs (s : State) : Nat := if s.io.half then 200000 else s.settingNat 0x31 2 0 * 1000000

/-- Is a channel that `mapped` says the image maps silent now? One that is refreshed is not. -/
def State.isSilent (s : State) (mapped : Bool) (refreshed : Option Nat) : Bool :=
  match refreshed with
  | none => false
  | some t => !mapped || decide (t + s.silenceNs ≤ s.clk.local_)

/-- Logic-side silence (R489): every channel that is neither refreshed nor released acts by the last SHARE. -/
def State.silence (s : State) : State :=
  let hit (k : Nat) : Bool := !s.io.doReleased.getLsbD k && s.isSilent (s.io.doMapped.getLsbD k) s.io.doRefreshed
  let silentAo (k : Nat) (c : AoCh) : AoCh :=
    if (!c.released || (s.drivesLocal && !s.onlyFollows (localSignal 0x33 k))) && s.isSilent (s.outputValue (localSignal 0x33 k)).isSome c.refreshed then
      (if s.io.half then { c with released := true } else { c with alarm := true })
    else c
  (s.modIo fun io =>
    { io with
      doSilent := (List.range 16).foldl (fun v k => if hit k then putBit v k true else v) io.doSilent,
      ao := io.ao.zipIdx.map fun p => silentAo p.2 p.1 }).settleDo

end Sys2Proof.Machine
end

