-- ==== Sys2Proof/Machine/PairOps.lean ====
section
/-! DEFINITION. The module's states and what moves it from one to another (R345 to R376, R390 to R402): the HEALTH word,
emergency and fault handover, becoming owner, JOINING, STANDBY-FAULTED, LANTERN and restart, and the ends of sessions,
cycles and debug work that go with them. -/
namespace Sys2Proof.Machine

/-! ### What the module drives and serves -/

/-- The module runs: its rails are up and its main reference runs (R348, R405). -/
def State.up (s : State) : Bool := s.front.powered && !s.front.refStopped

/-- The HEALTHY discrete is driven (R350). -/
def State.healthyOut (s : State) : Bool := s.up && !s.front.powerFail && (s.mode == .standby || s.mode == .owner)

/-- The OWNER-CLAIM discrete is driven (R350). -/
def State.claimOut (s : State) : Bool := s.up && !s.front.powerFail && s.mode == .owner

/-- The module computes tasks (R351). -/
def State.computes (s : State) : Bool :=
  s.up && (s.owns || s.mode == .standby || (s.mode == .joining && ((s.pair.join).bind (·.tickJ)).isSome))

/-- The module transmits cyclic frames on its rings (R351, R362, R399): an owner, a synchronised standby, and a module in
TEST-HOLD that was a solo OWNER, until a test instruction has driven a contact (R622). -/
def State.transmits (s : State) : Bool :=
  s.up && !s.tap.taken && !s.front.powerFail
    && (s.mode == .owner || (s.mode == .standby && s.pair.synchronised) || (s.mode == .testHold && !s.lantern.testHoldPin))

/-- A partner in OWNER is seen on some path (R355, R393): its OWNER-CLAIM, or its state in a frame. -/
def State.ownerSeen (s : State) : Bool := s.pair.peerClaim || s.peerState == 3

/-- The configuration store has been read (R388): from bring-up complete onwards. -/
def State.configRead (s : State) : Bool := s.mode != .lantern || s.lantern.bringupComplete

/-- Does a strand of the list have a property? -/
def State.anyStrand (s : State) (p : StrandSt → Bool) : Bool := s.strands.any p

/-- A Bool at a bit of a 64-bit word. -/
def bit64 (n : Nat) (b : Bool) : BitVec 64 := if b then 1#64 <<< n else 0

/-- The HEALTH word, R376. -/
def State.health (s : State) : BitVec 64 :=
  let now := s.clk.local_
  BitVec.ofNat 64 s.mode.code
    ||| bit64 3 (s.front.side == .b)
    ||| bit64 4 (s.configRead && s.preferred == s.front.side)
    ||| bit64 5 (s.mode == .owner || (s.mode == .standby && s.pair.synchronised))
    ||| bit64 6 (s.configRead && s.solo)
    ||| bit64 7 (s.configRead && s.feedDual)
    ||| bit64 8 s.feeds.present1
    ||| bit64 9 (s.configRead && s.feedDual && s.feeds.present2)
    ||| bit64 10 s.link.lane0
    ||| bit64 11 s.link.lane1
    ||| bit64 12 s.pair.peerHealthy
    ||| bit64 13 (match s.pair.lastRing with | some t => decide (now < t + 3000000) | none => false)
    ||| bit64 14 s.pair.peerClaim
    ||| bit64 15 s.isolated
    ||| ((s.rings.zipIdx.map fun p => bit64 (16 + p.2) p.1.cut.isSome).foldl (· ||| ·) 0)
    ||| ((s.ports.zipIdx.map fun p => bit64 (20 + p.2) p.1.loopbackFail).foldl (· ||| ·) 0)
    ||| bit64 28 s.pair.laneTestFail
    ||| bit64 29 s.pair.scrubCorrected
    ||| bit64 30 s.pair.memoryUncorrectable
    ||| bit64 31 s.pair.patternFail
    ||| bit64 32 (s.anyStrand (·.marginLow))
    ||| bit64 33 (s.anyStrand (·.paceLow))
    ||| bit64 34 (s.anyStrand (·.probeFault))
    ||| bit64 35 (s.anyStrand (·.retired))
    ||| bit64 36 s.pair.divergence
    ||| bit64 37 (match s.pair.unagreedAt with | some t => decide (now < t + 1000000000) | none => false)
    ||| bit64 38 s.dbg.isSome
    ||| bit64 39 (!s.forces.isEmpty)
    ||| bit64 40 s.slot.isSome
    ||| bit64 41 (s.mode == .standby && s.pair.holdoffFrom.isSome)
    ||| bit64 42 s.pair.variantMismatch
    ||| bit64 43 s.vcore.supplyFault
    ||| bit64 44 s.pair.ingressOverrun
    ||| bit64 45 s.pair.dualOwnership
    ||| (BitVec.ofNat 64 s.cause.code <<< 48)
    ||| (BitVec.ofNat 64 (s.pair.selftestRound % 256) <<< 56)

/-- The state's own fault bits (R376). -/
def State.faulty (s : State) : Bool := healthFaults s.health

/-! ### Ends of activities -/

/-- A debug session ends (R234): lane 1 gives up its copy, and each task of the tenant that has a start to come stays uncompared until
lane 1 has started a cycle with lane 0. -/
def State.endDebug (s : State) : State :=
  match s.dbg with
  | none => s
  | some d =>
    let left := (s.tasks.filter fun e => e.2.tenant == d.tenant && (e.2.st == .armed || e.2.st == .running)).map (·.1)
    let s1 : State :=
      { s with
        dbg := if left.isEmpty then none else some { d with session := 0, halted := true, step := none, copy := [], closing := left }
        slot := if (s.slot.map (·.holder)) == some 3 then none else s.slot }
    let s2 := if s.solo || (s.slot.map (·.holder)) != some 3 then s1 else s1.send 3 (.forward (.release 3))
    s2.finishOpt d.step 0 ({ d with halted := true }).body

/-- A task has no start to come any more: a debug session that has ended waits for it no longer (R234). -/
def State.leaveClosing (s : State) (n : Nat) : State :=
  match s.dbg with
  | none => s
  | some d =>
    if d.session = 0 then
      let left := d.closing.filter fun k => k != n
      { s with dbg := if left.isEmpty then none else some { d with closing := left } }
    else s

/-- A unit restarts with its old settings and its quiesce ends (R469, R470). -/
def State.dropQuiesce (s : State) (unit : Nat) : State :=
  s.modSettings fun c => { c with quiesced := c.quiesced.filter fun q => q.unit != unit }

/-- A session ends (R449): it is recorded; its quiesces end (R470), a tenant it was loading is FREE again (R460), and its
debug session ends (R234). -/
def State.endSession (s : State) (no : Nat) : State :=
  match s.session no with
  | none => s
  | some _ =>
    let held := s.settings.quiesced.filter fun q => q.session == no
    let s1 := held.foldl (fun s q => (s.dropQuiesce q.unit).record 470 1 sevInfo noSource noSource [(4, q.unit)]) s
    let s2 : State :=
      { s1 with
        gelit := { s1.gelit with sessions := s1.gelit.sessions.filter fun x => x.no != no }
        tenants := s1.tenants.map fun e =>
          (e.1, { e.2 with loading := e.2.loading.filter fun l => l.session != no }) }
    let s3 := match s2.dbg with
      | some d => if d.session = no then s2.endDebug else s2
      | none => s2
    s3.record 449 1 sevInfo noSource noSource [(4, no)]

/-- Every session ends (R449). -/
def State.endSessions (s : State) : State := (s.gelit.sessions.map (·.no)).foldl State.endSession s

/-- The almanac record of a parallax: kind, class, outcome, task, strand (R215). -/
def State.recordParallax (s : State) (n strand : Nat) (k : ParKind) (imm : Bool) (outcome : Nat) : State :=
  s.record 215 1 sevAlarm 963 (((s.task n).map (·.tenant)).getD noSource)
    [(4, k.code), (4, if imm then 1 else 0), (4, outcome), (4, n), (4, strand)]

/-- A parallax that waits for its publication instant is DISCARDED, where its cycle ends before it (R208, R215). -/
def State.dropParallax (s : State) (n : Nat) : State :=
  match s.task n with
  | none => s
  | some t =>
    match t.atPub.parallax with
    | none => s
    | some p =>
      ((s.modStrand t.strand fun x => if x.parTask = n then { x with parOutcome := 2 } else x).modTask n fun t =>
        { t with atPub := { t.atPub with parallax := none } }).recordParallax n t.strand p.kind p.immediate 2

/-- A task without the cycle it was in: nothing of it stands. -/
def Task.dropCycle (t : Task) : Task :=
  { t with
    inCycle := false, transited := false, released := false, snap := none, atPub := AtPub.none, ownSet := none, peerSet := none,
    lane0 := Lane.start (BitVec.ofNat 22 t.attr.entry) .notSpeculating,
    lane1 := Lane.start (BitVec.ofNat 22 t.attr.entry) .notSpeculating }

/-- Every cycle in progress is dropped, with its cyclic tags (R308). -/
def State.dropCycles (s : State) : State :=
  let s1 := (s.tasks.map (·.1)).foldl State.dropParallax s
  { s1 with tasks := s1.tasks.map fun e => (e.1, e.2.dropCycle), cyclicTags := [] }

/-- Nothing is left to transmit at any port. -/
def State.silencePorts (s : State) : State :=
  { s with ports := s.ports.map fun p => { p with queue := [], immQueue := [], acycQueue := [] } }

/-! ### Tasks and images -/

/-- A task that is loaded and not started (R67). -/
def Task.fresh (no tenant pos : Nat) (attr : TaskAttr) (outs : List SnapMod) (strand w g sweep lBase : Nat) : Task :=
  { no := no, tenant := tenant, pos := pos, attr := attr, outs := outs, newVersion := false, strand := strand, w := w, g := g,
    sweep := sweep, cycSweep := sweep, applySweeps := [], lBase := lBase, st := .stopped, start0 := 0, cycle := 0, startAt := 0, inCycle := false,
    first := false, following := false, speculates := false, transited := false, released := false, snap := none, inputs := [], hist1 := none, hist2 := none, freshNext := [], fresh1 := [], fresh2 := [],
    lane0 := Lane.start (BitVec.ofNat 22 attr.entry) .notSpeculating,
    lane1 := Lane.start (BitVec.ofNat 22 attr.entry) .notSpeculating, fire := none, latch := none, behind := none, nextStart := none,
    prevStart := none, faultCount := 0, faultCode := 0, wideLast := false, replayedLast := false,
    abandonedLast := false, verifiedLast := 0, replayed := false, abandoned := false, wide := false, verified := 0,
    atPub := AtPub.none, peerSet := none, ownSet := none, peerOverrun := none, peerFault := none, immRun := 0,
    laneParCycle := none, immSeq := [], dupMismatch := 0, wd := Watchdog.off }

/-- The byte address of a window's area. -/
def Windows.base (w : Windows) (area : Nat) : Nat :=
  if area = 1 then w.q else if area = 2 then w.m else if area = 3 then w.t else w.l

/-- The windows of a version laid out afresh: zero, then the initial-value table (R245, R235). -/
def initWindows (m : List Host.Cell) (w : Windows) (v : Version) : List Host.Cell :=
  let zero := (windowRanges w v).foldl (fun m r => Cells.clear m r.1 r.2) m
  v.initial.foldl (fun m e =>
    if 1 ≤ e.area ∧ e.area ≤ 4 then Cells.writeWord m (w.base e.area + 4 * e.word) e.value else m) zero

/-- The windows of a version as the loader leaves them: the fault frame is zero, whatever the initial-value table gives it (R219). -/
def loadWindows (m : List Host.Cell) (w : Windows) (v : Version) : List Host.Cell :=
  Cells.clear (initWindows m w v) (w.m + 4 * v.faultFrame) 64

/-- A cyclic or event task armed (R67): start_0 for a cyclic task, nothing pending for an event task. -/
def Task.arm (t : Task) (start0 : Nat) : Task :=
  { t.dropCycle with
    st := .armed, start0 := start0, cycle := 0, first := true, hist1 := none, hist2 := none, faultCode := 0,
    freshNext := [], latch := none, behind := none, nextStart := none, prevStart := none, fire := none, immRun := 0, laneParCycle := none,
    peerOverrun := none, peerFault := none, wd := { t.wd with first := true } }

/-- start_0 of a task started now: the first tick at least 10 ms after both modules have accepted the start (R67); a partner accepts it
within the link's latency of 2 µs (R26). -/
def State.newStart (s : State) : Nat := s.tickIn (if s.alone then 10000000 else 10002000)

/-! ### Acyclic requests -/

/-- The payload of an ACYC-REQ section (R312). -/
def AcycReq.payload (q : AcycReq) : List Byte :=
  be 1 q.op ++ be 1 q.slot ++ be 2 q.index ++ be 2 q.length ++ [0, 0] ++ (if q.op = 2 then q.data else [])

/-- The ACYC-REQ section of a transaction, queued at the ring's port (R311); it expires 100 ms on (R315). -/
def State.queueAcyc (s : State) (x : Acyc) : State :=
  let sec : OutSection := ⟨5, x.req.station, x.seq, 0xFFFF, 0, 0, [], x.req.payload⟩
  let port := 2 * x.req.ring
  let s1 := s.modPort port fun p => { p with acycQueue := p.acycQueue ++ [s.frame port 4 [sec] []] }
  { s1 with acyc := NMap.set s1.acyc x.tag { x with attempts := x.attempts + 1, deadline := s1.clk.ring + 100000000 } }

/-- The new owner sends every outstanding mirrored request again with its SEQ (R316). -/
def State.resumeAcyc (s : State) : State :=
  (s.acyc.map (·.2)).foldl (fun s x =>
    if (s.station x.req.ring x.req.station).outstanding.contains x.tag then
      s.queueAcyc { x with attempts := x.attempts - 1 }
    else s) s

/-! ### HART and CAN at a change of owner -/

/-- A HART transaction of this module ends with a result and no data (R500). -/
def State.hartResult (s : State) (x : HartTx) (result : Nat) : State :=
  s.finishOpt x.ticket 0 (be 1 result ++ [0] ++ be 2 0 ++ be 2 0 ++ [0, 0])

/-- The old owner's HART channels at a handover (R501): queued requests end ABORTED, and at a handover that is not planned
so does the one in progress. -/
def State.hartLeave (s : State) (planned : Bool) : State :=
  let gone := (s.hart.map fun h => h.queue ++ (if planned then [] else h.active.toList)).flatten
  let s1 := gone.foldl (fun s x => s.hartResult x 4) s
  { s1 with hart := s1.hart.map fun h => { h with queue := [], active := if planned then h.active else none } }

/-- The new owner's HART channels (R501): after a planned handover they wait until the mirrored transaction has ended on the old owner;
after an emergency handover or a silence claim the mirrored transaction in progress is repeated, and its reply will be held. -/
def State.hartTake (s : State) (planned : Bool) : State :=
  { s with hart := s.hart.map fun h =>
      if planned then h
      else match h.mirrors, h.active with
        | q :: _, none => { h with active := some ⟨q, none, 1, 0, s.clk.local_⟩, mirrors := [] }
        | _, _ => { h with mirrors := [] } }

/-- A controller takes the serving role (R509): the mirrored frames that it has not seen on the bus are sent again. -/
def CanCtl.take (c : CanCtl) : CanCtl :=
  if c.serving || c.state == 0 then c
  else { c with serving := true, given := false, sending := c.sending ++ c.mirrors.map fun f => ⟨f, none, none, false, 0⟩, mirrors := [] }

/-- A setting of the other side (R471): SIDE values of the partner stand under its units' numbers plus 256. -/
def State.peerSetting (s : State) (unit no ch : Nat) : Int :=
  (NMap.get s.settings.values ((256 + unit) * 65536 + no * 256 + ch)).getD (Config.settingDefault unit (no * 256 + ch))

/-- CAN_ENABLE, CAN_MODE and the rates and sample points of controller `k` are the same on both modules (R507). -/
def State.canMatches (s : State) (k : Nat) : Bool :=
  [1, 2, 3, 4, 5, 6].all fun no => s.setting (0x20 + k) no 0 == s.peerSetting (0x20 + k) no 0

/-- This module takes the serving role of a controller (R507). -/
def State.takeCan (s : State) (k : Nat) : State := s.modCan k CanCtl.take

/-- The serving role of a controller goes to the partner (R507): from the owner to a synchronised standby, or back from it to the owner,
where the two controllers' settings agree. -/
def State.giveCan (s : State) (k : Nat) : State :=
  if (s.ctl k).serving && !s.solo && s.canMatches k
      && ((s.mode == .owner && s.peerStandbySync) || (s.mode == .standby && s.peerState == 3)) then
    (s.modCan k fun c => { c with serving := false, given := s.mode == .owner }).send 3 (.mirror (.canServe k))
  else s

/-- What R507 settles while the machine runs: an owner whose controller shows TRANSCEIVER_FAULT gives its role once the partner is a
synchronised standby, and takes one back that the partner cannot serve any more; a standby that is not synchronised serves none. -/
def State.settleCan (s : State) : State :=
  (List.range s.can.length).foldl (fun (s : State) k =>
    let c := s.ctl k
    if s.mode == .owner && c.given && !(s.pair.peerHealthy && s.peerStandbySync) && !s.isQuiesced (0x20 + k) then s.takeCan k
    else if s.mode == .owner && c.xcvrFault then s.giveCan k
    else if s.mode == .standby && !s.pair.synchronised then s.modCan k fun c => { c with serving := false }
    else s) s

/-- The serving role of the CAN controllers lies with the owner (R507, R509); a controller that shows TRANSCEIVER_FAULT leaves it
to a partner. At a planned change of owner (`moved`) a role stays with the old owner where the two controllers' settings differ and it has
the controller on the bus. -/
def State.canServe (s : State) (serve moved : Bool) : State :=
  let stays (k : Nat) : Bool := moved && !s.alone && !s.canMatches k
  let pass (k : Nat) (c : CanCtl) : Bool := c.xcvrFault && !s.alone && s.canMatches k
  let role (k : Nat) (c : CanCtl) : CanCtl :=
    if c.state = 0 then { c with serving := false, given := false }
    else if serve then
      (if stays k && !c.serving && s.peerSetting (0x20 + k) 1 0 == 1 then { c with given := true }
       else if pass k c then { c with serving := false, given := true }
       else c.take)
    else { c with serving := c.serving && stays k, given := false }
  let s1 : State := { s with can := s.can.zipIdx.map fun p => role p.2 p.1 }
  (s.can.zipIdx.filter fun p => serve && p.1.state != 0 && pass p.2 p.1).foldl (fun (s : State) p =>
    s.send 3 (.mirror (.canServe p.2))) s1

/-! ### Ownership -/

/-- The master base of ring time, R425: TB-PLANT where RING_STEER is PLANT and PLANT_VALID is set, otherwise TB-LOCAL. -/
def State.masterBase (s : State) : Nat :=
  if s.setting 0x42 4 0 = 1 ∧ s.time.plantValid then (s.time.plant.valueAt s.clk.local_).toNat else s.clk.local_

/-- RING_OFFSET set so that ring time goes on without a step from its present value (R425). -/
def State.rebaseRing (s : State) : State :=
  s.modTime fun x =>
    { x with
      ringPlant := s.setting 0x42 4 0 == 1 && x.plantValid
      ringOffset := (s.masterBase : Int) - s.clk.ring }

/-- This module masters ring time from the value it has (R425, R429). -/
def State.takeRing (s : State) : State :=
  (s.modTime fun x => { x with ringMaster := true, ringHoldover := false, ringFollow := 0 }).rebaseRing

/-- This module follows ring time from the value it has, at the rate it has (R429). -/
def State.followRing (s : State) : State :=
  s.modTime fun x =>
    { x with
      ringMaster := false
      ring := if x.ringMaster then Base.setAt s.clk.local_ s.clk.ring (if x.ringPlant then x.plant.rate else 0) else x.ring }

/-- The epoch that this module holds in MRAM: the one in use, or one written ahead of its use (R353, R364). -/
def State.storedEpoch (s : State) : Nat := max s.pair.epoch s.pair.stored

/-- The epoch of the next change of owner: one more than the present one, or the one that is written already (R353, R364). -/
def State.nextEpoch (s : State) : Nat := max (s.pair.epoch + 1) s.pair.stored

/-- This module has become owner under `epoch` (R353, R363, R368): it writes the epoch, asserts OWNER-CLAIM, masters ring
time from the value it was following, continues acyclic, HART and CAN work, drops what the old owner had not brought into effect
(R453), and ends a debug session. Becoming owner
rewrites the first-ownership record (R398). Change of owner fires source 896 (R379). -/
def State.becomeOwner (s : State) (epoch : Nat) (c : Cause) (planned : Bool) : State :=
  let s1 := s.endDebug
  let s2 : State :=
    { s1 with
      mode := .owner, cause := c
      gateWrites := [], checks := [], keys := { s1.keys with revoking := [] }
      pair := { s1.pair with
        epoch := epoch, ownerSide := s1.front.side, handover := none, holdoffFrom := none, holdoffDue := false,
        synchronised := true, join := none }
      lantern := { s1.lantern with
        phase := .notLantern, hold := .none, running := false, driven := false, ran := false,
        record := some (s1.front.slotId, s1.front.side), removedSince := false } }
  (((s2.takeRing.canServe true (planned && s.mode == .standby)).hartTake planned).resumeAcyc.record 353 1 sevInfo 896 noSource
    [(4, epoch), (4, s2.front.side.bit), (4, c.code)]).fire 896

/-- What leaves LANTERN with a module that will compute (R355, R394, R399): its stored images start afresh, or from a retain image
(R573), the stored gate entries come into use (R539), and the local outputs keep the lantern program's last values. -/
def State.startImages (s : State) : State :=
  let base := match s.update.retain with
    | some m => Cells.ofList m
    | none => (s.tenants.filter fun e => e.1 != lanternTenant).foldl (fun m e =>
        match e.2.version with | some v => loadWindows m e.2.win v | none => m) []
  let s1 : State :=
    { s with
      clk := { s.clk with ring := s.masterBase, tick := s.masterBase / 50000 }
      time := { s.time with ringOffset := 0 }
      tenants := NMap.del s.tenants lanternTenant
      tasks := NMap.del s.tasks lanternTask
      image := { s.image with base := base, log := [] }
      gates := s.gates.map fun g => if g.stored.isEmpty then g else { g with host := g.stored }
      io := if s.lantern.driven then s.io else { s.io with doCmd := 0 } }
  s1.engageLocal

/-- The tasks of a retain image start again (R573). -/
def State.resumeRetained (s : State) : State :=
  if s.update.retain.isNone then s
  else
    let ks := s.update.retainTasks
    let s1 := s.record 573 2 sevInfo noSource noSource []
    { s1 with
      update := { s1.update with retain := none, retainTasks := [] }
      tasks := s1.tasks.map fun e => if ks.contains e.1 then (e.1, e.2.arm s1.newStart) else e
      tenants := s1.tenants.map fun e =>
        if s1.tasks.any fun t => t.2.tenant == e.1 && ks.contains t.1 then (e.1, { e.2 with state := .running }) else e }

/-- A module in LANTERN leaves it to own (R355). -/
def State.ownFromLantern (s : State) (c : Cause) : State :=
  ((s.startImages).becomeOwner s.nextEpoch c true).resumeRetained

/-- A module enters TEST-HOLD at bring-up (R399): it computes as a solo owner, and sends nothing on its rings. -/
def State.enterTestHold (s : State) : State :=
  let s1 := s.startImages
  let s2 : State :=
    { s1 with
      mode := .testHold, cause := .none
      lantern := { s1.lantern with phase := .notLantern, hold := .none, running := false, driven := false, ran := false } }
  ((s2.takeRing.canServe true false).resumeRetained).record 399 1 sevInfo noSource noSource []

/-- This module enters JOINING (R352, R357): it sends nothing but HEARTBEAT, drops HEALTHY, and computes nothing of what it had
begun. -/
def State.enterJoining (s : State) (c : Cause) (j : Join) : State :=
  let s1 := ((s.endDebug).dropCycles.silencePorts).releaseLocal
  let s2 : State :=
    { s1 with
      mode := .joining, cause := c
      tenants := NMap.del s1.tenants lanternTenant
      tasks := NMap.del s1.tasks lanternTask
      pair := { s1.pair with
        synchronised := false, handover := none, holdoffFrom := none, holdoffDue := false, join := some j }
      lantern := { s1.lantern with phase := .notLantern, hold := .none, running := false, driven := false } }
  s2.followRing.canServe false false

/-- This module's identity (R356), with its report of R570. -/
def State.identity (s : State) : PeerIdent :=
  ⟨s.ident.variant, s.ident.fuse, s.ident.generation, s.front.side, s.solo, s.mode == .owner,
    s.update.bridge && (s.slot.map (·.holder)) == some 1, s.update.targetGen, s.update.bridgeList⟩

/-- This module enters JOINING and asks to join (R357, step 1). -/
def State.toJoining (s : State) (c : Cause) : State :=
  (s.enterJoining c ⟨s.clk.local_, none, false, none⟩).send 3 (.joinRequest ⟨s.storedEpoch, s.identity⟩)

/-- This module enters STANDBY-FAULTED (R351, R372): it computes and sends nothing, and fires source 907. -/
def State.toFaulted (s : State) (c : Cause) : State :=
  let s1 := ((s.endDebug).dropCycles.silencePorts).releaseLocal
  let s2 : State :=
    { s1 with
      mode := .standbyFaulted, cause := c
      pair := { s1.pair with
        synchronised := false, handover := none, holdoffFrom := none, holdoffDue := false, join := none,
        faultAt := some s1.clk.local_,
        faultBudgetOrIngress := c == .budgetOverrun || c == .ingressOverrun } }
  ((s2.followRing.canServe false false).record 372 1 sevFault 907 noSource [(4, c.code)]).fire 907

/-- A setting of PAIR scope (R346, R471, R475, R476), by SETTING_NO. -/
def pairScope (unit no : Nat) : Bool :=
  (unit == 0 && no == 3) || (0x10 ≤ unit && unit ≤ 0x17 && 3 ≤ no) || (0x30 ≤ unit && unit ≤ 0x33) || (unit == 0x42 && no == 4)
    || unit == 0x60

/-- What a module that stops being owner gives up (R453): commands that still wait to take effect on both modules end with NOT-OWNER
and without an effect; staged PAIR settings are discarded, and a unit on which nothing else is staged restarts with its old settings. -/
def State.loseOwner (s : State) : State :=
  let ks := s.gateWrites.filterMap (·.ticket) ++ s.keys.revoking.filterMap (·.2.2) ++ s.checks.filterMap (·.ticket)
  let s1 := ks.foldl (fun (s : State) k => s.finish k 0x0C errorPlain) s
  let pair (q : Quiesced) (v : Nat × Int) : Bool := pairScope q.unit (v.1 / 256)
  let gone := s1.settings.quiesced.filter fun q => q.staged.any (pair q) && q.staged.all (pair q)
  let s2 := gone.foldl (fun (s : State) q =>
    let s3 := s.dropQuiesce q.unit
    if s3.solo then s3 else s3.send 3 (.mirror (.quiesce q.unit false))) s1
  { s2 with
    gateWrites := [], checks := []
    keys := { s2.keys with revoking := [] }
    settings := { s2.settings with
      quiesced := s2.settings.quiesced.map fun q => { q with staged := q.staged.filter fun v => !pair q v } } }

/-- This module becomes STANDBY from OWNER (R364, R370). -/
def State.ownerToStandby (s : State) (c : Cause) (side : Side) : State :=
  let s0 := s.loseOwner
  let s1 : State :=
    { s0 with
      mode := .standby, cause := c
      pair := { s0.pair with
        ownerSide := side, handover := none, synchronised := true, standbySince := some s.clk.local_ }
      time := { s0.time with ringSeen := some s.clk.local_ } }
  ((s1.followRing.canServe false true).record 353 1 sevInfo 896 noSource [(4, s1.pair.epoch), (4, side.bit), (4, c.code)]).fire 896

/-- What an owner does at an emergency trigger (R366): it pulses HANDOVER, drops HEALTHY and OWNER-CLAIM, releases its
local outputs and stops transmitting on every port; commands that it had not finished end (R453). The state it then takes is the
caller's. -/
def State.emergency (s : State) : State :=
  let s0 := s.loseOwner.finishOpt ((s.pair.handover).bind (·.ticket)) 0x0C errorPlain
  let s1 := ((s0.silencePorts).releaseLocal.hartLeave false).modPair fun p =>
    { p with handoverPulse := true, ownerSide := s.front.side.other, handover := none }
  (s1.record 366 1 sevFault 896 noSource [(4, s1.pair.epoch)]).fire 896

/-! ### LANTERN and restart -/

/-- The words of the lantern windows, R392. Word 9 carries a partner in OWNER and the feeds, under the names of unit
16#3F. -/
def lanternMap (v : Variant) : List IoBind :=
  let nine : List IoBind := (List.range 3).map fun k => ⟨false, 9, k, localSignal 0x3F k, 0, k⟩
  if v = .nk920 then nine
  else
    ((List.range 32).map fun k => ⟨false, 0, k, localSignal 0x30 k, 0, k⟩)
      ++ ((List.range 8).map fun k => ⟨false, 1 + k, 0, localSignal 0x32 k, 1, 0⟩) ++ nine
      ++ ((List.range 16).map fun k => ⟨true, 0, k, localSignal 0x31 k, 0, k⟩)
      ++ ((List.range 4).map fun k => ⟨true, 1 + k, 0, localSignal 0x33 k, 1, 0⟩)

/-- A lantern program on its fixed windows. -/
def lanternVersion (variant : Variant) (v : Version) : Version :=
  { v with ioMap := lanternMap variant, sizeI := 40, sizeQ := 20, sizeM := 4096, sizeT := 4096, sizeL := 1024 }

/-- The lantern windows lie above the process image's banks. -/
def lanternWindows : Windows :=
  { bank := 8, q := 16777216, m := 16777472, edge := 16781568, edgeBytes := 256, t := 16781824, l := 16785920 }

/-- The attributes of the lantern task, R390. -/
def lanternAttr (v : Version) : TaskAttr :=
  { taskClass := 2, cycle := 100000, consistency := 1, sources := [], minInterval := 0, deadline := 0, band := 0,
    pin := 0, policy := 1, wdPeriod := 0, entry := ((v.tasks.head?).map (·.2.entry)).getD 0, snap := [] }

/-- The lantern program taken at an entry into LANTERN or a load (R391): the plant's where one is held and its CRC is good,
otherwise the manifest's. A plant program that fails its CRC is recorded. -/
def State.lanternStart (s : State) : State :=
  let plant := if s.lantern.plantCrcOk then s.lantern.plantProgram else none
  let s0 :=
    if s.lantern.plantProgram.isSome && !s.lantern.plantCrcOk then s.record 391 1 sevWarning noSource noSource []
    else s
  match (match plant with | some v => some v | none => s.lantern.manifestProgram) with
  | none => s0.modLantern fun l => { l with running := false, driven := false, next := none }
  | some v =>
    let lv := lanternVersion s0.ident.variant v
    let tn : Tenant :=
      { state := .running, version := some lv, win := lanternWindows, image := 0, loading := none, slot := [],
        displaced := 0, restarted := false, displaceAt := none }
    let tk : Task :=
      { Task.fresh lanternTask lanternTenant 0 (lanternAttr v) [] 0 0 0 0 0 with
        st := .armed, first := true, start0 := s0.clk.local_ }
    { s0 with
      tenants := NMap.set s0.tenants lanternTenant tn
      tasks := NMap.set s0.tasks lanternTask tk
      image := { s0.image with base := Cells.clear s0.image.base 16777216 65536 }
      lantern := { s0.lantern with
        running := true, fault := 0, ran := plant.isSome, next := none, enteredAt := s0.clk.local_,
        driven := !s0.ownerSeen } }

/-- A tenant as the module's store keeps it over a restart: its version, not started (R60). -/
def Tenant.stored (t : Tenant) : Tenant :=
  { t with state := .loaded, loading := none, displaced := 0, restarted := true, displaceAt := none }

/-- A task as the store keeps it: its number, strand and attributes, not started (R67). -/
def Task.stored (t : Task) : Task :=
  { Task.fresh t.no t.tenant t.pos t.attr t.outs t.strand t.w t.g t.sweep t.lBase with applySweeps := t.applySweeps }

/-- What a join replaces of this module's stores (R356): kept aside until the join is complete (R357, R358). -/
def State.stores (s : State) : Transfer :=
  { tickJ := none, config := s.settings.values, tenants := s.tenants, tasks := s.tasks, change := s.change, image := [], log := [],
    inputs := [], forces := s.forces, slot := s.slot, epoch := s.pair.epoch, ownerSide := s.pair.ownerSide, acyc := [],
    tables := s.rings.map (·.table), outSeqs := s.rings.map fun r => r.stations.map (·.outSeq), gates := s.gates.map (·.stored), revoked := s.keys.revoked, alarms := s.time.alarms,
    lanternProgram := s.lantern.plantProgram, plant := s.time.plant, plantValid := s.time.plantValid }

/-- The stores as they were before a join that does not complete (R358). -/
def State.restoreStores (s : State) : State :=
  match s.saved with
  | none => s
  | some x =>
    { s with
      saved := none
      settings := { s.settings with values := x.config }
      tenants := x.tenants, tasks := x.tasks, change := changeReset, forces := x.forces, slot := none
      rings := s.rings.zipIdx.map fun p => { p.1 with table := (x.tables[p.2]?).getD [] }
      gates := s.gates.zipIdx.map fun p => { p.1 with stored := (x.gates[p.2]?).getD [] }
      keys := { s.keys with revoked := x.revoked }
      time := { s.time with alarms := x.alarms }
      lantern := { s.lantern with plantProgram := x.lanternProgram } }

/-- What MRAM, flash and the contacts keep while everything else takes its value after reset (R56, R262, R353, R398, R449,
R537, R539, R567, R577): the module as it comes up again in LANTERN. TB-LOCAL runs on. -/
def State.fresh (present : State) : State :=
  let s := present.restoreStores
  let keep := s.tenants.filter fun e => e.1 != lanternTenant && e.2.version.isSome
  { State.reset with
    ident := s.ident
    clk := s.clk
    cause := s.cause
    settings := { s.settings with quiesced := [], applies := [] }
    counters := Config.counters s.ident.variant
    tenants := keep.map fun e => (e.1, e.2.stored)
    tasks := (s.tasks.filter fun e => keep.any fun k => k.1 == e.2.tenant).map fun e => (e.1, e.2.stored)
    forces := s.forces
    rings := s.rings.map fun r => { ringReset with table := r.table }
    ports := s.ports.map fun p => { Port.reset with linkUp := p.linkUp }
    pair := { pairReset with
      epoch := s.pair.epoch, stored := s.pair.stored, handoverPulse := s.pair.handoverPulse, peerHealth := s.pair.peerHealth, peerEpoch := s.pair.peerEpoch,
      peerHealthy := s.pair.peerHealthy, peerClaim := s.pair.peerClaim, ownerSide := s.pair.ownerSide,
      lastLink := s.pair.lastLink, lastDisc := s.pair.lastDisc, lastRing := s.pair.lastRing,
      peerIdent := s.pair.peerIdent, joinAborts := s.pair.joinAborts, autoRejoinAt := s.pair.autoRejoinAt,
      lastDivergence := s.pair.lastDivergence }
    link := { (State.reset).link with lane0 := s.link.lane0, lane1 := s.link.lane1 }
    feeds := s.feeds
    front := { s.front with safeToRemove := false, leverRefused := false }
    lantern := { (State.reset).lantern with
      plantProgram := s.lantern.plantProgram, plantCrcOk := s.lantern.plantCrcOk,
      manifestProgram := s.lantern.manifestProgram, record := s.lantern.record, removedSince := s.lantern.removedSince,
      overruns := s.lantern.overruns, testHoldPin := s.lantern.testHoldPin, enteredAt := s.clk.local_ }
    time := { timeReset with
      selected := s.settingNat 0x42 1 0
      alarms := s.time.alarms, plantLink := s.time.plantLink, ring := Base.setAt s.clk.local_ s.clk.ring 0,
      utcOffset := s.time.utcOffset, utcKnown := s.time.utcKnown }
    gates := s.gates.zipIdx.map fun p =>
      { Config.gate p.2 with
        stored := p.1.stored, host := if p.1.stored.isEmpty then (Config.gate p.2).host else p.1.stored }
    keys := { keysReset with
      authority := s.keys.authority, moduleCert := s.keys.moduleCert, staticKey := s.keys.staticKey,
      revoked := s.keys.revoked }
    update := s.update
    slot := if (s.slot.map (·.holder)) == some 1 then s.slot else none
    almanac := { s.almanac with restarts := s.almanac.restarts + 1 }
    privWds := s.privWds.map fun w => { w with lastService := s.clk.local_ }
    tap := s.tap
    cmBlock := s.cmBlock
    io := { ioReset with di := s.io.di, readback := s.io.readback, lplusOk := s.io.lplusOk,
                         ai := ioReset.ai.zipIdx.map fun p => { p.1 with code := (s.io.aiCh p.2).code } }
    gelit := { (State.reset).gelit with replies := s.gelit.replies }
    pending := s.pending }

/-- A restart of the module (R56, R352): its sessions end, it keeps what its stores hold, its test port is
reset (R617), and it comes up in LANTERN, in bring-up. -/
def State.restart (s : State) (c : Cause) : State :=
  { (s.dropCycles.endSessions).fresh with mode := .lantern, cause := c, tap := (State.reset).tap }

/-- The time unit of a module that enters LANTERN (R435): the domains, TB-PLANT and TB-CAL run on; ring time is held for a join that may
follow, and no pulse goes out (R430). -/
def State.lanternTime (s : State) (x : TimeUnit) : TimeUnit :=
  { s.time with
    ppsOut := false, ring := x.ring, ringMaster := x.ringMaster, ringPlant := x.ringPlant, ringHoldover := x.ringHoldover
    ringOffset := x.ringOffset, ringFollow := x.ringFollow, ringSeen := x.ringSeen, alarms := x.alarms }

/-- The pair words of a module that enters LANTERN: what the HEALTH word holds until a restart or an acknowledgement stands on (R376). -/
def State.lanternPair (s : State) (x : Pair) : Pair :=
  { x with
    divergence := s.pair.divergence, ingressOverrun := s.pair.ingressOverrun, dualOwnership := s.pair.dualOwnership
    unagreedAt := s.pair.unagreedAt, unagreedRun := s.pair.unagreedRun, selftestRound := s.pair.selftestRound
    laneTestFail := s.pair.laneTestFail, patternFail := s.pair.patternFail, scrubCorrected := s.pair.scrubCorrected
    corrected := s.pair.corrected, memoryUncorrectable := s.pair.memoryUncorrectable, variantMismatch := s.pair.variantMismatch
    eqLate := s.pair.eqLate, eqSkipped := s.pair.eqSkipped }

/-- The module enters LANTERN without a restart of its bring-up (R358, R365, R400): held for a reason, or waiting. What stands until the
next restart stands on: the core supply with its probes and the regulator, which is off and holds 0.70 V (R34, R35, R40), a retired strand and its parallax word (R213,
R215), what the crossings count (R53), the time unit (R435), the counters of the CAN controllers and of the gates (R526, R540), and the key
unit and its reader (R547, R556). -/
def State.enterLantern (s : State) (c : Cause) (p : Phase) (h : Hold) : State :=
  let s0 := s.dropCycles.endSessions.restVcore
  let s1 := s0.fresh
  ({ s1 with
      mode := .lantern, cause := c
      vcore := s0.vcore
      strands := s0.strands.map fun x => { x with current := none, current1 := none }
      crossings := s0.crossings
      almanac := s0.almanac
      counters := s.counters
      time := s0.lanternTime s1.time
      pair := s0.lanternPair s1.pair
      can := s0.can.map fun c => { c with serving := false, given := false, sending := [], mirrors := [] }
      gates := s0.gates.zipIdx.map fun p => { p.1 with stored := ((s1.gates[p.2]?).map (·.stored)).getD p.1.stored }
      keys := { s0.keys with revoked := s1.keys.revoked, revoking := [] }
      reader := s0.reader
      lantern := { s1.lantern with phase := p, hold := h, bringupComplete := true, completeAt := s.clk.local_ } } : State).lanternStart

/-- "Leaves" of R400 and R365: nothing is transmitted from here on, HEALTHY goes, a leaving notice is sent, the local
outputs are undriven, or of a solo module in their logic-side silence state (`silent`), and the module is in LANTERN with LEVER-OPEN and
SAFE-TO-REMOVE lit. A removal is recorded (R398). -/
def State.leave (s : State) (c : Cause) (silent : Bool) : State :=
  let out := (if silent then s.silencePorts.silenceNow else s.silencePorts.releaseLocal).hartLeave false
  let s1 := (out.record 400 1 sevInfo noSource noSource []).enterLantern c .held .leverOpen
  let s2 : State :=
    { s1 with
      io := if silent then out.io else s1.io
      front := { s1.front with safeToRemove := true, leverRefused := false }
      lantern := { s1.lantern with removedSince := true, driven := false, silent := silent } }
  if s.solo then s2 else s2.send 3 .leaving

/-! ### Module faults -/

/-- A module fault under a cause (R372): an owner whose partner is in STANDBY hands over and becomes STANDBY-FAULTED; a
standby becomes STANDBY-FAULTED; otherwise the module acts as a solo module would, which `solo` gives. -/
def State.moduleFault (s : State) (c : Cause) (solo : State → State) : State :=
  if s.mode = .owner then
    (if !s.solo && s.peerState == 2 then s.emergency.toFaulted c else solo s)
  else if s.mode = .standby then s.toFaulted c
  else if s.mode = .testHold then solo s
  else s

/-- Restart into LANTERN, the solo column of R372; the record and epoch stand. -/
def State.restartFor (c : Cause) (s : State) : State := (s.silencePorts.releaseLocal).restart c

/-- An extraction lever that is refused (R365, R400). -/
def State.leverRefuse (s : State) : State :=
  let s1 : State := { s with cause := .leverRefused, front := { s.front with leverRefused := true, safeToRemove := false } }
  s1.record 365 1 sevWarning noSource noSource []

/-- A planned handover is proposed (R364, step 2): H is the first tick at least 1 ms from now. -/
def State.proposeHandover (s : State) (c : Cause) (leave : Bool) (k : Option Ticket) : State :=
  let h := s.tickIn 1000000
  (s.modPair fun p => { p with handover := some ⟨h, s.nextEpoch, false, c, leave, k⟩ }).send 3
    (.handover h s.nextEpoch)

/-- May a planned handover start (R364, step 1)? -/
def State.mayHandOver (s : State) : Bool :=
  s.mode == .owner && s.peerStandbySync && !healthFaults s.pair.peerHealth && !s.isQuiesced 0x60
    && !s.pair.peerQuiesced.contains 0x60 && s.pair.handover.isNone

end Sys2Proof.Machine
end

