-- ==== Sys2Proof/Machine/Schedule.lean ====
section
/-! DEFINITION. The slot schedule of a ring (R287 to R293): wire times, the windows of a snapshot at each port, shifts,
input and output sweeps, and occupancy. All instants are in ns. -/
namespace Sys2Proof.Machine

/-- What the schedule needs to know of a task. -/
structure SchedTask where
  no : Nat
  cycle : Nat
  event : Bool
  snap : List SnapMod
  outs : List SnapMod
  deriving DecidableEq, Repr

/-- A task as the schedule sees it; ASYNC and event tasks have no snapshot (R74). -/
def schedOf (no : Nat) (a : TaskAttr) (outs : List SnapMod) : SchedTask :=
  { no := no, cycle := a.cycle, event := a.taskClass == 3,
    snap := if a.taskClass = 3 ∨ a.consistency = 1 then [] else a.snap, outs := outs }

/-- Everything one ring's schedule is computed from. -/
structure RingPlan where
  ring : Nat
  table : List StationCfg
  delays : List Nat
  solo : Bool
  tasks : List SchedTask
  background : List SnapMod
  bgCycle : Nat
  deriving DecidableEq, Repr

/-- Wire time of a frame: 8 ns for each byte and for 20 bytes of preamble and gap (R289). -/
def wireNs (bytes : Nat) : Nat := 8 * (max bytes 64 + 20)

/-- Bytes of a frame with these sections' bytes (R273, R274). -/
def frameBytes (sections : Nat) : Nat := 14 + 24 + sections + 4

/-- Bytes rounded up to a multiple of 4. -/
def up4 (n : Nat) : Nat := (n + 3) / 4 * 4

/-- Measured delay of a segment; one that has not been measured counts as 0. -/
def RingPlan.measured (p : RingPlan) (j : Nat) : Nat := (p.delays[j]?).getD 0

/-- Planned delay of a segment (R288). -/
def RingPlan.planned (p : RingPlan) (j : Nat) : Nat := (p.measured j + 99) / 100 * 100

/-- The segments from a station to port A, or to port B. -/
def RingPlan.path (p : RingPlan) (toB : Bool) (pos : Nat) : List Nat :=
  if toB then (List.range (p.table.length - pos)).map (· + pos + 1) else List.range (pos + 1)

/-- A sum of delays. -/
def RingPlan.sum (d : Nat → Nat) (js : List Nat) : Nat := (js.map d).foldl (· + ·) 0

/-- The configured modules of a position. -/
def RingPlan.mods (p : RingPlan) (pos : Nat) : List StationMod := ((p.table[pos]?).map (·.mods)).getD []

/-- The stations of a list of modules on this ring, nearest to port A first. -/
def RingPlan.stations (p : RingPlan) (ms : List SnapMod) : List Nat :=
  (List.range p.table.length).filter fun s => ms.any fun m => m.ring == p.ring && m.station == s

/-- Payload bytes of a station's INPUT section for a snapshot (R278). -/
def RingPlan.inPayload (p : RingPlan) (ms : List SnapMod) (pos : Nat) : Nat :=
  (((p.mods pos).filter fun m => ms.any fun x => x.ring == p.ring && x.station == pos && x.slot == m.slot).map
    fun m => 4 + m.inBytes).foldl (· + ·) 0

/-- Payload bytes of a station's OUTPUT section (R277). -/
def RingPlan.outPayload (p : RingPlan) (ms : List SnapMod) (pos : Nat) : Nat :=
  8 + (((p.mods pos).filter fun m => ms.any fun x => x.ring == p.ring && x.station == pos && x.slot == m.slot).map
    fun m => 4 + m.outBytes).foldl (· + ·) 0

/-- Wire time of a station's INPUT frame for a snapshot. -/
def RingPlan.inWire (p : RingPlan) (ms : List SnapMod) (pos : Nat) : Nat :=
  wireNs (frameBytes (16 + up4 (p.inPayload ms pos)))

/-- Snapshots of the ring. -/
def RingPlan.snapshots (p : RingPlan) : List SchedTask := p.tasks.filter fun t => !(p.stations t.snap).isEmpty

/-- Wire time of the longest RING-TIME frame: one shift entry for each snapshot, at most 64, and 32 grant entries (R280,
R287). -/
def RingPlan.ringTimeWire (p : RingPlan) : Nat := wireNs (14 + 24 + 16 + 4 * min 64 p.snapshots.length + 192 + 4)

/-- The OUTPUT sections of the largest train, as station and bytes, in station order: one for each cyclic task and station
that it serves, and the background sections (R287). -/
def RingPlan.sections (p : RingPlan) : List (Nat × Nat) :=
  (List.range p.table.length).flatMap fun s =>
    ((p.tasks.filter fun t => !t.event && t.outs.any fun m => m.ring == p.ring && m.station == s).map fun t =>
      (s, 16 + up4 (p.outPayload t.outs s)))
      ++ (if p.background.any fun m => m.ring == p.ring && m.station == s then [(s, 16 + up4 (p.outPayload p.background s))]
          else [])

/-- Sections packed into frames of at most 1,518 bytes and 89 sections: for each frame its stations and its bytes. -/
def packFrames : List (Nat × Nat) → List Nat → Nat → List (List Nat × Nat)
  | [], ss, n => if ss.isEmpty then [] else [(ss, n)]
  | x :: xs, ss, n =>
    if ss.isEmpty then packFrames xs [x.1] x.2
    else if frameBytes (n + x.2) ≤ 1518 ∧ ss.length < 89 then packFrames xs (ss ++ [x.1]) (n + x.2)
    else (ss, n) :: packFrames xs [x.1] x.2

/-- The frames of the largest train. -/
def RingPlan.train (p : RingPlan) : List (List Nat × Nat) := packFrames p.sections [] 0

/-- Wire time of the largest train. -/
def RingPlan.trainWire (p : RingPlan) : Nat := (p.train.map fun f => wireNs (frameBytes f.2)).foldl (· + ·) 0

/-- Measured and planned delay of the whole line. -/
def RingPlan.line (p : RingPlan) (d : Nat → Nat) : Nat := RingPlan.sum d (List.range (p.table.length + 1))

/-- Can a train be sent at a tick `o` ns after a start of task `t`? At its own starts; at others where another task or a
background train may fall there. -/
def RingPlan.trainAt (p : RingPlan) (t : SchedTask) (o : Nat) : Bool :=
  o % (t.cycle * 1000) == 0 || !p.background.isEmpty || p.tasks.any fun u => u.no != t.no && !u.event && !(p.stations u.outs).isEmpty

/-- The guard g of R289. -/
def guardNs : Nat := 500

/-- The partner's frames reserved at a port over a snapshot's cycle (R289); none in solo. -/
def RingPlan.reserved (p : RingPlan) (t : SchedTask) (ticks : Nat) : List (Nat × Nat) :=
  if p.solo then []
  else (List.range ticks).map fun k =>
    let o := k * 50000
    (o + p.line p.measured,
     o + p.line p.planned + p.ringTimeWire + (if p.trainAt t o then p.trainWire else 0))

/-- Does [a − g, a + f + g] overlap a window? -/
def overlaps (a f : Nat) (w : Nat × Nat) : Bool := decide (w.1 < a + f + guardNs) && decide (a < w.2 + guardNs)

/-- The smallest instant at or after `a` at which a frame of `f` overlaps no window taken. -/
def placeAt (taken : List (Nat × Nat)) (f : Nat) : Nat → Nat → Nat
  | 0, a => a
  | k + 1, a =>
    match taken.find? (overlaps a f) with
    | some w => placeAt taken f k (w.2 + guardNs)
    | none => a

/-- A window: its station and its bounds. -/
structure Slotted where
  station : Nat
  start : Nat
  stop : Nat
  deriving DecidableEq, Repr

/-- The windows of a snapshot at one port (R289), stations nearest to the port first. -/
def RingPlan.table1 (p : RingPlan) (t : SchedTask) (toB : Bool) : List Slotted :=
  let order := if toB then (p.stations t.snap).reverse else p.stations t.snap
  let fixed := p.reserved t (t.cycle / 50 + 1)
  (order.foldl (fun (acc : List Slotted) s =>
    let f := p.inWire t.snap s
    let taken := fixed ++ acc.map fun w => (w.start, w.stop)
    let a := placeAt taken f (2 * taken.length + 1) (1000 + RingPlan.sum p.planned (p.path toB s))
    acc ++ [⟨s, a, a + f⟩]) [])

/-- The windows of a snapshot at both ports; in solo only port A's (R289). -/
def RingPlan.windows (p : RingPlan) (t : SchedTask) : List Slotted × List Slotted :=
  (p.table1 t false, if p.solo then [] else p.table1 t true)

/-- S0 of R293 in µs: the latest window end of a snapshot alone, plus 1 µs, rounded up. -/
def RingPlan.sweep0 (p : RingPlan) (t : SchedTask) : Nat :=
  let ws := p.windows t
  let last := ((ws.1 ++ ws.2).map (·.stop)).foldl max 0
  if last = 0 then 0 else (last + 1000 + 999) / 1000

/-- The repetition of R293, in µs; nothing where it exceeds the task's CYCLE − 40 µs. `others` are the period and S0 of the
ring's other snapshots. -/
def sweepFix (s0 limit : Nat) (others : List (Nat × Nat)) : Nat → Nat → Option Nat
  | 0, _ => none
  | k + 1, s =>
    if limit < s then none
    else
      let next := s0 + (others.map fun o => ((s + o.1 - 1) / o.1 + 1) * o.2).foldl (· + ·) 0
      if next = s then some s else sweepFix s0 limit others k next

/-- The input sweep of a task's snapshot on this ring, in µs (R293). -/
def RingPlan.inputSweep (p : RingPlan) (t : SchedTask) : Option Nat :=
  if (p.stations t.snap).isEmpty then some 0
  else
    let others := (p.snapshots.filter fun u => u.no != t.no).map fun u => (max u.cycle 1, p.sweep0 u)
    sweepFix (p.sweep0 t) (t.cycle - 40) others (t.cycle + 2) (p.sweep0 t)

/-- The instant at which each frame of the train ends at its own port. -/
def trainEnds (start : Nat) : List (List Nat × Nat) → List (List Nat × Nat)
  | [] => []
  | f :: fs =>
    let e := start + wireNs (frameBytes f.2)
    (f.1, e) :: trainEnds e fs

/-- The output sweep of the ring in µs (R293). -/
def RingPlan.outputSweep (p : RingPlan) : Nat :=
  let reach := (trainEnds p.ringTimeWire p.train).flatMap fun f => f.1.map fun s =>
    f.2 + max (RingPlan.sum p.planned (p.path false s)) (if p.solo then 0 else RingPlan.sum p.planned (p.path true s))
  if reach.isEmpty then 0 else (reach.foldl max 0 + 1000 + 999) / 1000

/-- The ticks of 1 ms at which a train can be sent. -/
def RingPlan.trainTicks (p : RingPlan) : Nat :=
  let cyc := (p.tasks.filter fun t => !t.event && !(p.stations t.outs).isEmpty).map fun t => (1000 + t.cycle - 1) / max t.cycle 1
  let bg := if p.background.isEmpty then 0 else 1
  min 20 (cyc.foldl (· + ·) bg)

/-- Window time with guards at one port in 1 ms, ns (R293). -/
def RingPlan.occupied (p : RingPlan) (toB : Bool) : Nat :=
  let snaps := (p.snapshots.map fun t =>
    (1000 + t.cycle - 1) / max t.cycle 1 *
      ((if toB then (p.windows t).2 else (p.windows t).1).map fun w => w.stop - w.start + guardNs).foldl (· + ·) 0).foldl (· + ·) 0
  let base := p.line p.planned - p.line p.measured + p.ringTimeWire + guardNs
  if p.solo then snaps else snaps + p.trainTicks * (base + p.trainWire) + (20 - p.trainTicks) * base

/-- Occupancy of the ring in 0.01 %, the greater of its ports. -/
def RingPlan.occupancy (p : RingPlan) : Nat := (max (p.occupied false) (p.occupied true) + 99) / 100

/-- Every section fits its limit of 1,440 bytes (R277). -/
def RingPlan.fits (p : RingPlan) : Bool :=
  (p.snapshots.all fun t => (p.stations t.snap).all fun s => decide (p.inPayload t.snap s ≤ 1440))
    && (p.tasks.all fun t => (p.stations t.outs).all fun s => decide (p.outPayload t.outs s ≤ 1440))
    && (p.stations p.background).all fun s => decide (p.outPayload p.background s ≤ 1440)

/-! ### Shifts, R290 -/

/-- Windows moved later. -/
def shiftBy (d : Nat) (ws : List Slotted) : List Slotted := ws.map fun w => { w with start := w.start + d, stop := w.stop + d }

/-- The first pair of windows, one of the table and one already placed, that overlap with guards. -/
def clash (ws placed : List Slotted) : Option (Slotted × Slotted) :=
  ws.findSome? fun w =>
    (placed.find? fun x => decide (x.start < w.stop + guardNs) && decide (w.start < x.stop + guardNs)).map fun x => (w, x)

/-- The smallest shift in steps of 8 ns at which a table overlaps nothing placed at either port; nothing beyond `limit`. -/
def findShift (ws placed : List Slotted × List Slotted) (limit : Nat) : Nat → Nat → Option Nat
  | 0, _ => none
  | k + 1, d =>
    match (match clash (shiftBy d ws.1) placed.1 with | some c => some c | none => clash (shiftBy d ws.2) placed.2) with
    | none => if ((ws.1 ++ ws.2).all fun w => decide (w.stop + d ≤ limit)) then some d else none
    | some c =>
      let more := c.2.stop + guardNs - c.1.start
      findShift ws placed limit k (d + (more + 7) / 8 * 8)

/-! ### The module's rings -/

/-- The schedule's view of the tasks that are loaded. -/
def State.schedTasks (s : State) : List SchedTask :=
  (s.tasks.filter fun e => e.1 != lanternTask).map fun e => schedOf e.1 e.2.attr e.2.outs

/-- The station output modules that a version's I/O map binds. -/
def Version.outputMods (v : Version) : List SnapMod :=
  ((v.ioMap.filter fun b => b.output && sigSpace b.signal == 0).map fun b =>
    (⟨sigRing b.signal, sigStation b.signal, sigSlot b.signal⟩ : SnapMod)).eraseDups

/-- The mapped output modules that no cyclic task serves (R287). -/
def backgroundMods (mapped : List SnapMod) (tasks : List SchedTask) : List SnapMod :=
  mapped.filter fun m => !(tasks.any fun t => !t.event && t.outs.contains m)

/-- The plan of a ring for given tasks and mapped output modules. -/
def State.planFor (s : State) (ring : Nat) (tasks : List SchedTask) (mapped : List SnapMod) : RingPlan :=
  { ring := ring, table := (s.ring ring).table, delays := (s.ring ring).delays, solo := s.solo, tasks := tasks,
    background := (backgroundMods mapped tasks).filter fun m => m.ring == ring,
    bgCycle := s.settingNat (0x10 + 2 * ring) 4 0 }

/-- The output modules that the active images map. -/
def State.mappedMods (s : State) : List SnapMod := (s.activeVersions.flatMap fun p => p.1.outputMods).eraseDups

/-- The plan of a ring as it runs. -/
def State.plan (s : State) (ring : Nat) : RingPlan := s.planFor ring s.schedTasks s.mappedMods

/-- The output sweep of a ring in ns. -/
def State.outputSweepNs (s : State) (ring : Nat) : Nat := (s.plan ring).outputSweep * 1000

/-- Does a cyclic task start at an instant? -/
def Task.startsAt (t : Task) (at_ : Nat) : Bool :=
  t.attr.taskClass != 3 && (t.st == .armed || t.st == .running) && decide (t.start0 ≤ at_)
    && (at_ - t.start0) % (t.attr.cycle * 1000) == 0

/-- The snapshots of a ring that start at an instant, in ring priority: shorter CYCLE first, then lower task number. -/
def State.startingAt (s : State) (ring at_ : Nat) : List Task :=
  let ts := (s.tasks.map (·.2)).filter fun t => t.startsAt at_ && t.attr.consistency == 0 && t.attr.snap.any fun m => m.ring == ring
  ts.foldl (fun (l : List Task) t =>
    (l.takeWhile fun u => decide (u.attr.cycle ≤ t.attr.cycle)) ++ [t] ++ (l.dropWhile fun u => decide (u.attr.cycle ≤ t.attr.cycle))) []

/-- The windows of what is placed already and still open at an instant, relative to it. -/
def State.openWindows (s : State) (ring at_ : Nat) (placed : List Placed) : List Slotted × List Slotted :=
  let p := s.plan ring
  placed.foldl (fun acc x =>
    match x.shift, s.task x.task with
    | some d, some t =>
      let ws := p.windows (schedOf t.no t.attr t.outs)
      let mv (l : List Slotted) : List Slotted :=
        (shiftBy (8 * d + x.start) l).filterMap fun w =>
          if at_ < w.stop then some { w with start := w.start - at_, stop := w.stop - at_ } else none
      (acc.1 ++ mv ws.1, acc.2 ++ mv ws.2)
    | _, _ => acc) ([], [])

/-- The shifts of the snapshots of a ring that start at an instant (R290), added to what is placed; a snapshot that no shift
fits within its input sweep on the ring is not placed (R293). -/
def State.placeShifts (s : State) (ring at_ : Nat) : List Placed :=
  let p := s.plan ring
  let old := (s.ring ring).placed.filter fun x =>
    match s.task x.task with | some t => decide (at_ < x.start + t.sweep) | none => false
  (s.startingAt ring at_).foldl (fun acc t =>
    let busy := s.openWindows ring at_ acc
    let x := schedOf t.no t.attr t.outs
    let d := findShift (p.windows x) busy (((p.inputSweep x).getD 0) * 1000)
      (2 * (busy.1.length + busy.2.length) + 2) 0
    acc ++ [⟨t.no, at_, d.map (· / 8)⟩]) old

/-- The windows of the station frames still open at this tick at the partner's port of a ring, relative to the tick (R291). -/
def State.partnerWindows (s : State) (ring : Nat) : List (Nat × Nat) :=
  let busy := s.openWindows ring (s.clk.tick * 50000) (s.ring ring).placed
  (if s.front.side = .a then busy.2 else busy.1).map fun w => (w.start, w.stop)

/-- May an IMMEDIATE or ACYCLIC frame start now (R291)? At the partner's port its wire time and guards meet no placed window, and end before
the frames of the next tick. -/
def State.fitsGap (s : State) (port : Nat) (f : OutFrame) : Bool :=
  let p := s.plan (port / 2)
  let wire := wireNs (s.sealed f).bytes.length
  let a := (s.clk.ring - s.clk.tick * 50000) + p.line p.planned
  (s.partnerWindows (port / 2)).all (fun w => !overlaps a wire w)
    && (s.solo || decide (a + wire + guardNs ≤ 50000 + p.line p.measured))

/-- The judgement of R294 of a frame against its window: 0 not judged, 1 ON-TIME, 2 SLOT-EDGE, 3 SLOT-INTRUSION. -/
def judge (w : Option Slotted) (start stop : Nat) : Nat :=
  match w with
  | none => 0
  | some w =>
    if w.start ≤ start + 100 ∧ start ≤ w.start + 100 then 1
    else if w.start ≤ start + 500 ∧ stop ≤ w.stop + 500 then 2
    else 3

/-- The window of a station's frame at a port of this module for a snapshot, in ring time. -/
def State.windowOf (s : State) (port : Nat) (t : Task) (start station : Nat) : Option Slotted :=
  if port % 2 = 1 then none
  else
    let ring := port / 2
    let ws := (s.plan ring).windows (schedOf t.no t.attr t.outs)
    let mine := if s.front.side = .a then ws.1 else ws.2
    match (s.ring ring).placed.find? fun x => x.task == t.no && x.start == start with
    | some ⟨_, _, none⟩ => none
    | some ⟨_, _, some d⟩ => (shiftBy (start + 8 * d) mine).find? fun w => w.station == station
    | none => (shiftBy start mine).find? fun w => w.station == station

end Sys2Proof.Machine
end

