-- ==== Sys2Proof/Machine/Stations.lean ====
section
/-! DEFINITION. The states of a station (R299), the end of an acyclic transaction (R315), and a station that goes (R303). -/
namespace Sys2Proof.Machine

/-- A station changes state: it is recorded and source 832 + 8r fires (R299, R304). -/
def State.setStation (s : State) (ring pos : Nat) (st : StationState) : State :=
  if (s.station ring pos).state = st then s
  else
    ((s.modStation ring pos fun v => { v with state := st }).record 299 1 sevInfo (832 + 8 * ring) noSource
      [(4, ring), (4, pos), (4, st.code)]).fire (832 + 8 * ring)

/-- The reply of a transaction that ends (R312, R315, R464). -/
def acycReply (result : Nat) (payload : List Byte) : List Byte := be 1 result ++ [0, 0, 0] ++ (if result = 0 then pad4 payload else [])

/-- A transaction ends with a result (R315): its tag is freed, the result counted and answered; TIMEOUT and STATION-GONE fire
source 836 + 8r. -/
def State.endAcyc (s : State) (x : Acyc) (result : Nat) (payload : List Byte) : State :=
  let s1 : State := { s with acyc := NMap.del s.acyc x.tag }
  let s2 := s1.modStation x.req.ring x.req.station fun v =>
    { v with queue := v.queue.filter (· != x.tag), outstanding := v.outstanding.filter (· != x.tag) }
  let s3 := (s2.count (0x2600 + result)).finishOpt x.ticket 0 (acycReply result payload)
  if result = 1 ∨ result = 2 then s3.fire (836 + 8 * x.req.ring) else s3

/-- A station is gone (R299, R303): ABSENT, with no cause of a refusal (R305); its transactions end STATION-GONE, its table
entry and windows stay. -/
def State.stationGone (s : State) (ring pos : Nat) : State :=
  if (s.station ring pos).state = .absent then s
  else
    let gone := (s.acyc.map (·.2)).filter fun x => x.req.ring == ring && x.req.station == pos && x.purpose != 2
    let s1 := gone.foldl (fun (s : State) x => s.endAcyc x 2 []) s
    (s1.setStation ring pos .absent).modStation ring pos fun v => { v with refuse := 0, activeFrom := none, resyncAt := none }

/-- A removed station is gone (R303): its neighbours on both sides report their links towards it down, or one of them does and its frame was on
neither module in the last snapshot. -/
def State.dropIsolated (s : State) (ring pos : Nat) : State :=
  let n := (s.ring ring).table.length
  let up (k bit : Nat) : Bool := (s.station ring k).lastStatusAt.isSome && (s.station ring k).linkBits / 2 ^ bit % 2 == 0
  let left := decide (0 < pos) && up (pos - 1) 1
  let right := decide (pos + 1 < n) && up (pos + 1) 0
  if (left && right) || ((left || right) && (s.station ring pos).missing) then s.stationGone ring pos else s

end Sys2Proof.Machine
end

