-- ==== Sys2Proof/Machine/Collect.lean ====
section
/-! DEFINITION. The snapshot collector (R15 to R19, R306 to R327): opening, filing, judging, closing and agreeing a snapshot,
and what its values are; the commands of the chapters 01 and 10 that bring it about. -/
namespace Sys2Proof.Machine

/-! ### Blocks and signals -/

/-- The value of a signal at a bit position of a block (R625). -/
def blockValue (data : List Byte) (pos width : Nat) : Word :=
  if width = 0 then boolWord (((data[pos / 8]?).getD 0).getLsbD (pos % 8))
  else BitVec.ofNat 32 (field data (pos / 8) (if width = 1 then 2 else 4))

/-- The value that a filed block gives a bound signal: a station block by its layout, a local channel whole, a CAN record by
its word (R516). -/
def FiledBlock.value (k : FiledBlock) (b : IoBind) : Word :=
  if sigSpace b.signal = 0 then blockValue k.data b.pos b.width
  else if (sigCan b.signal).isSome then BitVec.ofNat 32 (field k.data (4 * sigStation b.signal) 4)
  else BitVec.ofNat 32 (ofBe k.data)

/-- The ring under which local sections stand. -/
def localRing : Nat := 4

/-- The ring and station under which a signal's section stands. -/
def sectionKey (g : Word) : Nat × Nat := if sigSpace g = 0 then (sigRing g, sigStation g) else (localRing, sigSlot g)

/-- The slot under which a signal's block stands in its section. -/
def blockKey (g : Word) : Nat := if sigSpace g = 0 then sigSlot g else sigChannel g

/-- The input bindings of a version, one for each signal. -/
def Version.inputs (v : Version) : List IoBind := v.ioMap.filter fun b => !b.output

/-- The local units whose inputs a version binds. -/
def Version.localUnits (v : Version) : List Nat :=
  ((v.inputs.filter fun b => sigSpace b.signal == 1).map fun b => sigSlot b.signal).eraseDups

/-- The channels of a unit that a version's inputs bind. -/
def Version.unitChannels (v : Version) (unit : Nat) : List Nat :=
  ((v.inputs.filter fun b => sigSpace b.signal == 1 && sigSlot b.signal == unit).map fun b => sigChannel b.signal).eraseDups

/-- The 80 bytes of a receive record, its words big-endian as they cross the link. -/
def CanRec.bytes (r : CanRec) : List Byte := (List.range 20).flatMap fun n => be 4 (r.word n).toNat

/-- A CAN controller whose records are BAD (R516). -/
def State.canBad (s : State) (k : Nat) : Bool :=
  (s.ctl k).state == 0 || (s.ctl k).state == 3 || s.isQuiesced (0x20 + k)

/-- The block of a local channel or CAN element as sampled at the tick (R478, R480, R516). A disabled AI channel files
nothing, so its last value stands. -/
def State.localBlock (s : State) (unit ch : Nat) : FiledBlock :=
  if 0x20 ≤ unit ∧ unit ≤ 0x23 then
    let q : Quality := if s.canBad (unit - 0x20) then .bad else .good
    match NMap.get (s.ctl (unit - 0x20)).published ch with
    | some r => ⟨ch, 0, r.bytes, q⟩
    | none => ⟨ch, 0, [], if q = .bad then .bad else .stale⟩
  else
    let off := unit == 0x32 && s.setting 0x32 1 ch == 0
    ⟨ch, 0, if off then [] else be 4 (s.localInput unit ch).toNat, s.localQuality unit ch⟩

/-- The section of a local unit. -/
def State.localSection (s : State) (v : Version) (unit : Nat) : Section :=
  { ring := localRing, station := unit, expected := true, filed := true,
    blocks := (v.unitChannels unit).map (s.localBlock unit), peer := .notYet, asked := false, agreed := false }

/-- CRC-32 over the filed blocks in slot order, each followed by its quality code (R323). -/
def Section.digest (x : Section) : Word := crc32 (x.blocks.flatMap fun k => k.data ++ [BitVec.ofNat 8 k.quality.code])

/-- The section of a ring and station. -/
def Snapshot.section (p : Snapshot) (ring station : Nat) : Option Section :=
  p.sections.find? fun x => x.ring == ring && x.station == station

/-- The snapshot with one section changed. -/
def Snapshot.modSection (p : Snapshot) (ring station : Nat) (f : Section → Section) : Snapshot :=
  { p with sections := p.sections.map fun x => if x.ring = ring ∧ x.station = station then f x else x }

/-- The last value of a signal as the task knew it, or as it was last published. -/
def State.lastValue (s : State) (t : Task) (g : Word) : Word :=
  match sigFind t.inputs g with
  | some v => v.value
  | none => valueIn s.image.inputs g

/-- The value and quality of one signal in a snapshot, R326. -/
def State.snapValue (s : State) (t : Task) (p : Snapshot) (b : IoBind) : SigVal :=
  let key := sectionKey b.signal
  let raw : SigVal :=
    match p.section key.1 key.2 with
    | none => ⟨b.signal, s.lastValue t b.signal, .bad⟩
    | some x =>
      match (if x.filed then x.blocks.find? fun k => k.slot == blockKey b.signal else none) with
      | none => ⟨b.signal, s.lastValue t b.signal, .stale⟩
      | some k =>
        if k.data.isEmpty then ⟨b.signal, s.lastValue t b.signal, k.quality⟩ else ⟨b.signal, k.value b, k.quality⟩
  if (sigCan b.signal).isSome then raw else applyForce p.forces raw

/-- The values of a snapshot for its task's I window. -/
def State.snapValues (s : State) (t : Task) (p : Snapshot) : List SigVal :=
  ((s.versionOf t).inputs.map (s.snapValue t p)).eraseDups

/-- Does the snapshot hold a station module's or local channel's block? -/
def Snapshot.covers (p : Snapshot) (t : Task) (b : IoBind) : Bool :=
  let key := sectionKey b.signal
  match p.section key.1 key.2 with
  | none => false
  | some x =>
    if sigSpace b.signal = 0 then t.attr.snap.contains ⟨sigRing b.signal, sigStation b.signal, sigSlot b.signal⟩
    else x.blocks.any fun k => k.slot == blockKey b.signal

/-- What the snapshot of a task publishes (R324): the signals of its blocks that active images bind, whichever tenant's they are. -/
def State.published (s : State) (t : Task) (p : Snapshot) : List SigVal :=
  (s.activeVersions.flatMap fun v => (v.1.inputs.filter (p.covers t)).map (s.snapValue t p)).eraseDups

/-- What an ASYNC or event task reads of its I window: the values published at or before its start, forces over them (R74,
R260). -/
def State.asyncInputs (s : State) (v : Version) : List SigVal :=
  (v.inputs.map fun b =>
    let raw := (sigFind s.image.inputs b.signal).getD ⟨b.signal, 0, .bad⟩
    if (sigCan b.signal).isSome then raw else applyForce s.forces raw).eraseDups

/-- The value of a local input as sampled now. -/
def State.localNow (s : State) (b : IoBind) : SigVal :=
  let k := s.localBlock (sigSlot b.signal) (sigChannel b.signal)
  ⟨b.signal, if k.data.isEmpty then valueIn s.image.inputs b.signal else k.value b, k.quality⟩

/-- The local samples of a tick published for async reading (R478): done when the next tick is due, before which nothing
reads them. -/
def State.publishLocal (s : State) : State :=
  let vs := (s.activeVersions.flatMap fun p => p.1.inputs.filter fun b => sigSpace b.signal == 1).map s.localNow
  { s with image := { s.image with inputs := vs.eraseDups.foldl sigPut s.image.inputs } }

/-! ### Tags, R306 to R310 -/

/-- Cyclic tags of the module. -/
def State.cyclicTotal (s : State) : Nat := Config.tags s.ident.variant - s.settingNat 0 3 0

/-- The ring schedule with a set of tasks (R293, R308): for each task its input sweep in ns, the largest over its rings; nothing where
a snapshot cannot be placed. -/
def State.sweepsFor (s : State) (tasks : List SchedTask) (mapped : List SnapMod) : Option (List (Nat × Nat)) := do
  let plans := (List.range (Config.rings s.ident.variant)).map fun r => s.planFor r tasks mapped
  let ok := plans.all fun p => p.fits && decide (p.occupancy ≤ 8000)
  if !ok ∨ s.cyclicTotal < (tasks.map fun t => t.snap.length).sum then none
  else tasks.mapM fun t => do
    let ss ← plans.mapM fun p => p.inputSweep t
    return (t.no, (ss.foldl max 0) * 1000)

/-- The input sweeps that a new schedule gives the tasks (R293). -/
def State.setSweeps (s : State) (sweeps : List (Nat × Nat)) : State :=
  { s with tasks := s.tasks.map fun e => match NMap.get sweeps e.1 with | some n => (e.1, { e.2 with sweep := n }) | none => e }

/-- The sweeps of the tasks as they are loaded now. -/
def State.resweep (s : State) : State :=
  match s.sweepsFor s.schedTasks s.mappedMods with
  | some x => s.setSweeps x
  | none => s

/-- The lowest free tag for a cyclic transaction: an acyclic one may hold its number still (R306). -/
def State.freeTag (s : State) : Nat :=
  let used := s.cyclicTags.map (·.tag) ++ s.acyc.map (·.1)
  firstFree used used.length 0

/-- One tag for each I/O module of a snapshot's stations (R308). -/
def State.openTags (s : State) (t : Task) (p : Snapshot) : State :=
  t.attr.snap.foldl (fun s m =>
    let n := s.freeTag
    let len := (((s.ring m.ring).table[m.station]?).bind fun c => c.mods.find? fun x => x.slot == m.slot).map (·.inBytes)
    { s with cyclicTags := s.cyclicTags ++
        [⟨n, m.ring, m.station, m.slot, t.no, p.cycle, len.getD 0, p.closeAt, none, false⟩] }) s

/-- The tags of a task's snapshot freed. -/
def State.freeTags (s : State) (n : Nat) : State := { s with cyclicTags := s.cyclicTags.filter fun x => x.task != n }

/-! ### Agreement -/

/-- Which stations' frames were on neither module, as the agreed snapshot tells; one of them whose neighbour reports its link down is gone
(R303). -/
def State.noteMissing (s : State) (p : Snapshot) : State :=
  (p.sections.filter fun x => decide (x.ring < 4) && x.expected).foldl (fun (s : State) x =>
    (s.modStation x.ring x.station fun v => { v with missing := !x.filed }).dropIsolated x.ring x.station) s

/-- The snapshot of a task is agreed: its values become the task's inputs, its segments are judged, its tags are freed
(R187, R308, R324). A run of UNAGREED cycles ends with the next agreed snapshot of any task: the module keeps one run (DESIGN CHOICE: R19
does not say what ends a run, or whether each task has its own; log 95). -/
def State.agreeSnapshot (s : State) (n : Nat) : State :=
  match s.task n with
  | none => s
  | some t =>
    match t.snap with
    | none => s
    | some p =>
      if p.agreed then s
      else
        let vs := s.snapValues t p
        let s := if p.unagreed then s else (s.noteMissing p).modPair fun x => { x with unagreedRun := false }
        ((s.modTask n fun t => { t with snap := some { p with agreed := true } }).freeTags n).specAgreed n vs

/-- The snapshot is agreed once it has closed and every section of it is agreed. -/
def State.tryAgree (s : State) (n : Nat) : State :=
  match (s.task n).bind (·.snap) with
  | some p => if p.closed && p.sections.all (·.agreed) then s.agreeSnapshot n else s
  | none => s

/-- How a section stands against the partner's digest (R18, R354): agreed, or to be asked for, or neither yet. -/
inductive Verdict where | agree | ask | wait
  deriving DecidableEq, Repr

/-- R18 for one section. `owner` is whether this module was owner at the snapshot's start. -/
def Section.verdict (x : Section) (owner closed : Bool) : Verdict :=
  match x.peer with
  | .notYet => .wait
  | .noFrame => if x.filed ∨ closed then .agree else .wait
  | .digest c =>
    if x.filed then (if c = x.digest ∨ owner then .agree else .ask)
    else if owner ∧ ¬ closed then .wait
    else .ask

/-- A section of an open snapshot settled against what the partner has reported; a copy is asked for once. -/
def State.settle (s : State) (n ring station : Nat) : State :=
  match (s.task n).bind (·.snap) with
  | none => s
  | some p =>
    match p.section ring station with
    | none => s
    | some x =>
      if x.agreed then s
      else
        match x.verdict p.owner p.closed with
        | .agree => s.modTask n fun t => { t with snap := t.snap.map fun p => p.modSection ring station fun x => { x with agreed := true } }
        | .ask =>
          if x.asked then s
          else
            (s.modTask n fun t => { t with snap := t.snap.map fun p => p.modSection ring station fun x => { x with asked := true } }).send
              2 (.copyRequest n p.cycle ring station)
        | .wait => s

/-- Every section settled, and the snapshot agreed if that leaves none. -/
def State.settleAll (s : State) (n : Nat) : State :=
  match (s.task n).bind (·.snap) with
  | none => s
  | some p => (p.sections.foldl (fun s x => s.settle n x.ring x.station) s).tryAgree n

/-- Every section takes this module's own copy (R19). -/
def Snapshot.ownCopies (p : Snapshot) : Snapshot := { p with sections := p.sections.map fun x => { x with agreed := true } }

/-- A closed snapshot is agreed with this module's own copies, without a count: the partner takes no part (R19). -/
def State.agreeAlone (s : State) (n : Nat) : State :=
  (s.modTask n fun t => { t with snap := t.snap.map Snapshot.ownCopies }).tryAgree n

/-- This module no longer waits for its partner's digests (R19, R365): every closed snapshot is agreed with its own copies. -/
def State.stopWaiting (s : State) : State := (s.tasks.map (·.1)).foldl State.agreeAlone s

/-- The digest that is reported of a section: none where nothing was filed. -/
def Section.report (x : Section) : Option Word := if x.filed then some x.digest else none

/-- The blocks of a station that is in RESYNC at the close are STALE, and their last values stand (R295, R326). -/
def Section.stale (x : Section) : Section :=
  { x with blocks := x.blocks.map fun b => if b.quality = .bad then b else { b with data := [], quality := .stale } }

/-- The sections of stations that are in RESYNC as the snapshot closes; the partner gets their digests again. -/
def State.staleResync (s : State) (n : Nat) (p : Snapshot) : State :=
  (p.sections.filter fun x => decide (x.ring < 4) && x.filed && (s.station x.ring x.station).state == .resync).foldl (fun (s : State) x =>
    let y := x.stale
    let s1 := s.modTask n fun t => { t with snap := t.snap.map fun p => p.modSection x.ring x.station fun x => { x.stale with agreed := false } }
    if s.alone then s1 else s1.send 2 (.digest n p.cycle x.ring x.station y.report)) s

/-- The snapshot closes (R322): blocks not filed are reported missing and their tags expire; then agreement follows. -/
def State.closeSnapshot (s : State) (n : Nat) : State :=
  match (s.task n).bind (·.snap) with
  | none => s
  | some p =>
    if p.closed then s
    else
      let s1 := (s.modTask n fun t => { t with snap := t.snap.map fun p => { p with closed := true } }).staleResync n p
      let s2 : State :=
        { s1 with cyclicTags := s1.cyclicTags.map fun x => if x.task = n ∧ x.filed = none then { x with expired := true } else x }
      let rings := (p.sections.map (·.ring)).eraseDups
      let s3 := rings.foldl (fun s r =>
        if r < 4 then s.modRing r fun g => if decide (g.lateAt < ((s.task n).map (·.startAt)).getD 0) then { g with lateRun := false } else g
        else s) s2
      if s.alone then s3.agreeAlone n
      else
        let s4 := (p.sections.filter fun x => !x.filed).foldl (fun s x => s.send 2 (.digest n p.cycle x.ring x.station none)) s3
        s4.settleAll n

/-! ### Stations -/

/-- The output hold time of a station's module, µs (R302): three times the longest interval between its scheduled OUTPUT
sections, at least 1 ms; the background cycle stands where no cyclic task serves it. -/
def State.holdTime (s : State) (m : SnapMod) : Nat :=
  let ts := (s.tasks.map (·.2)).filter fun t => t.attr.taskClass != 3 && t.outs.contains m
  let longest := match ts.map (·.attr.cycle) with
    | [] => s.settingNat (0x10 + 2 * m.ring) 4 0
    | c :: cs => cs.foldl min c
  max 1000 (3 * longest)

/-- The ASSIGN section for a station (R276, R300), queued at the ring's port; its content is the schedule's. The OUTPUT and IMMEDIATE counts
to the station restart at 0 (R283, R284), so each LAST_SEQ base is 65,535. -/
def State.queueAssign (s : State) (ring pos : Nat) : State :=
  let v := s.station ring pos
  let p := s.plan ring
  let slots := (p.snapshots.flatMap fun t =>
    let ws := p.windows t
    (ws.1.filter fun w => w.station == pos).flatMap fun w => be 2 t.no ++ be 4 (w.start - 8 * v.delayA)
      ++ be 4 ((((ws.2.find? fun w => w.station == pos).map (·.start)).getD 0) - 8 * v.delayB))
  let holds := ((((s.ring ring).table[pos]?).map (·.mods)).getD []).flatMap fun m =>
    if m.outBytes = 0 then [] else be 2 m.slot ++ be 4 (s.holdTime ⟨ring, pos, m.slot⟩)
  let body := be 4 v.delayA ++ be 4 v.delayB ++ be 2 65535 ++ be 2 65535 ++ slots ++ holds
  let sec : OutSection := ⟨7, pos, 0, 0xFFFF, 0, 0, [], body⟩
  let s1 : State := { s with tasks := s.tasks.map fun e => (e.1, { e.2 with immSeq := NMap.del e.2.immSeq (ring * 256 + pos) }) }
  (s1.modStation ring pos fun v => { v with outSeq := 0 }).modPort (2 * ring) fun q =>
    { q with acycQueue := q.acycQueue ++ [s.frame (2 * ring) 4 [sec] []] }

/-- A station is assigned (R300): both modules send the ASSIGN with the owner's figures (R298). The standby asks the owner for it; the counts
restart on each module as it sends (DESIGN CHOICE, log 103). -/
def State.sendAssign (s : State) (ring pos : Nat) : State :=
  if s.owns || s.solo then
    let v := s.station ring pos
    let s1 := s.queueAssign ring pos
    if s.solo then s1 else s1.send 3 (.mirror (.assign ring pos v.delayA v.delayB))
  else s.send 3 (.forward (.assign ring pos))

/-- The owner's ASSIGN taken by the partner with its figures (R298, R300). -/
def State.takeAssign (s : State) (ring pos delayA delayB : Nat) : State :=
  let st := (s.station ring pos).state
  let s1 := if st = .found ∨ st = .absent then s.setStation ring pos .assigning else s
  (s1.modStation ring pos fun v =>
    { v with delayA := delayA, delayB := delayB, activeFrom := if v.state = .assigning then none else v.activeFrom }).queueAssign ring pos

/-- The station enters RESYNC (R295): source 834 + 8r fires, its path is measured again, and a fresh ASSIGN follows that. -/
def State.enterResync (s : State) (ring pos : Nat) : State :=
  ((s.setStation ring pos .resync).modStation ring pos fun v =>
      { v with resyncs := satInc v.resyncs, resyncAt := some s.clk.local_, remeasure := true, onTimeA := 0, onTimeB := 0 }).fire
    (834 + 8 * ring)

/-- The first LATE or SLOT-INTRUSION frame of a run on a ring (R304). -/
def State.lateFrame (s : State) (ring : Nat) : State :=
  let s1 := s.modRing ring fun r => { r with lateRun := true, lateAt := s.clk.ring }
  if (s.ring ring).lateRun then s1 else s1.fire (837 + 8 * ring)

/-- What a judgement of R294 does to a station (R295). -/
def State.judged (s : State) (ring pos port verdict : Nat) : State :=
  if verdict = 1 then
    let s1 := s.modStation ring pos fun v => { v with edgeRunA := 0, intrRunA := 0, onTimeA := v.onTimeA + 1 }
    if (s.station ring pos).state = .resync ∧ (s.station ring pos).remeasure = false ∧ 2 ≤ (s1.station ring pos).onTimeA then
      (s1.setStation ring pos .active).modStation ring pos fun v => { v with resyncAt := none }
    else s1
  else if verdict = 2 then
    (s.modStation ring pos fun v =>
      { v with slotEdge := satInc v.slotEdge, edgeRunA := v.edgeRunA + 1, intrRunA := 0, onTimeA := 0,
               remeasure := v.remeasure || decide (8 ≤ v.edgeRunA + 1) }).count (0x2300 + port)
  else if verdict = 3 then
    let s1 := ((s.modStation ring pos fun v =>
      { v with slotIntrusion := satInc v.slotIntrusion, intrRunA := v.intrRunA + 1, edgeRunA := 0, onTimeA := 0 }).count
        (0x2400 + port)).lateFrame ring
    if (s1.station ring pos).intrRunA = 3 ∧ (s1.station ring pos).state = .active then s1.enterResync ring pos else s1
  else s

/-- The quality with which a block is filed (R326), and whether its data stand. -/
def fileBlock (active : Bool) (len : Option Nat) (b : InBlock) : FiledBlock :=
  if b.status % 2 = 1 ∨ len ≠ some b.data.length then ⟨b.slot, b.status, [], .bad⟩
  else if !active then ⟨b.slot, b.status, [], .stale⟩
  else if b.status / 2 % 4 ≠ 0 then ⟨b.slot, b.status, b.data, .stale⟩
  else ⟨b.slot, b.status, b.data, .good⟩

/-- The values that a station's newest frame gives to the signals that active images bind (R126). -/
def State.newestOf (s : State) (ring : Nat) (x : InSection) : List SigVal :=
  ((s.activeVersions.flatMap fun p => p.1.inputs.filter fun b =>
      sigSpace b.signal == 0 && sigRing b.signal == ring && sigStation b.signal == x.station).filterMap fun b =>
    (x.blocks.find? fun k => k.slot == sigSlot b.signal).map fun k =>
      (⟨b.signal, blockValue k.data b.pos b.width, .good⟩ : SigVal)).eraseDups

/-- How many cycles before the task's present one a CYCLE_LO names; none where it names a later one. -/
def Task.cyclesAgo (t : Task) (lo : Nat) : Option Nat :=
  let d := (t.cycle % 4294967296 + 4294967296 - lo % 4294967296) % 4294967296
  if d < 2147483648 then some d else none

/-- The start of the cycle that a CYCLE_LO names (R294). -/
def Task.startOf (t : Task) (lo : Nat) : Nat :=
  let p := t.attr.cycle * 1000
  match t.cyclesAgo lo with
  | some d => t.startAt - d * p
  | none => t.startAt + ((lo % 4294967296 + 4294967296 - t.cycle % 4294967296) % 4294967296) * p

/-- A section whose snapshot has closed (R321): LATE. -/
def State.lateSection (s : State) (ring station port : Nat) : State :=
  ((s.modStation ring station fun v => { v with late := satInc v.late }).count (0x2100 + port)).lateFrame ring

/-- The blocks of a section filed in the snapshot of cycle `cycle`: its digest goes to the partner, and the snapshot closes with the last section
it expects (R18, R294, R321). -/
def State.fileBlocks (s : State) (port cycle : Nat) (x : InSection) : State :=
  let ring := port / 2
  let active := (s.station ring x.station).state == .active
  let mods := (((s.ring ring).table[x.station]?).map (·.mods)).getD []
  let blocks := x.blocks.map fun b => fileBlock active ((mods.find? fun m => m.slot == b.slot).map (·.inBytes)) b
  let s1 := s.modTask x.task fun t =>
    { t with snap := t.snap.map fun p => p.modSection ring x.station fun y => { y with filed := true, blocks := blocks } }
  let s2 : State :=
    { s1 with cyclicTags := s1.cyclicTags.map fun g =>
        if g.task = x.task ∧ g.ring = ring ∧ g.station = x.station then { g with filed := some x.crc } else g }
  let s3 :=
    if s.alone then s2
    else
      let dg := (((s2.task x.task).bind (·.snap)).bind fun p => p.section ring x.station).bind (·.report)
      (s2.send 2 (.digest x.task cycle ring x.station dg)).settle x.task ring x.station
  let done := match (s3.task x.task).bind (·.snap) with
    | some p => p.sections.all fun y => y.filed || !y.expected
    | none => false
  if done then s3.closeSnapshot x.task else s3

/-- One INPUT section filed (R321): by its task, its cycle and its station; one of an earlier cycle of the snapshot comes after its close. -/
def State.fileSection (s : State) (port : Nat) (x : InSection) : State :=
  let ring := port / 2
  let s0 := s.modStation ring x.station fun v => { v with
    freeRun := x.blocks.any fun b => b.status / 2 % 2 == 1
    last := (s.newestOf ring x).foldl sigPut v.last }
  match (s.task x.task).bind (·.snap) with
  | none => s0.count (0x2000 + port)
  | some p =>
    match p.section ring x.station with
    | none => s0.count (0x2000 + port)
    | some old =>
      if p.cycle % 4294967296 ≠ x.cycleLo then
        (if (((s.task x.task).bind fun t => t.cyclesAgo x.cycleLo).getD 0) = 0 then s0.count (0x2000 + port) else s0.lateSection ring x.station port)
      else if p.closed then s0.lateSection ring x.station port
      else if (s.station ring x.station).lastInSeq = some x.seq then
        s0.modStation ring x.station fun v => { v with duplicates := satInc v.duplicates }
      else if old.filed then s0
      else s0.fileBlocks port p.cycle x

/-- A port that receives: fitted, on, and not quiesced (R268, R472). -/
def State.portOn (s : State) (port : Nat) : Bool :=
  decide (port < Config.ports s.ident.variant) && s.setting (0x10 + port) 1 0 == 1 && !s.isQuiesced (0x10 + port)

/-- The checks of R273 on a received frame. -/
def RingHdr.good (h : RingHdr) : Bool :=
  h.fcsOk && !h.vlan && h.etherType == 0x88B5 && h.version == 1 && h.lengthOk && h.reservedZero
    && ((1 ≤ h.frameType && h.frameType ≤ 6) || (0x81 ≤ h.frameType && h.frameType ≤ 0x83))

/-- A ring frame discarded (R269, R273). -/
def State.discardFrame (s : State) (port : Nat) : State :=
  (s.modPort port fun p => { p with discarded := satInc p.discarded }).count (0x2500 + port)

/-- A frame that finds no room in its port's cyclic region is discarded whole: INGRESS-OVERRUN, a module fault (R319,
R372). -/
def State.ingressOverrun (s : State) (port : Nat) : State :=
  let s1 := (((s.modPort port fun p => { p with overruns := satInc p.overruns }).count (0x2200 + port)).modPair fun p =>
    { p with ingressOverrun := true }).record 319 1 sevFault (865 + 2 * port) noSource [(4, port)]
  (s1.fire (865 + 2 * port)).moduleFault .ingressOverrun id

/-- The section of a station in the snapshot that an INPUT section names is filed. -/
def State.isFiled (s : State) (ring : Nat) (x : InSection) : Bool :=
  match ((s.task x.task).bind (·.snap)).bind fun p => p.section ring x.station with
  | some o => o.filed
  | none => false

/-- An INPUT frame (R294, R318 to R321); a later copy is a duplicate of the last section filed. -/
def State.inputFrame (s : State) (f : InputFrame) : State :=
  let port := f.hdr.port
  let ring := port / 2
  if !s.portOn port || !s.computes then s
  else if !f.hdr.good || f.hdr.frameType ≠ 0x81 then s.discardFrame port
  else if 65536 < (s.port port).cyclicUsed + f.bytes then s.ingressOverrun port
  else
    let pos := f.hdr.sourcePos
    let s1 := s.modStation ring pos fun v => { v with seenA := s.front.side == .a, seenB := s.front.side == .b }
    let s2 :=
      match f.sections.head? with
      | none => s1
      | some x =>
        match s1.task x.task with
        | none => s1
        | some t =>
          s1.judged ring pos port (judge (s1.windowOf port t (t.startOf x.cycleLo) pos) f.start f.stop)
    let s3 := f.sections.foldl (fun s x => s.fileSection port x) s2
    match f.sections.find? fun x => s3.isFiled ring x && !s2.isFiled ring x with
    | some x => s3.modStation ring pos fun v => { v with lastInSeq := some x.seq }
    | none => s3

/-! ### Meanings -/

/-- INPUT_FRAME, R321. -/
def execInputFrame (f : InputFrame) (s : State) : Host.Outcome State Fault Refusal := .next (s.inputFrame f)

/-- SNAPSHOT_CLOSE, R322. -/
def execSnapshotClose (task : Nat) (s : State) : Host.Outcome State Fault Refusal := .next (s.closeSnapshot task)

/-- A partner's digest filed with its section (R18); one that differs from what it sent before is compared again. -/
def State.takeDigest (s : State) (n cycle ring station : Nat) (crc : Option Word) : State :=
  match (s.task n).bind (·.snap) with
  | none => s
  | some p =>
    if p.cycle ≠ cycle ∨ p.agreed then s
    else
      let d : PeerDigest := match crc with | some c => .digest c | none => .noFrame
      ((s.modTask n fun t =>
          { t with snap := t.snap.map fun p => p.modSection ring station fun x =>
              { x with peer := d, agreed := x.agreed && x.peer == d } }).settle n ring station).tryAgree n

/-- STATION_DIGEST, R18. -/
def execStationDigest (task cycle ring station : Nat) (crc : Option Word) (s : State) : Host.Outcome State Fault Refusal :=
  .next (s.takeDigest task cycle ring station crc)

/-- COPY_REQUEST, R18: the copy held is sent, and both modules use it. -/
def execCopyRequest (task cycle ring station : Nat) (s : State) : Host.Outcome State Fault Refusal :=
  .next (match (s.task task).bind (·.snap) with
    | some p =>
      if p.cycle = cycle then
        (match p.section ring station with
         | some x =>
           if x.filed then
             ((s.modTask task fun t => { t with snap := t.snap.map fun p => p.modSection ring station fun x => { x with agreed := true } }).send 2
               (.copy task cycle x)).tryAgree task
           else s
         | none => s)
      else s
    | none => s)

/-- STATION_COPY, R18: the partner's copy is used by both. -/
def execStationCopy (task cycle : Nat) (sec : Section) (s : State) : Host.Outcome State Fault Refusal :=
  .next (match (s.task task).bind (·.snap) with
    | some p =>
      if p.cycle = cycle ∧ ¬ p.agreed then
        (s.modTask task fun t =>
          { t with snap := t.snap.map fun p => p.modSection sec.ring sec.station fun x =>
              if x.agreed then x else { x with filed := true, blocks := sec.blocks, agreed := true } }).tryAgree task
      else s
    | none => s)

/-- AGREEMENT_TIMEOUT, R19: own copies stand, and the cycle is counted UNAGREED; the first of a run is recorded and fires
source 911. -/
def execAgreementTimeout (task : Nat) (s : State) : Host.Outcome State Fault Refusal :=
  .next (match (s.task task).bind (·.snap) with
    | some p =>
      if p.closed && !p.agreed then
        let s1 := (s.count 0x1000).modPair fun x => { x with unagreedAt := some s.clk.local_, unagreedRun := true }
        let s2 :=
          if s.pair.unagreedRun then s1
          else (s1.record 19 1 sevWarning 911 noSource [(4, task), (8, p.cycle)]).fire 911
        (s2.modTask task fun t => { t with snap := t.snap.map fun p => { p with unagreed := true } }).agreeAlone task
      else s
    | none => s)

/-- INPUT_PUBLICATION, R324: the agreed blocks go into the published input image. -/
def execInputPublication (task : Nat) (s : State) : Host.Outcome State Fault Refusal :=
  .next (match s.task task with
    | some t =>
      (match t.snap with
       | some p =>
         if p.agreed && decide (p.closeAt + 10000 ≤ s.clk.ring + 50000) then
           { s with image := { s.image with inputs := (s.published t p).foldl sigPut s.image.inputs } }
         else s
       | none => s)
    | none => s)

/-- FIRE_REPORT, R70: matched with this module's own fire, or kept for it. -/
def execFireReport (source time : Nat) (s : State) : Host.Outcome State Fault Refusal :=
  .next (match s.fires.find? fun f => f.source == source with
    | some f => { s with fires := s.fires.erase f }.agreedFire source (min time f.time)
    | none => { s with peerFires := s.peerFires ++ [⟨source, time⟩] })

/-- FIRE_MATCH_TIMEOUT, R70: the fire is taken alone, with the reporting module's timestamp. -/
def execFireMatchTimeout (source : Nat) (s : State) : Host.Outcome State Fault Refusal :=
  .next (match s.fires.find? fun f => f.source == source with
    | some f => { s with fires := s.fires.erase f }.agreedFire source f.time
    | none =>
      match s.peerFires.find? fun f => f.source == source with
      | some f => { s with peerFires := s.peerFires.erase f }.agreedFire source f.time
      | none => s)

end Sys2Proof.Machine
end

