-- ==== Sys2Proof/Machine/Timers.lean ====
section
/-! DEFINITION. Timers, counters, edges and shift registers, 16#80 to 16#8D (R142 to R155). -/
namespace Sys2Proof.Machine

/-- A timer block, R143. -/
structure TimerBlock where
  pt : Nat
  et : Nat
  stamp : Word
  rem : Nat
  res : Nat
  q : Bool
  inPrev : Bool
  running : Bool
  deriving DecidableEq, Repr

/-- The block of four words. -/
def timerOf (vs : List Word) : TimerBlock :=
  let w := (vs[3]?).getD 0
  { pt := ((vs[0]?).getD 0).toNat, et := ((vs[1]?).getD 0).toNat, stamp := (vs[2]?).getD 0,
    rem := (w.extractLsb' 0 20).toNat, res := (w.extractLsb' 20 2).toNat, q := w.getLsbD 22, inPrev := w.getLsbD 23,
    running := w.getLsbD 24 }

/-- Words 1 to 3 of a block; the reserved bits are written zero. -/
def timerWords (b : TimerBlock) : List Word :=
  [BitVec.ofNat 32 b.et, b.stamp,
   BitVec.ofNat 32 (b.rem + b.res * 1048576 + (if b.q then 4194304 else 0) + (if b.inPrev then 8388608 else 0)
     + (if b.running then 16777216 else 0))]

/-- The unit of RES in µs. -/
def timerUnit (res : Nat) : Nat := 1000 * 10 ^ res

/-- ACCUMULATE of R144. -/
def accumulate (now : Word) (b : TimerBlock) : TimerBlock :=
  let d := (now - b.stamp).toNat + b.rem
  { b with et := min (b.et + d / timerUnit b.res) b.pt, rem := d % timerUnit b.res, stamp := now }

/-- ET never above PT (R147). -/
def limitEt (b : TimerBlock) : TimerBlock := { b with et := min b.et b.pt }

/-- Timing starts. -/
def startTimer (now : Word) (b : TimerBlock) : TimerBlock := { b with running := true, et := 0, rem := 0, stamp := now }

/-- TON, R145. -/
def tonStep (now : Word) (inp : Bool) (b : TimerBlock) : TimerBlock :=
  let b1 :=
    if !inp then { b with et := 0, rem := 0, q := false, running := false }
    else if b.running then accumulate now b
    else startTimer now b
  { b1 with q := b1.running && decide (b1.pt ≤ b1.et) }

/-- TOF, R145. -/
def tofStep (now : Word) (inp : Bool) (b : TimerBlock) : TimerBlock :=
  let b1 :=
    if inp then { b with q := true, et := 0, rem := 0, running := false }
    else if b.running then accumulate now b
    else if b.q then startTimer now b
    else b
  if b1.running ∧ b1.pt ≤ b1.et then { b1 with q := false, running := false } else b1

/-- TP, R145: the case is that of the block as the execution finds it. -/
def tpStep (now : Word) (inp : Bool) (b : TimerBlock) : TimerBlock :=
  if b.running then
    let b1 := accumulate now b
    if b1.pt ≤ b1.et then { b1 with q := false, running := false } else b1
  else if inp && !b.inPrev then
    let b1 := { startTimer now b with q := true }
    if b.pt = 0 then { b1 with q := false, running := false } else b1
  else if !inp then { b with et := 0 }
  else b

/-- TONR, R145. -/
def tonrStep (now : Word) (inp : Bool) (b : TimerBlock) : TimerBlock :=
  let b1 :=
    if !inp then { b with running := false }
    else if b.running then accumulate now b
    else { b with running := true, stamp := now }
  { b1 with q := decide (b1.pt ≤ b1.et) }

/-- A timer instruction: IN is ACC, ACC becomes Q, and IN_PREV is written last of all. -/
def timerWith (f : Word → Bool → TimerBlock → TimerBlock) (e : Env) (l : Lane) (o : Opnd) : Except Stop Lane := do
  let (vs, m, l) ← e.readWords l o
  let inp := l.regs.acc
  let b := { f e.now inp (limitEt (timerOf vs)) with inPrev := inp }
  let mark := m || l.regs.accMark
  let l ← e.store l (e.wordWrites o.area (o.word + 1) (timerWords b) mark)
  .ok (l.setAcc b.q mark)

/-- ACC as CU: TON. -/
def bodyTon : Body := fun e o _ l => timerWith tonStep e l o
/-- TOF. -/
def bodyTof : Body := fun e o _ l => timerWith tofStep e l o
/-- TP. -/
def bodyTp : Body := fun e o _ l => timerWith tpStep e l o
/-- TONR. -/
def bodyTonr : Body := fun e o _ l => timerWith tonrStep e l o
/-- If ACC = 1: ET, REM, Q, RUNNING ← 0. -/
def bodyTrst : Body := fun e o _ l =>
  if l.regs.acc then do
    let (vs, m, l) ← e.readWords l o
    let b := { timerOf vs with et := 0, rem := 0, q := false, running := false }
    e.store l (e.wordWrites o.area (o.word + 1) (timerWords b) (m || l.regs.accMark))
  else .ok l

/-- A counter block, R148. -/
structure CounterBlock where
  pv : Int
  cv : Int
  cu : Bool
  cd : Bool
  deriving DecidableEq, Repr

/-- The block of four words. -/
def counterOf (vs : List Word) : CounterBlock :=
  let w := (vs[2]?).getD 0
  ⟨((vs[0]?).getD 0).toInt, ((vs[1]?).getD 0).toInt, w.getLsbD 0, w.getLsbD 1⟩

/-- Words 1 and 2 of a block. -/
def counterWords (b : CounterBlock) : List Word :=
  [BitVec.ofInt 32 b.cv, BitVec.ofNat 32 ((if b.cu then 1 else 0) + (if b.cd then 2 else 0))]

/-- A count that saturates (R149). -/
def countBy (b : CounterBlock) (n : Int) : CounterBlock := { b with cv := clamp32 (b.cv + n) }

/-- A counter instruction changes its block and says what ACC becomes. -/
def counterWith (f : Bool → CounterBlock → CounterBlock) (out : CounterBlock → Bool) (e : Env) (l : Lane) (o : Opnd) :
    Except Stop Lane := do
  let (vs, m, l) ← e.readWords l o
  let b := f l.regs.acc (counterOf vs)
  let mark := m || l.regs.accMark
  let l ← e.store l (e.wordWrites o.area (o.word + 1) (counterWords b) mark)
  .ok (l.setAcc (out b) mark)

/-- Count up on a rising edge of CU. -/
def bodyCtu : Body := fun e o _ l =>
  counterWith (fun cu b => { (if cu && !b.cu then countBy b 1 else b) with cu := cu }) (fun b => decide (b.pv ≤ b.cv)) e l o
/-- Count down on a rising edge of CD. -/
def bodyCtd : Body := fun e o _ l =>
  counterWith (fun cd b => { (if cd && !b.cd then countBy b (-1) else b) with cd := cd }) (fun b => decide (b.cv ≤ 0)) e l o
/-- Both inputs: CU is ACC and CD is WACC[0]; both edges together leave CV unchanged. -/
def bodyCtud : Body := fun e o _ l => do
  let (vs, m, l) ← e.readWords l o
  let b := counterOf vs
  let cu := l.regs.acc
  let cd := l.regs.wacc.getLsbD 0
  let n : Int := (if cu && !b.cu then 1 else 0) - (if cd && !b.cd then 1 else 0)
  let b := { countBy b n with cu := cu, cd := cd }
  let mark := m || l.regs.accMark || l.regs.waccMark
  let l ← e.store l (e.wordWrites o.area (o.word + 1) (counterWords b) mark)
  let wacc := overlay l.regs.wacc 1 (if b.cv ≤ 0 then 1 else 0)
  .ok ((l.setAcc (decide (b.pv ≤ b.cv)) mark).setWacc wacc mark)
/-- If ACC = 1: CV ← 0. The reserved bits of word 2 are left alone, here and in CLDV (DESIGN CHOICE: R148 has "the counter instructions write
zero here", and gives these two an effect on CV alone; log 102). -/
def bodyCrst : Body := fun e o _ l =>
  if l.regs.acc then e.store l (e.wordWrites o.area (o.word + 1) [0] l.regs.accMark) else .ok l
/-- If ACC = 1: CV ← PV. -/
def bodyCldv : Body := fun e o _ l =>
  if l.regs.acc then do
    let (v, m, l) ← e.readOp l o
    e.store l (e.wordWrites o.area (o.word + 1) [v] (m || l.regs.accMark))
  else .ok l

/-- The committed bit PREV of an edge number, which passes the bank's gate (R150, R151). -/
def edgePrev (e : Env) (no : Nat) : Except Stop Bool :=
  let a := e.win.edge + no / 8
  match (if e.dbg.isSome then none else e.gate a 0) with
  | some d => .error (.denied d)
  | none => .ok ((Cells.read e.s.image.base a).getLsbD (no % 8))

/-- An edge instruction: ACC against PREV; ACC as it was is recorded (R151). -/
def edgeWith (f : Bool → Bool → Bool) (w : BitVec 24) (e : Env) (l : Lane) : Except Stop Lane := do
  let no := fld w 0 16
  let prev ← edgePrev e no
  .ok ((l.hold (.edge no l.regs.acc l.regs.accMark)).setAcc (f l.regs.acc prev) l.regs.accMark)

/-- ACC ← ACC AND NOT PREV. -/
def bodyEdgep (w : BitVec 24) : Body := fun e _ _ l => edgeWith (fun a p => a && !p) w e l
/-- ACC ← PREV AND NOT ACC. -/
def bodyEdgen (w : BitVec 24) : Body := fun e _ _ l => edgeWith (fun a p => p && !a) w e l

/-- The number of little-endian words. -/
def wordsNat (vs : List Word) : Nat := vs.foldr (fun v n => n * 4294967296 + v.toNat) 0

/-- A number as `n` little-endian words. -/
def natWords : Nat → Nat → List Word
  | 0, _ => []
  | n + 1, v => BitVec.ofNat 32 v :: natWords n (v / 4294967296)

/-- Bits shift one place towards LEN − 1; bit 0 ← ACC; ACC ← the bit shifted out; bits above stay (R153, R154). -/
def bodyShfb (ext : Word) : Body := fun e o _ l => do
  let (vs, m, l) ← e.readWords l o
  let len := fldE ext 0 13 + 1
  let v := wordsNat vs
  let reg := v % 2 ^ len
  let mark := m || l.regs.accMark
  let next := (2 * reg + (if l.regs.acc then 1 else 0)) % 2 ^ len + v / 2 ^ len * 2 ^ len
  let l ← e.store l (e.wordWrites o.area o.word (natWords o.words next) mark)
  .ok (l.setAcc (reg.testBit (len - 1)) mark)

/-- Words shift one place towards LEN − 1; word 0 ← WACC; WACC ← the word shifted out. -/
def bodyShfw : Body := fun e o _ l => do
  let (vs, m, l) ← e.readWords l o
  let mark := m || l.regs.waccMark
  let l' ← e.store l (e.wordWrites o.area o.word (l.regs.wacc :: vs.dropLast) mark)
  .ok (l'.setWacc ((vs.getLast?).getD 0) mark)

/-- TON, R145. -/
def execOpTon (x : Exec) (w : BitVec 24) (s : State) : Host.Outcome State Fault Refusal :=
  .next (runEngine 0x80 bodyTon x w 0 s)

/-- TOF, R145. -/
def execOpTof (x : Exec) (w : BitVec 24) (s : State) : Host.Outcome State Fault Refusal :=
  .next (runEngine 0x81 bodyTof x w 0 s)

/-- TP, R145. -/
def execOpTp (x : Exec) (w : BitVec 24) (s : State) : Host.Outcome State Fault Refusal :=
  .next (runEngine 0x82 bodyTp x w 0 s)

/-- TONR, R145. -/
def execOpTonr (x : Exec) (w : BitVec 24) (s : State) : Host.Outcome State Fault Refusal :=
  .next (runEngine 0x83 bodyTonr x w 0 s)

/-- TRST, R145. -/
def execOpTrst (x : Exec) (w : BitVec 24) (s : State) : Host.Outcome State Fault Refusal :=
  .next (runEngine 0x84 bodyTrst x w 0 s)

/-- CTU, R149. -/
def execOpCtu (x : Exec) (w : BitVec 24) (s : State) : Host.Outcome State Fault Refusal :=
  .next (runEngine 0x85 bodyCtu x w 0 s)

/-- CTD, R149. -/
def execOpCtd (x : Exec) (w : BitVec 24) (s : State) : Host.Outcome State Fault Refusal :=
  .next (runEngine 0x86 bodyCtd x w 0 s)

/-- CTUD, R149. -/
def execOpCtud (x : Exec) (w : BitVec 24) (s : State) : Host.Outcome State Fault Refusal :=
  .next (runEngine 0x87 bodyCtud x w 0 s)

/-- CRST, R149. -/
def execOpCrst (x : Exec) (w : BitVec 24) (s : State) : Host.Outcome State Fault Refusal :=
  .next (runEngine 0x88 bodyCrst x w 0 s)

/-- CLDV, R149. -/
def execOpCldv (x : Exec) (w : BitVec 24) (s : State) : Host.Outcome State Fault Refusal :=
  .next (runEngine 0x89 bodyCldv x w 0 s)

/-- EDGEP, R151. -/
def execOpEdgep (x : Exec) (w : BitVec 24) (s : State) : Host.Outcome State Fault Refusal :=
  .next (runEngine 0x8A (bodyEdgep w) x w 0 s)

/-- EDGEN, R151. -/
def execOpEdgen (x : Exec) (w : BitVec 24) (s : State) : Host.Outcome State Fault Refusal :=
  .next (runEngine 0x8B (bodyEdgen w) x w 0 s)

/-- SHFB, R153. -/
def execOpShfb (x : Exec) (w : BitVec 24) (e : Word) (s : State) : Host.Outcome State Fault Refusal :=
  .next (runEngine 0x8C (bodyShfb e) x w e s)

/-- SHFW, R153. -/
def execOpShfw (x : Exec) (w : BitVec 24) (e : Word) (s : State) : Host.Outcome State Fault Refusal :=
  .next (runEngine 0x8D bodyShfw x w e s)

end Sys2Proof.Machine
end

