-- ==== Sys2Proof/Machine/ChangeOps.lean ====
section
/-! DEFINITION. The carry-over map of an online change (R242 to R247) and what it converts: the whole published state when the
change is armed, and every old-version publication from then on (R250). -/
namespace Sys2Proof.Machine

/-! ### Map entries, R243 -/

/-- An entry of the carry-over map. -/
structure MapEnt where
  oldArea : Nat
  newArea : Nat
  conv : Nat
  count : Nat
  oldAddr : Nat
  newAddr : Nat
  oldLen : Nat
  newLen : Nat
  newPt : Bool
  reserved : Bool
  deriving DecidableEq, Repr

/-- The entry that four words spell; `reserved` says that every reserved field is zero. -/
def mapEnt (ws : List Word) : MapEnt :=
  let w (k : Nat) : Word := (ws[k]?).getD 0
  { oldArea := fldE (w 0) 0 3, newArea := fldE (w 0) 3 3, conv := fldE (w 0) 8 8, count := fldE (w 0) 16 16,
    oldAddr := fldE (w 1) 0 21, newAddr := fldE (w 2) 0 21, oldLen := fldE (w 3) 0 13 + 1, newLen := fldE (w 3) 13 13 + 1,
    newPt := fldE (w 3) 26 1 == 1,
    reserved := fldE (w 0) 6 2 == 0 && fldE (w 1) 21 11 == 0 && fldE (w 2) 21 11 == 0 && fldE (w 3) 27 5 == 0 }

/-- Is a conversion of bits (its old side, its new side)? -/
def MapEnt.oldBits (m : MapEnt) : Bool := m.conv == 1 || m.conv == 2
/-- Does the new side name bits? -/
def MapEnt.newBits (m : MapEnt) : Bool := m.conv == 1 || m.conv == 3

/-- Words of one unit on the old side (R244); for registers of the whole entry. -/
def MapEnt.oldWords (m : MapEnt) : Nat :=
  if m.conv = 10 ∨ m.conv = 12 then 2 else if m.conv = 13 ∨ m.conv = 14 ∨ m.conv = 16 ∨ m.conv = 17 then 4
  else if m.conv = 15 then 16 else if m.conv = 18 then (m.oldLen + 31) / 32 else if m.conv = 19 then m.oldLen else 1

/-- Words of one unit on the new side. -/
def MapEnt.newWords (m : MapEnt) : Nat :=
  if m.conv = 9 ∨ m.conv = 11 ∨ m.conv = 12 then 2
  else if m.conv = 13 ∨ m.conv = 14 ∨ m.conv = 16 ∨ m.conv = 17 then 4
  else if m.conv = 15 then 16 else if m.conv = 18 then (m.newLen + 31) / 32 else if m.conv = 19 then m.newLen else 1

/-- The first word of unit `i` on the old side: TIMER and COUNTER name block numbers. -/
def MapEnt.oldWord (m : MapEnt) (i : Nat) : Nat :=
  if m.oldBits then (m.oldAddr + i) / 32 else if m.conv = 13 ∨ m.conv = 14 then 4 * (m.oldAddr + i) else m.oldAddr + i * m.oldWords

/-- The first word of unit `i` on the new side. -/
def MapEnt.newWord (m : MapEnt) (i : Nat) : Nat :=
  if m.newBits then (m.newAddr + i) / 32 else if m.conv = 13 ∨ m.conv = 14 then 4 * (m.newAddr + i) else m.newAddr + i * m.newWords

/-! ### Conversions, R244 -/

/-- A value cut to 32 bits with the flag that says it was clamped. -/
def clampTo (lo hi v : Int) : Word × Bool :=
  if v < lo then (BitVec.ofInt 32 lo, true) else if hi < v then (BitVec.ofInt 32 hi, true) else (BitVec.ofInt 32 v, false)

/-- The two words of a 64-bit value, low word first (R134). -/
def words64 (n : Nat) : List Word := [BitVec.ofNat 32 n, BitVec.ofNat 32 (n / 4294967296)]

/-- I32 → F32 (CONV 7). -/
def convI32F32 (w : Word) : Word := match binary32.ofInt w.toInt with | .ok r => BitVec.ofNat 32 r | .error _ => 0

/-- F32 → I32 (CONV 8): truncated; beyond the range the nearer limit; NaN gives 0; an infinity lies beyond the range. -/
def convF32I32 (w : Word) : Word × Bool :=
  match binary32.decode w.toNat with
  | some d => clampTo (-2147483648) 2147483647 d.trunc
  | none =>
    if w.toNat % binary32.signBit = binary32.inf then
      (if binary32.signBit ≤ w.toNat then 0x80000000 else 0x7FFFFFFF, true)
    else (0, true)

/-- F32 → F64 (CONV 9): exact; NaN and infinity give 0. -/
def convF32F64 (w : Word) : List Word × Bool :=
  match binary32.convert binary64 w.toNat with
  | .ok r => (words64 r, false)
  | .error _ => ([0, 0], true)

/-- F64 → F32 (CONV 10): rounded; beyond the range the largest finite value of that sign, an infinity with it; NaN gives 0. -/
def convF64F32 (n : Nat) : Word × Bool :=
  match binary64.convert binary32 n with
  | .ok r => (BitVec.ofNat 32 r, false)
  | .error _ =>
    if n % binary64.signBit ≤ binary64.inf then (if binary64.signBit ≤ n then 0xFF7FFFFF else 0x7F7FFFFF, true) else (0, true)

/-- I32 → F64 (CONV 11). -/
def convI32F64 (w : Word) : List Word := match binary64.ofInt w.toInt with | .ok r => words64 r | .error _ => [0, 0]

/-- A timer block carried over (R247): `res` is the RES the new initial-value table gives, `pt` the new PT with NEW_PT. -/
def convTimer (vs : List Word) (res : Nat) (pt : Option Nat) : List Word :=
  let b := timerOf vs
  let b1 : TimerBlock :=
    if b.res = res then b
    else
      let t := b.et * timerUnit b.res + b.rem
      { b with et := min (t / timerUnit res) b.pt, rem := t % timerUnit res, res := res }
  let b2 : TimerBlock := match pt with | some p => limitEt { b1 with pt := p } | none => b1
  BitVec.ofNat 32 b2.pt :: timerWords b2

/-! ### What a conversion reads and writes -/

/-- What a conversion works on: the old words by area and index, the new version's initial values, and its windows. -/
structure ConvEnv where
  old : Nat → Nat → Word
  init : Nat → Nat → Word
  win : Windows

/-- One unit of an entry converted: the writes into the new windows, and how many results were clamped. -/
def MapEnt.unit (m : MapEnt) (c : ConvEnv) (i : Nat) : List WriteRec × Nat :=
  let old (k : Nat) : Word := c.old m.oldArea (m.oldWord i + k)
  let at_ (k : Nat) : Nat := c.win.base m.newArea + 4 * (m.newWord i + k)
  let whole (vs : List Word) : List WriteRec := vs.zipIdx.map fun p => ⟨at_ p.2, 0xFFFFFFFF, p.1, false⟩
  let one (p : Word × Bool) : List WriteRec × Nat := (whole [p.1], if p.2 then 1 else 0)
  let oldBit := (old 0).getLsbD ((m.oldAddr + i) % 32)
  let newBit (b : Bool) : List WriteRec :=
    let k := (m.newAddr + i) % 32
    [⟨at_ 0, 1#32 <<< k, if b then 1#32 <<< k else 0, false⟩]
  let words (n : Nat) : List Word := (List.range n).map old
  match m.conv with
  | 1 => (newBit oldBit, 0)
  | 2 => (whole [boolWord oldBit], 0)
  | 3 => (newBit (old 0 != 0), 0)
  | 4 => (whole [old 0], 0)
  | 5 => one (if (old 0).toInt < 0 then (0, true) else (old 0, false))
  | 6 => one (if 2147483647 < (old 0).toNat then (0x7FFFFFFF, true) else (old 0, false))
  | 7 => (whole [convI32F32 (old 0)], 0)
  | 8 => one (convF32I32 (old 0))
  | 9 => let r := convF32F64 (old 0); (whole r.1, if r.2 then 1 else 0)
  | 10 => one (convF64F32 ((old 0).toNat + 4294967296 * (old 1).toNat))
  | 11 => (whole (convI32F64 (old 0)), 0)
  | 12 => (whole (words 2), 0)
  | 13 =>
    let word (k : Nat) : Word := c.init m.newArea (m.newWord i + k)
    (whole (convTimer (words 4) (fldE (word 3) 20 2) (if m.newPt then some (word 0).toNat else none)), 0)
  | 14 => (whole (words 4), 0)
  | 15 => (whole (words 15 ++ [0]), 0)
  | 16 => (whole (words 4), 0)
  | 17 => (whole (words 4), 0)
  | 18 =>
    let bit (k : Nat) : Bool := decide (k < m.oldLen) && (old (k / 32)).getLsbD (k % 32)
    ((List.range ((m.newLen + 31) / 32)).map fun w =>
      let ks := (List.range 32).filter fun k => decide (32 * w + k < m.newLen)
      ⟨at_ w, ks.foldl (fun v k => v ||| (1#32 <<< k)) 0,
        ks.foldl (fun v k => if bit (32 * w + k) then v ||| (1#32 <<< k) else v) 0, false⟩, 0)
  | 19 => (whole ((List.range m.newLen).map fun k => if k < m.oldLen then old k else 0), 0)
  | _ => ([], 0)

/-- Every unit of an entry. -/
def MapEnt.run (m : MapEnt) (c : ConvEnv) : List WriteRec × Nat :=
  (List.range m.count).foldl (fun acc i => let r := m.unit c i; (acc.1 ++ r.1, acc.2 + r.2)) ([], 0)

/-- The units of an entry that read one of the old words written: a block or a register converts whole. -/
def MapEnt.touched (m : MapEnt) (written : List (Nat × Nat)) (i : Nat) : Bool :=
  written.any fun p => p.1 == m.oldArea && decide (m.oldWord i ≤ p.2) && decide (p.2 < m.oldWord i + m.oldWords)

/-! ### On the state -/

/-- The value that a version's initial-value table gives a word. -/
def Version.initOf (v : Version) (area word : Nat) : Word :=
  ((v.initial.reverse.find? fun e => e.area == area && e.word == word).map (·.value)).getD 0

/-- The conversion's view of the state: old words as published at an instant. -/
def State.convEnv (s : State) (v : Version) (at_ : Nat) : ConvEnv :=
  let w := (s.tenant s.change.tenant).win
  { old := fun area word => s.image.wordAt at_ (w.base area + 4 * word), init := v.initOf, win := s.change.win }

/-- Clamped results of an entry counted; the first of an entry is recorded with its index (R244). -/
def State.clampNote (s : State) (index k : Nat) : State :=
  if k = 0 then s
  else
    let s1 := s.modChange fun c => { c with clamped := sat32 (c.clamped + k) }
    if s.change.clampedEntries.contains index then s1
    else
      (s1.modChange fun c => { c with clampedEntries := c.clampedEntries ++ [index] }).record 244 1 sevWarning noSource
        s.change.tenant [(4, index)]

/-- A memory with writes laid into it. -/
def Cells.lay (m : List Host.Cell) (ws : List WriteRec) : List Host.Cell :=
  ws.foldl (fun m r => Cells.writeWord m r.addr (overlay (Cells.readWord m r.addr) r.mask r.value)) m

/-- Edge bits carried by number where both versions have them (R245). -/
def carryEdges (old new : Windows) (m : List Host.Cell) : List Host.Cell :=
  (List.range (min old.edgeBytes new.edgeBytes)).foldl
    (fun m k => Cells.write m (new.edge + k) (Cells.read m (old.edge + k))) m

/-- The windows of a version given up: its bytes read as cleared, and its log entries go. -/
def State.freeWindows (s : State) (w : Windows) (v : Version) : State :=
  let rs := windowRanges w v
  { s with image := { s.image with
      base := rs.foldl (fun m r => Cells.clear m r.1 r.2) s.image.base
      log := s.image.log.filter fun e => !inRanges rs e.addr } }

/-- The published state converted into the new version's windows, which start from its initial values (R245, R250).
The lengths of a timer or counter block, register or word are those of the map. -/
def State.convertBase (s : State) : State :=
  match s.change.version with
  | none => s
  | some v =>
    let s0 : State := { s with image := { s.image with base := initWindows s.image.base s.change.win v } }
    let c := s0.convEnv v s.clk.ring
    let s1 := (s.change.map.zipIdx).foldl (fun (s : State) p =>
      let r := (mapEnt p.1).run c
      { s.clampNote p.2 r.2 with image := { s.image with base := Cells.lay s.image.base r.1 } }) s0
    { s1 with image := { s1.image with base := carryEdges (s1.tenant s1.change.tenant).win s1.change.win s1.image.base } }

/-- The area and word of an old-version write. -/
def areaWord (w : Windows) (v : Version) (addr : Nat) : Option (Nat × Nat) :=
  if w.q ≤ addr ∧ addr < w.q + v.sizeQ then some (1, (addr - w.q) / 4)
  else if w.m ≤ addr ∧ addr < w.m + v.sizeM then some (2, (addr - w.m) / 4)
  else if w.t ≤ addr ∧ addr < w.t + v.sizeT then some (3, (addr - w.t) / 4)
  else if w.l ≤ addr ∧ addr < w.l + v.sizeL then some (4, (addr - w.l) / 4)
  else none

/-- One unit of a map entry converted for an instant, where it reads a word just published: its results become committed writes of that
instant, and a clamped one is counted. A result that stands there already is left as it is. -/
def State.convertUnit (s : State) (c : ConvEnv) (task at_ index : Nat) (m : MapEnt) (written : List (Nat × Nat)) (i : Nat) : State :=
  if !m.touched written i then s
  else
    let r := m.unit c i
    let es := r.1.map fun w => (⟨w.addr, w.mask, w.value, task, at_⟩ : LogEnt)
    if es.all fun e => s.image.log.contains e then s
    else { s.clampNote index r.2 with image := { s.image with log := es.foldl logInsert s.image.log } }

/-- An old-version publication converted at the same instant (R250): every map unit that reads a word just published. -/
def State.convertPub (s : State) (task at_ : Nat) (addrs : List Nat) : State :=
  match s.change.version, (s.tenant s.change.tenant).version with
  | some v, some o =>
    let written := addrs.filterMap (areaWord (s.tenant s.change.tenant).win o)
    let c := s.convEnv v at_
    (s.change.map.zipIdx).foldl (fun (s : State) p =>
      (List.range (mapEnt p.1).count).foldl (fun (s : State) i => s.convertUnit c task at_ p.2 (mapEnt p.1) written i) s) s
  | _, _ => s

/-- The whole published state converted, and what is committed for later instants with it (R250). -/
def State.convertAll (s : State) : State :=
  (s.image.log.filter fun e => decide (s.clk.ring < e.at_)).foldl (fun (s : State) e => s.convertPub e.task e.at_ [e.addr]) s.convertBase

/-- A task's old-version Q words of an instant do not stand, and nothing that the change made of them does (R224, R250). -/
def State.unpublishQ (s : State) (task at_ : Nat) (old : Windows) (sizeQ : Nat) : State :=
  let gone (e : LogEnt) : Bool := e.task == task && e.at_ == at_
    && ((decide (old.q ≤ e.addr) && decide (e.addr < old.q + sizeQ))
        || (match s.change.version with | some v => inRanges (windowRanges s.change.win v) e.addr | none => false))
  let s1 : State := { s with image := { s.image with log := s.image.log.filter fun e => !gone e } }
  s1.convertPub task at_ ((s1.image.log.filter fun e => e.task == task && e.at_ == at_).map (·.addr))

end Sys2Proof.Machine
end

