-- ==== Sys2Proof/Machine/Faults.lean ====
section
/-! DEFINITION. Task faults (R219 to R229): the fault frame and where it is written, displacement, and the output policy that
a faulted or stopped task acts under. -/
namespace Sys2Proof.Machine

/-- The instant at which a task's present cycle is published (R72): start_{n+1}, or the event task's deadline. -/
def Task.pubInstant (t : Task) : Nat := t.startAt + t.deadline * 1000

/-- Whole cycles from a running cyclic task's present start to an instant; a switch to another CYCLE counts on from its meridian start_0
(R249). -/
def Task.cyclesTo (t : Task) (now : Nat) : Nat :=
  let p := max 1 (t.attr.cycle * 1000)
  if t.startAt < t.start0 then 1 + (now - t.start0) / p else (now - t.startAt) / p

/-- The start instant `k` cycles after the present one (R67, R249). -/
def Task.startIn (t : Task) (k : Nat) : Nat :=
  let p := max 1 (t.attr.cycle * 1000)
  if t.startAt < t.start0 then t.start0 + (k - 1) * p else t.startAt + k * p

/-- The words of a fault frame (R221), with the CRC last. -/
def State.frameWords (s : State) (t : Task) (f : FaultInfo) (cause : Nat) : List Word :=
  let b (x : Bool) (k : Nat) : Nat := if x then 2 ^ k else 0
  let ws : List Word := [
    BitVec.ofNat 32 (f.code + b f.fromSegment 16 + b (cause != 0) 17 + b ((s.versionOf t).agreedImm == 1) 18),
    BitVec.ofNat 32 (t.no % 2048 + t.tenant % 512 * 65536),
    BitVec.ofNat 32 t.cycle, BitVec.ofNat 32 (t.cycle / 4294967296),
    BitVec.ofNat 32 s.clk.ring, BitVec.ofNat 32 (s.clk.ring / 4294967296),
    f.pc.setWidth 32, f.instr,
    BitVec.ofNat 32 (b f.acc 0 + 2 * f.branchDepth + 128 * f.loopDepth + 2048 * f.callDepth + 65536 * min f.segment 65535),
    f.wacc,
    BitVec.ofNat 32 (f.operand % 2097152 + f.area * 2097152),
    f.detail, BitVec.ofNat 32 s.pair.epoch,
    BitVec.ofNat 32 (s.front.side.bit + b (s.mode == .owner) 1 + 4 * t.strand + 64 * cause),
    BitVec.ofNat 32 t.faultCount]
  ws ++ [crc32 (ws.flatMap leWord)]

/-- A fault that no instruction made: its code, PC and DETAIL. -/
def bareFault (code : Nat) (pc : Nat) (detail : Nat) : FaultInfo :=
  { code := code, fromSegment := false, pc := BitVec.ofNat 22 pc, instr := 0, acc := false, wacc := 0, branchDepth := 0,
    loopDepth := 0, callDepth := 0, segment := 0, operand := 0, area := 0, detail := BitVec.ofNat 32 detail }

/-- A frame that cannot be written goes whole to the tenant's slot, which keeps the first since the tenant was restarted; the tenant enters
FRAME-DISPLACED at the publication instant `at_`, and the partner is told (R226 to R229). -/
def State.displaceFrame (s : State) (t : Task) (f : FaultInfo) (cause at_ : Nat) : State :=
  ((s.modTenant t.tenant fun n =>
      { n with
        slot := if n.slot.isEmpty || n.restarted then s.frameWords t f cause else n.slot
        restarted := false, displaced := satInc n.displaced, displaceAt := minOpt n.displaceAt at_ }).modTask t.no fun t =>
    { t with atPub := { t.atPub with displace := true } }).send 3 (.displacedNotice ⟨t.tenant, at_⟩)

/-- An online change converts this task's publications (R250). -/
def State.converts (s : State) (t : Task) : Bool :=
  (s.change.state == 3 || s.change.state == 4) && s.change.tenant == t.tenant && !t.newVersion && t.no != lanternTask

/-- Committed writes of a task that no transit made, with what an online change makes of them (R224, R250). -/
def State.publishEntries (s : State) (t : Task) (es : List LogEnt) : State :=
  let s1 : State := { s with image := { s.image with log := es.foldl logInsert s.image.log } }
  match es with
  | [] => s1
  | e :: _ => if s.converts t then s1.convertPub t.no e.at_ (es.map (·.addr)) else s1

/-- A task fault raised (R220): counted on the task, recorded, and its frame written through the M bank's gate, published at
the instant `at_`; a frame whose address is not aligned or is denied is displaced, and so is one during whose write a further fault of the
tenant is raised (`second`, R226). -/
def State.raiseFault (s : State) (n : Nat) (f : FaultInfo) (at_ : Nat) (second : Bool) : State :=
  match s.task n with
  | none => s
  | some t0 =>
    let s1 := (s.modTask n fun t => { t with faultCount := satInc t.faultCount, faultCode := f.code }).record 223 1 sevFault
      noSource t0.tenant [(4, f.code), (4, n), (4, f.pc.toNat), (8, t0.cycle)]
    let t := { t0 with faultCount := satInc t0.faultCount }
    let a := (s.windowsOf t).m + 4 * (s.versionOf t).faultFrame
    match (p0Access t.tenant a 1).bind s.gateCheck with
    | some d => (s1.displaceFrame t f 1 at_).deny d
    | none =>
      if a % 64 ≠ 0 then s1.displaceFrame t f 2 at_
      else if second then s1.displaceFrame t f 3 at_
      else
        let es := (s1.frameWords t f 0).zipIdx.map fun p => (⟨a + 4 * p.2, 0xFFFFFFFF, p.1, n, at_⟩ : LogEnt)
        s1.publishEntries t es

/-- The output policy of a task at an instant (R224): under SAFE-VALUES every safe-table entry of the task, in table order,
becomes a committed write of its Q word. -/
def State.applyPolicy (s : State) (n at_ : Nat) : State :=
  match s.task n with
  | none => s
  | some t =>
    if t.attr.policy ≠ 1 then s
    else
      let es := ((s.versionOf t).safe.filter fun e => e.tasks / 2 ^ t.pos % 2 == 1).map fun e =>
        (⟨(s.windowsOf t).q + 4 * e.word, e.mask, e.value &&& e.mask, n, at_⟩ : LogEnt)
      s.publishEntries t es

/-- A task leaves its cycle, with its cyclic tags, and takes a state of R67 under its policy; what a stopped task has committed for a later
instant does not stand (R224, R227). -/
def State.endTask (s : State) (n : Nat) (st : TaskState) (at_ : Nat) : State :=
  let s0 : State :=
    if st = .stopped then { s with image := { s.image with log := s.image.log.filter fun e => !(e.task == n && decide (at_ < e.at_)) } } else s
  let s1 := ((s0.dropParallax n).applyPolicy n at_).modTask n fun t => { t.dropCycle with st := st, latch := none, behind := none, nextStart := none }
  { s1 with cyclicTags := s1.cyclicTags.filter fun x => x.task != n }.leaveClosing n

/-- A RUNNING tenant none of whose tasks is started any more is STOPPED (R60). -/
def State.settleTenant (s : State) (tenant : Nat) : State :=
  if (s.tenant tenant).state = .running ∧ ¬ (s.tasks.any fun e => e.2.tenant == tenant && (e.2.st == .armed || e.2.st == .running)) then
    s.modTenant tenant fun x => { x with state := .stopped }
  else s

/-- The task becomes FAULTED under its output policy (R224). A lantern task stops the lantern program, and its
outputs take their safe state (R393). -/
def State.becomeFaulted (s : State) (n at_ : Nat) : State :=
  if n = lanternTask then
    ((s.endTask n .faulted at_).modLantern fun l =>
      { l with running := false, fault := ((s.task n).map (·.faultCode)).getD 0 }).silenceNow
  else s.endTask n .faulted at_

/-- The tenant enters FRAME-DISPLACED: all its tasks stop under their policies (R227, R228), and an online change waits for none of them
(R254); a task that has faulted in its present cycle is FAULTED. -/
def State.displaceTenant (s : State) (tenant : Nat) : State :=
  let hit := s.tasks.filter fun e => e.2.tenant == tenant
  let s1 := hit.foldl (fun (s : State) e =>
      if e.2.st = .faulted ∨ e.2.st = .stopped then s
      else if e.2.atPub.fault.isSome then s.becomeFaulted e.1 s.clk.ring
      else s.endTask e.1 .stopped s.clk.ring) s
  (s1.modTenant tenant fun n => { n with state := .frameDisplaced, displaceAt := none }).modChange fun c =>
    { c with pendingTasks := c.pendingTasks.filter fun k => !(hit.any fun e => e.1 == k) }

/-- A tenant whose displacement is due enters FRAME-DISPLACED (R227, R228). -/
def State.displaceDue (s : State) (tenant at_ : Nat) : State :=
  match (s.tenant tenant).displaceAt with
  | some d => if d ≤ at_ then s.displaceTenant tenant else s
  | none => s

/-- A fault decided at a publication instant: its frame is written and the task is FAULTED at once (R89, R213, R588), and so is its tenant
FRAME-DISPLACED where the frame was displaced. `second` as for raiseFault. -/
def State.faultNow (s : State) (n : Nat) (f : FaultInfo) (second : Bool) : State :=
  let s1 := (s.raiseFault n f s.clk.ring second).becomeFaulted n s.clk.ring
  match s.task n with
  | some t => s1.displaceDue t.tenant s1.clk.ring
  | none => s1

end Sys2Proof.Machine
end

