-- ==== Sys2Proof/Machine/Transit.lean ====
section
/-! DEFINITION. Transit, release and the comparisons (R198, R203 to R216, R359 to R362): what the two lanes hold against each
other, what becomes committed, what leaves the module, and what the partner's write set and notices do. -/
namespace Sys2Proof.Machine

/-! ### Digests and parallax -/

/-- The digest of R204 over eight big-endian bytes for each quantity, in the order of the table. -/
def Lane.digest (l : Lane) : BitVec 64 :=
  let held : Held → List Nat
    | .wdserv => [1]
    | .evpost => [2]
    | .edge no v _ => [3, no, if v then 1 else 0]
  let qs : List Nat := [l.drained.length]
    ++ (l.drained.flatMap fun r => [r.addr, r.mask.toNat, r.value.toNat])
    ++ l.held.flatMap held
    ++ (l.imms.flatMap fun r => [r.word, r.mask.toNat, r.value.toNat])
    ++ [((l.endAt).map (·.toNat)).getD 0, if l.regs.acc then 1 else 0, l.regs.wacc.toNat, l.regs.branch.length,
        l.regs.loops.length, l.regs.calls.length, l.flags % 8 / 2,
        ((l.raised).map (·.code)).getD 0, ((l.raised).map (·.pc.toNat)).getD 0]
  crc64 (qs.flatMap (be 8))

/-- The code and PC of a raised fault. -/
def Lane.faultKey (l : Lane) : Option (Nat × Nat) := l.raised.map fun f => (f.code, f.pc.toNat)

/-- The kind of parallax found at the transit checkpoint: the first that holds of FAULT, WRITE, TRANSIT (R206). -/
def parallaxKind (a b : Lane) : Option ParKind :=
  if a.faultKey ≠ b.faultKey then some .fault
  else if (a.drained.zip b.drained).any fun p =>
      p.1.addr != p.2.addr || p.1.mask != p.2.mask || p.1.value != p.2.value then some .write
  else if a.digest ≠ b.digest then some .transit
  else none

/-- The parallax is of class IMMEDIATE (R207). -/
def classImmediate (a b : Lane) : Bool := a.immOver || b.immOver || (a.immLog.zip b.immLog).any fun p => p.1 != p.2

/-- A parallax detected (R215): the strand's word, its count, and source 963; class LANE counts against the strand (R211). -/
def State.noteParallax (s : State) (n strand : Nat) (k : ParKind) (imm : Bool) (outcome : Nat) : State :=
  let now := s.clk.local_
  ((s.modStrand strand fun x =>
      { x with
        parKind := k.code, parImmediate := imm, parOutcome := outcome, parTask := n,
        parTimes := (x.parTimes.filter fun t => decide (now < t + 1000000000)) ++ (if imm then [] else [now]) }).count
    (0x0500 + strand)).fire 963

/-! ### Ending a cycle early -/

/-- A lane of a cycle that has ended with a fault or without transit: nothing it wrote stands (R193, R194). -/
def Lane.void (l : Lane) (f : FaultInfo) : Lane :=
  { l with shadow := [], drained := [], held := [], imms := [], segs := [], raised := some f, spec := .notSpeculating }

/-- A task fault inside a cycle (R193, R220): the cycle's writes are discarded, the frame is written, and the output policy
follows at the publication instant. A parallax that waits for that instant is DISCARDED, and the fault decides there. The lantern task,
which has no frame, stops at once (R393). `second` as for raiseFault. -/
def State.faultCycle (s0 : State) (n : Nat) (f : FaultInfo) (second : Bool) : State :=
  let s := s0.dropParallax n
  match s.task n with
  | none => s
  | some t =>
    if n = lanternTask then (s.modTask n fun t => { t with faultCode := f.code }).becomeFaulted n s.clk.ring
    else if t.inCycle then
      let at_ := t.pubInstant
      let s1 := s.modTask n fun t =>
        { t.modLanes (·.void f) with transited := true, released := true, atPub := { t.atPub with fault := some f, committed := false } }
      let s2 : State := { s1 with image := { s1.image with log := s1.image.log.filter fun e => !(e.task == n && e.at_ == at_) } }
      s2.raiseFault n f at_ second
    else s.faultNow n f second

/-- Do several tasks of one tenant fault together? Each of them but the last is followed by a further fault of its tenant while its frame is
written (R226). -/
def State.followed (s : State) (n : Nat) (later : List Nat) : Bool :=
  later.any fun k => (s.task k).map (·.tenant) == (s.task n).map (·.tenant)

/-- The tasks fault one after the other, each with the faults that follow it in view. -/
def faultEach (f : FaultInfo) : List Nat → State → State
  | [], s => s
  | n :: later, s => faultEach f later (s.faultCycle n f (s.followed n later))

/-- A strand that is persistent on a module without a synchronised partner is retired, and every task on it faults (R213); of the tasks of one
tenant, which fault in one step, the last writes its frame and the others' frames are displaced with SECOND-FAULT (DESIGN CHOICE: R226 gives
no order; log 104). -/
def State.retireStrand (strand : Nat) (s : State) : State :=
  let x := s.strand strand
  let f := bareFault 12 0 (x.parKind + (if x.parImmediate then 8 else 0) + 16)
  let hit := (s.tasks.filter fun e => e.2.strand == strand && e.2.st != .stopped && e.2.st != .faulted && e.1 != lanternTask).map (·.1)
  faultEach f hit (s.modStrand strand fun x => { x with retired := true })

/-- A persistent strand (R211 to R213): a module fault where the partner is synchronised and healthy, otherwise the strand is
retired. In LANTERN the lantern program stops (R393). -/
def State.persistent (s : State) (strand : Nat) : State :=
  if s.mode = .lantern then
    s.faultCycle lanternTask (bareFault 12 0 ((s.strand strand).parKind + 16)) false
  else if s.peerSync && s.pair.peerHealthy && !s.solo && s.mode != .testHold then
    s.moduleFault .parallaxPersistent (State.retireStrand strand)
  else State.retireStrand strand s

/-- Three parallaxes counted against the strand within 1,000 ms (R211). -/
def State.windowFull (s : State) (strand : Nat) : Bool := decide (3 ≤ (s.strand strand).parTimes.length)

/-- A parallax at the transit checkpoint (R208, R211, R214): the cycle releases nothing, the partner's write set is asked for,
and a strand or task that shows it persistently is dealt with. -/
def State.transitParallax (s : State) (n : Nat) (t : Task) (k : ParKind) : State :=
  let imm := classImmediate t.lane0 t.lane1
  let again := !imm && t.laneParCycle == some (t.cycle - 1) && decide (0 < t.cycle)
  let s1 := (s.noteParallax n t.strand k imm 0).modTask n fun t =>
    { t with
      atPub := { t.atPub with parallax := some ⟨k, imm⟩ }
      lane0 := { t.lane0 with held := [], imms := [] }
      lane1 := { t.lane1 with held := [], imms := [] }
      immRun := if imm then t.immRun + 1 else 0
      laneParCycle := if imm then t.laneParCycle else some t.cycle }
  let s2 := if s.alone then s1 else s1.send 3 (.writeSetRequest n t.cycle)
  let s3 := if imm ∧ 2 ≤ t.immRun + 1 ∧ ¬ s.alone then s2.send 3 (.faultNotice n t.cycle) else s2
  if !imm && (s3.windowFull t.strand || again) then s3.persistent t.strand else s3

/-- A parallax of the lantern task, which no partner repairs: it is DISCARDED (R215, R393). -/
def State.lanternParallax (s : State) (n : Nat) (t : Task) (k : ParKind) : State :=
  let imm := k != .stall && classImmediate t.lane0 t.lane1
  ((s.noteParallax n t.strand k imm 2).recordParallax n t.strand k imm 2).modTask n fun t => { t with transited := true }

/-! ### Committing -/

/-- Does an address lie in a version's edge area? -/
def Windows.isEdge (w : Windows) (addr : Nat) : Bool := decide (w.edge ≤ addr) && decide (addr < w.edge + w.edgeBytes)

/-- What the map makes of an old-version cycle's writes for an instant (R250): they are part of the write set (R255), and a result is marked
where its unit reads a marked word (R218). -/
def State.conversions (s : State) (at_ : Nat) (ws : List WriteRec) : List WriteRec :=
  match s.change.version, (s.tenant s.change.tenant).version with
  | some v, some o =>
    let pos (xs : List WriteRec) : List (Nat × Nat) := xs.filterMap fun r => areaWord (s.tenant s.change.tenant).win o r.addr
    let all := pos ws
    let marked := pos (ws.filter (·.marked))
    let c := s.convEnv v at_
    s.change.map.flatMap fun p =>
      let m := mapEnt p
      ((List.range m.count).filter (m.touched all)).flatMap fun i => (m.unit c i).1.map fun w => { w with marked := m.touched marked i }
  | _, _ => []

/-- Does an address lie in the windows of the new version that an online change still converts into? -/
def State.converted (s : State) (addr : Nat) : Bool :=
  (s.change.state == 3 || s.change.state == 4)
    && (match s.change.version with | some v => inRanges (windowRanges s.change.win v) addr | none => false)

/-- Edge records as writes of the words that hold them (R150, R152), with their marks (R218). -/
def edgeWrites (w : Windows) (hs : List Held) : List WriteRec :=
  hs.filterMap fun h =>
    match h with
    | .edge no v m => some ⟨w.edge + no / 32 * 4, 1#32 <<< (no % 32), if v then 1#32 <<< (no % 32) else 0, m⟩
    | _ => none

/-- Writes that become committed for a cycle (R182, R198, R328): words of Q, M, T and L with their publication instant; edge
states at once (R152), carried to the new version's edge area while an old-version task of a change runs (R245). -/
def State.commit (s : State) (n : Nat) (w : Windows) (at_ : Nat) (ws : List WriteRec) : State :=
  let edges := ws.filter fun r => w.isEdge r.addr
  let rest := ws.filter fun r => !w.isEdge r.addr
  let moved :=
    if (s.change.state = 3 ∨ s.change.state = 4) ∧ w = (s.tenant s.change.tenant).win then
      (edges.map fun r => { r with addr := r.addr - w.edge + s.change.win.edge }).filter fun r => s.change.win.isEdge r.addr
    else []
  if n = lanternTask then { s with image := { s.image with base := Cells.lay s.image.base ws } }
  else
    { s with image := { s.image with
        base := Cells.lay s.image.base (edges ++ moved)
        log := rest.foldl (fun l r => logInsert l ⟨r.addr, r.mask, r.value, n, at_⟩) s.image.log } }

/-! ### Watchdog services -/

/-- The opening of a watchdog's window after its last service, ns (R6, R585). -/
def State.windowNs (s : State) (period : Nat) : Nat :=
  let ns := period * 1000
  if s.ident.fuse = 1 then ns / 8 else if s.ident.fuse = 2 then ns / 4 else ns / 2

/-- The state with one task's watchdog changed. -/
def State.modWd (s : State) (n : Nat) (f : Watchdog → Watchdog) : State := s.modTask n fun t => { t with wd := f t.wd }

/-- A service recorded without judging the window. -/
def Watchdog.serve (w : Watchdog) (now : Nat) : Watchdog :=
  { w with lastService := now, lastGap := sat32 ((now - w.lastService) / 1000), expired := false, first := false, origin := now }

/-- One service of a task's watchdog, judged now (R123, R585 to R587). -/
def State.serviceWd (s : State) (n : Nat) : State :=
  match s.task n with
  | none => s
  | some t =>
    let now := s.clk.local_
    if t.wd.period = 0 then s
    else if !t.wd.first && decide (now < t.wd.origin + s.windowNs t.wd.period) then
      let s1 := (s.modWd n fun w => { w.serve now with early := satInc w.early, earlyGap := some ((now - w.lastService) / 1000) }).count 0x7100
      if s.alone then s1 else s1.send 3 (.earlyNotice n t.cycle)
    else s.modWd n (·.serve now)

/-! ### Immediate releases and output sections -/

/-- A signal's value put at its place in a block (R625). -/
def putSignal (data : List Byte) (pos width : Nat) (v : Word) : List Byte :=
  if width = 0 then
    data.zipIdx.map fun p => if p.2 = pos / 8 then putBit p.1 (pos % 8) (v.getLsbD 0) else p.1
  else
    let bytes := be (if width = 1 then 2 else 4) v.toNat
    data.zipIdx.map fun p => if pos / 8 ≤ p.2 then (bytes[p.2 - pos / 8]?).getD p.1 else p.1

/-- The versions and windows that sections transmitted at an instant are built from (R251). -/
def State.versionsAt (s : State) (at_ : Nat) : List (Version × Windows) :=
  s.tenants.filterMap fun e =>
    if e.1 == lanternTenant then none
    else if (s.change.state == 3 || s.change.state == 4) && s.change.tenant == e.1 && decide (s.change.switchAt ≤ at_)
        && s.change.version.isSome then
      s.change.version.map fun v => (v, s.change.win)
    else e.2.version.map fun v => (v, e.2.win)

/-- The force table as it stands for frames transmitted at an instant (R259, R261). -/
def State.forcesAt (s : State) (at_ : Nat) : List Force :=
  (s.forceReqs.filter fun q => decide (q.at_ ≤ at_)).foldl (fun fs q =>
    (fs.filter fun f => !q.clears.contains f.signal && !(q.sets.any fun g => g.signal == f.signal)) ++ q.sets) s.forces

/-- The bindings of a version to one station output module. -/
def Version.outputsOf (v : Version) (m : SnapMod) : List IoBind :=
  v.ioMap.filter fun b => b.output && sigSpace b.signal == 0 && sigRing b.signal == m.ring && sigStation b.signal == m.station
    && sigSlot b.signal == m.slot

/-- The whole block of a station output module (R277) before any force: `word` gives the Q words by address. -/
def State.outBlock (s : State) (m : SnapMod) (at_ : Nat) (word : Nat → Word) : OutBlock :=
  let len := (((s.ring m.ring).table[m.station]?).bind fun c => c.mods.find? fun x => x.slot == m.slot).map (·.outBytes)
  let data := (s.versionsAt at_).foldl (fun d p => (p.1.outputsOf m).foldl (fun d b =>
      putSignal d b.pos b.width (b.take (word (p.2.q + 4 * b.word)))) d) (List.replicate (len.getD 0) 0)
  ⟨m.slot, data⟩

/-- The forces that stand for a frame transmitted at an instant laid over a block (R261). -/
def State.forceBlock (s : State) (ring station at_ : Nat) (b : OutBlock) : OutBlock :=
  let fs := s.forcesAt at_
  { b with data := (s.versionsAt at_).foldl (fun d p => (p.1.outputsOf ⟨ring, station, b.slot⟩).foldl (fun d x =>
      match forceOf fs x.signal with | some f => putSignal d x.pos x.width f.value | none => d) d) b.data }

/-- A section as it is transmitted at an instant, with the forces of that instant. -/
def State.forceSection (s : State) (ring at_ : Nat) (x : OutSection) : OutSection :=
  { x with blocks := x.blocks.map (s.forceBlock ring x.station at_) }

/-- The module sends a task's sections of a cycle (R20, R362): it transmits, and a standby's snapshot was agreed. -/
def State.sendsFor (s : State) (t : Task) : Bool :=
  s.transmits && (s.owns || (match t.snap with | some p => p.agreed && !p.unagreed | none => true))

/-- The output modules and local channels that an immediate value reaches. -/
def Version.immTargets (v : Version) (r : ImmRel) : List IoBind :=
  v.ioMap.filter fun b => b.output && b.word == r.word && (b.mask &&& r.mask) != 0

/-- The state of the releases of a cycle: values laid over the published ones, the counts advanced, values of no output. -/
structure ImmRun where
  s : State
  laid : List (Nat × Word × Word)
  counts : List (Nat × Nat)
  unmapped : Nat

/-- A Q word as published, with the immediate values released so far over it. -/
def ImmRun.word (r : ImmRun) (addr : Nat) : Word :=
  r.laid.foldl (fun w o => if o.1 = addr then overlay w o.2.1 o.2.2 else w) (r.s.image.wordAt r.s.clk.ring addr)

/-- A count of a (station) stream advanced. -/
def bumpCount (cs : List (Nat × Nat)) (k : Nat) : List (Nat × Nat) := NMap.set cs k ((NMap.get cs k).getD 0 + 1)

/-- An immediate value in the form in which it reaches outputs: the version and windows that sections are built from, and the values. From
SWITCH_AT on that is the new version, and an old-version cycle's value goes through the map (R251). -/
def ImmRun.forms (r : ImmRun) (t : Task) (x : ImmRel) : Version × Windows × List ImmRel :=
  match r.s.change.version with
  | some v =>
    if r.s.converts t && decide (r.s.change.switchAt ≤ r.s.clk.ring) then
      let old := r.s.windowsOf t
      let new := r.s.change.win
      let c : ConvEnv := { old := fun area word => r.word (old.base area + 4 * word), init := v.initOf, win := new }
      let ws := r.s.change.map.flatMap fun p =>
        let m := mapEnt p
        ((List.range m.count).filter (m.touched [(1, x.word)])).flatMap fun i => (m.unit c i).1
      let qs := ws.filter fun w => decide (new.q ≤ w.addr) && decide (w.addr < new.q + v.sizeQ)
      (v, new, qs.map fun w => ⟨(w.addr - new.q) / 4, w.mask, w.value, x.marked⟩)
    else (r.s.versionOf t, r.s.windowsOf t, [x])
  | none => (r.s.versionOf t, r.s.windowsOf t, [x])

/-- One immediate value that reaches outputs: a section for each station output module it reaches, and each local output written to its
stage. -/
def ImmRun.deliver (r : ImmRun) (t : Task) (v : Version) (win : Windows) (sends : Bool) (x : ImmRel) : ImmRun :=
  let addr := win.q + 4 * x.word
  let r1 := { r with laid := r.laid ++ [(addr, x.mask, x.value)] }
  let bs := v.immTargets x
  let mods := ((bs.filter fun b => sigSpace b.signal == 0).map fun b =>
    (⟨sigRing b.signal, sigStation b.signal, sigSlot b.signal⟩ : SnapMod)).eraseDups
  let r2 := mods.foldl (fun (r : ImmRun) m =>
    let key := m.ring * 256 + m.station
    let seq := ((NMap.get t.immSeq key).getD 0 + (NMap.get r.counts key).getD 0) % 65536
    let sec : OutSection := ⟨2, m.station, seq, t.no, t.cycle % 4294967296, 0, [r.s.outBlock m r.s.clk.ring r.word], []⟩
    let port := 2 * m.ring
    let s1 := if sends then r.s.modPort port fun p => { p with immQueue := p.immQueue ++ [r.s.frame port 3 [sec] []] } else r.s
    { r with s := s1, counts := bumpCount r.counts key }) r1
  let local_ := bs.filter fun b => sigSpace b.signal == 1
  let s3 := local_.foldl (fun (s : State) b =>
    let val := match forceOf s.forces b.signal with | some f => f.value | none => b.take (r2.word addr)
    let ch := sigChannel b.signal
    if !s.drivesLocal then s
    else if sigSlot b.signal = 0x31 then
      (s.modIo fun io => { io with doCmd := putBit io.doCmd ch (val.getLsbD 0) }).settleDo
    else if sigSlot b.signal = 0x33 then
      s.modIo fun io => { io with ao := modAt io.ao ch fun c =>
        { c with code := val.toNat % 65536, clamped := decide (val.toNat % 65536 < 7600 ∨ 41000 < val.toNat % 65536) } }
    else s) r2.s
  { r2 with s := s3 }

/-- One immediate value of a task released (R129), and counted where no output takes it (R130). -/
def ImmRun.release (r : ImmRun) (t : Task) (sends : Bool) (x : ImmRel) : ImmRun :=
  let r1 := { r with laid := r.laid ++ [((r.s.windowsOf t).q + 4 * x.word, x.mask, x.value)] }
  let (v, win, xs) := r1.forms t x
  if xs.all fun y => (v.immTargets y).isEmpty then { r1 with unmapped := r1.unmapped + 1 }
  else xs.foldl (fun (r : ImmRun) y => r.deliver t v win sends y) r1

/-- Every immediate value of a cycle released in execution order (R129, R130, R283); the counts stand with the task. -/
def State.releaseImms (s : State) (n : Nat) (t : Task) : State × List (Nat × Nat) :=
  let r := t.lane0.imms.foldl (fun (r : ImmRun) x =>
    r.release t (s.sendsFor t) x) ⟨s, [], [], 0⟩
  let s1 := (r.s.countN (0x0A00 + t.strand) (r.unmapped + t.lane0.immExcess)).modTask n fun t =>
    { t with immSeq := r.counts.foldl (fun m c => NMap.set m c.1 (((NMap.get m c.1).getD 0 + c.2) % 65536)) t.immSeq }
  (s1, r.counts)

/-! ### The write-set compare -/

/-- A divergence (R361): recorded, shown, and the standby joins again, or is STANDBY-FAULTED at a second within 3,600 s of
re-entering STANDBY. -/
def State.diverge (s : State) (n cycle addr : Nat) (own peer : Word) : State :=
  if s.mode ≠ .standby then
    ((s.modPair fun p => { p with divergence := true }).record 361 1 sevAlarm 899 noSource
      [(4, n), (8, cycle), (4, addr), (4, own.toNat), (4, peer.toNat)]).fire 899
  else
    let now := s.clk.local_
    let second := match s.pair.lastDivergence, s.pair.standbySince with
      | some _, some e => decide (now < e + 3600000000000)
      | _, _ => false
    let s1 := (((s.silencePorts).modPair fun p => { p with divergence := true, lastDivergence := some now }).record 361 1 sevAlarm
      899 noSource [(4, n), (8, cycle), (4, addr), (4, own.toNat), (4, peer.toNat)]).fire 899
    if second then s1.toFaulted .divergence else s1.toJoining .divergence

/-- The last value a list of writes gives a word, with the mask of the bits written. -/
def lastWrite (ws : List WriteRec) (addr : Nat) : Word × Word :=
  ws.foldl (fun (p : Word × Word) r => if r.addr = addr then (p.1 ||| r.mask, overlay p.2 r.mask r.value) else p) (0, 0)

/-- Is every write of a word marked? -/
def markedWord (ws : List WriteRec) (addr : Nat) : Bool := ws.all fun r => r.addr != addr || r.marked

/-- The words in which two write sets differ. -/
def diffWords (a b : List WriteRec) : List Nat :=
  ((a ++ b).map (·.addr)).eraseDups.filter fun w => lastWrite a w != lastWrite b w

/-- The standby's compare of the owner's write set with its own (R24, R218, R360). A difference in marked words alone is
adopted and counted; where only the digests differ, no word being different, marked registers explain it. What an online change makes of
the writes is compared where both sets carry it (R255): a set formed before its module took up ARMED has none. -/
def State.compareSets (s : State) (n : Nat) : State :=
  match s.task n with
  | none => s
  | some t =>
    match t.ownSet, t.peerSet with
    | some own, some peer =>
      if s.mode ≠ .standby ∨ own.cycle ≠ peer.cycle ∨ own.cycle ≠ t.cycle then s
      else if (match t.snap with | some p => p.unagreed | none => false) then s
      else
        let conv (ws : List WriteRec) : Bool := ws.any fun r => s.converted r.addr
        let both := conv own.writes && conv peer.writes
        let ds := (diffWords own.writes peer.writes).filter fun a => both || !s.converted a
        let bad := ds.filter fun w => !(markedWord own.writes w && markedWord peer.writes w)
        if ds.isEmpty then
          if own.digest = peer.digest ∨ t.lane0.regs.accMark ∨ t.lane0.regs.waccMark ∨ t.lane0.regs.pathMark
              ∨ own.writes.any (·.marked) ∨ t.lane0.immLog ≠ [] then s
          else s.diverge n t.cycle 0 0 0
        else
          match bad with
          | w :: _ => s.diverge n t.cycle w (lastWrite own.writes w).2 (lastWrite peer.writes w).2
          | [] =>
            let at_ := t.pubInstant
            let s1 : State := { s with image := { s.image with
              log := s.image.log.filter fun e => !(e.task == n && e.at_ == at_ && ds.contains e.addr) } }
            (s1.commit n (s.windowsOf t) at_ (peer.writes.filter fun r => ds.contains r.addr)).count 0x1300
    | _, _ => s

/-! ### Transit -/

/-- The two lanes stand at the transit checkpoint (R198): the snapshot is agreed, nothing is unverified, and each lane has
ended or raised a fault. -/
def State.atTransit (s : State) (t : Task) : Bool :=
  let ready (l : Lane) : Bool := l.segs.isEmpty && l.shadow.isEmpty && l.restore.isNone && (l.endAt.isSome || l.raised.isSome)
  t.inCycle && !t.transited && !t.atPub.overrun && t.atPub.parallax.isNone && t.isAgreed && ready t.lane0
    && ((s.debugFor t).isSome || ready t.lane1)

/-- The fields of SPEC_STATUS that describe the last cycle (R200). -/
def Task.closeSpec (t : Task) : Task :=
  { t with wideLast := t.wide, replayedLast := t.replayed, abandonedLast := t.abandoned, verifiedLast := t.verified }

/-- A write set that a module takes as its own committed state for an instant (R208, R357, R589): the writes, what an online change makes of
them (R250), its counts and its service. -/
def State.takeSet (s : State) (t : Task) (at_ : Nat) (ws : WriteSet) : State :=
  let conv (r : WriteRec) : Bool := s.converts t && s.converted r.addr
  let own := ws.writes.filter fun r => !conv r
  let s1 := s.commit t.no (s.windowsOf t) at_ own
  let s2 := if s.converts t then s1.convertPub t.no at_ (own.map (·.addr)) else s1
  let s3 := (s2.commit t.no s.change.win at_ (ws.writes.filter conv)).modTask t.no fun t =>
    { t with immSeq := ws.immCounts.foldl (fun m c => NMap.set m c.1 (((NMap.get m c.1).getD 0 + c.2) % 65536)) t.immSeq }
  if ws.service ∧ t.wd.period ≠ 0 then s3.modWd t.no (·.serve s.clk.local_) else s3

/-- The cycle gives up what it has written and holds, and its speculation (R88, R194). Admitted work goes on to the end of its running
segment; a lane that speculates, waits or stands at a boundary ends where it is. -/
def Lane.giveUp (l : Lane) : Lane :=
  { l with
    shadow := [], drained := [], held := [], imms := [], segs := [], restore := none, spec := .notSpeculating
    endAt := if l.spec = .notSpeculating ∧ ¬ l.atBoundary then l.endAt else some (l.endAt.getD l.regs.pc) }

/-- A cycle that has not reached transit by its overrun instant (R88): it gives up everything it holds, it is recorded and counted, and the
partner is told. -/
def State.overrun (s : State) (n : Nat) : State :=
  match s.task n with
  | none => s
  | some t =>
    let s1 := (s.modTask n fun t => { t.modLanes Lane.giveUp with atPub := { t.atPub with overrun := true } }).countN
      (0x0200 + t.strand) t.lane0.segs.length
    let s2 := (s1.record 88 1 sevFault noSource t.tenant [(4, n), (8, t.cycle)]).count (0x0600 + t.strand)
    if s.alone then s2 else s2.send 3 (.overrunNotice n t.cycle)

/-- The overrun instant of R88 has passed: the release margin is 40 µs. The lantern task has none. -/
def State.pastMargin (s : State) (t : Task) : Bool := t.no != lanternTask && decide (t.pubInstant < s.clk.ring + 40000)

/-- Transit of a cycle whose lanes match (R198): pending copies are committed, held records take effect, immediates are
released, and the write set is formed, sent and compared. -/
def State.transitOk (s : State) (n : Nat) (t : Task) : State :=
  let w := s.windowsOf t
  let at_ := t.pubInstant
  let ws := t.lane0.drained ++ edgeWrites w t.lane0.held
  let serve := t.lane0.held.contains .wdserv && n != lanternTask
  let s1 := (s.commit n w at_ ws).modTask n fun t =>
    { t.closeSpec with
      transited := true, immRun := 0
      atPub := { t.atPub with committed := true, post := t.lane0.held.contains .evpost && n != lanternTask } }
  let s2 := (if serve then s1.serviceWd n else s1).count (0x0700 + t.strand)
  let (s3, counts) := s2.releaseImms n t
  let conv := if s.converts t then s3.conversions at_ ws else []
  let set : WriteSet := ⟨n, t.cycle, t.lane0.digest, ws ++ conv, counts, serve⟩
  let s4 := s3.modTask n fun t => { t with ownSet := some set }
  let s5 := if s.converts t then s4.convertPub n at_ (ws.map (·.addr)) else s4
  if n = lanternTask ∨ s.alone then s5
  else
    let s6 := s5.send 3 (.writeSet set)
    if s.mode == .standby && (match t.snap with | some p => p.unagreed | none => false) then s6.count 0x1100
    else s6.compareSets n

/-- TRANSIT, R198: at the checkpoint the lanes are compared, but for a tenant under debug (R231). A fault that both raised
ends the cycle (R193). After the overrun instant there is no transit (R23, R198). -/
def State.transit (s : State) (n : Nat) : State :=
  match s.task n with
  | none => s
  | some t =>
    if !s.atTransit t then s
    else if s.pastMargin t then s.overrun n
    else
      match (if (s.debugFor t).isSome then none else parallaxKind t.lane0 t.lane1) with
      | some k =>
        if n = lanternTask then
          let s1 := s.lanternParallax n t k
          if s1.windowFull t.strand then s1.persistent t.strand else s1
        else s.transitParallax n t k
      | none =>
        match t.lane0.raised with
        | some f => (s.modTask n Task.closeSpec).faultCycle n f false
        | none => s.transitOk n t

/-- TRANSIT: `t` is the instant of TB-LOCAL at which the checkpoint is reached. -/
def execTransit (task t : Nat) (s : State) : Host.Outcome State Fault Refusal := .next ((s.advanceTo t).transit task)

/-- LANE_STALL, R206: a lane has not arrived, or has not gone on, for 20 µs; after the overrun instant the cycle has overrun (R88). -/
def execLaneStall (task : Nat) (s : State) : Host.Outcome State Fault Refusal :=
  .next (match s.task task with
    | some t =>
      if t.inCycle && !t.transited && !t.atPub.overrun && t.atPub.parallax.isNone && (s.debugFor t).isNone then
        if s.pastMargin t then s.overrun task
        else if task = lanternTask then
          let s1 := s.lanternParallax task t .stall
          if s1.windowFull t.strand then s1.persistent t.strand else s1
        else s.transitParallax task t .stall
      else s
    | none => s)

/-! ### Release -/

/-- The station output modules that a task's sections for an instant cover: the new version's from SWITCH_AT on (R251). -/
def State.outsAt (s : State) (t : Task) (at_ : Nat) : List SnapMod :=
  if !t.newVersion && (s.change.state == 3 || s.change.state == 4) && s.change.tenant == t.tenant && decide (s.change.switchAt ≤ at_) then
    ((NMap.get s.change.plan t.pos).map (·.outs)).getD []
  else t.outs

/-- The cyclic tasks of a strand whose transit feeds its release (R205). -/
def State.feeding (s : State) (strand : Nat) : List Task :=
  (s.tasks.map (·.2)).filter fun t =>
    t.strand == strand && t.inCycle && t.atPub.committed && t.attr.taskClass != 3 && t.no != lanternTask

/-- The committed value of a word that a release reads (R76, R205): what is published by now, with what the tasks that feed the release
have committed up to the instant `at_`. -/
def State.releaseWord (s : State) (feed : List Nat) (at_ addr : Nat) : Word :=
  s.image.log.foldl (fun w e =>
    if e.addr = addr ∧ (e.at_ ≤ s.clk.ring ∨ (e.at_ ≤ at_ ∧ e.task ∈ feed)) then overlay w e.mask e.value else w)
    (Cells.readWord s.image.base addr)

/-- The output sweep of a task's frames on a ring, ns, as the admission of the version that sends them fixed it (R22, R251). -/
def State.applySweep (s : State) (t : Task) (at_ ring : Nat) : Nat :=
  let own := (t.applySweeps[ring]?).getD 0
  if s.converts t && decide (s.change.switchAt ≤ at_) then
    match NMap.get s.change.plan t.pos with
    | some p => (p.applySweeps[ring]?).getD 0
    | none => own
  else own

/-- The OUTPUT sections of a task's cycle (R205, R251, R277): one for each of its stations on a ring, its blocks in slot order. -/
def State.outputSections (s : State) (t : Task) (ring : Nat) : List OutSection :=
  let at_ := t.pubInstant
  let outs := s.outsAt t at_
  let mods := outs.filter fun m => m.ring == ring
  let feed := (s.feeding t.strand).map (·.no)
  let stations := (List.range 256).filter fun k => mods.any fun m => m.station == k
  stations.map fun k =>
    ⟨1, k, 0, t.no, t.cycle % 4294967296, at_ + s.applySweep t at_ ring,
     ((List.range 256).filter fun c => mods.any fun m => m.station == k && m.slot == c).map fun c =>
       s.outBlock ⟨ring, k, c⟩ at_ (s.releaseWord feed at_), []⟩

/-- Bytes of a section on the wire (R276, R277). -/
def OutSection.bytes (x : OutSection) : Nat := 16 + up4 (8 + (x.blocks.map fun b => 4 + b.data.length).foldl (· + ·) 0)

/-- The number of a section in the order of R338: station position, then task number. -/
def OutSection.before (x y : OutSection) : Bool :=
  decide (x.station < y.station) || (x.station == y.station && decide (x.task ≤ y.task))

/-- Sections in the order of R338. -/
def sortSections (xs : List OutSection) : List OutSection :=
  xs.foldl (fun (l : List OutSection) x => (l.takeWhile fun y => y.before x) ++ [x] ++ (l.dropWhile fun y => y.before x)) []

/-- Sections packed into frames of at most 1,518 bytes and 89 sections (R274, R338). -/
def packSections : List OutSection → List OutSection → Nat → List (List OutSection)
  | [], cur, _ => if cur.isEmpty then [] else [cur]
  | x :: xs, cur, n =>
    if !cur.isEmpty && (decide (1518 < frameBytes (n + x.bytes)) || decide (89 ≤ cur.length)) then
      cur :: packSections xs [x] x.bytes
    else packSections xs (cur ++ [x]) (n + x.bytes)

/-- What one frame of sections gives the release digest: station number, offset in the frame, bytes, each quantity as eight bytes. -/
def digestFrame (xs : List OutSection) : List Byte :=
  (xs.foldl (fun (acc : Nat × List Byte) x =>
    (acc.1 + x.wire.length, acc.2 ++ be 8 x.station ++ be 8 acc.1 ++ x.wire)) (38, [])).2

/-- The release digest that a lane forms over the sections of the tasks that release together (R203, R205), ring after ring in the order of
R338; the assembler numbers the sections later (DESIGN CHOICE: the frame is the one that the strand's own sections fill; log 109). -/
def State.releaseDigest (s : State) (ts : List Task) : BitVec 64 :=
  crc64 ((List.range 4).flatMap fun ring =>
    (packSections (sortSections (ts.flatMap fun t => s.outputSections t ring)) [] 0).flatMap digestFrame)

/-- A task's sections put into the queues of their ports. -/
def State.queueSections (s : State) (t : Task) : State :=
  (List.range 4).foldl (fun (s : State) ring =>
    let secs := s.outputSections t ring
    if secs.isEmpty then s
    else
      let f : OutFrame := { s.frame (2 * ring) 2 secs [] with ringTime := t.pubInstant }
      s.modPort (2 * ring) fun p => { p with queue := p.queue ++ [f] }) s

/-- Sections of a task that wait are taken back from the queues. -/
def State.unqueue (s : State) (t : Task) : State :=
  { s with ports := s.ports.map fun p => { p with
      queue := (p.queue.map fun f => { f with sections := f.sections.filter fun x => x.task != t.no }).filter fun f => !f.sections.isEmpty } }

/-- The train of a task's publication instant has not gone (R338). -/
def State.beforeTrain (s : State) (t : Task) : Bool :=
  decide (s.clk.ring ≤ t.pubInstant) && decide (s.clk.tick * 50000 < t.pubInstant)

/-- A task's sections handed to the output assembler: they wait in the port's queue for start_{n+1} (R337, R338); after it they are not
sent. -/
def State.assemble (s : State) (t : Task) : State :=
  let s1 := s.modTask t.no fun t => { t with released := true }
  if s.sendsFor t && s.beforeTrain t then s1.queueSections t else s1

/-- Sections that wait for an instant from `from_` on are built again, where an online change of their tenant begins or ends to cover it
(R251); a section withheld stays withheld. -/
def State.rebuildQueues (s : State) (from_ : Nat) : State :=
  let ts := (s.tasks.map (·.2)).filter fun t =>
    t.tenant == s.change.tenant && t.inCycle && t.released && t.atPub.committed && t.attr.taskClass != 3 && t.no != lanternTask
      && t.laneParCycle != some t.cycle && decide (from_ ≤ t.pubInstant) && s.beforeTrain t && s.sendsFor t
  ts.foldl (fun (s : State) t => (s.unqueue t).queueSections t) s

/-- RELEASE_CHECKPOINT, R205: the cyclic tasks of a strand that have reached transit hand over their sections. `lane1` is the release digest
of lane 1 where it is not that of lane 0; where they differ, the sections are withheld (R203, R210). A tenant under debug compares nothing
(R231). -/
def execReleaseCheckpoint (strand : Nat) (lane1 : Option (BitVec 64)) (s : State) : Host.Outcome State Fault Refusal :=
  .next (
    let ts := (s.feeding strand).filter fun t => !t.released
    if ts.isEmpty then s
    else
      let compared := ts.filter fun t => (s.debugFor t).isNone
      let same := match lane1 with | some d => d == s.releaseDigest compared | none => true
      let held := if same then [] else compared
      let s1 := (ts.filter fun t => same || (s.debugFor t).isSome).foldl (fun s t => s.assemble t) s
      match held with
      | [] => s1
      | t :: _ =>
        let s2 := (s1.noteParallax t.no strand .release false 3).recordParallax t.no strand .release false 3
        let again := held.any fun t => t.laneParCycle == some (t.cycle - 1) && decide (0 < t.cycle)
        let s3 := held.foldl (fun s t => s.modTask t.no fun t => { t with released := true, laneParCycle := some t.cycle }) s2
        if s3.windowFull strand || again then s3.persistent strand else s3)

/-- IMMEDIATE_FRAME_SEND, R291: the oldest immediate frame of a port goes out in a gap, with the forces of now (R261). -/
def execImmediateFrameSend (port : Fin 8) (s : State) : Host.Outcome State Fault Refusal :=
  .next (match (s.port port).immQueue with
    | f :: fs =>
      let g := { s.stamp f with sections := f.sections.map (s.forceSection (port / 2) s.clk.ring) }
      if s.transmits && s.portOn port && s.fitsGap port g then (s.modPort port fun p => { p with immQueue := fs }).emit g else s
    | [] => s)

/-! ### The partner's write set and notices -/

/-- The watchdog at a start instant (R584, R586): written at the first start after a start command; that start restarts its
measurement. -/
def Task.startWd (t : Task) (first : Bool) (now : Nat) : Watchdog :=
  if first then
    let p := if t.wd.period = 0 then t.attr.wdPeriod else t.wd.period
    if p = 0 then t.wd else { t.wd with period := p, first := true, origin := now, lastService := if t.wd.period = 0 then now else t.wd.lastService }
  else t.wd

/-- A follower applies the owner's write set (R357, R589) for the publication instant of its cycle; the first of
an armed task is its first cycle. -/
def State.follow (s : State) (ws : WriteSet) : State :=
  match s.task ws.task with
  | none => s
  | some t =>
    let start :=
      if t.attr.taskClass = 3 then t.startAt
      else if t.st = .armed then t.start0 + ws.cycle * (t.attr.cycle * 1000)
      else if ws.cycle ≤ t.cycle then t.startAt
      else t.startIn (ws.cycle - t.cycle)
    let t1 : Task :=
      { t with cycle := ws.cycle, startAt := start, st := if t.st = .armed then .running else t.st
               wd := t.startWd (t.st == .armed) s.clk.local_ }
    (s.modTask t.no fun _ => t1).takeSet t1 t1.pubInstant ws

/-- WRITE_SET, R359 and R360: kept for the task; a standby compares it where its own is there already; a module that follows
the task applies it. -/
def execWriteSet (ws : WriteSet) (s : State) : Host.Outcome State Fault Refusal :=
  .next (match s.task ws.task with
    | none => s
    | some t =>
      let s1 := s.modTask ws.task fun t => { t with peerSet := some ws }
      if (s.mode = .joining ∨ s.mode = .standby) ∧ t.following then s1.follow ws else s1.compareSets ws.task)

/-- WRITE_SET_REQUEST, R208: either module answers from the write set it holds. -/
def execWriteSetRequest (task cycle : Nat) (s : State) : Host.Outcome State Fault Refusal :=
  .next (match (s.task task).bind (·.ownSet) with
    | some w => if w.cycle = cycle then s.send 3 (.writeSet w) else s
    | none => s)

/-- OVERRUN_NOTICE, R88: kept for the decision at publication. -/
def execOverrunNotice (task cycle : Nat) (s : State) : Host.Outcome State Fault Refusal :=
  .next (s.modTask task fun t => { t with peerOverrun := some cycle })

/-- FAULT_NOTICE, R214: kept for the decision at publication. -/
def execFaultNotice (task cycle : Nat) (s : State) : Host.Outcome State Fault Refusal :=
  .next (s.modTask task fun t => { t with peerFault := some cycle })

/-- FRAME_DISPLACED notice, R228: the tenant is FRAME-DISPLACED at the publication instant that the notice names. -/
def execFrameDisplacedNotice (n : DisplacedNotice) (s : State) : Host.Outcome State Fault Refusal :=
  .next (
    if (NMap.get s.tenants n.tenant).isNone then s
    else (s.modTenant n.tenant fun tn => { tn with displaceAt := minOpt tn.displaceAt n.at_ }).displaceDue n.tenant s.clk.ring)

/-- EARLY_SERVICE_NOTICE, R587: kept for the decision at publication. -/
def execEarlyServiceNotice (task cycle : Nat) (s : State) : Host.Outcome State Fault Refusal :=
  .next (s.modWd task fun w => { w with peerEarly := some cycle })

/-- EXPIRY_NOTICE, R588: kept with its instant. -/
def execExpiryNotice (task : Nat) (s : State) : Host.Outcome State Fault Refusal :=
  .next (s.modWd task fun w => { w with peerExpiredAt := some s.clk.local_ })

end Sys2Proof.Machine
end

