-- ==== Sys2Proof/Machine/Cycle.lean ====
section
/-! DEFINITION. A task's cycle from its start to its publication (R15, R66 to R74, R88 to R90, R174, R208, R224, R585 to R593)
and the switch of an online change at its meridians (R249 to R254). -/
namespace Sys2Proof.Machine

/-! ### The switch of an online change -/

/-- The I words that the new version binds otherwise than the old one did: they have no history across the switch (R252). -/
def freshWords (old new : Version) : List Nat :=
  ((new.ioMap.filter fun b => !b.output && new.inputsAt b.word != old.inputsAt b.word).map (·.word)).eraseDups

/-- A kept task takes up the new version at the meridian `m` (R249, R252, R169); its number, strand, watchdog and cycle count
stand, and a different WD_PERIOD is recorded (R584). A snapshot of other rings leaves no snapshot of the cycle before (R169). -/
def State.switchTask (s : State) (n m : Nat) : State :=
  match s.task n, s.change.version with
  | some t, some v =>
    match NMap.get s.change.plan t.pos with
    | none => s
    | some p =>
      if t.newVersion then s
      else
        let o := s.versionOf t
        let sameRings := (t.attr.snap.map (·.ring)).eraseDups.all (fun r => p.attr.snap.any fun x => x.ring == r)
          && (p.attr.snap.map (·.ring)).eraseDups.all (fun r => t.attr.snap.any fun x => x.ring == r)
        let rebase := p.attr.cycle ≠ t.attr.cycle ∧ t.attr.taskClass ≠ 3 ∧ t.st = .running
        let s1 := s.modTask n fun t =>
          { t with
            newVersion := true, attr := p.attr, outs := p.outs, w := p.w, g := p.g, sweep := p.sweep, lBase := p.lBase
            applySweeps := p.applySweeps
            snap := if sameRings then t.snap else none
            hist1 := if sameRings then t.hist1 else none
            freshNext := freshWords o v
            start0 := if rebase then m else t.start0 }
        if t.wd.period ≠ 0 ∧ t.wd.period ≠ p.attr.wdPeriod then
          s1.record 584 1 sevInfo noSource t.tenant [(4, n), (4, t.wd.period), (4, p.attr.wdPeriod)]
        else s1
  | _, _ => s

/-- The next start of a cyclic task and its cycle number (R67): start_0 when armed, then every CYCLE. -/
def State.nextStart (s : State) (t : Task) : Nat × Nat :=
  if t.st = .armed then (t.start0, 0)
  else
    let k := max 1 (t.cyclesTo s.clk.ring)
    (t.startIn k, t.cycle + k)

/-- The meridian at which a kept task takes up the new version when the change completes: a running cyclic task's next start. -/
def State.meridian (s : State) (n : Nat) : Nat :=
  match s.task n with
  | some t => if t.st = .running ∧ t.attr.taskClass ≠ 3 then (s.nextStart t).1 else s.clk.ring
  | none => s.clk.ring

/-- Every switch is made: the change is COMPLETE, the old version and its removed tasks go, and the slot is free (R254). -/
def State.tryComplete (s : State) : State :=
  if s.change.state = 4 ∧ s.change.pendingTasks = [] then
    match s.change.version with
    | none => s
    | some v =>
      let tn := s.change.tenant
      let kept := (s.tasks.filter fun e => e.2.tenant == tn && (NMap.get s.change.plan e.2.pos).isSome).map (·.1)
      let s1 := kept.foldl (fun (s : State) n => s.switchTask n (s.meridian n)) s
      let s2 := s1.modTenant tn fun x => { x with version := some v, win := s.change.win, image := s.change.image }
      State.resweep { s2 with
        tasks := (s2.tasks.filter fun e => e.2.tenant != tn || kept.contains e.1).map fun e =>
          if e.2.tenant = tn then (e.1, { e.2 with newVersion := false }) else e
        change := { s2.change with state := 5, version := none, plan := [], map := [], versionBytes := [], versionLast := false, mapBytes := [], mapLast := false }
        slot := if (s2.slot.map (·.holder)) == some 4 then none else s2.slot }
  else s

/-- SWITCH_AT has come (R249, R254): the change is SWITCHING; running tasks of the old version are pending until their last
cycle has published; added tasks of a RUNNING tenant are armed for SWITCH_AT with their watchdogs written, the others stay
STOPPED. -/
def State.beginSwitch (s : State) : State :=
  let c := s.change
  let pend := (s.tasks.filter fun e => e.2.tenant == c.tenant && e.2.inCycle).map (·.1)
  let old := (s.tasks.filter fun e => e.2.tenant == c.tenant).map (·.2.pos)
  let running := (s.tenant c.tenant).state == .running
  let added := (c.plan.filter fun e => !old.contains e.1).map fun e =>
    let t : Task := { e.2 with newVersion := true }
    if running then
      { t.arm c.switchAt with
        wd := if t.attr.wdPeriod = 0 then Watchdog.off
              else { Watchdog.off with period := t.attr.wdPeriod, first := true, origin := s.clk.local_ } }
    else t
  let idle := (s.tasks.filter fun e => e.2.tenant == c.tenant && !e.2.inCycle && e.2.st == .running && e.2.attr.taskClass == 3).map (·.1)
  let s1 : State :=
    { s with
      change := { c with state := 4, pendingTasks := pend }
      tasks := added.foldl (fun m t => NMap.set m t.no t) s.tasks }
  (idle.foldl (fun (s : State) n => s.switchTask n s.clk.ring) s1).tryComplete

/-- The switch where it is due: ARMED, confirmed, and SWITCH_AT reached. -/
def State.switchDue (s : State) : State :=
  if s.change.state = 3 ∧ s.change.confirmed ∧ s.change.switchAt ≤ s.clk.ring then s.beginSwitch else s

/-- An old-version cycle has ended at its publication instant `m`: at or after SWITCH_AT the task takes up the new version, or
has run its last cycle (R249, R254). -/
def State.switchAtPub (s : State) (n m : Nat) : State :=
  if s.change.state = 4 ∧ s.change.switchAt ≤ m ∧ n ∈ s.change.pendingTasks then
    ((s.switchTask n m).modChange fun c => { c with pendingTasks := c.pendingTasks.filter fun k => k != n }).tryComplete
  else s

/-- Is the task one that the change removes, and does a cycle at `m` fall after its last (R237)? -/
def State.removedBy (s : State) (t : Task) (m : Nat) : Bool :=
  s.change.state == 4 && s.change.tenant == t.tenant && decide (s.change.switchAt ≤ m) && (NMap.get s.change.plan t.pos).isNone

/-! ### Starting a cycle -/

/-- A task's windows as published, for the debug copy (R231). -/
def State.windowCopy (s : State) (t : Task) : List (Nat × Byte) :=
  let rs := windowRanges (s.windowsOf t) (s.versionOf t)
  (s.image.fold s.clk.ring).base.filter fun e => inRanges rs e.1

/-- What a start does for a debug session (R231, R234): after its end the task is in lock-step again; while it is open lane 1
begins a cycle on a fresh copy, once its last cycle is over, at most once every 100 ms. The I window of a SNAPSHOT task is copied when the
cycle's snapshot is agreed. -/
def State.debugStart (s : State) (n : Nat) : State :=
  match s.dbg, s.task n with
  | some d, some t =>
    if d.tenant ≠ t.tenant then s
    else if d.session = 0 then
      let left := d.closing.filter fun k => k != n
      { s with dbg := if left.isEmpty then none else some { d with closing := left } }
    else if (match d.refreshed with
        | some r => decide (s.clk.local_ < r + 100000000) || (d.lane.endAt.isNone && d.lane.raised.isNone)
        | none => false) then s
    else
      { s with dbg := some { d with
          task := n, start := some t, lane := Lane.start (BitVec.ofNat 22 t.attr.entry) .notSpeculating, copy := s.windowCopy t,
          inputs := t.inputs, copied := t.attr.consistency != 0 || t.isAgreed, refreshed := some s.clk.local_ } }
  | _, _ => s

/-- A lane as a cycle starts it: speculating in segment 0, waiting for a segment record, or as admitted work. -/
def Lane.begin (entry : BitVec 22) (spec : SpecState) : Lane :=
  let l := Lane.start entry spec
  if spec = .speculating then { l with segs := [⟨0, l.regs, 0, [], none, [], false, 0⟩] } else l

/-- The task at a start instant `m` as cycle `n` (R94, R96): registers cleared, nothing written. -/
def Task.begin (t : Task) (m n now : Nat) (spec : SpecState) : Task :=
  let first := t.st == .armed
  let entry := BitVec.ofNat 22 t.attr.entry
  { t with
    st := .running, cycle := n, startAt := m, inCycle := true, first := first, following := false, speculates := spec != .notSpeculating, transited := false,
    cycSweep := t.sweep,
    released := false, lane0 := Lane.begin entry spec, lane1 := Lane.begin entry spec, replayed := false,
    abandoned := false, wide := false, verified := 0, atPub := AtPub.none, ownSet := none,
    peerSet := t.peerSet.filter fun w => w.cycle == n, wd := t.startWd first now }

/-- The sections of a task's snapshot (R322): stations of its rings, expected where they are ACTIVE, and its local units, whose
samples are filed (R478, R479). -/
def State.openSections (s : State) (t : Task) : List Section :=
  let v := s.versionOf t
  let keys := (t.attr.snap.map fun m => (m.ring, m.station)).eraseDups
  (keys.map fun k =>
    { ring := k.1, station := k.2, expected := (s.station k.1 k.2).state == .active, filed := false, blocks := [],
      peer := .notYet, asked := false, agreed := false }) ++ v.localUnits.map (s.localSection v)

/-- The snapshot of a cycle opened (R308, R354): its tags, its local sections with their digests; it closes at once where
nothing else is expected. -/
def State.openSnapshot (s : State) (n : Nat) : State :=
  match s.task n with
  | none => s
  | some t =>
    let secs := s.openSections t
    let p : Snapshot :=
      { cycle := t.cycle, owner := s.owns, forces := s.forcesAt t.startAt, closeAt := t.startAt + t.cycSweep, closed := false,
        agreed := false, unagreed := false, sections := secs }
    let s1 := (s.modTask n fun t => { t with snap := some p }).openTags t p
    let s2 := if s.alone then s1 else (secs.filter (·.filed)).foldl (fun s x => s.send 2 (.digest n t.cycle x.ring x.station x.report)) s1
    if secs.all fun x => x.filed || !x.expected then s2.closeSnapshot n else s2

/-- The OUTPUT train of a port at an instant: the sections that are due are packed in the order of R338, with the forces of that instant
(R261), and go out where the module transmits and the port is on. What is overdue is not sent. -/
def State.sendPort (due : Nat) (s : State) (port : Nat) : State :=
  let q := (s.port port).queue
  let secs := (sortSections ((q.filter fun f => f.ringTime == due).flatMap (·.sections))).map (s.forceSection (port / 2) due)
  let frames := (packSections secs [] 0).map fun xs => { s.frame port 2 xs [] with ringTime := due, tick := due / 50000 }
  let s1 := s.modPort port fun p => { p with queue := q.filter fun f => decide (due < f.ringTime) }
  if s.transmits && s.portOn port then frames.foldl State.emit s1 else s1

/-- The OUTPUT trains of every port. -/
def State.sendDue (s : State) (due : Nat) : State := (List.range s.ports.length).foldl (State.sendPort due) s

/-- Stations whose ASSIGN has been acknowledged long enough are ACTIVE from this sample instant (R300). -/
def State.activateStations (s : State) (m : Nat) (ks : List (Nat × Nat)) : State :=
  ks.foldl (fun s k =>
    match (s.station k.1 k.2).state, (s.station k.1 k.2).activeFrom with
    | .assigning, some a => if a ≤ m then (s.setStation k.1 k.2 .active).modStation k.1 k.2 fun v => { v with activeFrom := none } else s
    | _, _ => s) s

/-- How a SNAPSHOT task's cycle starts where it speculates: in segment 0, or waiting where its strand holds 256 segment records (R180). -/
def State.specStart (s : State) (t : Task) : SpecState :=
  if 256 ≤ (s.env t 0).recordsOther ∨ 256 ≤ (s.env t 1).recordsOther then .waitRecords else .speculating

/-- A cyclic task's cycle starts at `m` as cycle `n` (R15, R66, R73, R167, R173). Work that does not speculate is admitted, and a speculative
segment that runs on its strand gives way (R176). -/
def State.startCycle (s : State) (no m n : Nat) : State :=
  match s.task no with
  | none => s
  | some t =>
    let s0 := (s.sendDue m).activateStations m ((t.attr.snap.map fun x => (x.ring, x.station)).eraseDups)
    let consecutive := t.st == .running && n == t.cycle + 1
    let agreed := match t.snap with | some p => p.agreed && consecutive | none => false
    let h1 := if agreed then some t.inputs else none
    let h2 := if consecutive then t.hist1 else none
    let snapshot := t.attr.consistency == 0
    let spec := if snapshot && h1.isSome && (s.debugFor t).isNone then s.specStart t else .notSpeculating
    let s1 := s0.modTask no fun t =>
      { t.begin m n s.clk.local_ spec with
        hist1 := h1, hist2 := h2, snap := none, fresh1 := t.freshNext, fresh2 := t.fresh1 ++ t.freshNext, freshNext := [] }
    let s2 :=
      if snapshot then s1.openSnapshot no
      else
        let vs := s1.asyncInputs (s1.versionOf t)
        s1.modTask no fun t => { t with inputs := vs }
    (if spec = .notSpeculating then s2.yieldSpec t.strand no else s2).debugStart no

/-- CYCLE_START, R15. A task that is not due, or that the module does not compute, starts nothing. -/
def execCycleStart (task : Nat) (s : State) : Host.Outcome State Fault Refusal :=
  .next (
    let s := s.switchDue
    match s.task task with
    | none => s
    | some t0 =>
      let due := s.nextStart t0
      let s1 := if s.change.state = 4 ∧ s.change.tenant = t0.tenant ∧ s.change.switchAt ≤ due.1 then s.switchTask task due.1 else s
      match s1.task task with
      | none => s1
      | some t =>
        let next := s1.nextStart t
        let joined := match (s.pair.join).bind (·.tickJ) with
          | some j => s.mode != .joining || decide (j * 50000 < next.1)
          | none => s.mode != .joining
        if s1.computes && joined && t.attr.taskClass != 3 && task != lanternTask && (t.st == .armed || t.st == .running) && !t.inCycle
            && decide (next.1 ≤ s1.clk.ring) && !s1.removedBy t next.1 then
          s1.startCycle task next.1 next.2
        else s)

/-- EVENT_TASK_START, R70 and R71. -/
def execEventTaskStart (task : Nat) (s : State) : Host.Outcome State Fault Refusal :=
  .next (
    let s := s.switchDue
    let s1 := match s.task task with
      | some t => if s.change.state = 4 ∧ s.change.tenant = t.tenant then s.switchTask task s.clk.ring else s
      | none => s
    match s1.task task with
    | none => s
    | some t =>
      match t.latch, t.nextStart with
      | some l, some at_ =>
        if s1.computes && t.attr.taskClass == 3 && (t.st == .armed || t.st == .running) && !t.inCycle && decide (at_ ≤ s1.clk.ring)
            && !s1.removedBy t at_ then
          let n := if t.st = .armed then 0 else t.cycle + 1
          let vs := s1.asyncInputs (s1.versionOf t)
          ((s1.modTask task fun t =>
              { t.begin at_ n s1.clk.local_ .notSpeculating with
                fire := some l, latch := t.behind, behind := none, prevStart := some at_
                nextStart := t.behind.map fun b => eventStart (some at_) t.attr.minInterval b.time, inputs := vs, snap := none,
                hist1 := none, hist2 := none }).yieldSpec t.strand task).debugStart task
        else s
      | _, _ => s)

/-! ### Overrun -/

/-- BUDGET_OVERRUN, R88 and R194: the cycle gives up everything it holds, sends nothing, and tells the partner. -/
def execBudgetOverrun (task : Nat) (s : State) : Host.Outcome State Fault Refusal :=
  .next (match s.task task with
    | none => s
    | some t =>
      if t.inCycle && !t.transited && !t.atPub.overrun && t.atPub.parallax.isNone && task != lanternTask
          && decide (t.pubInstant ≤ s.clk.ring + 90000) then
        s.overrun task
      else s)

/-! ### Publication -/

/-- The cycle's Q words do not stand where the task faults at its publication (R224), nor what an online change made of them (R250). -/
def State.dropQ (s : State) (t : Task) (at_ : Nat) : State :=
  let w := s.windowsOf t
  let v := s.versionOf t
  if s.converts t then s.unpublishQ t.no at_ w v.sizeQ
  else { s with image := { s.image with log := s.image.log.filter fun e =>
      !(e.task == t.no && e.at_ == at_ && decide (w.q ≤ e.addr) && decide (e.addr < w.q + v.sizeQ)) } }

/-- A task fault decided at the publication instant of a cycle that was committed. -/
def State.faultAtPub (s : State) (t : Task) (f : FaultInfo) : State := (s.dropQ t t.pubInstant).faultNow t.no f false

/-- The decision of R89 on an overrun cycle. Where the partner's write set has arrived and its HEALTHY is absent, both the first and the
second bullet of R89 hold: the module is alone and the task faults (DESIGN CHOICE; log 97). No instruction faulted, so PC is 0 (R221). -/
def State.decideOverrun (s : State) (t : Task) : State :=
  let f : FaultInfo := bareFault 13 0 (sat32 t.lane0.cost)
  let quiet := s.modWd t.no fun w => { w with expiredAt := none, peerExpiredAt := none, earlyGap := none }
  let fault (s : State) : State := s.faultNow t.no f false
  let mine (s : State) : State := s.moduleFault .budgetOverrun fault
  match t.peerSet with
  | some w =>
    if w.cycle = t.cycle ∧ ¬ s.alone then mine s
    else if s.alone ∨ t.peerOverrun = some t.cycle then fault quiet else mine s
  | none => if s.alone ∨ t.peerOverrun = some t.cycle then fault quiet else mine s

/-- A parallax decided at publication (R208, R209, R214, R589): REPAIRED from the partner's write set, or DISCARDED. -/
def State.decideParallax (s : State) (t : Task) (p : ParPending) : State :=
  let set := t.peerSet.filter fun w => w.cycle == t.cycle
  let outcome := if set.isSome then 1 else 2
  let s1 : State :=
    match set with
    | some w => (s.takeSet t t.pubInstant w).modTask t.no fun t => { t with ownSet := some w, transited := true }
    | none => s
  let s2 := (s1.modStrand t.strand fun x => if x.parTask = t.no then { x with parOutcome := outcome } else x).recordParallax t.no
    t.strand p.kind p.immediate outcome
  if p.immediate ∧ 2 ≤ t.immRun then s2.faultAtPub t (bareFault 12 0 (p.kind.code + 8)) else s2

/-- The decisions on early services and expiries (R587, R588). -/
def State.decideWd (s : State) (t : Task) : State :=
  let s1 :=
    match t.wd.earlyGap with
    | none => s
    | some g =>
      let s1 := s.modWd t.no fun w => { w with earlyGap := none, peerEarly := none }
      if s.alone ∨ t.wd.peerEarly = some t.cycle then
        (s1.faultAtPub t (bareFault 15 0 (sat32 g))).fire 960
      else (s1.record 587 1 sevWarning 961 t.tenant [(4, t.no), (8, t.cycle)]).fire 961
  match t.wd.expiredAt with
  | none => s1
  | some e =>
    let clear (s : State) : State := s.modWd t.no fun w => { w with expiredAt := none, peerExpiredAt := none }
    let f := bareFault 14 (if t.wd.pcValid then t.wd.pc else 0) 0
    let fault (s : State) : State := ((clear s).faultAtPub t f).fire 960
    let period := (if t.attr.taskClass = 3 then t.attr.minInterval else t.attr.cycle) * 1000 + 20000
    if s.alone then fault s1
    else
      match t.wd.peerExpiredAt with
      | some p => if min e p + period ≤ s.clk.local_ then fault s1 else s1
      | none =>
        if e + period ≤ s.clk.local_ then ((clear s1).fire 961).moduleFault .watchdog fault else s1

/-- The earliest start of the tasks that are in a cycle: what is published before it is folded into the baseline (R329). -/
def State.foldInstant (s : State) : Nat :=
  s.tasks.foldl (fun m e => if e.2.inCycle && e.1 != lanternTask then min m e.2.startAt else m) s.clk.ring

/-- What a watchdog has left to be decided with a budget-overrun fault is counted and recorded only (R590). -/
def State.dropWd (s : State) (t : Task) : State :=
  if t.wd.earlyGap.isNone && t.wd.expiredAt.isNone then s
  else
    (s.modWd t.no fun w => { w with earlyGap := none, peerEarly := none, expiredAt := none, peerExpiredAt := none }).record 590 1 sevWarning
      noSource t.tenant [(4, t.no), (8, t.cycle)]

/-- Publication of a cycle (R72). -/
def State.publish (s : State) (t : Task) : State :=
  let n := t.no
  let at_ := t.pubInstant
  let s1 : State :=
    if t.atPub.overrun then s.decideOverrun t
    else
      match t.atPub.fault with
      | some _ => s.becomeFaulted n s.clk.ring
      | none =>
        match t.atPub.parallax with
        | some p => s.decideParallax t p
        | none => s
  let clean := t.atPub.committed && t.atPub.fault.isNone
  let late := clean && s.mode == .standby && !s.alone && (t.peerSet.filter fun w => w.cycle == t.cycle).isNone
    && !(match t.snap with | some p => p.unagreed | none => false)
  let s2 : State := if late then s1.count 0x1200 else s1
  let s3 : State := if clean && t.atPub.post then s2.fireAt (64 + t.tenant) at_ else s2
  let s4 : State := match s3.task n with
    | some u =>
      if t.atPub.overrun then (if u.st = .faulted then s3.dropWd t else s3)
      else if u.st = .faulted then s3
      else s3.decideWd { u with atPub := t.atPub }
    | none => s3
  let s5 : State := match s4.task n with
    | some u => if u.peerFault = some t.cycle ∧ u.st = .running then s4.faultAtPub u (bareFault 12 0 8) else s4
    | none => s4
  let displace := t.atPub.displace || (match s5.task n with | some u => u.atPub.displace | none => false)
  let s6 : State := if displace then s5.displaceTenant t.tenant else s5.displaceDue t.tenant s5.clk.ring
  let s7 : State := match s6.task n with
    | some u => if t.atPub.stop ∧ u.st = .running then (s6.endTask n .stopped s6.clk.ring).settleTenant u.tenant else s6
    | none => s6
  let s8 : State := if s.converts t then s7.convertPub n at_ ((s7.image.log.filter fun e => e.task == n && e.at_ == at_).map (·.addr)) else s7
  let s9 : State := ((s8.modTask n fun u => { u with inCycle := false, transited := false, peerFault := none }).switchAtPub n at_).tryComplete
  { s9 with image := s9.image.fold s9.foldInstant }

/-- PUBLICATION_INSTANT, R72: a cycle that has reached its instant with a transit, an overrun, a parallax or a fault. -/
def execPublicationInstant (task : Nat) (s : State) : Host.Outcome State Fault Refusal :=
  .next (
    let s := s.switchDue
    match s.task task with
    | none => s
    | some t =>
      if t.inCycle && decide (t.pubInstant ≤ s.clk.ring) && task != lanternTask
          && (t.transited || t.atPub.overrun || t.atPub.parallax.isSome || t.atPub.fault.isSome) then s.publish t
      else s)

/-! ### Watchdog expiry -/

/-- RUN_STATE of R594 at an expiry: EXECUTING, PREEMPTED, WAITING, NOT-IN-CYCLE. -/
def State.runState (s : State) (t : Task) : Nat :=
  if !t.inCycle || t.transited then 3
  else if t.lane0.spec != .notSpeculating && t.lane0.spec != .speculating then 2
  else if (s.strand t.strand).current = some t.no then 0
  else 1

/-- WATCHDOG_EXPIRY, R585, R588 and R593: the evidence is taken and the measurement restarts; the expiry of a task that is not
running changes no state of it (R586). -/
def execWatchdogExpiry (task : Nat) (s : State) : Host.Outcome State Fault Refusal :=
  .next (match s.task task with
    | none => s
    | some t =>
      let due := t.wd.origin + t.wd.period * 1000
      if t.wd.period = 0 ∨ s.clk.local_ + 50000 < due then s
      else
        let at_ := max due s.clk.local_
        let rs := s.runState t
        let s1 := (s.modWd task fun w =>
          { w with
            expiries := satInc w.expiries, expired := true, lastExpiry := at_, origin := at_, runState := rs,
            pcValid := rs != 3, pc := if rs = 3 then 0 else t.lane0.regs.pc.toNat,
            expiredAt := if t.st = .running then (match w.expiredAt with | some e => some e | none => some at_) else w.expiredAt }).count 0x7000
        let s2 := s1.record 588 1 sevFault noSource t.tenant
          [(4, task), (4, if rs = 3 then 0 else t.lane0.regs.pc.toNat), (4, rs), (8, t.wd.lastService)]
        if s.alone then s2 else s2.send 3 (.expiryNotice task))

/-- What the expiry of a privileged watchdog leaves (R592, R593). -/
def State.expirePrivileged (s : State) (unit : Nat) (evidence : Nat) (valid : Bool) : State :=
  let s1 : State := { s with privWds := modAt s.privWds unit fun w =>
    { w with lastExpiry := s.clk.local_, expiries := satInc w.expiries, evidence := evidence, evidenceValid := valid, expired := true } }
  let s2 := if s1.mode = .owner ∧ s1.peerState = 2 ∧ ¬ s1.solo then s1.emergency else s1.silencePorts.releaseLocal
  s2.restart .watchdog

/-- PRIVILEGED_WATCHDOG_EXPIRY, R592: an owner makes the emergency handover, and every module restarts into LANTERN. -/
def execPrivilegedWatchdogExpiry (unit : Fin 8) (evidence : Nat) (valid : Bool) (s : State) : Host.Outcome State Fault Refusal :=
  .next (if s.up then s.expirePrivileged unit.val evidence valid else s)

/-- PRIVILEGED_WATCHDOG_SERVICE, R591: a unit's control loop services its watchdog; an early service acts as an expiry. -/
def execPrivilegedWatchdogService (unit : Fin 8) (t : Nat) (s : State) : Host.Outcome State Fault Refusal :=
  .next (
    let s := s.advanceTo t
    if !s.up then s
    else
      let last := ((s.privWds[unit.val]?).map (·.lastService)).getD 0
      let period := Config.privPeriod unit.val / 1000
      if s.clk.local_ < last + s.windowNs period then
        ({ s with privWds := modAt s.privWds unit.val fun w => { w with early := satInc w.early } }).expirePrivileged unit.val 0 false
      else
        { s with privWds := modAt s.privWds unit.val fun w =>
            { w with lastService := s.clk.local_, lastGap := sat32 ((s.clk.local_ - w.lastService) / 1000), expired := false } })

end Sys2Proof.Machine
end

