-- ==== Sys2Proof/Machine/Tick.lean ====
section
/-! DEFINITION. The tick of 50 µs (R270, R271): the clocks, local I/O, the RING-TIME frame with shifts and grants, heartbeats,
the OUTPUT train and the acyclic stream. -/
namespace Sys2Proof.Machine

/-! ### The clocks -/

/-- The next tick of ring time, and the instant of TB-LOCAL at which it falls. -/
def State.toNextTick (s : State) : State :=
  let next := (s.clk.ring / 50000 + 1) * 50000
  let t1 := s.clk.local_ + (next - s.clk.ring)
  let r1 := s.ringAt t1
  let t2 := if r1 ≤ next then t1 + (next - r1) else max s.clk.local_ (t1 - (r1 - next))
  { s with clk := ⟨t2, next, next / 50000⟩ }

/-- The offset of the selected domain's base from TB-PLANT now, ns (R434, SLEW_REMAINING). -/
def State.slewRemaining (s : State) : Int :=
  (s.domain s.time.selected).base.valueAt s.clk.local_ - s.time.plant.valueAt s.clk.local_

/-- TB-PLANT follows the selected domain's rate, removing what offset there is within ±10 ppm of it (R420). -/
def State.steerPlant (s : State) : State :=
  if !s.time.plantValid then s
  else
    let now := s.clk.local_
    let d := s.slewRemaining
    let r := (s.domain s.time.selected).base.rate + (if 0 < d then 10000 else if d < 0 then -10000 else 0)
    if r = s.time.plant.rate then s
    else s.modTime fun x => { x with plant := Base.setAt now (x.plant.valueAt now) r }

/-! ### Local I/O -/

/-- The samples of a tick (R478, R486, R491): a disabled AI channel keeps its code, and so does every channel while its
island is stopped or being flushed (R52, R55). The conditions of R494 follow the code, and a change of OPEN is recorded (R498). -/
def State.sampleLocal (s : State) (m : LocalSample) : State :=
  let ai := s.io.ai.zipIdx.map fun p =>
    if s.setting 0x32 1 p.2 = 1 ∧ (s.crossing 0x32).passes then aiMeasured ((m.ai[p.2]?).getD 0) p.1.converterFault else p.1
  let changed := (s.io.ai.zip ai).zipIdx.filter fun p => p.1.1.open_ != p.1.2.open_
  (changed.map (·.2)).foldl (fun (s : State) ch => s.channelChange 0x32 ch)
    (s.modIo fun io => { io with readback := m.readback, lplusOk := m.lplusOk, ai := ai })

/-- The newest CAN records stand for the tick's sample (R516). -/
def State.sampleCan (s : State) : State := { s with can := s.can.map fun c => { c with published := c.newest } }

/-- SHARE (R488): a change that is due is made, and one that is wanted is announced for the next tick. -/
def State.stepShare (s : State) : State :=
  match s.pair.shareTick with
  | some (t, half) =>
    if t ≤ s.clk.tick then
      ((s.modPair fun p => { p with shareTick := none }).modIo fun io =>
        { io with half := half, ao := io.ao.map fun c => { c with fullShare := !half } })
    else s
  | none =>
    if s.io.half = s.shareHalf ∨ ¬ s.drivesLocal then s
    else (s.modPair fun p => { p with shareTick := some (s.clk.tick + 1, s.shareHalf) }).send 3 (.shareChange (s.clk.tick + 1) s.shareHalf)

/-! ### Schedule at the tick -/

/-- The closure port of a ring carries frames: it is on and set closed (R266, R268). -/
def State.closureOn (s : State) (ring : Nat) : Bool := s.portOn (2 * ring + 1) && s.setting (0x10 + 2 * ring + 1) 3 0 == 1

/-- The shifts of the snapshots that start at the next tick (R290); one that is not placed is recorded and fires 837 + 8r
(R293). -/
def State.stepShifts (s : State) (ring : Nat) : State :=
  let next := s.clk.ring + 50000
  let placed := s.placeShifts ring next
  let s1 := s.modRing ring fun r => { r with placed := placed }
  (placed.filter fun x => x.start == next && x.shift.isNone).foldl (fun (s : State) x =>
    (s.record 293 1 sevFault (837 + 8 * ring) noSource [(4, ring), (4, x.task)]).fire (837 + 8 * ring)) s1

/-- Stations to which a grant is due (R314). -/
def State.grantDue (s : State) (ring : Nat) : List Nat :=
  (List.range (s.ring ring).table.length).filter fun k =>
    let v := s.station ring k
    v.state != .absent && (!v.outstanding.isEmpty || v.alarmPending != 0
      || (match v.lastStatusAt with | some t => decide (t + 100000000 ≤ s.clk.local_) | none => true))

/-- Wire time of the longest response frame. -/
def grantNs : Nat := wireNs 1518

/-- The grants of the next tick with their arrival instants at both ports (R290, R291, R314, R320): at most 32, each in a gap,
none where a port has no free acyclic block. -/
def State.placeGrants (s : State) (ring : Nat) : List (Nat × Nat × Nat) :=
  let p := s.plan ring
  let busy := s.openWindows ring (s.clk.ring + 50000) (s.ring ring).placed
  let own := if s.solo then []
    else [(p.line p.measured, p.line p.planned + p.ringTimeWire + p.trainWire)]
  let peer := if s.alone then 32 else (s.pair.peerFree[2 * ring]?).getD 0
  let room := min 32 (min 128 peer)
  let base (ws : List Slotted) : List (Nat × Nat) := own ++ ws.map fun w => (w.start, w.stop)
  ((s.grantDue ring).foldl (fun (acc : List (Nat × Nat × Nat) × List (Nat × Nat) × List (Nat × Nat)) k =>
    if room ≤ acc.1.length then acc
    else
      let a := placeAt acc.2.1 grantNs (acc.2.1.length + 1) (1000 + RingPlan.sum p.planned (p.path false k))
      let b := placeAt acc.2.2 grantNs (acc.2.2.length + 1) (1000 + RingPlan.sum p.planned (p.path true k))
      if 50000 < a + grantNs ∨ 50000 < b + grantNs then acc
      else (acc.1 ++ [(k, a, b)], acc.2.1 ++ [(a, a + grantNs)], acc.2.2 ++ [(b, b + grantNs)]))
    ([], base busy.1, base busy.2)).1

/-- The RING-TIME payload of a ring (R280). -/
def State.ringTimePayload (s : State) (ring : Nat) (grants : List (Nat × Nat × Nat)) : List Byte :=
  let shifts := ((s.ring ring).placed.filter fun x => x.start == s.clk.ring + 50000).take 64
  be 8 s.clk.ring ++ be 1 shifts.length ++ be 1 grants.length ++ be 6 0
    ++ (shifts.flatMap fun x => be 2 x.task ++ be 2 (x.shift.getD 0xFFFF))
    ++ (grants.flatMap fun g => be 1 g.1 ++ [0] ++ be 2 ((g.2.1 + 7) / 8) ++ be 2 ((g.2.2 + 7) / 8))

/-- The owner's RING-TIME frames of a tick, on every enabled port 2k and closure (R271). -/
def State.sendRingTime (s : State) (ring : Nat) : State :=
  let grants := s.placeGrants ring
  let body := s.ringTimePayload ring grants
  let s1 := ((s.modRing ring fun r => { r with grants := grants.map (·.1) }).modPort (2 * ring) fun p =>
    { p with acycFree := 128 - grants.length }).modPair fun p => { p with peerFree := modAt p.peerFree (2 * ring) fun n => n - grants.length }
  let s2 := if s.portOn (2 * ring) then s1.emit (s1.frame (2 * ring) 1 [] body) else s1
  if s.closureOn ring then s2.emit (s2.frame (2 * ring + 1) 1 [] body) else s2

/-- The HEARTBEAT frame of a closure (R275, R350, R624). -/
def State.sendClosure (s : State) (ring : Nat) : State :=
  if s.closureOn ring && (s.mode == .joining || s.mode == .standby || s.mode == .standbyFaulted || s.mode == .owner)
      && !s.front.powerFail then
    s.emit (s.frame (2 * ring + 1) 6 [] (be 8 s.health.toNat ++ be 4 s.storedEpoch ++ be 4 0))
  else s

/-- The heartbeat-class message of a tick (R340). -/
def State.sendHeartbeat (s : State) : State :=
  if s.solo then s
  else s.send 1 (.heartbeat s.health s.pair.epoch s.clk.tick (s.ports.map (·.acycFree)) (s.link.classes.map (·.credits)))

/-! ### The train -/

/-- The tasks whose OUTPUT sections are scheduled for this tick, in rising task number. -/
def State.trainTasks (s : State) (m : Nat) : List Task :=
  (s.tasks.map (·.2)).filter fun t => t.st == .running && t.attr.taskClass != 3 && t.no != lanternTask && t.pubInstant == m

/-- SEQ for every section scheduled at the tick, released or not (R283, R338): a station's tasks in rising number. -/
def State.numberTrain (s : State) (m : Nat) : State :=
  (s.trainTasks m).foldl (fun (s : State) t =>
    (((s.outsAt t m).map fun x => (x.ring, x.station)).eraseDups).foldl (fun (s : State) k =>
      let seq := (s.station k.1 k.2).outSeq % 65536
      let s1 := s.modStation k.1 k.2 fun v => { v with outSeq := (v.outSeq + 1) % 65536 }
      s1.modPort (2 * k.1) fun p =>
        { p with queue := p.queue.map fun f =>
            if f.ringTime ≤ m then
              { f with sections := f.sections.map fun x => if x.station = k.2 ∧ x.task = t.no then { x with seq := seq } else x }
            else f }) s) s

/-! ### Acyclic requests -/

/-- Requests of a station sent while its credit of 4 lasts (R311, R313): each mirrored before its first transmission. -/
def State.serveStation (ring pos : Nat) : Nat → State → State
  | 0, s => s
  | k + 1, s =>
    let v := s.station ring pos
    match v.queue with
    | [] => s
    | tag :: rest =>
      if 4 ≤ v.outstanding.length then s
      else
        let s1 := s.modStation ring pos fun v => { v with queue := rest, outstanding := v.outstanding ++ [tag] }
        match NMap.get s.acyc tag with
        | none => State.serveStation ring pos k s1
        | some x =>
          let s2 := if s.alone then s1 else s1.send 3 (.acycMirror x)
          State.serveStation ring pos k (s2.queueAcyc { x with mirrored := !s.alone })

/-- The stations of a ring in the order of R313: from one position after the last that was served. -/
def State.acycOrder (s : State) (ring : Nat) : List Nat :=
  let n := (s.ring ring).table.length
  (List.range n).map fun k => ((s.ring ring).acycNext + k) % n

/-- The acyclic stream of a ring at a tick (R311, R313): the owner's alone. -/
def State.serveAcyc (s : State) (ring : Nat) : State :=
  let order := (s.acycOrder ring).filter fun k => !(s.station ring k).queue.isEmpty && decide ((s.station ring k).outstanding.length < 4)
  let s1 := order.foldl (fun s k => State.serveStation ring k 4 s) s
  match order.getLast? with
  | some k => s1.modRing ring fun r => { r with acycNext := k + 1 }
  | none => s1

/-! ### The tick -/

/-- Every fitted ring. -/
def State.ringList (s : State) : List Nat := List.range (Config.rings s.ident.variant)

/-- A station that no running snapshot covers is ACTIVE from the first tick at least 1 ms after its ASSIGN was acknowledged (R300; DESIGN
CHOICE: the rule speaks of the first snapshot; log 110). -/
def State.activateLone (s : State) (ring : Nat) : State :=
  let covered (k : Nat) : Bool := s.tasks.any fun e => e.2.st == .running && e.2.attr.taskClass != 3 && e.2.attr.consistency == 0
    && e.2.attr.snap.any fun m => m.ring == ring && m.station == k
  s.activateStations s.clk.ring (((List.range (s.ring ring).table.length).filter fun k => !covered k).map fun k => (ring, k))

/-- What falls due at a tick for tenants: a displacement whose publication instant has come (R227, R228), and an online change that waits
for no task any more (R254). -/
def State.stepTenants (s : State) : State := ((s.tenants.map (·.1)).foldl (fun (s : State) n => s.displaceDue n s.clk.ring) s).tryComplete

/-- What a tick does on the rings. -/
def State.tickRings (s : State) : State :=
  let s1 := if s.computes && s.mode != .lantern then s.ringList.foldl State.stepShifts s else s
  let s2 := if s1.owns && s1.transmits then s1.ringList.foldl State.sendRingTime s1 else s1
  let s3 := s2.ringList.foldl State.sendClosure s2
  let s4 := if s3.computes && s3.mode != .lantern then s3.numberTrain s3.clk.ring else s3
  let s5 := s4.ringList.foldl State.activateLone (s4.sendDue s4.clk.ring)
  if s5.owns && s5.transmits then s5.ringList.foldl State.serveAcyc s5 else s5

/-- The owner fixes tick J of a join and sends the state as it stands (R357, step 3), having raised its epoch above a joiner's
that was not below it (R353). -/
def State.stepJoin (s0 : State) : State :=
  let s := match s0.pair.raiseTo with
    | some e => if s0.mode == ModState.owner then s0.modPair fun p => { p with epoch := max p.epoch (e + 1), raiseTo := none } else s0
    | none => s0
  match s.pair.join with
  | some j =>
    if s.owns && j.acceptedAt.isSome && j.static_ && j.tickJ.isNone then
      (s.modPair fun p => { p with join := some { j with tickJ := some s.clk.tick } }).send 4 .stateTransfer
    else s
  | none => s

/-- The hold-off of revertive return (R369): it runs while the conditions hold; one that ended while the slot was held or unit
16#60 quiesced starts the return once both are free. -/
def State.stepHoldoff (s : State) : State :=
  let fit := s.mode == ModState.standby && s.preferred == s.front.side && s.pair.synchronised && !s.faulty
  if !fit then s.modPair fun p => { p with holdoffFrom := none, holdoffDue := false }
  else
    match s.pair.holdoffFrom, s.pair.holdoffDue with
    | none, false => s.modPair fun p => { p with holdoffFrom := some s.clk.local_ }
    | some _, true =>
      if s.slot.isNone && !s.isQuiesced 0x60 && !s.pair.peerQuiesced.contains 0x60 then
        (s.modPair fun p => { p with holdoffFrom := none }).fire 909
      else s
    | _, _ => s

/-- The lantern program's outputs are released, and driven no more (R393). -/
def State.undrive (s : State) : State :=
  if s.lantern.driven then (s.releaseLocal).modLantern fun l => { l with driven := false } else s

/-- A LANTERN module that sees a partner in OWNER stops driving its outputs and drives nothing while it stays there (R393); one that
waits for an owner reads its identity (R356). -/
def State.stepLantern (s : State) : State :=
  if s.mode == ModState.lantern && s.ownerSeen then
    let s1 := s.undrive
    if s1.lantern.phase == Phase.waitOwner && !s1.solo then
      (s1.modLantern fun l => { l with phase := .waitJoin }).send 3 .identityRequest
    else s1
  else s

/-- TICK, R271. A module without power or reference has no tick. -/
def execTick (m : LocalSample) (s : State) : Host.Outcome State Fault Refusal :=
  .next (
    if !s.up then s
    else
      let s0 := (s.modPair fun p => { p with handoverPulse := false }).stepLantern
      let s1 := (s0.publishLocal.toNextTick.steerPlant.sampleLocal m).sampleCan
      let s2 := (s1.stepShare.refreshLocal).tickRings.stepTenants
      s2.settleCan.sendHeartbeat.stepJoin.stepHoldoff)

end Sys2Proof.Machine
end

