-- ==== Sys2Proof/Machine/Rings.lean ====
section
/-! DEFINITION. Stations, discovery, cuts, the background cycle and acyclic transactions (R287, R295 to R316), the ports'
links and self-test (R304, R374), and the higher pair that demotes an owner (R370). -/
namespace Sys2Proof.Machine

/-! ### Acyclic transactions -/

/-- Acyclic tags of the module, R307: they stand above the cyclic tags. -/
def State.acycTags (s : State) : Nat := s.settingNat 0 3 0

/-- A free acyclic tag, the lowest (R309); a cyclic transaction may hold its number still (R306). -/
def State.freeAcycTag (s : State) : Option Nat :=
  let first := s.cyclicTotal
  let used := s.acyc.map (·.1) ++ s.cyclicTags.map (·.tag)
  let t := firstFree used used.length first
  if t < first + s.acycTags then some t else none

/-- The payload of an ACYC-RSP section (R312). -/
def AcycRsp.payload (r : AcycRsp) : List Byte :=
  be 1 r.status ++ be 1 r.slot ++ be 2 r.index ++ be 2 r.reqSeq ++ be 2 r.data.length ++ r.data

/-- A transaction accepted by the owner (R309, R311, R313): it takes a tag and the station's next SEQ and waits in its
station's order. Where no tag is free it ends at once with NO-TAG. -/
def State.offerAcyc (s : State) (req : AcycReq) (ticket : Option Ticket) (purpose : Nat) : State :=
  match s.freeAcycTag with
  | none => (s.count 0x2603).finishOpt ticket 0 (acycReply 3 [])
  | some tag =>
    let seq := (s.station req.ring req.station).acycSeq
    let x : Acyc := ⟨tag, seq, req, 0, 0, false, ticket, purpose⟩
    let s1 := s.modStation req.ring req.station fun v =>
      { v with acycSeq := (seq + 1) % 65536, queue := v.queue ++ [tag] }
    { s1 with acyc := NMap.set s1.acyc tag x }

/-- The number under which a standby keeps a request that it has forwarded and whose mirror it awaits. -/
def forwardedBase : Nat := 1048576

/-- A host's request on the standby: kept, and forwarded to the owner (R311). -/
def State.forwardAcyc (s : State) (req : AcycReq) (ticket : Ticket) : State :=
  let k := firstFree (s.acyc.map (·.1)) s.acyc.length forwardedBase
  let x : Acyc := ⟨k, 0, req, 0, s.clk.ring + 100000000, false, some ticket, 2⟩
  ({ s with acyc := NMap.set s.acyc k x }).send 3 (.forward (.acyclic req))

/-- ACYCLIC_MIRROR, R311: the standby keeps the request with its SEQ and transmits the section too; the host that waits for
it is the one whose request it forwarded. -/
def execAcyclicMirror (tx : Acyc) (s : State) : Host.Outcome State Fault Refusal :=
  .next (
    if s.mode != .standby && s.mode != .joining then s
    else
      let own := (s.acyc.map (·.2)).find? fun x => x.purpose == 2 && x.req == tx.req
      let s1 : State := match own with | some x => { s with acyc := NMap.del s.acyc x.tag } | none => s
      let x : Acyc := { tx with mirrored := true, ticket := own.bind (·.ticket), purpose := 0 }
      let s2 := s1.modStation tx.req.ring tx.req.station fun v =>
        { v with acycSeq := (tx.seq + 1) % 65536, outstanding := (v.outstanding.filter (· != tx.tag)) ++ [tx.tag] }
      if s2.transmits then s2.queueAcyc x else { s2 with acyc := NMap.set s2.acyc x.tag x })

/-- The request of a transaction still waits at its port to be transmitted (R291, R315). -/
def State.unsent (s : State) (x : Acyc) : Bool :=
  (s.port (2 * x.req.ring)).acycQueue.any fun f => f.sections.any fun c => c.station == x.req.station && c.seq == x.seq

/-- ACYCLIC_RETRY, R315: 100 ms without a filed response; sent again with the same SEQ, or TIMEOUT after three. -/
def execAcyclicRetry (tag : Nat) (s : State) : Host.Outcome State Fault Refusal :=
  .next (match NMap.get s.acyc tag with
    | none => s
    | some x =>
      if s.clk.ring < x.deadline ∨ (x.attempts = 0 ∧ x.purpose ≠ 2) ∨ s.unsent x then s
      else if 3 ≤ x.attempts ∨ x.purpose = 2 then s.endAcyc x 1 []
      else s.queueAcyc x)

/-- The transactions whose requests a frame carries: 100 ms run from this transmission (R315). -/
def State.awaitAnswers (s : State) (ring : Nat) (f : OutFrame) : State :=
  { s with acyc := s.acyc.map fun e =>
      if f.sections.any fun c => e.2.req.ring == ring && c.station == e.2.req.station && c.seq == e.2.seq then
        (e.1, { e.2 with deadline := s.clk.ring + 100000000 })
      else e }

/-- ACYCLIC_FRAME_SEND, R291: the oldest acyclic frame of a port goes out in a gap, behind the immediate frames. -/
def execAcyclicFrameSend (port : Fin 8) (s : State) : Host.Outcome State Fault Refusal :=
  .next (match (s.port port).acycQueue, (s.port port).immQueue with
    | f :: fs, [] =>
      let g := s.stamp f
      if s.transmits && s.portOn port && s.fitsGap port g then
        ((s.modPort port fun p => { p with acycQueue := fs }).awaitAnswers (port / 2) g).emit g
      else s
    | _, _ => s)

/-! ### Stations that go and come -/

/-- A station is refused with a cause of R305 (R300): 1 TYPE, 2 SERIAL, 3 POSITION, 4 DELAY. -/
def State.refuseStation (s : State) (ring pos cause : Nat) : State :=
  (s.setStation ring pos .refused).modStation ring pos fun v => { v with refuse := cause, resyncAt := none, activeFrom := none }

/-- The identity check of R300 on a station that was found: refused, or ASSIGN is sent. The spec gives no station parameters, so
no parameter write goes before it. -/
def State.checkStation (s : State) (ring pos : Nat) : State :=
  match (s.ring ring).table[pos]? with
  | none => s.refuseStation ring pos 3
  | some c =>
    let v := s.station ring pos
    if v.typeId ≠ c.typeId then s.refuseStation ring pos 1
    else if s.setting (0x10 + 2 * ring) 5 0 = 1 ∧ c.serial ≠ 0 ∧ v.serial ≠ c.serial then s.refuseStation ring pos 2
    else
      ((s.setStation ring pos .assigning).modStation ring pos fun v => { v with refuse := 0, activeFrom := none }).sendAssign ring pos

/-- The measured delay of a station's path to this module's port exceeds the planned delay of the path (R295). -/
def State.delayExceeds (s : State) (ring pos : Nat) : Bool :=
  let p := s.plan ring
  let v := s.station ring pos
  let b := s.front.side == .b
  decide (RingPlan.sum p.planned (p.path b pos) < 8 * (if b then v.delayB else v.delayA))

/-- The segment at which the stations' LINK reports locate a cut (R303): segment j ends at station j's port towards A and
begins at station j − 1's port towards B; in solo the line ends at the last station. -/
def State.findCut (s : State) (ring : Nat) : Option Nat :=
  let n := (s.ring ring).table.length
  let known (k : Nat) : Bool := decide (k < n) && (s.station ring k).state != .absent && (s.station ring k).lastStatusAt.isSome
  let down (k bit : Nat) : Bool := known k && (s.station ring k).linkBits / 2 ^ bit % 2 == 0
  (List.range (n + 1)).find? fun j =>
    down j 0 || (decide (0 < j) && !(s.solo && j == n) && down (j - 1) 1)

/-- The cut of a ring taken up: a change is recorded and fires source 833 + 8r (R303, R304). -/
def State.updateCut (s : State) (ring : Nat) : State :=
  let cut := s.findCut ring
  if cut = (s.ring ring).cut then s
  else
    ((s.modRing ring fun r => { r with cut := cut }).record 303 1 (if cut.isSome then sevWarning else sevInfo) (833 + 8 * ring) noSource
      [(4, ring), (4, cut.getD 0xFFFF)]).fire (833 + 8 * ring)

/-! ### The pair seen in frames -/

/-- Is one pair above another (R281)? -/
def pairAbove (e1 : Nat) (s1 : Side) (e2 : Nat) (s2 : Side) : Bool :=
  decide (e2 < e1) || (e1 == e2 && decide (s2.bit < s1.bit))

/-- A pair seen on some path. An owner that sees a higher one is demoted: it stops, records the episode, and is STANDBY where its
link was never silent, otherwise JOINING (R370). A module that does not own takes a higher pair over (R281). -/
def State.seePair (s : State) (epoch : Nat) (side : Side) : State :=
  if !pairAbove epoch side s.pair.epoch s.pair.ownerSide then s
  else if s.mode = .owner then
    if side = s.front.side then s
    else
      let s1 := (((s.silencePorts).modPair fun p => { p with dualOwnership := true, epoch := epoch, ownerSide := side, handover := none }).record
        370 1 sevAlarm 904 noSource [(4, epoch), (4, side.bit)]).fire 904
      if s.pair.linkWasSilent then s1.releaseLocal.toJoining .higherPair else s1.ownerToStandby .higherPair side
  else if s.mode = .standby ∨ s.mode = .joining ∨ s.mode = .standbyFaulted then
    s.modPair fun p => { p with epoch := epoch, ownerSide := side }
  else s

/-! ### Discovery -/

/-- The DISCOVER payload (R624). -/
def State.discoverBody (s : State) : List Byte := be 8 s.clk.ring ++ be 2 0 ++ be 6 0

/-- Can a frame of this module reach a station (R303)? Not beyond a cut. -/
def State.reaches (s : State) (ring pos : Nat) : Bool :=
  match (s.ring ring).cut with
  | none => true
  | some j => if s.front.side = .a then decide (pos < j) else decide (j ≤ pos)

/-- DISCOVER_SEND, R297: every 100 ms from port 2k, by the owner and, for its own end of the ring, by the standby; by an owner
that is ISOLATED at every tick (R370). A closure carries none (R266). Stations that did not answer the one before are gone, but not one
beyond a cut whose frames the partner receives (R303). -/
def execDiscoverSend (ring : Fin 4) (s : State) : Host.Outcome State Fault Refusal :=
  .next (
    let last := (s.ring ring).discovered
    let due := match last with | some t => decide (t + 100000000 ≤ s.clk.ring) | none => true
    let always := s.mode == .owner && s.isolated
    if !s.transmits || !(due || always) || !decide (ring.val < Config.rings s.ident.variant) then s
    else
      let s1 :=
        if due then
          let silent := (List.range (s.ring ring).table.length).filter fun k =>
            (s.station ring k).state != .absent && !(s.station ring k).answered
              && (s.reaches ring k || s.alone || (s.station ring k).missing)
          let s2 := if last.isSome then silent.foldl (fun (s : State) k => s.stationGone ring k) s else s
          s2.modRing ring fun r =>
            { r with discovered := some s.clk.ring, stations := r.stations.map fun v => { v with answered := false } }
        else s
      let body := s.discoverBody
      if s1.portOn (2 * ring) then s1.emit (s1.frame (2 * ring) 5 [] body) else s1)

/-- The position of a station from its HOP counts (R297), and whether they contradict the table. -/
def hopPosition (n hopA hopB : Nat) : Option (Nat × Bool) :=
  if hopA ≠ 0xFFFF then some (hopA, hopB ≠ 0xFFFF && hopA + hopB + 1 != n)
  else if hopB ≠ 0xFFFF ∧ hopB + 1 ≤ n then some (n - 1 - hopB, false)
  else none

/-- DISCOVER_RESPONSE, R297 to R300: the pair it carries, the position, the identity and the path's delay. -/
def execDiscoverResponse (f : DiscRsp) (s : State) : Host.Outcome State Fault Refusal :=
  .next (
    let port := f.hdr.port
    let ring := port / 2
    if !s.portOn port || !s.up then s
    else if !f.hdr.good || f.hdr.frameType ≠ 0x83 then s.discardFrame port
    else
      let s1 := s.seePair f.hdr.epoch f.hdr.ownerSide
      match hopPosition (s1.ring ring).table.length f.hopA f.hopB with
      | none => s1
      | some (pos, wrong) =>
        let old := s1.station ring pos
        let fresh := decide (old.state = .absent) || decide (old.typeId ≠ f.typeId) || decide (old.serial ≠ f.serial)
        let path := match (s1.ring ring).discovered with | some t => (f.rxTime - t) / 8 | none => 0
        let s2 := s1.modStation ring pos fun v =>
          { v with
            typeId := f.typeId, serial := f.serial, linkBits := f.link, answered := true
            delayA := if s.front.side = .a ∧ f.hopA ≠ 0xFFFF then path else v.delayA
            delayB := if s.front.side = .b ∧ f.hopB ≠ 0xFFFF then path else v.delayB }
        if wrong then s2.refuseStation ring pos 3
        else if fresh then (s2.setStation ring pos .found).checkStation ring pos
        else
          let s3 := s2.updateCut ring
          if old.remeasure then
            let s4 := s3.modStation ring pos fun v => { v with remeasure := false }
            if old.state = .resync ∧ s4.delayExceeds ring pos then s4.refuseStation ring pos 4 else s4.sendAssign ring pos
          else s3)

/-- Measured segment delays taken up (R298): the path delays of every station follow; the planned delays of the schedule stand as they were
first measured for the ring's table, so no window moves (R295). -/
def State.takeDelays (s : State) (ring : Nat) (delays : List Nat) : State :=
  let n := (s.ring ring).table.length
  s.modRing ring fun r =>
    { r with
      delays := if r.delays.length = n + 1 then r.delays else delays
      stations := (r.stations ++ List.replicate (n - r.stations.length) StationView.reset).zipIdx.map fun p =>
        if p.2 < n then
          { p.1 with
            delayA := ((delays.take (p.2 + 1)).foldl (· + ·) 0) / 8
            delayB := ((delays.drop (p.2 + 1)).foldl (· + ·) 0) / 8 }
        else p.1 }

/-- SEGMENT_DELAY_MEASURE, R298: the measurements are the owner's, and its partner takes them from it. -/
def execSegmentDelayMeasure (ring : Fin 4) (delays : List Nat) (s : State) : Host.Outcome State Fault Refusal :=
  .next (
    if !s.computes || !(s.owns || s.solo) then s
    else
      let s1 := s.takeDelays ring delays
      if s.solo then s1 else s1.send 3 (.mirror (.delays ring delays)))

/-- RESYNC_TIMEOUT, R295: a RESYNC that has lasted 200 ms ends in a refusal with DELAY. -/
def execResyncTimeout (ring : Fin 4) (station : Nat) (s : State) : Host.Outcome State Fault Refusal :=
  .next (match (s.station ring station).state, (s.station ring station).resyncAt with
    | .resync, some t => if t + 200000000 ≤ s.clk.local_ + 50000 then s.refuseStation ring station 4 else s
    | _, _ => s)

/-! ### The background cycle -/

/-- The OUTPUT sections of the background train of a ring (R287): one for each station with output modules that no cyclic task
serves, from the Q values published by now, with APPLY_AT reckoned from the tick. A task that is stopped or faulted serves nothing (DEDUCED from R76 and R224). -/
def State.backgroundSections (s : State) (ring : Nat) : List OutSection :=
  let serving := (s.tasks.filter fun e => e.1 != lanternTask && e.2.st == .running).map fun e => schedOf e.1 e.2.attr e.2.outs
  let mods := (backgroundMods s.mappedMods serving).filter fun m => m.ring == ring
  ((List.range 256).filter fun k => mods.any fun m => m.station == k).map fun k =>
    ⟨1, k, (s.station ring k).outSeq % 65536, 0xFFFF, s.clk.tick % 4294967296, s.clk.tick * 50000 + s.outputSweepNs ring,
     ((List.range 256).filter fun c => mods.any fun m => m.station == k && m.slot == c).map fun c =>
       s.forceBlock ring k s.clk.ring (s.outBlock ⟨ring, k, c⟩ s.clk.ring (s.image.wordAt s.clk.ring)), []⟩

/-- BACKGROUND_CYCLE, R287: at the ticks that are whole multiples of the period; each section takes its number whether or not
this module sends it (R283). -/
def execBackgroundCycle (ring : Fin 4) (s : State) : Host.Outcome State Fault Refusal :=
  .next (
    let period := s.settingNat (0x10 + 2 * ring) 4 0 * 1000
    let at_ := s.clk.tick * 50000
    if !s.computes || s.mode == .lantern || period = 0 || at_ % period ≠ 0 || (s.ring ring).backgroundAt = some at_ then s
    else
      let secs := s.backgroundSections ring
      let frames := (packSections secs [] 0).map fun xs => s.frame (2 * ring) 2 xs []
      let s1 := (secs.map (·.station)).foldl (fun (s : State) k =>
        s.modStation ring k fun v => { v with outSeq := (v.outSeq + 1) % 65536 }) s
      let s2 := s1.modRing ring fun r => { r with backgroundAt := some at_ }
      if s.transmits && s.portOn (2 * ring) then frames.foldl State.emit s2 else s2)

/-! ### Responses and status -/

/-- The alarm channels of a station. -/
def State.alarmsOf (s : State) (ring pos : Nat) : List AlarmCh := (((s.ring ring).table[pos]?).map (·.alarms)).getD []

/-- A DUPLICATE-MISMATCH report (R285): recorded, counted against the task, source 835 + 8r; it raises the divergence alarm
unless the task's section carries marked words (R218), which a background section does not. -/
def State.mismatchReport (s : State) (ring pos : Nat) (m : Mismatch) : State :=
  let s1 := (((s.modStation ring pos fun v => { v with dupMismatch := satInc v.dupMismatch }).modTask m.task fun t =>
    { t with dupMismatch := t.dupMismatch + 1 }).record 285 1 sevWarning (835 + 8 * ring) noSource
      [(4, ring), (4, pos), (4, m.task), (4, m.seq), (4, m.crcApplied.toNat), (4, m.crcDiscarded.toNat)]).fire (835 + 8 * ring)
  match s1.task m.task with
  | none => s1.diverge m.task 0 0 m.crcApplied m.crcDiscarded
  | some t =>
    let v := s1.versionOf t
    let w := s1.windowsOf t
    let words := ((v.ioMap.filter fun b => b.output && sigSpace b.signal == 0 && sigRing b.signal == ring && sigStation b.signal == pos).map
      fun b => w.q + 4 * b.word)
    let marked := match t.ownSet with | some x => x.writes.any fun r => r.marked && words.contains r.addr | none => false
    if marked then s1 else s1.diverge m.task t.cycle 0 m.crcApplied m.crcDiscarded

/-- One STATUS section (R279, R300, R303): links, alarms and counts as reported; a station in ASSIGNING that reports itself
ACTIVE acknowledges its ASSIGN (DEDUCED). -/
def State.takeStatus (s : State) (ring : Nat) (x : StatusSec) : State :=
  let pos := x.station
  let old := s.station ring pos
  let s1 := s.modStation ring pos fun v =>
    { v with
      linkBits := x.link, epochLow := x.epochLow, alarmPending := x.alarmPending, lastStatusAt := some s.clk.local_
      activeFrom := if v.state = .assigning ∧ x.state = 3 ∧ v.activeFrom = none then some (s.clk.ring + 1000000) else v.activeFrom }
  let s2 := x.mismatches.foldl (fun (s : State) m => s.mismatchReport ring pos m) s1
  let s3 :=
    if s2.mode = .owner then
      (s2.alarmsOf ring pos).zipIdx.foldl (fun (s : State) a =>
        if x.alarmPending.getLsbD a.2 && !old.alarmPending.getLsbD a.2 then
          s.offerAcyc ⟨ring, pos, 3, a.1.slot, a.2, 1024, []⟩ none 1
        else s) s2
    else s2
  let near := [pos - 1, pos + 1].filter fun k => k != pos && decide (k < (s3.ring ring).table.length)
  (near.foldl (fun (s : State) k => s.dropIsolated ring k) s3).updateCut ring

/-- A response ends the transaction it answers; an alarm that was fetched fires its source at the station's timestamp (R68, R312). -/
def State.endResponse (s : State) (ring : Nat) (x : Acyc) (r : AcycRsp) : State :=
  let s1 := s.endAcyc x 0 r.payload
  if x.req.op = 3 ∧ r.status = 0 then
    match (s1.alarmsOf ring r.station)[x.req.index]? with
    | some a => s1.fireAt a.source (Config.alarmStamp r.data)
    | none => s1
  else s1

/-- The transaction of the acyclic stream that a response answers (R311). -/
def State.answered (s : State) (ring : Nat) (r : AcycRsp) : Option Acyc :=
  (s.acyc.map (·.2)).find? fun x => x.req.ring == ring && x.req.station == r.station && x.seq == r.reqSeq && x.purpose != 2

/-- A response that the partner has filed ends the transaction here too (R313). -/
def State.endMirrored (s : State) (ring : Nat) (r : AcycRsp) : State :=
  match s.answered ring r with
  | none => s
  | some x => s.endResponse ring x r

/-- One ACYC-RSP section filed: it ends the transaction it answers on both modules (R313). -/
def State.takeResponse (s : State) (ring : Nat) (r : AcycRsp) : State :=
  match (s.answered ring r).filter fun x => decide (0 < x.attempts) with
  | none => s
  | some x =>
    let s1 := s.endResponse ring x r
    if s.alone then s1 else s1.send 3 (.mirror (.acycDone ring r))

/-- ACYC_RESPONSE_FRAME, R312. -/
def execAcycResponseFrame (f : AcycFrame) (s : State) : Host.Outcome State Fault Refusal :=
  .next (
    let port := f.hdr.port
    let ring := port / 2
    if !s.portOn port || !s.up then s
    else if !f.hdr.good || f.hdr.frameType ≠ 0x82 then s.discardFrame port
    else
      let s1 := f.responses.foldl (fun (s : State) r => s.takeResponse ring r) s
      f.statuses.foldl (fun (s : State) x => s.takeStatus ring x) s1)

/-! ### Ports -/

/-- PORT_LINK_CHANGE, R304: recorded, and source 864 + 2p fires. -/
def execPortLinkChange (port : Fin 8) (up : Bool) (s : State) : Host.Outcome State Fault Refusal :=
  .next (
    if (s.port port).linkUp = up then s
    else
      ((s.modPort port fun p => { p with linkUp := up }).record 304 1 (if up then sevInfo else sevWarning) (864 + 2 * port) noSource
        [(4, port), (4, if up then 1 else 0)]).fire (864 + 2 * port))

/-- A failure of items 3 or 4 of R374: source 908 fires; on a standby it is a module fault (R372), elsewhere it is recorded. -/
def State.selftestFail (s : State) : State :=
  let s1 := (s.record 374 1 sevFault 908 noSource []).fire 908
  if s.mode = .standby then s1.toFaulted .selftest else s1

/-- A pass of items 2 to 4 of R374 advances SELFTEST_ROUND. -/
def State.selftestPass (s : State) : State := s.modPair fun p => { p with selftestRound := (p.selftestRound + 1) % 256 }

/-- PORT_LOOPBACK_TEST, R374, item 4: a quiet port shows its result in LOOPBACK_FAIL; a failure on a port that carries traffic is a
port failure. -/
def execPortLoopbackTest (port : Fin 8) (pass : Bool) (s : State) : Host.Outcome State Fault Refusal :=
  .next (
    if !s.up then s
    else
      let quiet := !s.portOn port || (port.val % 2 == 1 && s.setting (0x10 + port) 3 0 == 0)
      if pass then (s.modPort port fun p => { p with loopbackFail := if quiet then false else p.loopbackFail }).selftestPass
      else if quiet then ((s.modPort port fun p => { p with loopbackFail := true }).fire (865 + 2 * port)).selftestFail
      else
        ((s.modPort port fun p => { p with fault := true }).record 374 2 sevFault (865 + 2 * port) noSource [(4, port)]).fire (865 + 2 * port))

end Sys2Proof.Machine
end

