-- ==== Sys2Proof/Machine/Time.lean ====
section
/-! DEFINITION. The time unit (R405 to R435): the main reference, PTP domains, plant time and its selection, calendar time, ring
time as followed and its closures, pulses and time alarms. -/
namespace Sys2Proof.Machine

/-! ### The main reference -/

/-- MAIN_REFERENCE_STOP, R405: TB-LOCAL, the watchdogs and HEALTHY stop together. -/
def execMainReferenceStop (s : State) : Host.Outcome State Fault Refusal :=
  .next (s.modFront fun f => { f with refStopped := true })

/-- REF_MODE is REF10M (R419). -/
def State.ref10m (s : State) : Bool := s.setting 0x42 5 0 == 1

/-- REF10M_VALID, R406. -/
def execRef10mValid (s : State) : Host.Outcome State Fault Refusal :=
  .next (if s.up && s.ref10m then s.modTime fun x => { x with refValid := true } else s)

/-- REF10M_LOCKED, R406: the loop has settled; source 966 (R595). -/
def execRef10mLocked (s : State) : Host.Outcome State Fault Refusal :=
  .next (
    if s.up && s.ref10m && s.time.refValid && !s.time.refLocked then
      (s.modTime fun x => { x with refLocked := true, refHoldover := false }).fire 966
    else s)

/-- REF10M_LOST, R406: the loop holds its last control value; recorded, source 966. -/
def execRef10mLost (s : State) : Host.Outcome State Fault Refusal :=
  .next (
    if s.up && s.ref10m && (s.time.refValid || s.time.refLocked) then
      ((s.modTime fun x => { x with refValid := false, refLocked := false, refHoldover := true }).record 406 1 sevWarning 966 noSource
        []).fire 966
    else s)

/-! ### Plant time -/

/-- A time alarm's next instant in its base (R432). -/
def State.alarmDue (s : State) (no : Nat) (a : Alarm) : Option Nat :=
  match (s.time.alarmDone[no]?).getD none with
  | none => some a.at_
  | some d => if a.period = 0 then none else some (d + a.period)

/-- The last instant of an alarm at or before `v`, from one that is due. -/
def lastDue (due period v : Nat) : Nat := if period = 0 then due else due + (v - due) / period * period

/-- A time alarm fires (R432): source 48 + n, at the instant converted to ring time. -/
def State.fireAlarm (s : State) (no : Nat) (done at_ : Nat) : State :=
  (s.modTime fun x => { x with alarmDone := modAt x.alarmDone no fun _ => some done, alarmHeld := x.alarmHeld.filter (· != no) }).fireAt
    (48 + no) at_

/-- The alarms of TB-PLANT that its initialisation passed fire (R432). -/
def State.fireHeld (s : State) (v : Nat) : State :=
  s.time.alarms.zipIdx.foldl (fun (s : State) p =>
    match s.alarmDue p.2 p.1 with
    | some due =>
      if p.1.enable = 1 ∧ p.1.base = 0 ∧ due ≤ v then s.fireAlarm p.2 (lastDue due p.1.period v) s.clk.ring else s
    | none => s) s

/-- TB-PLANT initialised at a value (R420): from then until the next restart it is never stepped. The master base of ring time
may change with it, which steps nothing (R425). -/
def State.initPlant (s : State) (v rate : Int) : State :=
  if s.time.plantValid then s
  else
    let s1 := s.modTime fun x => { x with plant := Base.setAt s.clk.local_ v rate, plantValid := true }
    let s2 := if s1.time.ringMaster then s1.rebaseRing else s1
    s2.fireHeld v.toNat

/-- The calendar offset of the selected domain's master (R422, R423): a value that differs outside a leap second is taken at
once, and the step of TB-CAL is recorded. -/
def State.takeUtc (s : State) : State :=
  let d := s.domain s.time.selected
  if !d.utcValid || s.time.inLeap then s
  else
    let old := s.utcOffset
    let s1 := s.modTime fun x => { x with utcOffset := d.utcOffset, utcKnown := true }
    if old ≠ d.utcOffset ∧ s.time.plantValid then s1.record 423 1 sevInfo noSource noSource [(4, twos 32 old), (4, twos 32 d.utcOffset)] else s1

/-- A domain selected for TB-PLANT (R421): seamless, and recorded. -/
def State.selectDomain (s : State) (d : Nat) : State :=
  if s.time.selected = d then s
  else
    let s1 := ((s.modTime fun x => { x with selected := d }).record 421 1 sevInfo noSource noSource [(4, d)]).takeUtc
    if (s1.domain d).locked then s1.initPlant ((s1.domain d).base.valueAt s1.clk.local_) (s1.domain d).base.rate else s1

/-- SELECT_DELAY_EXPIRY, R421: in AUTO, and on a variant with two domains. -/
def execSelectDelayExpiry (s : State) : Host.Outcome State Fault Refusal :=
  .next (
    if s.setting 0x42 2 0 ≠ 1 || s.ident.variant == .nk920 || s.isQuiesced 0x42 || !s.up then s
    else
      let delay := s.settingNat 0x42 3 0 * 1000000000
      let long (t : Option Nat) : Bool := match t with | some t => decide (t + delay ≤ s.clk.local_ + 50000) | none => false
      let cur := s.time.selected
      let other := 1 - cur
      let home := s.settingNat 0x42 1 0
      if cur ≠ home && (s.domain home).locked && long (s.domain home).lockedSince then s.selectDomain home
      else if !(s.domain cur).locked && long (s.domain cur).outSince && (s.domain other).locked then s.selectDomain other
      else s)

/-- LEAP_SECOND, R423: an inserted one begins, with IN_LEAP set while 23:59:59 is repeated, and ends with UTC_OFFSET one higher;
a deleted one skips 23:59:59. -/
def execLeapSecond (insert : Bool) (s : State) : Host.Outcome State Fault Refusal :=
  .next (
    let d := s.domain s.time.selected
    if !s.up then s
    else if s.time.inLeap then s.modTime fun x => { x with inLeap := false, utcOffset := s.utcOffset + 1, utcKnown := true }
    else if insert && d.leap61 then s.modTime fun x => { x with inLeap := true }
    else if !insert && d.leap59 then s.modTime fun x => { x with utcOffset := s.utcOffset - 1, utcKnown := true }
    else s)

/-- LEAP_PENDING, R423: the selected master announces a leap second, and this is the last minute of its UTC day. -/
def State.leapPending (s : State) : Bool :=
  ((s.domain s.time.selected).leap61 || (s.domain s.time.selected).leap59) && s.time.plantValid && decide (86340 ≤ s.calSec % 86400)

/-! ### PTP domains -/

/-- A setting of a domain unit (R415). -/
def State.ptp (s : State) (d no : Nat) : Int := s.setting (0x40 + d) no 0

/-- The domain runs: fitted, ON, and not quiesced (R415). -/
def State.ptpOn (s : State) (d : Nat) : Bool :=
  s.up && decide (d < Config.domains s.ident.variant) && s.ptp d 1 == 1 && !s.isQuiesced (0x40 + d)

/-- The domain takes messages at a plant port (PORT_MASK). -/
def State.ptpAt (s : State) (d port : Nat) : Bool := s.ptpOn d && decide ((s.ptp d 12).toNat / 2 ^ port % 2 = 1)

/-- The domain after its settings took effect (R415, R417): DISABLED, or LISTENING with its base running on. -/
def State.restartDomain (s : State) (d : Nat) : State :=
  let on := s.ptp d 1 == 1 && decide (d < Config.domains s.ident.variant)
  s.modDomain d fun x =>
    { domainReset with
      portState := if on then 4 else 3, base := x.base, steps := x.steps, outSince := some s.clk.local_
      lastAnnounce := if on then some s.clk.local_ else none }

/-- A change of state of R417: recorded, source 967. -/
def State.ptpChange (s : State) (d state : Nat) : State := (s.record 417 1 sevInfo 967 noSource [(4, d), (4, state)]).fire 967

/-- The offset of a Sync with its stamps (R416, R418): a step where the domain is not LOCKED and the offset is above 1 ms,
otherwise the servo's rate within ±200 ppm; and what it does to LOCKED. The servo's own law is IEEE 1588's. -/
def State.applySync (s : State) (d : Nat) (rx : Nat) (stamp correction rate : Int) (port : Nat) : State :=
  let x := s.domain d
  let off := x.base.valueAt rx - (stamp + correction) - x.meanPath
  if !x.locked && decide (1000000 < off.natAbs) then
    let s1 := s.modDomain d fun y =>
      { y with
        base := { y.base with offset := y.base.offset - off }, offset := 0, good := 0, bad := 0
        steps := min 255 (y.steps + 1), activePort := port, portState := 8 }
    s1.record 418 1 sevInfo noSource noSource [(4, d), (8, twos 64 off)]
  else
    let now := s.clk.local_
    let r := max (-200000) (min 200000 rate)
    let good := if off.natAbs ≤ 100 then x.good + 1 else 0
    let bad := if 1000 < off.natAbs then x.bad + 1 else 0
    let locks := !x.locked && decide (16 ≤ good)
    let loses := x.locked && decide (4 ≤ bad)
    let s1 := s.modDomain d fun y =>
      { y with
        base := Base.setAt now (y.base.valueAt now) r, offset := off, good := good, bad := bad, activePort := port
        locked := (x.locked || locks) && !loses, holdover := y.holdover && !locks
        portState := if (x.locked || locks) && !loses then 9 else 8
        lockedSince := if locks then some now else if loses then none else y.lockedSince
        outSince := if loses then some now else if locks then none else y.outSince }
    let s2 := if locks && x.holdover then s1.ptpChange d 9 else s1
    if locks && s2.time.selected == d then s2.initPlant ((s2.domain d).base.valueAt now) r else s2

/-- The domain is slave of a message's sender. -/
def State.ptpSlave (s : State) (d : Nat) (m : PtpMsg) : Bool :=
  s.ptpAt d m.port && (s.domain d).master == some m.source && (s.domain d).portState != 6

/-- A PTP message sent. -/
def State.ptpSend (s : State) (m : PtpOut) : State := if s.tap.taken then s else s.modTime fun x => { x with out := x.out ++ [m] }

/-- In HSR an event message is forwarded from port to port with its residence and the link's delay (R414). -/
def State.ptpForward (s : State) (d : Nat) (kind : Nat) (m : PtpMsg) : State :=
  if s.setting 0x50 1 0 = 1 ∧ s.ptp d 5 ≠ 2 then
    s.ptpSend ⟨d, 1 - m.port, kind, m.seq, m.stamp, (m.correction + (s.clk.local_ - m.rxTime : Nat) + (s.domain d).meanPath).toNat⟩
  else s

/-- PTP_SYNC, R416: a one-step Sync is used at once, that of a two-step master waits for its Follow_Up. -/
def execPtpSync (d : Fin 2) (m : PtpMsg) (rate : Int) (s : State) : Host.Outcome State Fault Refusal :=
  .next (
    if !s.ptpAt d m.port then s
    else
      let s1 := s.ptpForward d 0 m
      if !s1.ptpSlave d m || (s1.setting 0x50 1 0 == 0 && (s1.domain d).activePort != m.port && (s1.domain d).portState == 9) then s1
      else if m.twoStep then s1.modDomain d fun x => { x with twoStep := some m }
      else s1.applySync d m.rxTime m.stamp m.correction rate m.port)

/-- PTP_FOLLOW_UP, R413: it brings the stamp of the Sync that waits. -/
def execPtpFollowUp (d : Fin 2) (m : PtpMsg) (rate : Int) (s : State) : Host.Outcome State Fault Refusal :=
  .next (
    if !s.ptpSlave d m then s
    else match (s.domain d).twoStep with
      | some y =>
        if y.seq = m.seq ∧ y.source = m.source then
          (s.modDomain d fun x => { x with twoStep := none }).applySync d y.rxTime m.stamp (y.correction + m.correction) rate y.port
        else s
      | none => s)

/-- PTP_ANNOUNCE, R413 and R417: `best` is the verdict of the best master clock algorithm of IEEE 1588-2019. The best one becomes
master of the domain and its data are taken; where this clock is better a master-capable domain is MASTER. -/
def execPtpAnnounce (d : Fin 2) (m : PtpMsg) (best : Bool) (s : State) : Host.Outcome State Fault Refusal :=
  .next (
    if !s.ptpAt d m.port then s
    else
      let x := s.domain d
      let atPort := (x.foreign.filter fun f => f.1 == m.port).length
      let foreign := if x.foreign.contains (m.port, m.source) || decide (16 ≤ atPort) then x.foreign else x.foreign ++ [(m.port, m.source)]
      let s1 := s.modDomain d fun x => { x with foreign := foreign }
      if !best then
        if x.master = none ∧ s.ptp d 5 ≠ 0 then s1.modDomain d fun x => { x with portState := 6 } else s1
      else
        let s2 := s1.modDomain d fun x =>
          { x with
            master := some m.source, lastAnnounce := some s.clk.local_, activePort := m.port
            portState := if x.master = some m.source ∧ x.portState = 9 then 9 else 8
            utcValid := m.utcValid, leap61 := m.leap61, leap59 := m.leap59, gmClass := m.gmClass, gmIdentity := m.gmIdentity
            utcOffset := m.utcOffset, stepsRemoved := m.stepsRemoved }
        if s2.time.selected = d then s2.takeUtc else s2)

/-- ANNOUNCE_RECEIPT_TIMEOUT, R417; a master-capable domain that hears no master at all becomes MASTER (PRESUMED, IEEE
1588-2019). -/
def execAnnounceReceiptTimeout (d : Fin 2) (s : State) : Host.Outcome State Fault Refusal :=
  .next (
    let x := s.domain d
    let power := s.ptp d 2 == 2
    let interval := if power then 1000000000 else 1000000000 * 2 ^ (s.ptp d 9).toNat
    let due := match x.lastAnnounce with
      | some t => decide (t + (s.ptp d 10).toNat * interval ≤ s.clk.local_ + 50000)
      | none => false
    if !s.ptpOn d || !due || x.portState == 6 then s
    else if x.locked then
      (s.modDomain d fun x =>
        { x with locked := false, holdover := true, portState := 4, master := none, lastAnnounce := none, good := 0, bad := 0,
                 lockedSince := none, outSince := some s.clk.local_ }).ptpChange d 4
    else if x.master.isNone && x.portState == 4 then
      (if s.ptp d 5 != 0 then s.modDomain d fun x => { x with portState := 6, lastAnnounce := none }
       else s.modDomain d fun x => { x with lastAnnounce := some s.clk.local_ })
    else
      (s.modDomain d fun x =>
        { x with portState := 4, master := none, lastAnnounce := some s.clk.local_, good := 0, bad := 0 }).ptpChange d 4)

/-- PTP_DELAY_REQ, R413: a master port answers with the arrival's time. -/
def execPtpDelayReq (d : Fin 2) (m : PtpMsg) (s : State) : Host.Outcome State Fault Refusal :=
  .next (
    if !s.ptpAt d m.port then s
    else
      let s1 := s.ptpForward d 1 m
      if (s1.domain d).portState = 6 ∧ s1.ptp d 2 = 0 then
        s1.ptpSend ⟨d, m.port, 9, m.seq, (s1.domain d).base.valueAt m.rxTime, m.correction.toNat⟩
      else s1)

/-- PTP_DELAY_RESP, R413: the mean path delay of the request-response mechanism. -/
def execPtpDelayResp (d : Fin 2) (m : PtpMsg) (s : State) : Host.Outcome State Fault Refusal :=
  .next (
    if !s.ptpSlave d m then s
    else match (s.domain d).delaySent with
      | some t =>
        s.modDomain d fun x =>
          { x with
            delaySent := none
            meanPath := (x.offset + x.meanPath + (m.stamp - m.correction - x.base.valueAt t)) / 2 }
      | none => s)

/-- PTP_PDELAY_REQ, R412: answered one-step with the turnaround time. -/
def execPtpPdelayReq (d : Fin 2) (m : PtpMsg) (s : State) : Host.Outcome State Fault Refusal :=
  .next (if s.ptpAt d m.port then s.ptpSend ⟨d, m.port, 3, m.seq, 0, s.clk.local_ - m.rxTime⟩ else s)

/-- PTP_PDELAY_RESP, R413: of a one-step peer the correction carries the turnaround; a two-step peer's Follow_Up is awaited. -/
def execPtpPdelayResp (d : Fin 2) (m : PtpMsg) (s : State) : Host.Outcome State Fault Refusal :=
  .next (
    if !s.ptpAt d m.port then s
    else match (s.domain d).delaySent with
      | some t =>
        if m.twoStep then s.modDomain d fun x => { x with twoStep := some m }
        else s.modDomain d fun x =>
          { x with delaySent := none, meanPath := (((m.rxTime : Int) - (t : Int)) - m.correction) / 2 }
      | none => s)

/-- PTP_PDELAY_RESP_FOLLOW_UP, R413. -/
def execPtpPdelayRespFollowUp (d : Fin 2) (m : PtpMsg) (s : State) : Host.Outcome State Fault Refusal :=
  .next (
    if !s.ptpAt d m.port then s
    else match (s.domain d).delaySent, (s.domain d).twoStep with
      | some t, some y =>
        if y.seq = m.seq ∧ y.source = m.source then
          s.modDomain d fun x =>
            { x with
              delaySent := none, twoStep := none
              meanPath := (((y.rxTime : Int) - (t : Int)) - (m.stamp - y.stamp) - y.correction - m.correction) / 2 }
        else s
      | _, _ => s)

/-- The plant ports that carry a domain. -/
def State.ptpPorts (s : State) (d : Nat) : List Nat := [0, 1].filter fun p => s.ptpAt d p

/-- PTP_SYNC_INTERVAL, R415: a master sends Sync one-step on each of its ports (R412). -/
def execPtpSyncInterval (d : Fin 2) (s : State) : Host.Outcome State Fault Refusal :=
  .next (
    let x := s.domain d
    if x.portState ≠ 6 ∨ s.ptpOn d = false then s
    else
      let s1 := (s.ptpPorts d).foldl (fun (s : State) p =>
        s.ptpSend ⟨d, p, 0, x.seqSync, x.base.valueAt s.clk.local_, 0⟩) s
      s1.modDomain d fun x => { x with seqSync := (x.seqSync + 1) % 65536 })

/-- PTP_ANNOUNCE_INTERVAL, R415. -/
def execPtpAnnounceInterval (d : Fin 2) (s : State) : Host.Outcome State Fault Refusal :=
  .next (
    let x := s.domain d
    if x.portState ≠ 6 ∨ s.ptpOn d = false then s
    else
      let s1 := (s.ptpPorts d).foldl (fun (s : State) p => s.ptpSend ⟨d, p, 11, x.seqAnnounce, 0, 0⟩) s
      s1.modDomain d fun x => { x with seqAnnounce := (x.seqAnnounce + 1) % 65536 })

/-- PTP_DELAY_INTERVAL, R415: a Delay_Req of a slave under DEFAULT-E2E, otherwise a Pdelay_Req. -/
def execPtpDelayInterval (d : Fin 2) (s : State) : Host.Outcome State Fault Refusal :=
  .next (
    let x := s.domain d
    let e2e := s.ptp d 2 == 0
    if s.ptpOn d = false ∨ (e2e ∧ x.master = none) then s
    else
      let ports := if e2e then [x.activePort] else s.ptpPorts d
      let s1 := ports.foldl (fun (s : State) p =>
        s.ptpSend ⟨d, p, if e2e then 1 else 2, x.seqDelay, if e2e then x.base.valueAt s.clk.local_ else 0, 0⟩) s
      s1.modDomain d fun x => { x with seqDelay := (x.seqDelay + 1) % 65536, delaySent := some s.clk.local_ })

/-- PLANT_PORT_LINK_CHANGE, R414: recorded, source 969 (R595); the servo takes the other port's measurements. -/
def execPlantPortLinkChange (port : Fin 2) (up : Bool) (s : State) : Host.Outcome State Fault Refusal :=
  .next (
    if (s.time.plantLink[port.val]?).getD false = up then s
    else
      let s1 := s.modTime fun x =>
        { x with
          plantLink := modAt x.plantLink port fun _ => up
          domains := x.domains.map fun d =>
            if !up && d.activePort == port.val && (x.plantLink[1 - port.val]?).getD false then { d with activePort := 1 - port.val } else d }
      (s1.record 414 1 (if up then sevInfo else sevWarning) 969 noSource [(4, port), (4, if up then 1 else 0)]).fire 969)

/-! ### Ring time as followed, closures -/

/-- A closure is present: a HEARTBEAT arrived on it within 3 ms. -/
def Ring.closed (r : Ring) (now : Nat) : Bool := match r.closureAt with | some t => decide (now < t + 3000000) | none => false

/-- The owner is seen while the link is silent: a standby that has lost the link alone is not synchronised any more (R352). -/
def State.linkAlone (s : State) : State :=
  if s.mode = .standby ∧ s.pair.linkSilent = true then s.modPair fun p => { p with synchronised := false } else s

/-- A partner frame has been seen on a ring (R349). -/
def State.seenOnRing (s : State) : State := (s.modPair fun p => { p with lastRing := some s.clk.local_, ringSilent := false }).linkAlone

/-- The owner's ring time as a RING-TIME frame gives it (R426, R427, R429). A joining module takes it at once; a standby corrects
by rate alone, at most 100 ppm, and an offset beyond 1 µs sends it to JOINING. -/
def State.followFrame (s : State) (theirs : Nat) : State :=
  let now := s.clk.local_
  if s.mode = .joining ∧ ((s.pair.join).bind (·.tickJ)).isNone then
    { s with
      clk := { s.clk with ring := theirs, tick := theirs / 50000 }
      time := { s.time with ring := Base.setAt now theirs 0, ringSeen := some now, ringHoldover := false, ringFollow := 0 } }
  else
    let off : Int := (s.clk.ring : Int) - theirs
    let s1 := s.modTime fun x =>
      let before : Int := match x.ringSeen with | some t => x.ring.valueAt t - x.ringFollow | none => theirs
      let span : Int := match x.ringSeen with | some t => (now : Int) - t | none => 0
      let measured : Int := if 0 < span then ((theirs : Int) - before - span) * 1000000000 / span else x.ring.rate
      let correct := max (-100000) (min 100000 (-off * 20000))
      { x with ring := Base.setAt now s.clk.ring (measured + correct), ringSeen := some now, ringHoldover := false, ringFollow := off }
    if s.mode = .standby ∧ 1000 < off.natAbs then s1.toJoining .none else s1

/-- The owner's shifts against the standby's own for the snapshots of the tick they name (R290): a difference, an entry that one of them lacks
among them, is recorded and raises a divergence alarm. -/
def State.checkShifts (s : State) (ring tick : Nat) (shifts : List (Nat × Nat)) : State :=
  let own := (s.ring ring).placed.filter fun x => x.start == (tick + 1) * 50000
  let mine : List (Nat × Nat) := own.map fun x => (x.task, x.shift.getD 0xFFFF)
  let differs (n : Nat) (a b : Word) : State := s.diverge n (((s.task n).map (·.cycle)).getD 0) 0 a b
  match shifts.find? fun p => !mine.contains p with
  | some p => differs p.1 (BitVec.ofNat 32 ((NMap.get mine p.1).getD 0xFFFF)) (BitVec.ofNat 32 p.2)
  | none =>
    match mine.find? fun p => !shifts.contains p with
    | some p => differs p.1 (BitVec.ofNat 32 p.2) 0xFFFF
    | none => s

/-- The measured delay of the path on which a partner's frame came (R426): the closure's at port 2k+1, otherwise that of the whole line. -/
def State.pathDelay (s : State) (port : Nat) : Nat :=
  if port % 2 = 1 then (s.ring (port / 2)).closureDelay else (s.plan (port / 2)).line (s.plan (port / 2)).measured

/-- PARTNER_RING_FRAME, R349: the ring view, the pair it carries, and in a RING-TIME frame the owner's ring time and shifts. -/
def execPartnerRingFrame (f : PartnerFrame) (s : State) : Host.Outcome State Fault Refusal :=
  .next (
    let port := f.hdr.port
    let ring := port / 2
    if !s.up || !s.portOn port then s
    else if !f.hdr.good || 5 < f.hdr.frameType then s.discardFrame port
    else if f.hdr.senderSide = s.front.side then s
    else
      let s1 := s.seenOnRing.seePair f.hdr.epoch f.hdr.ownerSide
      let direct := port % 2 == 1 || !(s1.ring ring).closed s1.clk.local_
      if f.hdr.frameType = 1 ∧ direct ∧ (s1.mode = .standby ∨ s1.mode = .joining ∨ s1.mode = .standbyFaulted) then
        let s2 := s1.followFrame (f.ringTime + s1.pathDelay port)
        if s2.mode = .standby ∧ s2.pair.synchronised then s2.checkShifts ring f.hdr.tick f.shifts else s2
      else s1)

/-- What a HEALTH word of the partner brings (R376): its state and epoch; a divergence that rises there shows here too (R24, R361). -/
def State.takeHealth (s : State) (health : BitVec 64) (epoch : Nat) : State :=
  let s1 := s.modPair fun p =>
    { p with
      peerHealth := health, peerEpoch := epoch
      divergence := p.divergence || (health.getLsbD 36 && !p.peerHealth.getLsbD 36) }
  if (health.extractLsb' 0 3).toNat = 3 then s1.seePair epoch s1.front.side.other else s1

/-- CLOSURE_HEARTBEAT, R428: the ring view and the HEALTH word, and the stamp of its arrival. The epoch in use is the ring header's; STORED_EPOCH
may be one that is written ahead of its use (R364, R624). -/
def execClosureHeartbeat (hdr : RingHdr) (health : BitVec 64) (_stored stamp : Nat) (s : State) : Host.Outcome State Fault Refusal :=
  .next (
    let port := hdr.port
    if !s.up || !s.portOn port || port % 2 ≠ 1 then s
    else if !hdr.good || hdr.frameType ≠ 6 then s.discardFrame port
    else
      let s1 := (s.seenOnRing.seePair hdr.epoch hdr.ownerSide).takeHealth health hdr.epoch
      s1.modRing (port / 2) fun r => { r with closureAt := some stamp })

/-- CLOSURE_DELAY_MEASURE, R428: half the round trip of the two HEARTBEATs; this module's stamps go to the partner. -/
def execClosureDelayMeasure (ring : Fin 4) (sent arrived peerSent peerArrived : Nat) (s : State) : Host.Outcome State Fault Refusal :=
  .next (
    if !s.up then s
    else
      let trip : Int := ((arrived : Int) - sent) - ((peerSent : Int) - peerArrived)
      let s1 := s.modRing ring fun r => { r with closureDelay := (trip / 2).toNat }
      if s.solo then s1 else s1.send 3 (.closureStamps ring sent arrived))

/-- RING_TIME_HOLDOVER, R427: no RING-TIME frame for longer than one tick; the last rate stands. -/
def execRingTimeHoldover (s : State) : Host.Outcome State Fault Refusal :=
  .next (match s.time.ringSeen with
    | some t =>
      if s.mode = .standby ∧ t + 50000 ≤ s.clk.local_ then s.modTime fun x => { x with ringHoldover := true } else s
    | none => s)

/-! ### Pulses and alarms -/

/-- The base of PPS out is named and valid (R430). -/
def State.ppsValid (s : State) : Bool :=
  let src := s.setting 0x42 6 0
  if src = 1 then s.time.plantValid
  else if src = 2 ∨ src = 3 then
    let x := s.domain (src.toNat - 2)
    x.portState != 3 && x.portState != 4
  else src == 4

/-- PPS_OUT_EDGE, R430. -/
def execPpsOutEdge (s : State) : Host.Outcome State Fault Refusal :=
  .next (s.modTime fun x => { x with ppsOut := s.up && s.ppsValid && s.mode != .lantern && s.front.seated })

/-- PPS_OUT_FALL, R430. -/
def execPpsOutFall (s : State) : Host.Outcome State Fault Refusal := .next (s.modTime fun x => { x with ppsOut := false })

/-- The signed distance of a time from its nearest whole second. -/
def secondOffset (v : Int) : Int :=
  let r := v % 1000000000
  if r < 500000000 then r else r - 1000000000

/-- PPS_IN_EDGE, R431: `t` is its stamp in TB-LOCAL. -/
def execPpsInEdge (t : Nat) (s : State) : Host.Outcome State Fault Refusal :=
  .next (
    let s1 := s.advanceTo t
    if !s1.up then s
    else s1.modTime fun x =>
      { x with
        ppsInPresent := (match x.ppsInLast with
          | some l => decide (((t : Int) - l - 1000000000).natAbs ≤ 100000)
          | none => false)
        ppsInLast := some t
        ppsInOffset := if x.plantValid then secondOffset (x.plant.valueAt t) else 0 })

/-- PPS_IN_LOSS, R431. -/
def execPpsInLoss (s : State) : Host.Outcome State Fault Refusal :=
  .next (match s.time.ppsInLast with
    | some t => if t + 2000000000 ≤ s.clk.local_ + 50000 then s.modTime fun x => { x with ppsInPresent := false } else s
    | none => s)

/-- TIME_ALARM, R432: an alarm of TB-PLANT is held while PLANT_VALID is 0. -/
def execTimeAlarm (no : Fin 16) (s : State) : Host.Outcome State Fault Refusal :=
  .next (match s.time.alarms[no.val]? with
    | none => s
    | some a =>
      if !s.up || a.enable ≠ 1 then s
      else if a.base = 0 ∧ s.time.plantValid = false then
        (if s.time.alarmHeld.contains no.val then s else s.modTime fun x => { x with alarmHeld := x.alarmHeld ++ [no.val] })
      else
        let now : Nat := if a.base = 0 then (s.time.plant.valueAt s.clk.local_).toNat else s.clk.ring
        match s.alarmDue no a with
        | some due =>
          if due ≤ now + 50000 then s.fireAlarm no due (if a.base = 0 then s.clk.ring + due - now else due) else s
        | none => s)

end Sys2Proof.Machine
end

