-- ==== Sys2Proof/Machine/LocalChannels.lean ====
section
/-! DEFINITION. Events of the local channels (R481 to R498) and HART transactions (R499 to R501). -/
namespace Sys2Proof.Machine

/-- DI_EDGE, R482 and R483: `t` is the instant of TB-LOCAL at which the new state is taken; the source fires at the DI timestamp,
of 100 ns resolution, in LANTERN of 1 µs in TB-LOCAL (R390). -/
def execDiEdge (ch : Fin 32) (level : Bool) (t : Nat) (s : State) : Host.Outcome State Fault Refusal :=
  .next (
    let s1 := s.advanceTo t
    if !s1.up || s1.ident.variant == .nk920 || s1.io.di.getLsbD ch == level then s1
    else
      let s2 := s1.modIo fun io => { io with di := putBit io.di ch level }
      let sel := s2.setting 0x30 3 ch
      let stamp := if s2.mode == .lantern then t / 1000 * 1000 else s2.ringAt (t / 100 * 100)
      if sel = 3 ∨ sel = (if level then 1 else 2) then s2.fireAt ch stamp else s2)

/-- OUTPUT_STAGE_SILENCE, R489. -/
def execOutputStageSilence (s : State) : Host.Outcome State Fault Refusal := .next s.silence

/-- DO_THERMAL_SHUTDOWN, R485: the switch is off, the commanded state stands. -/
def execDoThermalShutdown (ch : Fin 16) (s : State) : Host.Outcome State Fault Refusal :=
  .next (s.modIo fun io => { io with thermal := putBit io.thermal ch true }).settleDo

/-- DO_THERMAL_RESTART, R485. -/
def execDoThermalRestart (ch : Fin 16) (s : State) : Host.Outcome State Fault Refusal :=
  .next (s.modIo fun io => { io with thermal := putBit io.thermal ch false }).settleDo

/-- DO_FAULT set or cleared: recorded, source 971 (R486, R595). -/
def State.setDoFault (s : State) (on : Bool) : State :=
  if s.io.doFault = on then s
  else
    ((s.modIo fun io => { io with doFault := on }).record 486 (if on then 1 else 2) (if on then sevWarning else sevInfo) 971 noSource
      []).fire 971

/-- DO_FAULT_SET, R486: a condition has lasted its time. -/
def execDoFaultSet (s : State) : Host.Outcome State Fault Refusal := .next (if s.up then s.setDoFault true else s)

/-- DO_FAULT_CLEAR, R486: 100 ms after the last condition ended; not while a switch is in thermal shutdown or L+ is low. -/
def execDoFaultClear (s : State) : Host.Outcome State Fault Refusal :=
  .next (if s.up && s.io.thermal == 0 && s.io.lplusOk then s.setDoFault false else s)

/-- AI_STATUS_CHANGE, R494: the conditions of a channel's code, and its converter's self-check; a disabled channel has none. -/
def execAiStatusChange (ch : Fin 8) (code : Nat) (fault : Bool) (s : State) : Host.Outcome State Fault Refusal :=
  .next (
    if !s.up || s.setting 0x32 1 ch != 1 then s
    else
      let old := s.io.aiCh ch
      let new := aiMeasured code fault
      let s1 := s.modIo fun io => { io with ai := modAt io.ai ch fun _ => new }
      if old.open_ ≠ new.open_ ∨ old.converterFault ≠ fault then s1.channelChange 0x32 ch else s1)

/-- AO_LOOP_LOW, R497: the loop total is below 75 % of the command, so the module sources the whole current. -/
def execAoLoopLow (ch : Fin 4) (s : State) : Host.Outcome State Fault Refusal :=
  .next (if s.up && s.io.half && (s.io.ao[ch.val]?).isSome then s.fullShare else s)

/-- The state with an AO channel changed. -/
def State.modAo (s : State) (ch : Nat) (f : AoCh → AoCh) : State := s.modIo fun io => { io with ao := modAt io.ao ch f }

/-- An AO channel; one that is not there is released. -/
def State.aoCh (s : State) (ch : Nat) : AoCh := (s.io.ao[ch]?).getD ⟨0, false, false, false, true, true, false, none⟩

/-- OPEN_LOOP, R498. -/
def execOpenLoop (ch : Fin 4) (on : Bool) (s : State) : Host.Outcome State Fault Refusal :=
  .next (
    if !s.up || (s.aoCh ch).openLoop == on then s
    else (s.modAo ch fun c => { c with openLoop := on }).channelChange 0x33 ch)

/-- STAGE_FAULT, R498: the stage carries no current. -/
def execStageFault (ch : Fin 4) (on : Bool) (s : State) : Host.Outcome State Fault Refusal :=
  .next (
    if !s.up || (s.aoCh ch).stageFault == on then s
    else (s.modAo ch fun c => { c with stageFault := on }).channelChange 0x33 ch)

/-- SHARE_CHANGE, R488: the partner announces SHARE for the next tick. -/
def execShareChange (half : Bool) (s : State) : Host.Outcome State Fault Refusal :=
  .next (if s.drivesLocal then s.modPair fun p => { p with shareTick := some (s.clk.tick + 1, half) } else s)

/-! ### HART -/

/-- A HART channel: 0 to 7 the AI channels, 8 to 11 the AO channels. -/
def State.hartCh (s : State) (ch : Nat) : HartCh := (s.hart[ch]?).getD hartReset

/-- The state with a HART channel changed. -/
def State.modHart (s : State) (ch : Nat) (f : HartCh → HartCh) : State := { s with hart := modAt s.hart ch f }

/-- The channel of a request. -/
def HartReq.ch (q : HartReq) : Nat := if q.kind = 0 then q.channel else 8 + q.channel

/-- The next request of a channel starts, once nothing runs there and no transaction of the old owner is still to end; it is mirrored
before its first attempt (R501). -/
def State.hartNext (s : State) (ch : Nat) : State :=
  let h := s.hartCh ch
  match h.active, h.queue, h.mirrors with
  | none, x :: xs, [] =>
    let s1 := s.modHart ch fun h => { h with active := some { x with attempts := 1, startedAt := s.clk.local_ }, queue := xs }
    if s.alone then s1 else s1.send 3 (.hartMirror x.req)
  | _, _, _ => s

/-- The reply of a HART transaction (R467, R500). -/
def hartBody (result code : Nat) (data : List Byte) : List Byte :=
  be 1 result ++ [0] ++ be 2 code ++ be 2 data.length ++ [0, 0] ++ pad4 data

/-- HART_RESPONSE, R500: the answer of command 0 gives the identifier; that of the transaction ends it DONE. One that was repeated
from a mirror has its reply held for 60 s (R501). A frame that nothing asked for ends a mirrored transaction of the partner, or
is a burst, discarded and counted (R499). -/
def execHartResponse (ch : Fin 12) (code : Nat) (data : List Byte) (s : State) : Host.Outcome State Fault Refusal :=
  .next (
    let h := s.hartCh ch
    match h.active with
    | none =>
      match h.mirrors with
      | _ :: ms => (s.modHart ch fun h => { h with mirrors := ms }).hartNext ch
      | [] => s.modHart ch fun h => { h with bursts := h.bursts + 1 }
    | some x =>
      if !h.uid then s.modHart ch fun h => { h with uid := true }
      else
        let s1 := s.modHart ch fun h =>
          { h with
            active := none
            held := if x.ticket.isNone then h.held ++ [(x.req, code, data, s.clk.local_ + 60000000000)] else h.held }
        (s1.finishOpt x.ticket 0 (hartBody 0 code data)).hartNext ch)

/-- HART_ATTEMPT_TIMEOUT, R500: repeated, or after three attempts NO-RESPONSE, or COMM-ERROR where all three had frame errors. Where
nothing of this module runs, the partner's mirrored transaction has ended without a response. -/
def execHartAttemptTimeout (ch : Fin 12) (frameError : Bool) (s : State) : Host.Outcome State Fault Refusal :=
  .next (match (s.hartCh ch).active with
    | none => (s.modHart ch fun h => { h with mirrors := [] }).hartNext ch
    | some x =>
      let errs := x.frameErrors + (if frameError then 1 else 0)
      if x.attempts < 3 then s.modHart ch fun h => { h with active := some { x with attempts := x.attempts + 1, frameErrors := errs } }
      else
        let result := if errs = 3 then 2 else 1
        let s1 := s.modHart ch fun h => { h with active := none, uid := if result = 1 then false else h.uid }
        (s1.finishOpt x.ticket 0 (hartBody result 0 [])).hartNext ch)

/-- HART_MIRROR, R501: a channel runs one transaction at a time. -/
def execHartMirror (req : HartReq) (s : State) : Host.Outcome State Fault Refusal :=
  .next (s.modHart req.ch fun h => { h with mirrors := [req] })

/-- HART_REPLY_HOLD_EXPIRY, R501. -/
def execHartReplyHoldExpiry (ch : Fin 12) (s : State) : Host.Outcome State Fault Refusal :=
  .next (s.modHart ch fun h => { h with held := h.held.filter fun x => decide (s.clk.local_ + 50000 < x.2.2.2) })

end Sys2Proof.Machine
end

