-- ==== Sys2Proof/Machine/Can.lean ====
section
/-! DEFINITION. The CAN controllers (R502 to R527): reception and filters, transmission, the serving role and redundancy, rate
detection, and time-triggered operation. -/
namespace Sys2Proof.Machine

/-- A setting of a controller's unit (R476). -/
def State.canSetting (s : State) (k no : Nat) : Nat := s.settingNat (0x20 + k) no 0

/-- The controller runs on this module: not in LANTERN (R390), fitted, on the bus, its unit not quiesced and its island's crossing open
(R52, R55). -/
def State.canRuns (s : State) (k : Nat) : Bool :=
  s.up && s.mode != .lantern && decide (k < Config.cans s.ident.variant) && ((s.ctl k).state == 1 || (s.ctl k).state == 2) && !s.isQuiesced (0x20 + k)
    && (s.crossing (0x20 + k)).passes

/-- The controller drives the bus: serving, in NORMAL mode (R506). -/
def State.canDrives (s : State) (k : Nat) : Bool := s.canRuns k && (s.ctl k).serving && s.canSetting k 2 == 0

/-- Bytes of a schedule's matrix (R521): time-triggered operation is on. -/
def CanCtl.tt (c : CanCtl) : Bool := match c.sched with | some x => decide (0 < x.basicUs) | none => false

/-! ### Reception -/

/-- Does a filter element match a frame (R511, R512)? -/
def filterMatches (e : Word × Word) (f : CanFrame) : Bool :=
  let id1 := (e.1.extractLsb' 0 29).toNat
  let id2 := (e.2.extractLsb' 0 29).toNat
  let kind := (e.1.extractLsb' 30 2).toNat
  (e.1.getLsbD 29 == f.xtd)
    && (if kind = 1 then decide (id1 ≤ f.id) && decide (f.id ≤ id2)
        else if kind = 2 then f.id == id1 || f.id == id2
        else if kind = 3 then (BitVec.ofNat 32 f.id &&& BitVec.ofNat 32 id2) == (BitVec.ofNat 32 id1 &&& BitVec.ofNat 32 id2)
        else false)

/-- A frame filtered into its element's queue (R512 to R515); an event queue fires its source at RX_TIME. -/
def State.canFilter (s : State) (k : Nat) (f : CanFrame) (rx : Nat) : State :=
  match (s.ctl k).filters.find? fun e => filterMatches e.2 f with
  | none => s
  | some (n, _, w1) =>
    let q := (w1.extractLsb' 29 3).toNat
    let r : CanRec := ⟨f, n, q, rx⟩
    let full := decide (64 ≤ (((s.ctl k).queues[q]?).getD []).length)
    let s1 := s.modCan k fun c =>
      { c with
        newest := NMap.set c.newest n r
        queues := if full then c.queues else modAt c.queues q fun l => l ++ [r]
        rxOk := if full then c.rxOk else satInc c.rxOk
        rxOverflow := if full then satInc c.rxOverflow else c.rxOverflow }
    if q < 4 ∧ full = false then s1.fireAt (32 + 4 * k + q) rx else s1

/-- The same frame in identifier, length and data (R510). -/
def CanFrame.same (a b : CanFrame) : Bool := a.id == b.id && a.xtd == b.xtd && a.len == b.len && a.data == b.data

/-- A valid reference message of the network (R522 to R524). -/
def CanCtl.isReference (c : CanCtl) (f : CanFrame) : Bool :=
  match c.sched with
  | some x => c.tt && f.xtd == x.refXtd && f.id / 8 * 8 == x.refId && f.len == 1
  | none => false

/-- The basic cycles between the last valid reference and one at ring time `t`. -/
def CanCtl.cyclesTo (c : CanCtl) (t : Nat) : Nat :=
  let ns := max 1 (((c.sched.map (·.basicUs)).getD 1) * 1000)
  max 1 ((t - c.lastRef.getD t + ns / 2) / ns)

/-- Synchronisation to a reference at ring time `t` with a cycle count and its sender's priority (R524): TB-CAN restarts where it
was lost or another master sends, and counts on past references that were missed. -/
def CanCtl.takeReference (c : CanCtl) (t count priority : Nat) (own : Bool) : CanCtl :=
  let goesOn := c.ttSync && (own || (c.masterPriority == priority && !c.timeMaster))
  { c with
    lastRef := some t, cycleCount := count, masterPriority := priority, timeMaster := own, ttSync := true, missedRefs := 0
    basicCycles := if !goesOn then 0 else c.basicCycles + (if own then 1 + c.missedRefs else c.cyclesTo t) }

/-- The object of an exclusive window in a basic cycle. -/
def CanSched.objectAt (x : CanSched) (window count : Nat) : Option CanObject :=
  x.objects.find? fun o => o.window == window && count % o.repeat_ == o.base

/-- A frame that starts inside an exclusive window of another object (R525): counted and reported; the first of each identifier in
any 60 s is recorded. -/
def State.canViolation (s : State) (k : Nat) (f : CanFrame) (t : Nat) : State :=
  let c := s.ctl k
  match c.sched, c.lastRef with
  | some x, some r =>
    let off := (t - r) / 1000
    match x.windows.zipIdx.find? fun w => w.1.kind == 0 && decide (w.1.start ≤ off) && decide (off < w.1.start + w.1.length) with
    | none => s
    | some (_, n) =>
      let ours := match x.objectAt n c.cycleCount with | some o => o.id == f.id && o.xtd == f.xtd | none => false
      if ours || !c.timeMaster || !c.serving then s
      else
        let now := s.clk.local_
        let key := f.id * 2 + (if f.xtd then 1 else 0)
        let seen := c.violationIds.any fun v => v.1 == key && decide (now < v.2 + 60000000000)
        let s1 := s.modCan k fun c =>
          { c with
            violations := satInc c.violations, lastViolation := f.id, lastViolationXtd := f.xtd
            violationIds := if seen then c.violationIds
              else (c.violationIds.filter fun v => decide (now < v.2 + 60000000000)) ++ [(key, now)] }
        if seen then s1 else s1.record 525 1 sevWarning noSource noSource [(4, k), (4, f.id)]
  | _, _ => s

/-- The rates of R520. -/
def canNominalRates : List Nat := [1000, 800, 500, 250, 125, 100, 50, 20, 10]
/-- The data rates of R520. -/
def canDataRates : List Nat := [5000, 4000, 2000, 1000]

/-- A frame received without error in RATE-DETECT (R520). -/
def CanCtl.detect (c : CanCtl) (f : CanFrame) : CanCtl :=
  if c.rateFound then c
  else if c.rateFrames + 1 < 8 then { c with rateFrames := c.rateFrames + 1 }
  else if c.dataPhase then { c with rateFound := true, detData := (canDataRates[c.rateIndex]?).getD 0, rateFrames := 0 }
  else
    let d := { c with detNominal := (canNominalRates[c.rateIndex]?).getD 0, rateFrames := 0 }
    if f.fdf && f.brs then { d with dataPhase := true, rateIndex := 0 } else { d with rateFound := true }

/-- A frame is done with on a module that does not serve: its mirror goes, and its waiting CAN.SEND ends as given (R509, R518, R519). -/
def State.canGone (s : State) (k : Nat) (f : CanFrame) (status : Nat) (body : List Byte) : State :=
  let c := s.ctl k
  if c.serving then s
  else
    let done := c.sending.find? fun x => x.frame.same f
    let s1 := s.modCan k fun c =>
      { c with
        mirrors := match c.mirrors.find? fun g => g.same f with | some g => c.mirrors.erase g | none => c.mirrors
        sending := match done with | some x => c.sending.erase x | none => c.sending }
    match done with
    | some x => s1.finishOpt x.ticket status body
    | none => s1

/-- A frame that the bus carried complete counts as sent (R509, R518). -/
def State.canSeen (s : State) (k : Nat) (f : CanFrame) : State := s.canGone k f 0 []

/-- A frame that the serving controller has lost is lost on both modules (R518, R519). -/
def State.canLost (s : State) (k : Nat) (f : CanFrame) : State := s.canGone k f 11 errorPlain

/-- CAN_FRAME_RECEIVED, R512: `t` is the start of frame in TB-LOCAL; a remote frame is filtered with a data length of zero (R502);
the controller's own frames are never matched. -/
def execCanFrameReceived (k : Fin 4) (f : CanFrame) (remote own : Bool) (t : Nat) (s : State) : Host.Outcome State Fault Refusal :=
  .next (
    let s0 := s.advanceTo t
    if !s0.canRuns k || own then s0
    else
      let g : CanFrame := if remote then { f with len := 0, data := [] } else f
      let rx := s0.ringAt t
      let s1 := if s0.canSetting k 2 = 2 then s0.modCan k fun c => c.detect g else s0
      let s2 := s1.canSeen k g
      let s3 :=
        if (s2.ctl k).isReference g then
          s2.modCan k fun c =>
            c.takeReference rx (((g.data[0]?).getD 0).toNat % max 1 ((c.sched.map (·.cycles)).getD 1)) (g.id % 8) false
        else s2.canViolation k g rx
      s3.canFilter k g rx)

/-! ### Transmission -/

/-- The arbitration key of a frame: base identifiers and extended ones on one scale, the lower wins. -/
def CanFrame.key (f : CanFrame) : Nat := if f.xtd then 2 * f.id + 1 else 2 * (f.id * 262144)

/-- The frame that goes next: a time-triggered one in its window, otherwise the lowest identifier, the oldest of equals (R518). -/
def CanCtl.nextTx (c : CanCtl) : Option CanTx :=
  match c.sending.find? (·.timed) with
  | some x => some x
  | none => c.sending.foldl (fun (m : Option CanTx) x =>
      match m with
      | none => some x
      | some y => if x.frame.key < y.frame.key then some x else m) none

/-- A frame is lost (R519): counted, and its CAN.SEND gets WRONG-STATE with FIELD 16#FFFF; the partner holds it no longer. -/
def State.canLose (s : State) (k : Nat) (x : CanTx) : State :=
  let s1 := (s.modCan k fun c => { c with sending := c.sending.erase x, txLost := satInc c.txLost }).finishOpt x.ticket 11 errorPlain
  if s.alone || !(s.ctl k).serving then s1 else s1.send 3 (.mirror (.canLost k x.frame))

/-- REDUNDANT changes: recorded, source 970 (R510, R595). -/
def State.setRedundant (s : State) (k : Nat) (on : Bool) : State :=
  if (s.ctl k).redundant = on then s
  else
    ((s.modCan k fun c => { c with redundant := on }).record 510 (if on then 1 else 2) (if on then sevInfo else sevWarning) 970 noSource
      [(4, k)]).fire 970

/-- TRANSCEIVER_FAULT of a serving controller (R508): recorded, source 970; the role moves. -/
def State.canFault (s : State) (k : Nat) : State :=
  if (s.ctl k).xcvrFault || !(s.ctl k).serving then s
  else
    (((s.modCan k fun c => { c with xcvrFault := true }).record 508 1 sevWarning 970 noSource [(4, k)]).fire 970).giveCan k

/-- CAN_TX_COMPLETE, R505, R519 and R510: a frame with bit-rate switching whose loop delay is above 400 ns is not sent so: it is counted, and waits to be sent again
without BRS. -/
def execCanTxComplete (k : Fin 4) (sent : CanSent) (s : State) : Host.Outcome State Fault Refusal :=
  .next (
    if !s.canDrives k then s
    else match (s.ctl k).nextTx with
      | none => s
      | some x =>
        if x.frame.brs && decide (400 < sent.loop) then
          s.modCan k fun c =>
            { c with
              longLoops := satInc c.longLoops
              sending := c.sending.map fun y => if y = x then { y with frame := { y.frame with brs := false } } else y }
        else
        let s1 := s.modCan k fun c =>
          { c with
            sending := c.sending.erase x, txOk := satInc c.txOk, failRun := 0, tec := c.tec - 1
            state := if c.tec - 1 < 128 ∧ c.rec_ < 128 then 1 else c.state
            matched := if sent.seen then min 16 (c.matched + 1) else 0, missed := if sent.seen then 0 else c.missed + 1 }
        let s2 := s1.finishOpt x.ticket 0 []
        if 16 ≤ (s2.ctl k).matched ∧ s2.canMatches k then s2.setRedundant k true
        else if 3 ≤ (s2.ctl k).missed then s2.setRedundant k false
        else s2)

/-- CAN_TX_ERROR, R519 and R508: an attempt ended in an error frame or without acknowledgement; `peerSaw` says that the monitoring
partner received a valid frame of another node within 100 ms. The error counters follow ISO 11898-1. -/
def execCanTxError (k : Fin 4) (peerSaw : Bool) (s : State) : Host.Outcome State Fault Refusal :=
  .next (
    if !s.canDrives k then s
    else match (s.ctl k).nextTx with
      | none => s
      | some x =>
        let s1 := s.modCan k fun c =>
          { c with
            errorFrames := satInc c.errorFrames, failRun := c.failRun + 1, tec := min 255 (c.tec + 8)
            state := if 128 ≤ c.tec + 8 then 2 else c.state }
        let s2 :=
          if x.timed ∨ s.canSetting k 7 ≤ x.attempts then s1.canLose k x
          else s1.modCan k fun c =>
            { c with
              retransmissions := satInc c.retransmissions
              sending := c.sending.map fun y => if y = x then { y with attempts := y.attempts + 1 } else y }
        if 16 ≤ (s2.ctl k).failRun ∧ peerSaw then s2.canFault k else s2)

/-- Every frame that waits at a controller is lost (R519). -/
def State.canLoseAll (s : State) (k : Nat) : State := (s.ctl k).sending.foldl (fun (s : State) x => s.canLose k x) s

/-- CAN_BUS_OFF, R502 and R508. -/
def execCanBusOff (k : Fin 4) (s : State) : Host.Outcome State Fault Refusal :=
  .next (
    if !s.canRuns k then s
    else
      (((s.canLoseAll k).modCan k fun c => { c with state := 3, busOffs := satInc c.busOffs, tec := 255, failRun := 0 }).canFault k))

/-- CAN_BUS_OFF_RECOVERY, R502: after 128 occurrences of 11 recessive bits. -/
def execCanBusOffRecovery (k : Fin 4) (s : State) : Host.Outcome State Fault Refusal :=
  .next (
    if s.up && (s.ctl k).state == 3 && !s.isQuiesced (0x20 + k) then s.modCan k fun c => { c with state := 1, tec := 0, rec_ := 0 } else s)

/-- DOMINANT_TIMEOUT, R503 and R508. -/
def execDominantTimeout (k : Fin 4) (s : State) : Host.Outcome State Fault Refusal := .next (if s.canRuns k then s.canFault k else s)

/-- CAN_MIRROR, R518: the partner holds the frame until it has seen it on the bus; a partner that serves the bus sends it. -/
def execCanMirror (k : Fin 4) (f : CanFrame) (s : State) : Host.Outcome State Fault Refusal :=
  .next (if !s.canRuns k then s
    else s.modCan k fun c =>
      if c.serving then { c with sending := c.sending ++ [⟨f, none, none, false, 0⟩] } else { c with mirrors := c.mirrors ++ [f] })

/-! ### Rate detection -/

/-- RATE_DETECT_TIMEOUT, R520: the next rate of the list. -/
def execRateDetectTimeout (k : Fin 4) (s : State) : Host.Outcome State Fault Refusal :=
  .next (
    if s.canRuns k && s.canSetting k 2 == 2 && !(s.ctl k).rateFound then
      s.modCan k fun c =>
        { c with rateFrames := 0, rateIndex := (c.rateIndex + 1) % (if c.dataPhase then canDataRates.length else canNominalRates.length) }
    else s)

/-! ### Time-triggered operation -/

/-- A potential time master (R522). -/
def State.canMaster (s : State) (k : Nat) : Bool := s.canDrives k && s.canSetting k 8 == 1 && (s.ctl k).tt

/-- The cycle count that the next basic cycle carries: cycles whose reference was missing count too (R523). -/
def CanCtl.nextCount (c : CanCtl) : Nat :=
  let n := max 1 ((c.sched.map (·.cycles)).getD 1)
  if c.lastRef.isNone then 0 else (c.cycleCount + c.missedRefs + 1) % n

/-- This module's reference was sent (R522): it is time master. -/
def State.sendReference (s : State) (k : Nat) : State :=
  s.modCan k fun c =>
    { c.takeReference s.clk.ring c.nextCount (s.canSetting k 9) true with txOk := satInc c.txOk }

/-- BASIC_CYCLE_START, R522 and R523: the reference goes out, or is corrupted and the basic cycle does not start. A master of lower
priority that hears another stays silent. -/
def execBasicCycleStart (k : Fin 4) (ok : Bool) (s : State) : Host.Outcome State Fault Refusal :=
  .next (
    let c := s.ctl k
    if !s.canMaster k || (c.ttSync && !c.timeMaster && decide (c.masterPriority < s.canSetting k 9)) then s
    else if ok then s.sendReference k
    else s.modCan k fun c =>
      { c with refMissing := satInc c.refMissing, missedRefs := c.missedRefs + 1, errorFrames := satInc c.errorFrames })

/-- REFERENCE_WATCH_TIMEOUT, R522 and R523: a potential master that saw no valid reference sends its own; one whose own reference was
corrupted does not compete. -/
def execReferenceWatchTimeout (k : Fin 4) (s : State) : Host.Outcome State Fault Refusal :=
  .next (if s.canMaster k && !((s.ctl k).timeMaster && decide (0 < (s.ctl k).missedRefs)) then s.sendReference k else s)

/-- TT_SYNC_LOSS, R524: two basic cycles without a valid reference; whether this module sent the last valid one stands (R526). -/
def execTtSyncLoss (k : Fin 4) (s : State) : Host.Outcome State Fault Refusal :=
  .next (s.modCan k fun c => { c with ttSync := false, basicCycles := 0 })

/-- The data of a transmit object (R517): the first LEN bytes of its Q words as published. -/
def State.objectData (s : State) (k : Nat) (o : CanObject) : List Byte :=
  ((List.range 16).flatMap fun w => leWord ((s.commanded (canSignal k (512 + o.object) w)).getD 0)).take o.len

/-- A transmit object queued (R517, R518). -/
def State.queueObject (s : State) (k : Nat) (o : CanObject) (timed : Bool) : State :=
  let f : CanFrame := ⟨o.id, o.xtd, o.fdf, o.brs, false, o.len, s.objectData k o⟩
  s.modCan k fun c => { c with sending := c.sending ++ [⟨f, none, some o.object, timed, 0⟩] }

/-- TT_WINDOW, R518: an exclusive window opens, and its object of this basic cycle is sent. -/
def execTtWindow (k : Fin 4) (window : Nat) (s : State) : Host.Outcome State Fault Refusal :=
  .next (match (s.ctl k).sched with
    | some x =>
      if s.canDrives k && (s.ctl k).ttSync then
        (match x.objectAt window (s.ctl k).cycleCount with
         | some o => s.queueObject k o true
         | none => s)
      else s
    | none => s)

/-- PERIOD_MS, R518: both modules compute the object. -/
def execPeriodMs (k : Fin 4) (object : Nat) (s : State) : Host.Outcome State Fault Refusal :=
  .next (match (s.ctl k).sched with
    | some x =>
      if s.canRuns k && s.computes then
        (match x.objects.find? fun o => o.object == object && decide (0 < o.period) with
         | some o => s.queueObject k o false
         | none => s)
      else s
    | none => s)

/-! ### Serving -/

/-- TB-CANk, R524: 0 unless TT_SYNC. -/
def State.canTime (s : State) (k : Nat) : Nat :=
  let c := s.ctl k
  match c.sched, c.lastRef with
  | some x, some t => if c.ttSync then c.basicCycles * x.basicUs * 1000 + (s.clk.ring - t) else 0
  | _, _ => 0

/-- The controller after its settings took effect (R506, R511, R520, R524): OFF, or on the bus with its counters and queues fresh; its
filters and schedule stand. An owner serves it, but for a role that the partner has and whose settings there are others (R507). -/
def State.restartCan (s : State) (k : Nat) : State :=
  let s1 := (s.canLoseAll k).setRedundant k false
  let away := (s1.ctl k).given && !s1.canMatches k
  let on := s1.canSetting k 1 == 1 && decide (k < Config.cans s1.ident.variant)
  s1.modCan k fun c =>
    { canReset with
      state := if on then 1 else 0, serving := on && s1.owns && !away, given := on && s1.owns && away, filters := c.filters, sched := c.sched
      txOk := c.txOk, retransmissions := c.retransmissions, txLost := c.txLost, rxOk := c.rxOk, rxOverflow := c.rxOverflow
      errorFrames := c.errorFrames, busOffs := c.busOffs, violations := c.violations, lastViolation := c.lastViolation
      lastViolationXtd := c.lastViolationXtd, refMissing := c.refMissing, violationIds := c.violationIds, longLoops := c.longLoops }

end Sys2Proof.Machine
end

