-- ==== Sys2Proof/Machine/Pace.lean ====
section
/-! DEFINITION. Pace, the core supply and the clocked islands (R30 to R56): probe and run pace, the regulator, margin checks,
supply faults, and the waking, reset and reopening of a crossing. -/
namespace Sys2Proof.Machine

/-- The set point of VCORE in mV: 0.70 V and 5 mV for each VCORE_CODE (R36). -/
def State.setPoint (s : State) : Nat := 700 + 5 * s.vcore.code

/-- The probe paces of the strands that are fitted. -/
def State.probes (s : State) : List Nat := (s.strands.take (Config.strands s.ident.variant)).map (·.probe)

/-- The lowest probe pace of the fitted strands with its strand (R37): the lowest number where several share it. -/
def lowestProbe : List Nat → Nat → Nat × Nat
  | [], _ => (0, 0)
  | [p], k => (p, k)
  | p :: ps, k => let r := lowestProbe ps (k + 1); if p ≤ r.1 then (p, k) else r

/-- The regulator holds VCORE_CODE at 40: VCORE_MODE is FIXED_MAX, or a probe fault stands (R34, R38). -/
def State.fixedMax (s : State) : Bool := s.vcore.fixedMax || s.setting 0 1 0 == 1

/-- The regulator follows R37: the first margin check has ended, the module is neither in LANTERN nor in TEST-HOLD (R40), and
unit 16#00 is not quiesced (R39). -/
def State.regulates (s : State) : Bool :=
  s.up && s.vcore.regOn && s.mode != .lantern && s.mode != .testHold && !s.isQuiesced 0

/-- One step up, at most once every 20 µs (R37); at 40 a margin check begins to hold (R45). -/
def State.raiseVcore (s : State) : State :=
  let now := s.clk.local_
  let free := match s.vcore.lastRaise with | some t => decide (t + 20000 ≤ now) | none => true
  if free && decide (s.vcore.code < 40) then
    let top := s.vcore.marginRun && decide (s.vcore.code + 1 = 40)
    (s.setCode (s.vcore.code + 1)).modVcore fun v =>
      { v with lastRaise := some now, marginCheck := top, heldSince := if top then some now else none }
  else s

/-- One step down, at most once every 1 ms (R37). -/
def State.lowerVcore (s : State) : State :=
  let now := s.clk.local_
  let free := match s.vcore.lastLower with | some t => decide (t + 1000000 ≤ now) | none => true
  if free && decide (0 < s.vcore.code) then
    (s.setCode (s.vcore.code - 1)).modVcore fun v => { v with lastLower := some now }
  else s

/-- The decision of R37 on pace slack, which in percent is half of what the lowest pace has above 200. -/
def State.regulate (s : State) : State :=
  let low := lowestProbe s.probes 0
  let s1 := s.modVcore fun v => { v with limiting := low.2 }
  let target := s.settingNat 0 2 0
  if s.fixedMax then s1.raiseVcore
  else if low.1 < Config.admittedRate + 2 * target then s1.raiseVcore
  else if Config.admittedRate + 2 * (target + 5) < low.1 then s1.lowerVcore
  else s1

/-- VCORE_REGULATOR_STEP, R37; a margin check raises at the same rate (R45), also one that unit 16#00 is quiesced under (DESIGN CHOICE: R39 holds
VCORE at its present code; log 96). -/
def execVcoreRegulatorStep (t : Nat) (s : State) : Host.Outcome State Fault Refusal :=
  .next (
    let s1 := s.advanceTo t
    if s1.up && s1.vcore.marginRun then s1.raiseVcore
    else if s1.regulates then s1.regulate
    else s1)

/-- PACE_LOW of a strand, judged at VCORE_CODE 40 (R47): setting it is a module fault, recorded and fired; a solo module
runs on. -/
def State.judgePace (s : State) (strand : Nat) : State :=
  let x := s.strand strand
  let low := decide (x.probe < Config.admittedRate) && s.vcore.code == 40
  let s1 := s.modStrand strand fun x => { x with paceLow := low }
  if low && !x.paceLow then
    ((s1.record 47 1 sevFault 962 noSource [(4, strand), (4, x.probe)]).fire 962).moduleFault .paceLow id
  else s1

/-- The last 2 ms of a margin check's hold of 10 ms (R45). -/
def State.marginReads (s : State) : Bool :=
  s.vcore.marginCheck && (match s.vcore.heldSince with | some h => decide (h + 8000000 ≤ s.clk.local_) | none => false)

/-- PACE_PROBE_RUN, R33: the lower of the two lanes' paces. A margin check takes the lowest of its last 2 ms (R45). -/
def execPaceProbeRun (strand p0 p1 : Nat) (s : State) : Host.Outcome State Fault Refusal :=
  .next (
    if !s.up || !decide (strand < Config.strands s.ident.variant) then s
    else
      let p := min 4095 (min p0 p1)
      (s.modStrand strand fun x =>
        { x with probe := p, marginProbe := if s.marginReads then minOpt x.marginProbe p else x.marginProbe }).judgePace strand)

/-- RUN_PACE_WINDOW, R33 and R34: `count` instruction-equivalents of the slower lane in `busy` ns. A window with less than
10 µs of busy time is skipped; the third low window in a row sets PROBE_FAULT. -/
def execRunPaceWindow (strand count busy : Nat) (s : State) : Host.Outcome State Fault Refusal :=
  .next (
    if !s.up || busy < 10000 || !decide (strand < Config.strands s.ident.variant) then s
    else
      let run := min 4095 (count * 1000 / busy)
      let low := decide (10 * run < 9 * (s.strand strand).probe)
      let runs := if low then (s.strand strand).lowRuns + 1 else 0
      let s1 := s.modStrand strand fun x => { x with run := run, lowRuns := runs }
      if 3 ≤ runs ∧ (s.strand strand).probeFault = false then
        (((s1.modStrand strand fun x => { x with probeFault := true }).modVcore fun v => { v with fixedMax := true }).record
            34 1 sevFault 962 noSource [(4, strand), (4, run), (4, (s.strand strand).probe)]).fire 962
      else s1)

/-- A margin check is due (R45): the first of a bring-up, and then one every 3,600 s. In LANTERN and TEST-HOLD, where R40 holds VCORE at 0.70 V, and
while unit 16#00 is quiesced, where R39 holds VCORE at its present code, none after the first begins until that ends (DESIGN CHOICE: R45 excepts
neither; log 96). -/
def State.marginDue (s : State) : Bool :=
  !s.vcore.regOn
    || (s.mode != .lantern && s.mode != .testHold && !s.isQuiesced 0
        && (match s.vcore.lastMargin with | some t => decide (t + 3600000000000 ≤ s.clk.local_ + 50000) | none => true))

/-- MARGIN_CHECK_START, R45: VCORE_CODE is on its way to 40, or held there. One that falls due during another check is met by that check's
readings. -/
def execMarginCheckStart (s : State) : Host.Outcome State Fault Refusal :=
  .next (
    if !s.up || s.vcore.marginRun || !s.marginDue then s
    else
      let s1 : State := { s with strands := s.strands.map fun x => { x with marginProbe := none } }
      s1.modVcore fun v =>
        { v with
          marginRun := true, marginCheck := v.code == 40, lastMargin := some s.clk.local_
          heldSince := if v.code = 40 then some s.clk.local_ else none })

/-- The verdict of a margin check on one strand (R46), from the probe runs of the hold's last 2 ms (R45): MARGIN_LOW set is recorded at the first check of a run, MARGIN_LOW
cleared at the check that passes; either fires source 962. -/
def State.judgeMargin (s : State) (strand : Nat) : State :=
  let x := s.strand strand
  let p := x.marginProbe.getD x.probe
  let low := decide (10 * p < 11 * Config.admittedRate)
  let s1 := s.modStrand strand fun x => { x with marginLow := low }
  let s2 :=
    if low = x.marginLow then s1
    else (s1.record 46 (if low then 1 else 2) (if low then sevWarning else sevInfo) 962 noSource [(4, strand), (4, p)]).fire 962
  s2.judgePace strand

/-- A margin check has held VCORE_CODE at 40 for 10 ms (R45). -/
def State.marginHeld (s : State) : Bool :=
  s.vcore.marginCheck && (match s.vcore.heldSince with | some h => decide (h + 10000000 ≤ s.clk.local_ + 50000) | none => false)

/-- MARGIN_CHECK_END, R46: after 10 ms the probes of the last 2 ms are judged and VCORE goes back to the regulator, at code 0 as the example after
R47 hands it back (DEDUCED), unless VCORE_MODE is FIXED_MAX where the regulator is on; a quiesced unit 16#00 holds the present code (R39, log 96).
From the first check on the regulator is on (R40). -/
def execMarginCheckEnd (s : State) : Host.Outcome State Fault Refusal :=
  .next (
    if !s.up || !s.marginHeld then s
    else
      let s1 := (List.range (Config.strands s.ident.variant)).foldl State.judgeMargin s
      let stays := (s.fixedMax && s.mode != .lantern && s.mode != .testHold) || s.isQuiesced 0
      (s1.setCode (if stays then s1.vcore.code else 0)).modVcore fun v =>
        { v with marginCheck := false, marginRun := false, heldSince := none, regOn := true })

/-- VCORE_SUPPLY_FAULT, R42: a measured VCORE outside 685 to 915 mV. -/
def execVcoreSupplyFault (millivolts : Nat) (s : State) : Host.Outcome State Fault Refusal :=
  .next (
    if !s.up || (685 ≤ millivolts && millivolts ≤ 915) then s
    else
      (((s.modVcore fun v => { v with supplyFault := true }).record 42 1 sevFault 965 noSource [(4, millivolts)]).fire 965).moduleFault
        .supply (State.restartFor .supply))

/-! ### Islands and crossings -/

/-- SLEEPING of PACE_STATUS (R32, R35). -/
def State.sleeps (s : State) (strand : Nat) : Bool := s.tasks.all fun e => e.2.strand != strand || !s.taskReady e.2

/-- ISLAND_WAKE, R52: the island starts its clock, acknowledges, and takes what waits. -/
def execIslandWake (unit : Nat) (s : State) : Host.Outcome State Fault Refusal :=
  .next (
    if !s.up || !Config.unitFitted s.ident.variant unit || (s.crossing unit).wakeFailed || !(s.crossing unit).open_ then s
    else (s.modCrossing unit fun c => { c with stopped := false }).takePending unit)

/-- A unit shown as faulted whose island does not wake (R53): a port as R304 has it, a CAN controller OFF, every analogue channel with its
fault. -/
def State.faultUnit (s : State) (unit : Nat) : State :=
  if 0x10 ≤ unit ∧ unit ≤ 0x17 then
    (s.modPort (unit - 0x10) fun p => { p with fault := true }).fire (865 + 2 * (unit - 0x10))
  else if 0x20 ≤ unit ∧ unit ≤ 0x23 then s.modCan (unit - 0x20) fun c => { c with state := 0 }
  else if islandOf unit = 0x32 then
    s.modIo fun io =>
      { io with ai := io.ai.map fun c => { c with converterFault := true }, ao := io.ao.map fun c => { c with stageFault := true } }
  else s

/-- ISLAND_WAKE_FAIL, R53: what waits ends with an error, the unit is reported as faulted, and the island stays stopped. -/
def execIslandWakeFail (unit : Nat) (s : State) : Host.Outcome State Fault Refusal :=
  .next (
    if !s.up || !Config.unitFitted s.ident.variant unit || !(s.crossing unit).stopped then s
    else
      let s1 := s.modCrossing unit fun c =>
        { c with wakeFailed := true, errors := c.errors + max 1 c.pending.length, pending := [] }
      ((s1.record 53 1 sevFault 968 noSource [(4, unit)]).fire 968).faultUnit unit)

/-- The reset of the partner link's engine (R343): every class in flight is flushed and its credits are restored; the next
heartbeat resumes, notices and mirrors are sent again, and a join under way begins anew. The write sets that were not fully
received are not compared. -/
def State.resetLink (s : State) : State :=
  let again := s.link.out.filter fun m =>
    m.1 == 3 && (match m.2 with | .writeSet _ => false | _ => true)
  let lost := (s.tasks.filter fun e => e.2.transited && e.2.ownSet.isSome && e.2.peerSet.isNone).length
  let s1 := s.modLink fun l =>
    { l with classes := Config.linkCredits.map (⟨·, []⟩), out := again }
  let s2 : State :=
    { s1 with
      tasks := s1.tasks.map fun e => (e.1, { e.2 with ownSet := if e.2.transited then none else e.2.ownSet })
      pair := { s1.pair with eqSkipped := s1.pair.eqSkipped + lost } }
  let s3 := ((s2.countN 0x1100 lost).count 0x4100).record 343 1 sevWarning 901 noSource []
  let s4 :=
    match s3.pair.join with
    | some j =>
      if s3.mode == ModState.joining then
        (s3.modPair fun p => { p with join := some { j with acceptedAt := none, static_ := false, tickJ := none } }).send 3
          (.joinRequest ⟨s3.storedEpoch, s3.identity⟩)
      else s3.modPair fun p => { p with join := none }
    | none => s3
  s4.fire 901

/-- LINK_RESET, R343. -/
def execLinkReset (s : State) : Host.Outcome State Fault Refusal := .next (if s.solo || !s.up then s else s.resetLink)

/-- What a reset on either side leaves at a crossing (R54, R55): a transfer whose acknowledge was issued stands, every other one is discarded
whole and counted, and nothing crosses until both sides have reported their flush; a reset during a flush asks both for their report again. -/
def State.flushCrossing (s : State) (unit : Nat) : State :=
  let c := s.crossing unit
  let stood := c.pending.filter (·.acked)
  (s.putSent (stood.filterMap (·.frame))).modCrossing unit fun c =>
    { c with
      open_ := false, fabricDone := false, islandDone := false, pending := []
      completed := c.completed + stood.length
      flushed := c.flushed + (c.pending.filter (!·.acked)).length }

/-- CROSSING_RESET_NOTICE, R54. On the partner link the reset follows R343. -/
def execCrossingResetNotice (unit : Nat) (s : State) : Host.Outcome State Fault Refusal :=
  .next (
    if !s.up || !Config.unitFitted s.ident.variant unit then s
    else
      let s1 := s.flushCrossing unit
      if unit = 0x60 ∧ ¬ s.solo then s1.resetLink else s1)

/-- CROSSING_REOPEN, R55: the fabric's side, or the island's, is out of reset and reports its flush complete; with both reports the crossing
reopens, and what has waited goes across where the island runs. -/
def execCrossingReopen (side : CrossingSide) (s : State) : Host.Outcome State Fault Refusal :=
  .next (
    let c := s.crossing side.unit
    if c.open_ then s
    else if (c.fabricDone || !side.island) && (c.islandDone || side.island) then
      let s1 := s.modCrossing side.unit fun c => { c with open_ := true, fabricDone := false, islandDone := false }
      if c.stopped then s1 else s1.takePending side.unit
    else s.modCrossing side.unit fun c =>
      { c with fabricDone := c.fabricDone || !side.island, islandDone := c.islandDone || side.island })

end Sys2Proof.Machine
end

