-- ==== Sys2Proof/Machine/Units.lean ====
section
/-! DEFINITION. Units that restart and settings that take effect (R346, R347, R469 to R473), and what an accepted command brings
about at its tick on both modules: forces (R257 to R264), host writes (R463), station tables (R465), gate entries (R538),
revocations (R548), the instant of an online change (R248), and the commands that the partner mirrors. -/
namespace Sys2Proof.Machine

/-! ### Settings and restarts -/

/-- The number under which the store keeps the SIDE settings of the other side's unit (R471). -/
def otherSide (unit : Nat) : Nat := unit + 256

/-- A unit whose island may stop (R48). -/
def stoppable (unit : Nat) : Bool :=
  (decide (0x10 ≤ unit) && decide (unit ≤ 0x17)) || (decide (0x20 ≤ unit) && decide (unit ≤ 0x23)) || unit == 0x32 || unit == 0x33
    || unit == 0x60

/-- Values written into the configuration store; the island of the unit stands as it does until the unit restarts. -/
def State.setValues (s : State) (unit : Nat) (vs : List (Nat × Int)) : State :=
  (if stoppable unit then s.modCrossing unit id else s).modSettings fun c =>
    { c with values := vs.foldl (fun m v => NMap.set m (unit * 65536 + v.1) v.2) c.values }

/-- The clock of a unit's island follows the settings (R48): the island of a unit that is disabled stops; one that is stopped while its unit is
enabled is asked to wake, and the transfer of its settings waits for it (R52). A wake that failed is past once the unit is reconfigured (R53). -/
def State.reclock (s : State) (unit : Nat) : State :=
  if stoppable unit && Config.unitFitted s.ident.variant unit then
    let failed := (s.crossing unit).wakeFailed
    let s1 := s.modCrossing unit fun c =>
      { c with
        stopped := c.stopped || s.islandOff unit, wakeFailed := false
        pending := if c.stopped && !s.islandOff unit then c.pending ++ [⟨false, none⟩] else c.pending }
    if failed && islandOf unit == 0x32 then
      s1.modIo fun io =>
        { io with ai := io.ai.map fun c => { c with converterFault := false }, ao := io.ao.map fun c => { c with stageFault := false } }
    else s1
  else s

/-- PAIR settings take effect between two ticks (R347, R471): a change of PAIR_MODE to SOLO sends the module that does not own into
LANTERN, and the owner goes on alone. -/
def State.applyPair (s : State) (unit : Nat) (vs : List (Nat × Int)) : State :=
  let s1 := (s.setValues unit vs).reclock unit
  if unit = 0x31 then s1.settleDo
  else if unit = 0x42 ∧ s1.time.ringMaster then s1.rebaseRing
  else if unit = 0x60 ∧ s1.solo ∧ ¬ s.solo then
    (if s1.mode = .standby ∨ s1.mode = .joining then
       (s1.silencePorts.releaseLocal).enterLantern .partnerSolo .held .partnerSolo
     else s1.stopWaiting)
  else s1

/-- PAIR_SETTINGS_APPLY, R346 and R471: at APPLY_AT. -/
def execPairSettingsApply (s : State) : Host.Outcome State Fault Refusal :=
  .next (
    let due := s.settings.applies.filter fun a => decide (a.1 ≤ s.clk.ring)
    let s1 := s.modSettings fun c => { c with applies := c.applies.filter fun a => !decide (a.1 ≤ s.clk.ring) }
    due.foldl (fun (s : State) a => s.applyPair a.2.1 a.2.2) s1)

/-- Unit 16#42 after its settings took effect (R406, R421, R430). -/
def State.restartSelection (s : State) : State :=
  let s1 := s.modTime fun x =>
    { x with
      refValid := x.refValid && s.ref10m, refLocked := x.refLocked && s.ref10m, refHoldover := x.refHoldover && s.ref10m
      ppsOut := x.ppsOut && s.setting 0x42 6 0 != 0 }
  if s1.setting 0x42 2 0 = 0 ∨ s1.ident.variant = .nk920 then s1.selectDomain (s1.settingNat 0x42 1 0) else s1

/-- The function of a unit starts again with the settings of the store (R469). -/
def State.startUnit (s : State) (unit : Nat) : State :=
  let s1 := s.reclock unit
  if 0x10 ≤ unit ∧ unit ≤ 0x17 then s1.modPort (unit - 0x10) fun p => { p with fault := false }
  else if 0x20 ≤ unit ∧ unit ≤ 0x23 then s1.restartCan (unit - 0x20)
  else if unit = 0x31 then s1.settleDo
  else if unit = 0x40 ∨ unit = 0x41 then s1.restartDomain (unit - 0x40)
  else if unit = 0x42 then s1.restartSelection
  else s1

/-- The quiesce of a unit ends and the unit restarts (R469, R470); the partner hears of it. -/
def State.restartUnit (s : State) (unit : Nat) : State :=
  let s1 := s.dropQuiesce unit
  (if s1.solo then s1 else s1.send 3 (.mirror (.quiesce unit false))).startUnit unit

/-- A quiesce ends without `FUNC.RESTART`: recorded (R470). -/
def State.loseQuiesce (s : State) (unit : Nat) : State := (s.restartUnit unit).record 470 1 sevInfo noSource noSource [(4, unit)]

/-- QUIESCE_LEASE_EXPIRY, R470: 60 s without a renewal. -/
def execQuiesceLeaseExpiry (unit : Nat) (s : State) : Host.Outcome State Fault Refusal :=
  .next (match s.quiesce unit with
    | some q => if q.lease ≤ s.clk.local_ + 50000 then s.loseQuiesce unit else s
    | none => s)

/-! ### The maintenance slot -/

/-- An online change that is neither complete nor aborted ends (R241, R248, R564): the new version goes with what was converted for it, the
slot is free, and sections that wait are built from the old map again (R251). -/
def State.abortChange (s : State) (result : Nat) : State :=
  if s.change.state = 0 ∨ 5 ≤ s.change.state then s
  else
    let s0 := match s.change.version with
      | some v => s.freeWindows s.change.win v
      | none => s
    let s1 := s0.modChange fun c =>
      { c with
        state := 6, lastResult := result, version := none, plan := [], map := [], versionBytes := [], versionLast := false, mapBytes := [],
        mapLast := false,
        confirmed := false, pendingTasks := [], session := 0 }
    let s2 : State :=
      { s1 with
        slot := if (s1.slot.map (·.holder)) == some 4 then none else s1.slot
        checks := s1.checks.filter fun w => w.kind != 1 || w.ticket.isSome }
    if s.change.state = 3 then s2.rebuildQueues s.change.switchAt else s2

/-- The slot is released on both modules (R575). -/
def State.releaseSlot (s : State) (holder : Nat) : State :=
  if (s.slot.map (·.holder)) = some holder then
    let s1 : State := { s with slot := none }
    if s.solo then s1 else s1.send 3 (.forward (.release holder))
  else s

/-- The slot is taken for an activity of this module (R575); a request of a standby goes to the owner, and the owner tells its
partner. -/
def State.takeSlot (s : State) (holder id : Nat) : State :=
  let s1 : State := { s with slot := some ⟨holder, s.front.side, id⟩ }
  if s.solo then s1 else s1.send 3 (.forward (.slot holder id))

/-- Staging is given up (R564): ABORTED, and the slot is free. -/
def State.abortUpdate (s : State) : State :=
  if s.update.state = 1 ∨ s.update.state = 2 then
    (s.modUpdate fun u =>
      { u with
        state := 8, endCause := 1, session := none, manifest := [], manifestDone := false, parts := [], partsDone := [], bytes := 0,
        ownSlot := false }).releaseSlot 1
  else s

/-- A host's session ends (R449): its quiesces end with a restart of their units (R470), its tenant that was being loaded is FREE,
its debug session ends, a change in LOADING or LOADED is aborted (R575), and staging of an update in RECEIVING or VERIFIED (R564). -/
def State.closeSession (s : State) (no : Nat) : State :=
  let held := (s.settings.quiesced.filter fun q => q.session == no).map (·.unit)
  let s1 := held.foldl (fun (s : State) u => s.loseQuiesce u) s
  let s2 := if s1.change.session = no ∧ (s1.change.state = 1 ∨ s1.change.state = 2) then
      (s1.releaseSlot 4).abortChange s1.change.lastResult else s1
  let s3 := if s2.update.session = some no then s2.abortUpdate else s2
  s3.endSession no

/-! ### The steps of a pair update, R569 to R571 -/

/-- An update ends (R571): 6 COMPLETE or 7 FAILED, with its END_CAUSE; the slot is released and the bridge interval is over. -/
def State.endUpdate (s : State) (result cause : Nat) : State :=
  let step := s.update.pairStep
  ((s.modUpdate fun u =>
      { u with
        state := result, endCause := cause, pairStep := if result = 6 ∧ u.scopePair then 6 else u.pairStep, session := none,
        bridge := false, retryFrom := none, manifest := [], manifestDone := false, parts := [], partsDone := [], ownSlot := false,
        part := 0 }).releaseSlot 1).record 571 1 (if result = 7 then sevWarning else sevInfo) noSource noSource
    [(4, cause), (4, step)]

/-- A pair update runs. -/
def State.pairUpdate (s : State) : Bool := s.update.scopePair && (s.update.state == 3 || s.update.state == 4)

/-- The partner has left to restart under its new parts (R569): step 1 goes on to 2, and step 4 to 5. -/
def State.updateLeft (s : State) : State :=
  if s.pairUpdate ∧ s.mode = .owner then
    s.modUpdate fun u => { u with pairStep := if u.pairStep = 1 then 2 else if u.pairStep = 4 then 5 else u.pairStep, state := 4, bridge := true }
  else s

/-- The handover of step 3 is tried (R569, R571). -/
def State.updateHandover (s : State) : State := if s.mayHandOver then s.proposeHandover .command false none else s

/-- The partner is in STANDBY with SYNCHRONISED again (R569): step 2 goes on to the handover, and step 5 ends the update. -/
def State.updateJoined (s : State) : State :=
  let known (s : State) : State :=
    s.modPair fun p => { p with peerIdent := p.peerIdent.map fun i => { i with generation := s.update.targetGen } }
  if !(s.pairUpdate && s.mode == .owner) then s
  else if s.update.pairStep = 2 then
    ((known s).modUpdate fun u => { u with pairStep := 3, state := 3, retryFrom := some s.clk.local_ }).updateHandover
  else if s.update.pairStep = 5 then (known s).endUpdate 6 (if s.update.endCause = 6 then 6 else 0)
  else s

/-- The roles have changed in step 3: the old owner, now standby, writes in step 4 (R569). -/
def State.updateSwapped (s : State) : State :=
  if s.pairUpdate ∧ s.update.pairStep ≤ 3 then
    s.modUpdate fun u => { u with pairStep := 4, state := 3, retryFrom := none, bridge := true }
  else s

/-- The partner is lost while a pair update runs (R571). -/
def State.updateOrphaned (s : State) : State := if s.pairUpdate then s.endUpdate 7 5 else s

/-- A standby proof test starts (R375): the module is in JOINING, and sends no join request before it has tested itself. -/
def State.startProof (s : State) : State :=
  (s.enterJoining .none ⟨s.clk.local_, none, false, none⟩).modPair fun p => { p with proofTest := true }

/-- FORWARDED_REQUEST, R311 and R575: the owner decides what its standby forwards; the standby takes up what the owner tells it of
the slot. -/
def execForwardedRequest (req : Forwarded) (s : State) : Host.Outcome State Fault Refusal :=
  .next (
    if s.solo || !s.up then s
    else match req with
      | .acyclic q => if s.mode = .owner then s.offerAcyc q none 0 else s
      | .assign ring station => if s.mode = .owner then s.sendAssign ring station else s
      | .slot kind id =>
        if s.mode = .owner then
          (match s.slot with
           | none => { s with slot := some ⟨kind, s.front.side.other, id⟩ }
           | some x => s.send 3 (.forward (.slot x.holder x.id)))
        else
          let s1 : State := { s with slot := some ⟨kind, s.front.side.other, id⟩ }
          if kind = 2 ∧ s.mode = .standby ∧ s.pair.synchronised then s1.startProof
          else if kind = 4 ∧ (s.change.state = 0 ∨ 5 ≤ s.change.state) then { s1 with change := { changeReset with state := 1, tenant := id } }
          else s1
      | .release kind =>
        let s1 : State := { s with slot := if (s.slot.map (·.holder)) == some kind then none else s.slot }
        if kind = 4 ∧ s.mode ≠ .owner then s1.abortChange s1.change.lastResult
        else if kind = 1 ∧ s.mode = .owner then (if s1.pairUpdate then s1.endUpdate 7 7 else s1)
        else if kind = 1 ∧ s.update.session.isNone ∧ (s.update.state = 1 ∨ s.update.state = 2) then s1.abortUpdate
        else if kind = 1 ∧ s.mode ≠ .owner ∧ s.pairUpdate then
          let same := (s.pair.peerIdent.map (·.generation)) == some s.ident.generation
          let s2 := s1.modUpdate fun u =>
            { u with state := if same then 6 else 7, pairStep := if same then 6 else u.pairStep, bridge := false, session := none }
          if same ∨ s2.mode ≠ .standby then s2 else (s2.silencePorts.releaseLocal).enterLantern .none .held .generation
        else s1)

/-! ### Forces -/

/-- One entry set in the table, in place of an entry of the same signal. -/
def putForce : List Force → Force → List Force
  | [], f => [f]
  | g :: fs, f => if g.signal = f.signal then f :: fs else g :: putForce fs f

/-- A record for an entry set, replaced or cleared (R264): signal, value, session, privilege. -/
def State.forceRecord (s : State) (ordinal : Nat) (f : Force) (session : Nat) : State :=
  s.record 264 ordinal sevInfo noSource noSource [(4, f.signal.toNat), (4, f.value.toNat), (4, session), (4, f.setPriv)]

/-- A force request takes effect (R259, R264). -/
def State.applyForces (s : State) (q : ForceReq) : State :=
  let s1 := (s.forces.filter fun f => q.clears.contains f.signal).foldl (fun (s : State) f => s.forceRecord 3 f q.session) s
  let s2 : State := { s1 with forces := s1.forces.filter fun f => !q.clears.contains f.signal }
  q.sets.foldl (fun (s : State) f =>
    let g : Force := { f with setAt := BitVec.ofNat 32 s.calSec }
    let old := s.forces.any fun x => x.signal == f.signal
    ({ s with forces := putForce s.forces g } : State).forceRecord (if old then 2 else 1) g q.session) s2

/-- FORCE_EFFECTIVE, R259: every request whose effective instant has come. -/
def execForceEffective (s : State) : Host.Outcome State Fault Refusal :=
  .next (
    let due := s.forceReqs.filter fun q => decide (q.at_ ≤ s.clk.ring)
    due.foldl State.applyForces { s with forceReqs := s.forceReqs.filter fun q => !decide (q.at_ ≤ s.clk.ring) })

/-- FORCE_TABLE_EXCHANGE, R262: the owner's request reaches its partner before its effective instant. -/
def execForceTableExchange (req : ForceReq) (s : State) : Host.Outcome State Fault Refusal :=
  .next (if s.solo || s.mode == .owner || !s.up then s else { s with forceReqs := s.forceReqs ++ [req] })

/-! ### Host writes -/

/-- The rank of a host's write at its instant: after every task publication (R463). -/
def hostRank : Nat := 65535

/-- HOST_WRITE_EFFECTIVE, R463: the words are published at EFFECTIVE_AT, and an online change converts them (R250). -/
def execHostWriteEffective (s : State) : Host.Outcome State Fault Refusal :=
  .next (
    let due := s.hostWrites.filter fun w => decide (w.at_ ≤ s.clk.ring)
    let log := due.foldl (fun l w =>
      w.writes.foldl (fun l r => logInsert l ⟨r.addr, r.mask, r.value, hostRank, w.at_⟩) l) s.image.log
    let s1 : State := { s with image := { s.image with log := log }, hostWrites := s.hostWrites.filter fun w => !decide (w.at_ ≤ s.clk.ring) }
    (due.filter fun w => (s.change.state == 3 || s.change.state == 4) && s.change.tenant == w.tenant).foldl (fun (s : State) w =>
      s.convertPub hostRank w.at_ (w.writes.map (·.addr))) s1)

/-! ### Station tables -/

/-- A station table in force (R296, R465): positions whose entry stands keep what is known of them, but for the entries into RESYNC, which
count since the load (R305); the others start anew. -/
def Ring.setTable (r : Ring) (table : List StationCfg) : Ring :=
  { r with
    table := table
    stations := (List.range (max table.length r.stations.length)).map fun k =>
      if r.table[k]? = table[k]? then { (r.stations[k]?).getD StationView.reset with resyncs := 0 } else StationView.reset
    acycNext := 0 }

/-- The OUTPUT counts of a ring's stations as another module gives them (R283, R356). -/
def Ring.setOutSeqs (r : Ring) (seqs : List Nat) : Ring :=
  { r with stations := r.stations.zipIdx.map fun p => { p.1 with outSeq := (seqs[p.2]?).getD p.1.outSeq } }

/-- The positions whose entry a new table changes. -/
def Ring.changedBy (r : Ring) (table : List StationCfg) : List Nat :=
  (List.range (max table.length r.table.length)).filter fun k => r.table[k]? != table[k]?

/-- STATION_TABLE_APPLY, R465: a position whose entry changes is ABSENT, recorded and fired as every change of state is (R299, R304). -/
def execStationTableApply (ring : Fin 4) (s : State) : Host.Outcome State Fault Refusal :=
  .next (match (s.ring ring).staged with
    | some (at_, table) => if at_ ≤ s.clk.ring then
        (((s.ring ring).changedBy table).foldl (fun (s : State) k => s.setStation ring k .absent) s).modRing ring fun r =>
          { r.setTable table with staged := none }
      else s
    | none => s)

/-! ### Gate entries and revocations -/

/-- The number that a record gives of a gate entry: base, limit, and its other fields in one word. -/
def GateEnt.data (e : GateEnt) : List (Nat × Nat) :=
  [(4, e.base), (4, e.limit), (4, e.tenant + 512 * e.match_ + 2048 * e.perm + (if e.valid then 33554432 else 0) + (if e.lock then 67108864 else 0))]

/-- A host entry written (R538, R539): stored, and in use unless only the stored copy is meant. -/
def State.applyGate (s : State) (w : GateWrite) : State :=
  let old := ((NMap.get (((s.gates[w.gate]?).map (·.host)).getD []) w.index)).getD ⟨0, 0, 0, 0, 0, false, false⟩
  let s1 : State :=
    { s with gates := modAt s.gates w.gate fun g =>
        { g with
          stored := NMap.set (if g.stored.isEmpty then g.host else g.stored) w.index w.entry
          host := if w.storedOnly then g.host else NMap.set g.host w.index w.entry } }
  (s1.record 538 1 sevInfo noSource noSource
    ([(4, ((w.ticket).map (·.session)).getD 0), (4, w.gate), (4, w.index)] ++ old.data ++ w.entry.data)).finishOpt w.ticket 0 []

/-- GATE_ENTRY_APPLY, R538: the accepted writes whose tick has come, in the order of acceptance. -/
def execGateEntryApply (s : State) : Host.Outcome State Fault Refusal :=
  .next (
    let due := s.gateWrites.filter fun w => decide (w.at_ ≤ s.clk.ring)
    due.foldl State.applyGate { s with gateWrites := s.gateWrites.filter fun w => !decide (w.at_ ≤ s.clk.ring) })

/-- A serial is revoked (R548): sessions whose chain holds it end, and so does the presence of its key tag. -/
def State.applyRevoke (s : State) (serial : Word) : State :=
  let s1 := s.modKeys fun k => { k with revoked := if k.revoked.contains serial then k.revoked else k.revoked ++ [serial] }
  let hit := (s1.gelit.sessions.filter fun x => x.serials.contains serial).map (·.no)
  let s2 := hit.foldl (fun (s : State) n => s.closeSession n) s1
  s2.modReader fun r => { r with present := r.present.filter fun p => p.serial != serial }

/-- REVOCATION_APPLY, R548. -/
def execRevocationApply (s : State) : Host.Outcome State Fault Refusal :=
  .next (
    let due := s.keys.revoking.filter fun x => decide (x.1 ≤ s.clk.ring)
    let s1 := s.modKeys fun k => { k with revoking := k.revoking.filter fun x => !decide (x.1 ≤ s.clk.ring) }
    due.foldl (fun (s : State) x => (s.applyRevoke x.2.1).finishOpt x.2.2 0 []) s1)

/-! ### The instant of an online change -/

/-- CHANGE_SWITCH, R249. -/
def execChangeSwitch (s : State) : Host.Outcome State Fault Refusal := .next s.switchDue

/-- SWITCH_AT_PROPOSAL, R248 and R250: the partner takes the instant, converts the published state, and confirms. -/
def execSwitchAtProposal (instant : Nat) (s : State) : Host.Outcome State Fault Refusal :=
  .next (
    if s.change.state = 2 ∧ s.mode ≠ .owner ∧ ¬ s.solo then
      ((s.modChange fun c => { c with state := 3, switchAt := instant, confirmed := true }).convertAll.rebuildQueues instant).send 3 (.switchConfirm instant)
    else s)

/-- SWITCH_AT_CONFIRM, R248. -/
def execSwitchAtConfirm (instant : Nat) (s : State) : Host.Outcome State Fault Refusal :=
  .next (if s.change.state = 3 ∧ s.change.switchAt = instant then s.modChange fun c => { c with confirmed := true } else s)

/-- CHANGE_CONFIRM_DEADLINE, R248: not confirmed by SWITCH_AT − 5 ms, the change is aborted on both modules. -/
def execChangeConfirmDeadline (s : State) : Host.Outcome State Fault Refusal :=
  .next (
    if s.change.state = 3 ∧ s.change.confirmed = false ∧ s.change.switchAt ≤ s.clk.ring + 5000000 then
      ((s.tellPartner (.changeAbort 0x0A)).releaseSlot 4).abortChange 0x0A
    else s)

/-! ### Starting, stopping and unloading -/

/-- The tasks of a tenant that a mask names by position. -/
def State.maskTasks (s : State) (tenant mask : Nat) : List Nat :=
  (s.tasks.filter fun e => e.2.tenant == tenant && mask / 2 ^ e.2.pos % 2 == 1).map (·.1)

/-- Tasks started or restarted (R60, R67, R90, R229): ARMED for start_0; the tenant is RUNNING from the start command on, while its tasks are
still ARMED (DESIGN CHOICE: the table of R60 names ARMED tasks under LOADED too; log 99). -/
def State.startTasks (s : State) (tenant mask start0 : Nat) : State :=
  let ns := s.maskTasks tenant mask
  if ns.isEmpty then s
  else (ns.foldl (fun (s : State) n => s.modTask n fun t => t.arm start0) s).modTenant tenant fun x =>
    { x with state := .running, restarted := x.restarted || x.state == .frameDisplaced }

/-- Tasks stopped (R60, R224): one in a cycle at its publication, another at once; a FAULTED task stays so. -/
def State.stopTasks (s : State) (tenant mask : Nat) : State :=
  ((s.maskTasks tenant mask).foldl (fun (s : State) n =>
    match s.task n with
    | some t =>
      if t.st = .running ∧ t.inCycle then s.modTask n fun t => { t with atPub := { t.atPub with stop := true } }
      else if t.st = .running then s.endTask n .stopped s.clk.ring
      else if t.st = .armed then s.modTask n fun t => { t.dropCycle with st := .stopped, latch := none, behind := none, nextStart := none }
      else s
    | none => s) s).settleTenant tenant

/-- A tenant unloaded (R60, R61): FREE, its task numbers free; a displaced frame stays in its slot until its next displacement (R229). -/
def State.unload (s0 : State) (tenant : Nat) : State :=
  let s := ((s0.tasks.filter fun e => e.2.tenant == tenant).map (·.1)).foldl (fun (s : State) n => (s.freeTags n).leaveClosing n) s0
  let t := s.tenant tenant
  let s1 := match t.version with | some v => s.freeWindows t.win v | none => s
  let s2 : State :=
    { s1 with
      tasks := s1.tasks.filter fun e => e.2.tenant != tenant
      tenants := if t.slot.isEmpty ∧ t.displaced = 0 then NMap.del s1.tenants tenant
        else NMap.set s1.tenants tenant { Tenant.free with slot := t.slot, displaced := t.displaced, restarted := true } }
  s2.resweep

/-! ### Mirrored commands -/

/-- The RW1C bits of the HEALTH word (R376): DIVERGENCE 36, INGRESS_OVERRUN 44, DUAL_OWNERSHIP 45. -/
def ackBits : BitVec 64 := (1#64 <<< 36) ||| (1#64 <<< 44) ||| (1#64 <<< 45)

/-- RW1C bits cleared on this module. -/
def State.ackHealth (s : State) (mask : BitVec 64) : State :=
  s.modPair fun p =>
    { p with
      divergence := p.divergence && !mask.getLsbD 36, ingressOverrun := p.ingressOverrun && !mask.getLsbD 44
      dualOwnership := p.dualOwnership && !mask.getLsbD 45 }

/-- The partner's controller has restarted, and serves or not as R507 says of the module it stands in: a standby gives up the role to an
owner with the same settings, and an owner that did not serve takes it where the partner does not. -/
def State.canRestarted (s : State) (k : Nat) : State :=
  if s.mode == .standby && s.canMatches k then s.modCan k fun c => { c with serving := false }
  else if s.mode == .owner && !(s.ctl k).serving && !s.isQuiesced (0x20 + k) then (s.takeCan k).settleCan
  else s

/-- A controller whose settings differ from the partner's is not REDUNDANT (R507, R510). -/
def State.canUnlike (s : State) (k : Nat) : State := if s.canMatches k then s else s.setRedundant k false

/-- COMMAND_MIRROR: what the owner, or for its own unit the partner, has accepted (R346, R391, R432, R463, R465, R471, R473, R507,
R538, R548). Values of SIDE scope come under the number of the other side's unit. -/
def execCommandMirror (m : Mirror) (s : State) : Host.Outcome State Fault Refusal :=
  .next (
    if s.solo || !s.up then s
    else match m with
      | .hostWrite at_ tenant writes => { s with hostWrites := s.hostWrites ++ [⟨at_, tenant, 0, writes⟩] }
      | .settings at_ unit values =>
        if 256 ≤ unit then (s.setValues unit values).canUnlike (unit - 288)
        else s.modSettings fun c => { c with applies := c.applies ++ [(at_, unit, values)] }
      | .gateEntry at_ gate index entry stored =>
        { s with gateWrites := s.gateWrites ++ [⟨at_, gate, index, entry, stored, none⟩] }
      | .revoke at_ serial => s.modKeys fun k => { k with revoking := k.revoking ++ [(at_, serial, none)] }
      | .stationTable at_ ring table => s.modRing ring fun r => { r with staged := some (at_, table) }
      | .alarm no value =>
        s.modTime fun x => { x with alarms := modAt x.alarms no fun _ => value, alarmDone := modAt x.alarmDone no fun _ => none,
                                    alarmHeld := x.alarmHeld.filter (· != no) }
      | .lanternProgram v => s.modLantern fun l => { l with plantProgram := some v, plantCrcOk := true }
      | .quiesce unit on =>
        let s1 := s.modPair fun p =>
          { p with peerQuiesced := if on then (p.peerQuiesced.filter (· != unit)) ++ [unit] else p.peerQuiesced.filter (· != unit) }
        if !on && decide (0x20 ≤ unit) && decide (unit ≤ 0x23) then s1.canRestarted (unit - 0x20) else s1
      | .canServe k => s.takeCan k
      | .canLost k frame => s.canLost k frame
      | .acycDone ring rsp => s.endMirrored ring rsp
      | .healthAck mask => s.ackHealth mask
      | .activate =>
        if s.mode = .standby ∧ (s.update.state = 1 ∨ s.update.state = 2) then s.modUpdate fun u => { u with state := 3, scopePair := true, pairStep := 1, bytes := 0 }
        else s
      | .changeAbort result => s.abortChange result
      | .assign ring station delayA delayB => s.takeAssign ring station delayA delayB
      | .delays ring delays => s.takeDelays ring delays
      | .start tenant mask start0 => s.startTasks tenant mask start0
      | .stop tenant mask => s.stopTasks tenant mask
      | .unload tenant => s.unload tenant)

end Sys2Proof.Machine
end

