-- ==== Sys2Proof/Machine/Gelit.lean ====
section
/-! DEFINITION. Reception of a Gelit request, R436 to R455: the checks of R439 in their order, sessions and stored replies, and the
answer of a command. Each command stands in the file of its group. -/
namespace Sys2Proof.Machine

/-! ### Commands and what they answer -/

/-- The served codes of R451; `solo` is the solo OWNER of MODULE.TEST-HOLD (R458). -/
inductive Served where | E | EL | O | OL | SB | solo
  deriving DecidableEq, Repr

/-- A row of a command table (R454): its opcode, whether a table names that code, its privilege, whether it takes a tenant, where
it is served, and whether a commissioning session may send it (R546). -/
structure Cmd where
  op : Nat
  known : Bool
  priv : Nat
  tenant : Bool
  served : Served
  comm : Bool
  deriving DecidableEq, Repr

/-- The status of a refusal and its payload. -/
abbrev Refused := Nat × List Byte

/-- What a command does: it is refused, it replies from the state it leaves, or it replies later (R441). -/
inductive Done where
  | reply (s : State) (status : Nat) (body : List Byte)
  | later (s : State)

/-- The answer of a command: a refusal has no effect. -/
abbrev Answer := Except Refused Done

/-- A condition that refuses with `e` where it does not hold. -/
def need (b : Bool) (e : Refused) : Except Refused Unit := if b then .ok () else .error e

/-- BAD-LENGTH. -/
def badLength : Refused := (3, errorPlain)
/-- RESERVED-NONZERO of a payload field. -/
def reservedAt (off : Nat) : Refused := (2, errorBlock off 0 0 .a 0)
/-- BAD-PARAM of the field at an offset. -/
def badParam (off : Nat) : Refused := (5, errorBlock off 0 0 .a 0)
/-- BAD-PARAM that no field gives. -/
def badPlain : Refused := (5, errorPlain)
/-- NOT-PERMITTED with its REASON: 1 PRIVILEGE, 2 TENANT-SCOPE, 3 KEY-REQUIRED, 4 GATE, 5 CERTIFICATE, 6 LOCKED. -/
def denied (reason : Nat) : Refused := (8, errorBlock 0xFFFF reason 0 .a 0)
/-- UNIT-ABSENT. -/
def unitAbsent (off : Nat) : Refused := (9, errorBlock off 0 0 .a 0)
/-- BUSY-MAINT with its holder. -/
def busyMaint (holder : Nat) (side : Side) (id : Nat) : Refused := (0x0A, errorBlock 0xFFFF 0 holder side id)
/-- WRONG-STATE. -/
def wrongState : Refused := (0x0B, errorPlain)
/-- NOT-OWNER. -/
def notOwner : Refused := (0x0C, errorPlain)
/-- QUIESCE-REQUIRED. -/
def quiesceRequired : Refused := (0x0D, errorPlain)

/-- A payload of exactly `n` bytes (R440). -/
def sized (p : List Byte) (n : Nat) : Except Refused Unit := need (p.length == n) badLength

/-- Reserved bytes that are zero (R439, check 14). -/
def zeros (p : List Byte) (off n : Nat) : Except Refused Unit := need (field p off n == 0) (reservedAt off)

/-- An OK reply. -/
def ok (s : State) (body : List Byte) : Answer := .ok (.reply s 0 body)

/-! ### Maintenance slot, units and keys -/

/-- The pair's maintenance slot is free (R575, R576). -/
def State.slotFree (s : State) : Except Refused Unit :=
  match s.slot with
  | none => .ok ()
  | some x => .error (busyMaint x.holder x.side x.id)

/-- The unit is fitted (check 12, R3); a unit identity that does not exist is a bad value. -/
def State.unitThere (s : State) (off unit : Nat) : Except Refused Unit :=
  if Config.unitAbsent s.ident.variant unit then .error (unitAbsent off) else .ok ()

/-- The ring is fitted (R2, R3): it is, where its ports are. -/
def State.ringThere (s : State) (off ring : Nat) : Except Refused Unit :=
  if ring < 4 ∧ Config.rings s.ident.variant ≤ ring then .error (unitAbsent off) else .ok ()

/-- A key of at least the level is present at the module (R556). -/
def State.keyAt (s : State) (priv : Nat) : Bool :=
  match s.reader.present with
  | some p => decide (priv ≤ p.priv) && decide (s.clk.local_ < p.until_)
  | none => false

/-- A command that needs a key (check 17, R557). -/
def State.needKey (s : State) : Except Refused Unit := need (s.keyAt 2) (denied 3)

/-- The serial of the key that is present; 0 where none is. -/
def State.keySerial (s : State) : Nat := ((s.reader.present).map (·.serial.toNat)).getD 0

/-- The use of a key, recorded with TAG_SERIAL and the session (R556). -/
def State.useKey (s : State) (session : Nat) : State :=
  s.record 556 1 sevInfo noSource noSource [(4, s.keySerial), (4, session)]

/-- The privilege of a request's session. -/
def State.privOf (s : State) (session : Nat) : Nat := ((s.session session).map (·.priv)).getD 0

/-- A host's access to a gated target outside the process image (R528, R537, R540): of kind 0 R or 1 W, at a granule of the target. A
denial leaves what R540 says, and the command has no other effect. -/
def State.throughGate (s : State) (r : Req) (gate granule kind : Nat) (run : Answer) : Answer :=
  match s.gateCheck ⟨gate, granule, kind, s.privOf r.session, if r.tenant < 512 then some r.tenant else none⟩ with
  | some d => .ok (.reply (s.deny d) 8 (denied 4).2)
  | none => run

/-! ### The checks of R439 -/

/-- What becomes of a datagram. -/
inductive Fate where
  | ignored
  | drop (order : Nat)
  | noSession
  | halfOpen
  | again (reply : Option Reply)
  | replayed
  | waits
  | refused (status : Nat) (body : List Byte)
  | runs
  deriving DecidableEq, Repr

/-- Does a command of the session execute, or wait for its turn (R441)? -/
def Session.busy (x : Session) : Bool :=
  (x.stored.any fun d => d.reply.isNone && !x.waiting.any fun w => w.req.seq == d.seq) || !x.waiting.isEmpty || x.ready.isSome

/-- R450: nothing where the sequence is accepted, otherwise what its repeat gets. -/
def Session.judge (x : Session) (r : Req) : Option Fate :=
  if x.ready = some r.seq ∧ (x.stored.any fun d => d.seq == r.seq && d.tag == r.tag) then none
  else if x.highest < r.seq ∨ (x.highest < r.seq + 64 ∧ ¬ x.accepted.contains r.seq) then none
  else match x.stored.find? fun d => d.seq == r.seq && d.tag == r.tag with
    | some d => some (.again d.reply)
    | none => some .replayed

/-- Check 11: the status of a command that this state does not serve (R451, R395). -/
def State.servedStatus (s : State) (v : Served) : Nat :=
  let lantern := s.mode == .lantern
  let joining := s.mode == .joining
  match v with
  | .E => if lantern || joining then 0x0B else 0
  | .EL => 0
  | .O => if lantern || joining then 0x0B else if s.owns then 0 else 0x0C
  | .OL => if joining then 0x0B else if lantern || s.owns then 0 else 0x0C
  | .SB => if s.mode == .standby || s.mode == .testHold then 0 else 0x0B
  | .solo => if s.mode == .owner && s.solo then 0 else 0x0B

/-- Checks 9 and 10, R452 and R546. -/
def Cmd.permit (c : Cmd) (r : Req) (x : Option Session) : Option Refused :=
  if c.tenant && !decide (r.tenant < 512) || !c.tenant && r.tenant != 0xFFFF then some badPlain
  else match x with
    | none => none
    | some x =>
      if c.op = 2 then none
      else if x.commissioning && !c.comm then some (denied 5)
      else if x.priv < c.priv then some (denied 1)
      else if c.tenant && !(decide (x.tenantFirst ≤ r.tenant) && decide (r.tenant ≤ x.tenantLast)) then some (denied 2)
      else if !c.tenant && c.priv == 2 && !x.moduleWide then some (denied 2)
      else none

/-- Checks 7 to 11. -/
def State.judge (s : State) (c : Cmd) (r : Req) (x : Option Session) : Fate :=
  if r.flags / 4 ≠ 0 ∨ r.status ≠ 0 ∨ r.rsvd ≠ 0 then .refused 2 errorPlain
  else if !c.known then .refused 1 errorPlain
  else match c.permit r x with
    | some e => .refused e.1 e.2
    | none => if s.servedStatus c.served = 0 then .runs else .refused (s.servedStatus c.served) errorPlain

/-- The replies with NO-SESSION that a source address got in the last second (check 4). -/
def State.recentNoSession (s : State) (source : Word) : Nat :=
  (s.gelit.noSession.filter fun e => e.1 == source && decide (s.clk.local_ < e.2 + 1000000000)).length

/-- Commands of a session execute in the order of their arrival (R441), but for `RING.ACYCLIC-ABORT`, whose original of the same
session is still executing when it acts (R464). -/
def Cmd.overtakes (c : Cmd) : Bool := c.op == 0x0505

/-- The first check of R439 that a datagram fails. A module that is SEATED or UNSEATED serves nothing. A half-open session accepts
`SESSION.CONFIRM` only (R448). -/
def State.fate (s : State) (c : Cmd) (r : Req) : Fate :=
  if !s.up || s.mode == .seated || s.mode == .unseated then .ignored
  else if r.udpLen < 36 ∨ 16384 < r.udpLen ∨ r.udpLen ≠ r.length then .drop 1
  else if r.version ≠ 2 ∨ r.flags % 2 = 1 then .drop 2
  else if (r.session == 0) != (c.op == 1) then .drop 3
  else if c.op = 1 then (if r.tag = 0 then s.judge c r none else .drop 5)
  else match s.session r.session with
    | none => if s.recentNoSession r.source < 10 then .noSession else .drop 4
    | some x =>
      if !r.tagOk then .drop 5
      else if !x.isOpen && c.op != 2 then .halfOpen
      else match x.judge r with
        | some f => f
        | none => if x.busy && x.ready != some r.seq && !c.overtakes then .waits else s.judge c r (some x)

/-! ### Execution and reply -/

/-- The ticket of a request. -/
def Req.ticket (r : Req) (c : Cmd) : Ticket := ⟨r.source, r.session, r.seq, r.tenant, c.op⟩

/-- A request accepted under R450; one whose turn has come was accepted before. -/
def Session.take (x : Session) (r : Req) (now : Nat) : Session :=
  if x.ready = some r.seq then { x with ready := none }
  else
    let h := max x.highest r.seq
    { x with
      highest := h, lastAt := now
      accepted := (r.seq :: x.accepted).filter fun n => decide (h < n + 64)
      stored := (⟨r.seq, r.tag, none⟩ :: x.stored).take 16 }

/-- The state that has accepted a request. -/
def State.accept (s : State) (r : Req) : State := s.modSession r.session fun x => x.take r s.clk.local_

/-- The reply to a request under a status. -/
def Req.reply (r : Req) (c : Cmd) (status : Nat) (keyed : Bool) (body : List Byte) : Reply :=
  ⟨r.source, r.session, r.seq, r.tenant, c.op, status, keyed, body⟩

/-- What a command's answer does to the state. -/
def State.answer (s : State) (k : Ticket) (a : Answer) : State :=
  match a with
  | .error e => s.finish k e.1 e.2
  | .ok (.reply t status body) => t.finish k status body
  | .ok (.later t) => t

/-- A session ends after a request with SEQUENCE 16#FFFFFFFF (R449), once it has replied. -/
def State.closeLast (s : State) (no : Nat) : State :=
  match s.session no with
  | some x => if x.highest = 0xFFFFFFFF ∧ ¬ x.busy then s.closeSession no else s
  | none => s

/-- A datagram received (R439): the first check that fails acts, and otherwise the command executes. -/
def State.receive (s : State) (c : Cmd) (v : Brought) (r : Req) (body : State → Ticket → Answer) : State :=
  match s.fate c r with
  | .ignored => s
  | .drop n => s.count (0x5000 + n)
  | .noSession =>
    let s1 := (s.count 0x5004).sendReply (r.reply c 6 false [])
    { s1 with gelit := { s1.gelit with
        noSession := (s1.gelit.noSession.filter fun e => decide (s.clk.local_ < e.2 + 1000000000)) ++ [(r.source, s.clk.local_)] } }
  | .halfOpen => s.sendReply (r.reply c 6 true [])
  | .again (some rep) => s.sendReply { rep with source := r.source }
  | .again none => s.sendReply (r.reply c 0x0E true [])
  | .replayed => s.sendReply (r.reply c 7 true errorPlain)
  | .waits => (s.accept r).modSession r.session fun x => { x with waiting := x.waiting ++ [⟨c.op, r, v⟩] }
  | .refused status b =>
    if c.op = 1 then s.sendReply (r.reply c status false b)
    else ((s.accept r).finish (r.ticket c) status b).closeLast r.session
  | .runs =>
    let s1 := s.accept r
    (s1.answer (r.ticket c) (body s1 (r.ticket c))).closeLast r.session

/-- The first session whose next waiting request has its turn (R441): it, and the state in which it executes. -/
def State.nextWaiting (s : State) : Option (Waiting × State) :=
  s.gelit.sessions.findSome? fun x =>
    match x.waiting with
    | [] => none
    | w :: ws =>
      if (x.stored.any fun d => d.reply.isNone && !x.waiting.any fun w => w.req.seq == d.seq) then none
      else some (w, s.modSession x.no fun x => { x with ready := some w.req.seq, waiting := ws })

/-- UNKNOWN_OPCODE, R442 and R454: a code that no table names. -/
def execUnknownOpcode (r : Req) (op : Nat) (s : State) : Host.Outcome State Fault Refusal :=
  .next (s.receive ⟨op, false, 0, false, .EL, true⟩ .none r fun s _ => ok s [])

end Sys2Proof.Machine
end

