-- ==== Sys2Proof/Machine/Chunks.lean ====
section
/-! DEFINITION. Chunked writes (CHUNK of R454) and their forwarding to the partner (R238, R460, R561). -/
namespace Sys2Proof.Machine

/-- A chunk: OFFSET, SELECT, LAST and DATA. -/
structure Chunk where
  offset : Nat
  select : Nat
  last : Bool
  data : List Byte
  deriving DecidableEq, Repr

/-- The chunk of a payload (R454). -/
def chunkOf (p : List Byte) : Except Refused Chunk := do
  let len := field p 4 2
  need (8 ≤ p.length && p.length == 8 + len) badLength
  need (field p 6 2 % 256 / 2 == 0) (reservedAt 6)
  need (field p 0 4 % 4 == 0) (badParam 0)
  need (len % 4 == 0 && decide (len ≤ 16340)) (badParam 4)
  return ⟨field p 0 4, field p 6 2 / 256, field p 6 2 % 2 == 1, p.drop 8⟩

/-- The bytes that chunks give from offset 0 on, up to the first gap. -/
def assemble (cs : List (Nat × List Byte)) : List Byte :=
  cs.foldl (fun acc c => if c.1 ≤ acc.length then acc.take c.1 ++ c.2 ++ acc.drop (c.1 + c.2.length) else acc) []

/-- A chunk added to what is written: after LAST, or with LAST before every other chunk is there, the state is wrong (R454). -/
def addChunk (cs : List (Nat × List Byte)) (ended : Bool) (c : Chunk) : Except Refused (List (Nat × List Byte)) := do
  need (!ended) wrongState
  need (!c.last || decide (c.offset ≤ (assemble cs).length)) wrongState
  return NMap.set cs c.offset c.data

/-- A chunk added to a writing in progress. -/
def Loading.add (l : Loading) (c : Chunk) : Except Refused Loading := do
  let cs ← addChunk l.chunks l.last c
  return { l with chunks := cs, last := c.last }

/-- A chunk goes on to the partner in the update-transfer class (R238, R340). SELECT: 0 to 7 an update, 16#100 and 16#101 a change's
version and map, 16#200 onwards a tenant's program. -/
def State.forwardChunk (s : State) (select : Nat) (c : Chunk) : State :=
  if s.solo then s else s.send 5 (.chunk select c.offset c.data c.last)

end Sys2Proof.Machine
end

