-- ==== Sys2Proof/Machine/CodeCheck.lean ====
section
/-! DEFINITION. The code check at load (R101, R110, R113 to R116, R133), and what it measures of a program: the worst-case path W and
the largest segment cost G (R77, R117), the longest segment (R120), what a task writes (R72, R330), its part of L (R93) and the edge
numbers (R150). A path never goes back except by NEXT, so every figure is worked out from the end of the code towards its start. -/
namespace Sys2Proof.Machine

/-! ### Instructions of a code region -/

/-- An instruction of a code region: its offset, first word, and extension word where it has one and the region holds it. -/
structure Ins where
  pc : Nat
  op : Nat
  w : BitVec 24
  ext : Option Word
  two : Bool
  deriving DecidableEq, Repr

/-- The words that the instruction takes. -/
def Ins.size (i : Ins) : Nat := if i.two then 2 else 1

/-- The extension word; 0 where there is none. -/
def Ins.e (i : Ins) : Word := (i.ext).getD 0

/-- Does an opcode take an extension word? -/
def twoWords (op : Nat) : Bool := match opInfo op with | some r => r.fmt.words == 2 | none => false

/-- The opcode of a word. -/
def opOf (w : Word) : Nat := w.toNat / 16777216

/-- The instructions of a code region from an offset on. -/
def insFrom : Nat → List Word → List Ins
  | _, [] => []
  | pc, [w] => [⟨pc, opOf w, w.setWidth 24, none, twoWords (opOf w)⟩]
  | pc, w :: e :: ws =>
    if twoWords (opOf w) then ⟨pc, opOf w, w.setWidth 24, some e, true⟩ :: insFrom (pc + 2) ws
    else ⟨pc, opOf w, w.setWidth 24, none, false⟩ :: insFrom (pc + 1) (e :: ws)

/-- TARGET of a jump or call. -/
def Ins.target (i : Ins) : Nat := fld i.w 0 22
/-- EXIT of a loop. -/
def Ins.exit (i : Ins) : Nat := fldE i.e 0 22
/-- MAX of a loop. -/
def Ins.max (i : Ins) : Nat := fld i.w 0 16
/-- JMP, JMPC, JMPCN. -/
def Ins.isJump (i : Ins) : Bool := 0xC1 ≤ i.op && i.op ≤ 0xC3
/-- CALL, CALLC, CALLCN. -/
def Ins.isCall (i : Ins) : Bool := 0xC4 ≤ i.op && i.op ≤ 0xC6
/-- RET, RETC, RETCN. -/
def Ins.isRet (i : Ins) : Bool := 0xC7 ≤ i.op && i.op ≤ 0xC9
/-- FOR, FORW. -/
def Ins.isFor (i : Ins) : Bool := i.op == 0xCA || i.op == 0xCB
/-- The opening opcodes of R105 and BPUSH. -/
def Ins.pushes (i : Ins) : Bool := (0x0C ≤ i.op && i.op ≤ 0x11) || i.op == 0xD0
/-- Execution may go on after the instruction. -/
def Ins.falls (i : Ins) : Bool := !(i.op == 0xC1 || i.op == 0xC7 || i.op == 0xD5 || i.op == 0xCD)

/-- The row of a defined opcode. -/
def Ins.row (i : Ins) : OpInfo := (opInfo i.op).getD (rowN 0 .N 0)
/-- The fields of the instruction. -/
def Ins.form (i : Ins) : Form := formOf i.row i.w i.e
/-- The operands that it uses. -/
def Ins.opnds (i : Ins) : List Opnd := [i.form.o1, i.form.o2].filter fun o => o.words != 0

/-! ### The check of every word -/

/-- The loops that are open at each instruction, innermost first. -/
def nests : List Ins → List Ins → List (Ins × List Ins)
  | _, [] => []
  | open_, i :: is => (i, open_) :: nests (if i.isFor then i :: open_ else if i.op = 0xCC then open_.drop 1 else open_) is

/-- A program under check: its instructions with their loops, and the sizes of the windows in words by area code. -/
structure Prog where
  ins : List (Ins × List Ins)
  words : Nat
  size : Nat → Nat
  agreed : Bool

/-- The instruction at an offset. -/
def Prog.at (p : Prog) (pc : Nat) : Option (Ins × List Ins) := p.ins.find? fun x => x.1.pc == pc

/-- The program of a version. -/
def Version.prog (v : Version) : Prog :=
  { ins := nests [] (insFrom 0 v.code), words := v.code.length, agreed := v.agreedImm == 1
    size := fun a =>
      (if a = 0 then v.sizeI else if a = 1 then v.sizeQ else if a = 2 then v.sizeM else if a = 3 then v.sizeT
       else if a = 4 then v.sizeL else if a = 5 then v.sizeK else 262144) / 4 }

/-- MAX − 1 of the innermost loop, for an indexed operand (R133). -/
def reachOf (loops : List Ins) (o : Opnd) : Nat := if o.indexed then ((loops.head?).map (·.max)).getD 1 - 1 else 0

/-- The code-check result of one instruction (R101), in the order of its codes; 0 where it passes. -/
def Prog.fault (p : Prog) (x : Ins × List Ins) : Nat :=
  let i := x.1
  let loops := x.2
  let there (t : Nat) : Bool := (p.at t).isSome
  let nestOf (t : Nat) : List Nat := ((p.at t).map fun y => y.2.map (·.pc)).getD []
  if (opInfo i.op).isNone then 1
  else if i.two && i.ext.isNone then 8
  else if !i.form.ok || i.opnds.any (fun o => o.area == 7) then 2
  else if (i.isJump || i.isCall) && !there i.target || i.isFor && !there i.exit then 3
  else if !i.opnds.all (fun o => o.areaOk i.row.only) then 4
  else if i.opnds.any (fun o => decide (p.size o.area < o.word + o.words + reachOf loops o)) then 5
  else if (i.op == 0xCC || i.op == 0xCD || i.op == 0xCE || i.opnds.any (·.indexed)) && loops.isEmpty
    || i.isFor && (decide (8 ≤ loops.length)
        || !(match p.at (i.exit - 1) with | some y => y.1.op == 0xCC && (y.2.head?).map (·.pc) == some i.pc | none => false))
    || i.isJump && nestOf i.target != loops.map (·.pc)
    || i.isCall && !(nestOf i.target).isEmpty then 7
  else 0

/-- The first failing word: its offset and code. -/
def Prog.scan (p : Prog) : Option (Nat × Nat) :=
  p.ins.findSome? fun x => let c := p.fault x; if c = 0 then none else some (x.1.pc, c)

/-! ### The stacks on every path -/

/-- A branch stack as the check sees it, newest first: true for an entry of an opening opcode, false for one of BPUSH (R110). -/
abbrev Kinds := List Bool

/-- What a walk through a block knows: the stack at offsets ahead, the stacks at the starts of the open loops, the offsets passed with
their stacks, and the first failure. -/
structure Walk where
  ahead : List (Nat × Kinds)
  loops : List Kinds
  seen : List (Nat × Kinds)
  bad : Option (Nat × Nat)

/-- Execution reaches an offset with a stack: two paths must agree, and the code region must not be left. -/
def Walk.reach (k : Walk) (p : Prog) (src t : Nat) (st : Kinds) : Walk :=
  if k.bad.isSome then k
  else if p.words ≤ t then { k with bad := some (src, 8) }
  else match NMap.get k.ahead t with
    | none => { k with ahead := NMap.set k.ahead t st }
    | some u => if u = st then k else { k with bad := some (t, 7) }

/-- One instruction of a block. `task` says that the block is a task's own, in which RET ends the cycle; `returns` tells the blocks from which
a call comes back. -/
def Walk.step (p : Prog) (returns : Nat → Bool) (task : Bool) (k : Walk) (x : Ins × List Ins) : Walk :=
  let i := x.1
  let fail : Walk := if k.bad.isSome then k else { k with bad := some (i.pc, 7) }
  let here := NMap.get k.ahead i.pc
  let k0 := if i.isFor then { k with loops := (here.getD []) :: k.loops } else k
  let start := (k.loops.head?).getD []
  let k1 := if i.op = 0xCC then { k0 with loops := k0.loops.drop 1 } else k0
  match here with
  | none => k1
  | some st =>
    if k1.bad.isSome then k1
    else
      let k2 := { k1 with seen := k1.seen ++ [(i.pc, st)] }
      let next := i.pc + i.size
      if i.pushes then k2.reach p i.pc next ((i.op != 0xD0) :: st)
      else if i.op = 0xD1 then (if st.isEmpty then fail else k2.reach p i.pc next st)
      else if i.op = 0xD2 then (match st with | false :: r => k2.reach p i.pc next r | _ => fail)
      else if i.op = 0xD3 then (match st with | true :: r => k2.reach p i.pc next r | _ => fail)
      else if i.isFor then
        let k3 := k2.reach p i.pc next st
        if i.op = 0xCB then k3.reach p i.pc i.exit st else k3
      else if i.op = 0xCC then (if st = start then k2.reach p i.pc next st else fail)
      else if i.op = 0xCD then
        (if st = start then k2.reach p i.pc (((x.2.head?).map (·.exit)).getD next) st else fail)
      else if (i.isRet || i.op == 0xD5 || i.op == 0xD6) && !st.isEmpty then fail
      else if i.isRet && !task && !x.2.isEmpty then fail
      else
        let k3 := if i.isJump && decide (i.pc < i.target) then k2.reach p i.pc i.target st else k2
        if i.falls && (i.op != 0xC4 || returns i.target) then k3.reach p i.pc next st else k3

/-- A block walked from its entry: the offsets on its paths with their stacks, or the first failure. -/
def Prog.walk (p : Prog) (returns : Nat → Bool) (task : Bool) (entry : Nat) : Except (Nat × Nat) (List (Nat × Kinds)) :=
  match p.at entry with
  | none => .error (entry, 3)
  | some x =>
    if !x.2.isEmpty then .error (entry, 7)
    else
      let k := p.ins.foldl (Walk.step p returns task) ⟨[(entry, [])], [], [], none⟩
      match k.bad with
      | some e => .error e
      | none => .ok k.seen

/-! ### Costs of paths -/

/-- The larger of two figures that may be absent. -/
def omax : Option Nat → Option Nat → Option Nat
  | none, b => b
  | a, none => a
  | some a, some b => some (max a b)

/-- A sum of figures that may be absent. -/
def oadd : Option Nat → Option Nat → Option Nat
  | some a, some b => some (a + b)
  | _, _ => none

/-- The most of a measure over the paths of a stretch: without a segment boundary, up to the first boundary and including it, after the
last, and from one boundary to the next. -/
structure Span where
  full : Option Nat
  lead : Option Nat
  trail : Option Nat
  inner : Option Nat
  deriving DecidableEq, Repr

/-- A stretch of nothing. -/
def Span.nil : Span := ⟨some 0, none, none, none⟩
/-- One instruction, a boundary or not. -/
def Span.one (n : Nat) (boundary : Bool) : Span := if boundary then ⟨none, some n, some 0, none⟩ else ⟨some n, none, none, none⟩
/-- One stretch after another. -/
def Span.seq (a b : Span) : Span :=
  ⟨oadd a.full b.full, omax a.lead (oadd a.full b.lead), omax b.trail (oadd a.trail b.full),
   omax (omax a.inner b.inner) (oadd a.trail b.lead)⟩
/-- One stretch or the other. -/
def Span.alt (a b : Span) : Span := ⟨omax a.full b.full, omax a.lead b.lead, omax a.trail b.trail, omax a.inner b.inner⟩
/-- A stretch `k` times. -/
def Span.rep (a : Span) (k : Nat) : Span :=
  if k = 0 then .nil
  else
    let f (n : Nat) : Option Nat := if n = 0 then some 0 else a.full.map (· * n)
    ⟨f k, omax a.lead (oadd (f (k - 1)) a.lead), omax a.trail (oadd a.trail (f (k - 1))),
     if k = 1 then a.inner else omax a.inner (omax (oadd a.trail a.lead) (oadd (oadd a.trail (f (k - 2))) a.lead))⟩
/-- The longest segment of a stretch that begins and ends at a boundary. -/
def Span.most (a : Span) : Nat := ((omax (omax a.full a.lead) (omax a.trail a.inner))).getD 0

/-- A set of paths: their greatest cost, and the spans of cost and of instruction count. -/
structure Path where
  total : Nat
  cost : Span
  count : Span
  deriving DecidableEq, Repr

/-- A path of nothing. -/
def Path.nil : Path := ⟨0, .nil, .nil⟩
/-- One after the other. -/
def Path.seq (a b : Path) : Path := ⟨a.total + b.total, a.cost.seq b.cost, a.count.seq b.count⟩
/-- A set repeated. -/
def Path.rep (a : Path) (k : Nat) : Path := ⟨a.total * k, a.cost.rep k, a.count.rep k⟩

/-- Either of two sets of paths. -/
def palt : Option Path → Option Path → Option Path
  | none, b => b
  | a, none => a
  | some a, some b => some ⟨max a.total b.total, a.cost.alt b.cost, a.count.alt b.count⟩

/-- One set after another. -/
def pseq (a b : Option Path) : Option Path := match a, b with | some a, some b => some (a.seq b) | _, _ => none

/-- The paths from an offset: to the end of the loop body it stands in, to a LEAVE, to an END, to a RET. -/
structure Outs where
  fall : Option Path
  leave : Option Path
  stop : Option Path
  ret : Option Path
  deriving DecidableEq, Repr

/-- No path. -/
def Outs.none : Outs := ⟨Option.none, Option.none, Option.none, Option.none⟩
/-- Either of two. -/
def Outs.alt (a b : Outs) : Outs := ⟨palt a.fall b.fall, palt a.leave b.leave, palt a.stop b.stop, palt a.ret b.ret⟩
/-- After a stretch. -/
def Outs.after (a : Option Path) (b : Outs) : Outs := ⟨pseq a b.fall, pseq a b.leave, pseq a b.stop, pseq a b.ret⟩
/-- Where control goes from an offset. -/
def outAt (m : List (Nat × Outs)) (pc : Nat) : Outs := (NMap.get m pc).getD .none

/-- The cost of an instruction in W and G (R77, R103). -/
def Ins.cost (i : Ins) (agreed : Bool) : Nat := costOf i.row agreed i.w i.e + allowanceOf i.row i.w i.e

/-- The paths of a code region worked out from its end: what is known of each offset, with the enclosing loops' knowledge below. -/
def Prog.back (p : Prog) (callee : Nat → Outs) (st : List (List (Nat × Outs))) (x : Ins × List Ins) : List (List (Nat × Outs)) :=
  let i := x.1
  let own : Path := ⟨i.cost p.agreed, .one (i.cost p.agreed) (i.op == 0xD4), .one 1 (i.op == 0xD4)⟩
  let ending : Path := ⟨i.cost p.agreed, .one (i.cost p.agreed) true, .one 1 true⟩
  match st with
  | [] => []
  | m :: up =>
    let next := outAt m (i.pc + i.size)
    let put (o : Outs) : List (List (Nat × Outs)) := ((i.pc, o) :: m) :: up
    if i.op = 0xCC then [(i.pc, { Outs.none with fall := some own })] :: m :: up
    else if i.isFor then
      match up with
      | [] => put .none
      | outer :: rest =>
        let b := next
        let e := outAt outer i.exit
        let rep (k : Nat) : Option Path := if k = 0 then some .nil else b.fall.map fun f => f.rep k
        let some_ (k : Nat) : Option Path := palt (some .nil) (rep k)
        let leave := pseq (some_ (i.max - 1)) b.leave
        let through := palt (palt (rep i.max) leave) (if i.op = 0xCB then some .nil else none)
        let inside : Outs :=
          { fall := none, leave := none, stop := pseq (some_ (i.max - 1)) b.stop, ret := pseq (some_ (i.max - 1)) b.ret }
        let o := Outs.after (some own) ((Outs.after through e).alt inside)
        ((i.pc, o) :: outer) :: rest
    else if i.op = 0xCD then put { Outs.none with leave := some own }
    else if i.op = 0xD5 then put { Outs.none with stop := some ending }
    else if i.op = 0xD6 then put ((Outs.after (some own) next).alt { Outs.none with stop := some ending })
    else if i.isRet then
      put ((if i.op = 0xC7 then .none else Outs.after (some own) next).alt { Outs.none with ret := some own })
    else if i.isJump then
      let t := if i.pc < i.target then outAt m i.target else .none
      put (Outs.after (some own) (if i.op = 0xC1 then t else t.alt next))
    else if i.isCall then
      let c := callee i.target
      let on := (Outs.after c.ret next).alt { Outs.none with stop := c.stop }
      put (Outs.after (some own) (if i.op = 0xC4 then on else on.alt next))
    else put (Outs.after (some own) next)

/-- The paths from every offset outside loops, with calls taken as `callee` gives them. -/
def Prog.outs (p : Prog) (callee : Nat → Outs) : List (Nat × Outs) := ((p.ins.reverse.foldl (p.back callee) [[]]).head?).getD []

/-- The paths with calls to a depth (R78, R114). -/
def Prog.outsTo (p : Prog) : Nat → List (Nat × Outs)
  | 0 => p.outs fun _ => .none
  | n + 1 => let below := p.outsTo n; p.outs fun t => outAt below t

/-! ### Blocks and what they reach -/

/-- What a block and the blocks it calls do: the offsets on their paths, the deepest branch stack and loop nest, how deep they call,
whether an END lies on a path, and whether a jump goes back. -/
structure Block where
  pcs : List Nat
  depth : Nat
  loops : Nat
  calls : Nat
  ends : Bool
  back : Bool
  deriving DecidableEq, Repr

/-- A block with the blocks it calls, to a depth of calls; the first failure of R101 on its paths. `calls` beyond the depth stands
for calls that are too deep or form a cycle. -/
def Prog.block (p : Prog) (returns : Nat → Bool) : Nat → Bool → Nat → Except (Nat × Nat) Block
  | fuel, task, entry => do
    let seen ← p.walk returns task entry
    let init : Block :=
      { pcs := seen.map (·.1), depth := (seen.map fun e => e.2.length + (match p.at e.1 with | some x => if x.1.pushes then 1 else 0 | none => 0)).foldl max 0
        loops := 0, calls := 0, ends := false, back := false }
    seen.foldlM (fun (b : Block) e =>
      match p.at e.1 with
      | none => .ok b
      | some (i, loops) =>
        if i.isFor then .ok { b with loops := max b.loops (loops.length + 1) }
        else if i.op == 0xD5 || i.op == 0xD6 then .ok { b with ends := true }
        else if i.isJump && decide (i.target ≤ i.pc) then .ok { b with back := true }
        else if i.isCall then
          match fuel with
          | 0 => .ok { b with calls := 17 }
          | n + 1 => do
            let c ← p.block returns n false i.target
            if 8 < loops.length + c.loops ∨ (c.ends ∧ ¬ e.2.isEmpty) then .error (i.pc, 7)
            else
              .ok { pcs := (b.pcs ++ c.pcs).eraseDups, depth := max b.depth (e.2.length + c.depth)
                    loops := max b.loops (loops.length + c.loops), calls := max b.calls (c.calls + 1), ends := b.ends || c.ends
                    back := b.back || c.back }
        else .ok b) init

/-- The figures of a task (R77, R93, R330): W, G, the instructions of its longest segment, the words it can write as area and word,
the Q words it writes by IMMEDIATE-OUT, the bytes of L it reaches, and whether its path can be bounded (R78). -/
structure Figures where
  w : Nat
  g : Nat
  longest : Nat
  writes : List (Nat × Nat)
  imms : List Nat
  lBytes : Nat
  bounded : Bool
  deriving DecidableEq, Repr

/-- The words that an operand's instruction can write (R330). -/
def Prog.written (p : Prog) (pc : Nat) : List (Nat × Nat) :=
  match p.at pc with
  | some (i, loops) =>
    (i.opnds.filter (·.writes)).flatMap fun o => (List.range (o.words + reachOf loops o)).map fun k => (o.area, o.word + k)
  | none => []

/-- The bytes of L that an instruction reaches (R93). -/
def Prog.lReach (p : Prog) (pc : Nat) : Nat :=
  match p.at pc with
  | some (i, loops) =>
    (i.opnds.map fun o =>
      if o.area = 4 then (if o.isBit then o.index / 8 + 1 else 4 * (o.word + o.words + reachOf loops o)) else 0).foldl max 0
  | none => 0

/-- The figures of a task from its block and its paths. -/
def Prog.figures (p : Prog) (outs : List (Nat × Outs)) (b : Block) (entry : Nat) : Figures :=
  let o := outAt outs entry
  let ends := palt o.stop o.ret
  { w := ((ends.map (·.total)).getD 0) + 100
    g := (ends.map (·.cost.most)).getD 0
    longest := (ends.map (·.count.most)).getD 0
    writes := (b.pcs.flatMap p.written).eraseDups
    imms := ((b.pcs.filter fun pc => match p.at pc with | some x => x.1.op == 0xDB || x.1.op == 0xDC | none => false).flatMap
      fun pc => (p.written pc).map (·.2)).eraseDups
    lBytes := (b.pcs.map p.lReach).foldl max 0
    bounded := !b.back && decide (b.calls ≤ 16) && decide (b.depth ≤ 32) }

/-- The longest segment that opens at an offset: a task's entry, or a SEGMENT (R120). -/
def opensLong (outs : List (Nat × Outs)) (entry pc : Nat) : Bool :=
  let o := outAt outs (if pc = entry then pc else pc + 1)
  decide (1024 < ((palt (palt o.stop o.ret) o.fall).map fun q => (omax q.count.full q.count.lead).getD 0).getD 0)

/-- The result of the code check: the first failing word, in itself or on a path, with its code, or the figures of each task in the order of
the table. -/
def Version.check (v : Version) : Except (Nat × Nat) (List (Nat × Figures)) := do
  let p := v.prog
  let outs := p.outsTo 16
  let entries := v.tasks.map fun t => (t.1, t.2.entry)
  let results := entries.map fun e => (e, p.block (fun t => (outAt outs t).ret.isSome) 17 true e.2)
  match p.scan.toList ++ results.filterMap fun r => match r.2 with | .error e => some e | .ok _ => none with
  | e :: es => .error (es.foldl (fun a b => if b.1 < a.1 then b else a) e)
  | [] => .ok ()
  let figs := results.filterMap fun r => match r.2 with | .ok b => some (r.1, b, p.figures outs b r.1.2) | .error _ => none
  let tooLong := figs.filter fun f => decide (1024 < f.2.2.longest) && f.2.2.bounded
  match tooLong.flatMap fun f =>
      (f.1.2 :: f.2.1.pcs.filter fun pc => match p.at pc with | some x => x.1.op == 0xD4 | none => false).filter (opensLong outs f.1.2) with
  | pc :: pcs => .error (pcs.foldl min pc, 6)
  | [] => if tooLong.isEmpty then .ok () else .error ((tooLong.map (·.1.2)).foldl min ((tooLong.head?.map (·.1.2)).getD 0), 6)
  return figs.map fun f => (f.1.1, f.2.2)

/-- Bytes of the edge area (R150): for the highest edge number of the code, in whole granules; none without an edge instruction. -/
def Version.edgeBytes (v : Version) : Nat :=
  match ((insFrom 0 v.code).filter fun i => i.row.fmt == .E).map fun i => fld i.w 0 16 with
  | [] => 0
  | k :: ks => ((ks.foldl max k + 8) / 8 + 255) / 256 * 256

end Sys2Proof.Machine
end

