-- ==== Sys2Proof/Machine/Loader.lean ====
section
/-! DEFINITION. The loader: what it refuses before admission (R58, R62, R167, R168, R217, R219, R225, R583), where it places a
version (R58, R150, R236, R330), admission (R80 to R87, R293, R623), and the load reply (R461). All instants are in ns. -/
namespace Sys2Proof.Machine

/-! ### What is refused with BAD-PARAM -/

/-- The units that a version references (R3, R241, R256): those of its mapped signals, and the ports of its rings. -/
def Version.units (v : Version) : List Nat :=
  ((v.ioMap.flatMap fun (b : IoBind) =>
      if sigSpace b.signal = 0 then [0x10 + 2 * sigRing b.signal, 0x11 + 2 * sigRing b.signal] else [sigSlot b.signal])
    ++ v.tasks.flatMap fun (t : Nat × TaskAttr) => t.2.snap.flatMap fun (m : SnapMod) => [0x10 + 2 * m.ring, 0x11 + 2 * m.ring]).eraseDups

/-- A window size of R58. -/
def windowOk (n : Nat) : Bool := n % 256 == 0 && decide (n ≤ 262144)

/-- T of R80 in µs. -/
def TaskAttr.period (a : TaskAttr) : Nat := if a.taskClass = 3 then a.minInterval else a.cycle

/-- No attribute of the task is reserved or outside its limits, CYCLE, MIN_INTERVAL and EVENT_DEADLINE apart (R62, R583). -/
def TaskAttr.ok (a : TaskAttr) : Bool :=
  decide (a.taskClass ≤ 3) && decide (a.consistency ≤ 1) && !(a.consistency == 1 && decide (a.taskClass < 2))
    && (a.taskClass != 3 || (decide (1 ≤ a.sources.length) && decide (a.sources.length ≤ 4) && a.sources.all fun n => decide (n ≤ 1023)))
    && decide (a.band ≤ 3) && (decide (a.pin ≤ 15) || a.pin == 255) && decide (a.policy ≤ 1)
    && (a.wdPeriod == 0 || (decide (2 * a.period ≤ a.wdPeriod) && decide (a.wdPeriod ≤ 60000000) && a.wdPeriod % 50 == 0))

/-- The forecast table names words of the I window with codes that are not reserved (R167, R168). -/
def Version.forecastOk (v : Version) : Bool :=
  decide (v.forecast.length ≤ (v.sizeI / 4 + 7) / 8) && v.forecast.all fun w => (List.range 8).all fun k => decide (fldE w (4 * k) 4 ≤ 3)

/-- The word that a binding names lies in its window. -/
def Version.bindOk (v : Version) (b : IoBind) : Bool := decide (4 * b.word < if b.output then v.sizeQ else v.sizeI)

/-- A version that is not refused before its code check. -/
def Version.attrsOk (v : Version) : Bool :=
  [v.sizeI, v.sizeQ, v.sizeM, v.sizeT, v.sizeL, v.sizeK].all windowOk && decide (4 * v.konst.length ≤ v.sizeK)
    && (v.tasks.all fun t => t.2.ok) && v.forecastOk && decide (v.agreedImm ≤ 1)
    && v.faultFrame % 16 == 0 && decide (4 * (v.faultFrame + 16) ≤ v.sizeM)
    && decide (v.safe.length ≤ 4096) && (v.safe.all fun e => decide (4 * e.word < v.sizeQ)) && v.ioMap.all v.bindOk

/-- CYCLE, MIN_INTERVAL and EVENT_DEADLINE in their ranges and steps (R62). -/
def TaskAttr.cycleOk (a : TaskAttr) : Bool :=
  let within (n lo hi : Nat) : Bool := decide (lo ≤ n) && decide (n ≤ hi) && n % 50 == 0
  match a.taskClass with
  | 0 => within a.cycle 250 2000
  | 1 => within a.cycle 2000 100000
  | 2 => within a.cycle 100000 10000000
  | _ => within a.minInterval 250 10000000 && within a.deadline 100 a.minInterval

/-! ### The load reply -/

/-- What a failing check reports (R461): its kind, code, offset, and the figures of the task that it names. -/
structure LoadFail where
  kind : Nat
  code : Nat
  offset : Nat
  task : Nat
  w : Nat
  g : Nat
  c : Nat
  d : Int
  rt : Nat
  util : Nat
  deriving DecidableEq, Repr

/-- A failure that names no task. -/
def failPlain (code : Nat) : LoadFail := ⟨0, code, 0, 0xFFFF, 0, 0, 0, 0, 0, 0⟩

/-- The 44 bytes of the load reply (R461). -/
def loadReply (f : LoadFail) (edge shared : Nat) : List Byte :=
  be 1 f.kind ++ be 1 f.code ++ be 2 0 ++ be 4 f.offset ++ be 2 f.task ++ be 2 0 ++ be 4 (sat32 f.w) ++ be 4 (sat32 f.g)
    ++ be 4 (sat32 f.c) ++ be 4 (sat32 f.d.toNat) ++ be 4 (sat32 f.rt) ++ be 2 (min f.util 65535) ++ be 2 0
    ++ be 4 edge ++ be 2 (min shared 65535) ++ be 2 0

/-- The refusal of a load. -/
def LoadFail.refusal (f : LoadFail) : Refused := (5, loadReply f 0 0)

/-! ### Strands, R80 to R83 -/

/-- A task as a strand carries it: number, band of R64, W, G, C, T and D. -/
structure Load where
  no : Nat
  band : Nat
  w : Nat
  g : Nat
  c : Nat
  t : Nat
  d : Int
  deriving DecidableEq, Repr

/-- The figures of a task (R80), its sweep in ns. -/
def loadOf (no : Nat) (a : TaskAttr) (w g sweep : Nat) : Load :=
  let t := a.period * 1000
  { no := no, w := w, g := g, c := 5 * w, t := t
    band := if a.taskClass = 0 then 2 else if a.taskClass = 1 then 4 else if a.taskClass = 2 then 6 else 2 * a.band + 1
    d := if a.taskClass = 3 then (a.deadline * 1000 : Nat) - (40000 : Int) else (t : Int) - sweep - 40000 }

/-- The priority order of R64. -/
def Load.before (a b : Load) : Bool :=
  decide (a.band < b.band) || (a.band == b.band && (decide (a.d < b.d) || (a.d == b.d && decide (a.no < b.no))))

/-- A task put in its place among others in priority order. -/
def putLoad : List Load → Load → List Load
  | [], x => [x]
  | y :: ys, x => if x.before y then x :: y :: ys else y :: putLoad ys x

/-- Tasks in priority order. -/
def byPriority (ls : List Load) : List Load := ls.foldl putLoad []

/-- The summed utilisation as a fraction. -/
def utilisation (ls : List Load) : Nat × Nat :=
  ls.foldl (fun u x => (u.1 * x.t + x.c * u.2, u.2 * max x.t 1)) (0, 1)

/-- It in units of 0.01 %, rounded up (R461). -/
def util100 (ls : List Load) : Nat := let u := utilisation ls; (10000 * u.1 + u.2 - 1) / u.2

/-- A smaller utilisation. -/
def lessUsed (a b : List Load) : Bool :=
  let x := utilisation a
  let y := utilisation b
  decide (x.1 * y.2 < y.1 * x.2)

/-- The repetition of condition 3: the value at which it stops, and whether it stops at a response within D. -/
def response (base : Nat) (d : Int) (higher : List Load) : Nat → Nat → Nat × Bool
  | 0, rt => (rt, false)
  | k + 1, rt =>
    if d < rt then (rt, false)
    else
      let next := base + (higher.map fun j => (rt + j.t - 1) / max j.t 1 * j.c).sum
      if next = rt then (rt, true) else response base d higher k next

/-- The response of a task among the tasks of its strand. -/
def respOf (ls : List Load) (x : Load) : Nat × Bool :=
  let b := ((ls.filter fun y => x.before y).map fun y => 5 * y.g).foldl max 0
  response (b + x.c) x.d (ls.filter fun y => y.before x) (x.d.toNat / 500 + 2) (b + x.c)

/-- A failure that names a task with its figures on a strand. -/
def failOn (code : Nat) (ls : List Load) (x : Load) : LoadFail :=
  ⟨0, code, 0, x.no, x.w, x.g, x.c, x.d, (respOf ls x).1, util100 ls⟩

/-- A failure that names a task before any strand is tried. -/
def failTask (code : Nat) (x : Load) : LoadFail := ⟨0, code, 0, x.no, x.w, x.g, x.c, x.d, 0, 0⟩

/-- The three passes of R623 over the tasks of a strand; condition 2 names `added`. -/
def judgeStrand (ls : List Load) (added : Load) : Option LoadFail :=
  let order := byPriority ls
  match order.find? fun x => decide (x.d < x.c) with
  | some x => some (failOn 3 ls x)
  | none =>
    let u := utilisation ls
    if 17 * u.2 < 20 * u.1 then some (failOn 4 ls added)
    else match order.find? fun x => !(respOf ls x).2 with
      | some x => some (failOn 5 ls x)
      | none => none

/-- Strands in ascending order of summed utilisation, lower numbers first. -/
def byUse : List (Nat × List Load) → List (Nat × List Load)
  | [] => []
  | x :: xs =>
    let rest := byUse xs
    (rest.takeWhile fun y => lessUsed y.2 x.2) ++ [x] ++ rest.dropWhile fun y => lessUsed y.2 x.2

/-- A task to be assigned: its figures, and the strand that it is bound to. -/
structure Seat where
  load : Load
  strand : Option Nat
  deriving DecidableEq, Repr

/-- R83 for one task: the strands with the task added, and its strand. -/
def assignOne (strands : List (Nat × List Load)) (usable : Nat → Bool) (x : Seat) :
    Except LoadFail (List (Nat × List Load) × Nat) :=
  let put (k : Nat) : List (Nat × List Load) := NMap.mod strands k fun l => l ++ [x.load]
  let on (k : Nat) : List Load := (NMap.get strands k).getD [] ++ [x.load]
  match x.strand with
  | some k => match judgeStrand (on k) x.load with | some f => .error f | none => .ok (put k, k)
  | none =>
    if x.load.d < x.load.c then .error (failTask 3 x.load)
    else
      let order := byUse (strands.filter fun e => usable e.1)
      match order.find? fun e => (judgeStrand (on e.1) x.load).isNone with
      | some e => .ok (put e.1, e.1)
      | none => .error (match order with | e :: _ => failOn 6 (on e.1) x.load | [] => failTask 6 x.load)

/-- R83 for tasks in ascending number: their strands in that order. -/
def assignAll (usable : Nat → Bool) : List (Nat × List Load) → List Seat → Except LoadFail (List (Nat × List Load) × List Nat)
  | strands, [] => .ok (strands, [])
  | strands, x :: xs => do
    let r ← assignOne strands usable x
    let rest ← assignAll usable r.1 xs
    return (rest.1, r.2 :: rest.2)

/-! ### Placement -/

/-- Bytes that a version takes of the program store, on whole granules. -/
def Version.storeBytes (v : Version) : Nat :=
  let g (n : Nat) : Nat := (n + 255) / 256 * 256
  g (4 * v.code.length) + g v.sizeK + g (4 * v.forecast.length) + g (12 * v.safe.length)

/-- The versions that the module holds, with their windows and image: those of the tenants, that of a change, and those that have been
admitted and wait for the partner's check (R59, R84). -/
def State.held (s : State) : List (Version × Windows × Nat) :=
  ((s.tenants.filter fun e => e.1 != lanternTenant).filterMap fun e => e.2.version.map fun v => (v, e.2.win, e.2.image))
    ++ (match s.change.version with | some v => [(v, s.change.win, s.change.image)] | none => [])
    ++ (s.checks.filter fun w => w.fail.isNone).map fun w => (w.version, w.admitted.win, w.admitted.image)

/-- Room for a version in a program image of 16 MiB. -/
def State.imageRoom (s : State) (image : Nat) (v : Version) : Bool :=
  decide (((s.held.filter fun h => h.2.2 == image).map fun h => h.1.storeBytes).sum + v.storeBytes ≤ 16777216)

/-- The lowest place for `n` bytes from `lo` below `hi` that meets no range taken. -/
def placeBytes (taken : List (Nat × Nat)) (lo hi n : Nat) : Option Nat :=
  let free (a : Nat) : Bool := decide (lo ≤ a) && decide (a + n ≤ hi) && taken.all fun r => decide (a + n ≤ r.1) || decide (r.1 + r.2 ≤ a)
  if n = 0 then some lo
  else
    let cs := (lo :: taken.map fun r => r.1 + r.2).filter free
    match cs with | [] => none | c :: cs => some (cs.foldl min c)

/-- The windows of a version in a bank's window region: Q, M with the edge area after it, T and L, each at its lowest place. -/
def placeWindows (taken : List (Nat × Nat)) (bank : Nat) (v : Version) : Option Windows := do
  let lo := bank * bankBytes + 786432
  let hi := (bank + 1) * bankBytes
  let e := v.edgeBytes
  let q ← placeBytes taken lo hi v.sizeQ
  let t1 := (q, v.sizeQ) :: taken
  let m ← placeBytes t1 lo hi (v.sizeM + e)
  let t2 := (m, v.sizeM + e) :: t1
  let t ← placeBytes t2 lo hi v.sizeT
  let l ← placeBytes ((t, v.sizeT) :: t2) lo hi v.sizeL
  return ⟨bank, q, m, m + v.sizeM, e, t, l⟩

/-- WR_i × (K_t + 1) of a version's tasks summed (R330). -/
def Version.logNeed (v : Version) : Nat :=
  match v.check with
  | .ok fs => (fs.map fun f => f.2.writes.length).sum * (v.tasks.length + 1)
  | .error _ => 0

/-- Bytes of a task's part of L (R93). -/
def Figures.lPart (f : Figures) : Nat := (f.lBytes + 63) / 64 * 64

/-- The windows of a version in the lowest bank that meets R58, and the image that has room for it. -/
def State.place (s : State) (v : Version) (figs : List (Nat × Figures)) (images : List Nat) : Option (Windows × Nat) := do
  let taken := s.held.flatMap fun h => windowRanges h.2.1 h.1
  let image ← images.find? fun i => s.imageRoom i v
  let bank (b : Nat) : Option Windows :=
    if ((s.held.filter fun h => h.2.1.bank == b).map fun h => h.1.logNeed).sum + v.logNeed ≤ 32768 then placeWindows taken b v else none
  let win ← (List.range 8).findSome? bank
  if v.sizeM + v.edgeBytes ≤ 262144 ∧ (figs.map fun f => f.2.lPart).sum ≤ v.sizeL then return (win, image) else none

/-! ### Rings -/

/-- The station output modules whose Q words a task can write. -/
def Version.taskOuts (v : Version) (f : Figures) : List SnapMod :=
  ((v.ioMap.filter fun b => b.output && sigSpace b.signal == 0 && f.writes.contains (1, b.word)).map fun b =>
    (⟨sigRing b.signal, sigStation b.signal, sigSlot b.signal⟩ : SnapMod)).eraseDups

/-- Bits of a signal of a width code. -/
def widthBits (w : Nat) : Nat := if w = 0 then 1 else if w = 1 then 16 else 32

/-- The station table's entry of a module. -/
def State.stationMod (s : State) (m : SnapMod) : Option StationMod :=
  (((s.ring m.ring).table[m.station]?).map (·.mods)).bind fun l => l.find? fun x => x.slot == m.slot

/-- Every module that the map and the snapshots name is configured, and every signal lies in its block (R86, R625). -/
def State.mapConfigured (s : State) (v : Version) : Bool :=
  (v.ioMap.all fun b =>
    sigSpace b.signal != 0 ||
      match s.stationMod ⟨sigRing b.signal, sigStation b.signal, sigSlot b.signal⟩ with
      | some x => decide (b.pos + widthBits b.width ≤ 8 * (if b.output then x.outBytes else x.inBytes))
      | none => false)
    && v.tasks.all fun t => t.2.snap.all fun m => (s.stationMod m).isSome

/-! ### Admission -/

/-- A task of the version under admission: its position, number, attributes, figures, and the strand that it keeps. -/
structure Cand where
  pos : Nat
  no : Nat
  attr : TaskAttr
  fig : Figures
  keeps : Option Nat

/-- The lowest numbers that are free, one for each position in order; a kept task keeps its own (R61, R237). -/
def numberTasks (used : List Nat) (kept : List (Nat × Nat)) : List Nat → List (Nat × Nat)
  | [] => []
  | p :: ps =>
    match NMap.get kept p with
    | some n => (p, n) :: numberTasks used kept ps
    | none =>
      let n := firstFree used 2048 0
      (p, n) :: numberTasks (n :: used) kept ps

/-- A task put in its place by number. -/
def putCand : List Cand → Cand → List Cand
  | [], x => [x]
  | y :: ys, x => if x.no < y.no then x :: y :: ys else y :: putCand ys x

/-- The signals in a task's snapshot (R86). -/
def Version.fastSignals (v : Version) (a : TaskAttr) : List Word :=
  if a.taskClass = 0 then
    (v.ioMap.filter fun (b : IoBind) => !b.output && (sigSpace b.signal != 0
      || a.snap.contains ⟨sigRing b.signal, sigStation b.signal, sigSlot b.signal⟩)).map (·.signal)
  else []

/-- The loads of other tenants that have been admitted and wait for the partner's check: their tasks count (R61, R82, R84). -/
def State.waitingLoads (s : State) (tenant : Nat) : List CheckWait :=
  s.checks.filter fun w => w.kind == 0 && w.tenant != tenant && w.fail.isNone

/-- The tasks of other tenants, without the lantern task: those that are loaded, and those of loads that wait. -/
def State.otherTasks (s : State) (tenant : Nat) : List Task :=
  ((s.tasks.map (·.2)).filter fun t => t.tenant != tenant && t.no != lanternTask) ++ (s.waitingLoads tenant).flatMap (·.admitted.tasks)

/-- The change of another tenant that has been checked, here or by the owner alone so far: its tenant, its new version, and its tasks by
position (R237, R240). -/
def State.otherChange (s : State) (tenant : Nat) : Option (Nat × Version × List (Nat × Task)) :=
  match s.change.version with
  | some v => if 2 ≤ s.change.state ∧ s.change.state ≤ 4 ∧ s.change.tenant ≠ tenant then some (s.change.tenant, v, s.change.plan) else none
  | none => (s.checks.find? fun w => w.kind == 1 && w.tenant != tenant && w.fail.isNone).map fun w =>
      (w.tenant, w.version, w.admitted.tasks.map fun t => (t.pos, t))

/-- A task that a change of another tenant replaces counts with the worse of its figures, and one that it adds counts too (R82, R240). -/
def Load.worse (a b : Load) : Load :=
  { a with band := min a.band b.band, w := max a.w b.w, g := max a.g b.g, c := max a.c b.c, t := min a.t b.t, d := min a.d b.d }

/-- The loads of a tenant's old tasks beside those of its new version (R240, step 3): kept, removed and added, each on its strand. -/
def transitionLoads (old new : List (Nat × Task)) (sweepOf : Task → Nat) : List (Nat × Load) :=
  let ld (t : Task) : Load := loadOf t.no t.attr t.w t.g (sweepOf t)
  (old.map fun e => match NMap.get new e.1 with
      | some n => (e.2.strand, (ld e.2).worse (ld n))
      | none => (e.2.strand, ld e.2))
    ++ (new.filter fun e => (NMap.get old e.1).isNone).map fun e => (e.2.strand, ld e.2)

/-- The loads of the tasks outside a tenant, with their strands; a tenant in a change that has been checked counts with both versions. -/
def State.otherLoads (s : State) (tenant : Nat) (sweepOf : Task → Nat) : List (Nat × Load) :=
  let others := s.otherTasks tenant
  let change := s.otherChange tenant
  let (own, rest) := others.partition fun t => (change.map (·.1)) == some t.tenant
  (rest.map fun t => (t.strand, loadOf t.no t.attr t.w t.g (sweepOf t)))
    ++ (match change with | some c => transitionLoads (own.map fun t => (t.pos, t)) c.2.2 sweepOf | none => [])

/-- Tasks bound to a source (R69). -/
def boundTo (ts : List TaskAttr) (source : Nat) : Nat := (ts.filter fun a => a.taskClass == 3 && a.sources.contains source).length

/-- The tasks that a change of another tenant adds: they hold numbers and bind sources. -/
def State.plannedTasks (s : State) (tenant : Nat) : List Task :=
  match s.otherChange tenant with
  | some c => (c.2.2.map (·.2)).filter fun t => !(s.otherTasks tenant).any fun u => u.no == t.no
  | none => []

/-- The version of a task that counts beside a tenant's: the one its tenant runs, or the one that waits. -/
def State.versionBeside (s : State) (tenant : Nat) (t : Task) : Option Version :=
  match (s.waitingLoads tenant).find? fun w => w.tenant == t.tenant with
  | some w => some w.version
  | none => (s.tenant t.tenant).version

/-- The stations, by ring and position, to which each task of a version sends immediates (R284). -/
def Version.immStations (v : Version) (figs : List (Nat × Figures)) : List (List (Nat × Nat)) :=
  figs.map fun f =>
    ((v.ioMap.filter fun b => b.output && sigSpace b.signal == 0 && f.2.imms.contains b.word).map fun b =>
      (sigRing b.signal, sigStation b.signal)).eraseDups

/-- No station gets immediates from more than 16 tasks (R284). -/
def immLimit (tasks : List (List (Nat × Nat))) : Bool :=
  (tasks.flatten.eraseDups).all fun k => decide ((tasks.filter fun t => t.contains k).length ≤ 16)

/-- The versions of other tenants that the module holds. -/
def State.otherVersions (s : State) (tenant : Nat) : List Version :=
  ((s.tenants.filter fun e => e.1 != tenant && e.1 != lanternTenant).filterMap (·.2.version))
    ++ (s.waitingLoads tenant).map (·.version) ++ (match s.otherChange tenant with | some c => [c.2.1] | none => [])

/-- The I/O signals that the versions map, of which a pair has no more than its variant allows (R2, R26); a load beyond it is refused as one
that the rings cannot serve (DESIGN CHOICE: the spec names no result for it; log 106). -/
def State.signalsFit (s : State) (tenant : Nat) (v : Version) : Bool :=
  decide ((((v :: s.otherVersions tenant).flatMap fun o => o.ioMap.map (·.signal)).eraseDups).length ≤ Config.signals s.ident.variant)

/-- The larger sweep of each task in two schedules. -/
def worseSweeps (a b : List (Nat × Nat)) : List (Nat × Nat) :=
  b.foldl (fun m e => NMap.set m e.1 (max e.2 ((NMap.get m e.1).getD 0))) a

/-- The ring schedule with the tasks of a version under admission (R86, R293), as the other tenants run now and, where one of them is in
a change that has been checked, as they will run after its switch. -/
def State.sweepsBeside (s : State) (tenant : Nat) (v : Version) (own : List SchedTask) : Option (List (Nat × Nat)) :=
  let others := s.otherTasks tenant
  let mods (vs : List Version) : List SnapMod := ((v :: vs).flatMap (·.outputMods)).eraseDups
  let sched (ts : List Task) : List SchedTask := ts.map fun t => schedOf t.no t.attr t.outs
  let held := ((s.tenants.filter fun e => e.1 != tenant && e.1 != lanternTenant).filterMap fun e => e.2.version.map fun o => (e.1, o))
    ++ (s.waitingLoads tenant).map fun w => (w.tenant, w.version)
  match s.sweepsFor (sched others ++ own) (mods (held.map (·.2))) with
  | none => none
  | some a =>
    match s.otherChange tenant with
    | none => some a
    | some c =>
      (s.sweepsFor (sched ((others.filter fun t => t.tenant != c.1) ++ c.2.2.map (·.2)) ++ own)
        (mods (c.2.1 :: (held.filter fun e => e.1 != c.1).map (·.2)))).map (worseSweeps a)

/-- The output sweeps of the rings, ns, with the tasks of a version under admission (R22, R293). -/
def State.applySweepsWith (s : State) (tenant : Nat) (v : Version) (own : List SchedTask) : List Nat :=
  let tasks := ((s.otherTasks tenant).map fun t => schedOf t.no t.attr t.outs) ++ own
  let mapped := ((v :: (s.otherVersions tenant)).flatMap (·.outputMods)).eraseDups
  (List.range 4).map fun r => (s.planFor r tasks mapped).outputSweep * 1000

/-- Admission of a version of a tenant (R80 to R87) in the order of R623, PARTNER-DISAGREE apart. `kept` gives, by position, the number
and strand of the tasks that it keeps; `given` the numbers that the owner has given the others, on a standby (R61). OUTPUT-OVERLAP cannot
arise, because every window is placed where no other lies (R58, R59). A kept task stays on its strand, also where its STRAND_PIN
names that strand and it is retired (DESIGN CHOICE: R83 says both that such a pin is refused and that a bound task stays; log 98). -/
def State.admission (s : State) (tenant : Nat) (v : Version) (figs : List (Nat × Figures)) (kept : List (Nat × Nat × Nat))
    (images : List Nat) (given : List (Nat × Nat)) : Except LoadFail Admitted := do
  let others := s.otherTasks tenant
  let planned := s.plannedTasks tenant
  let own := (s.tasks.filter fun e => e.2.tenant == tenant).map (·.1)
  let used := own ++ others.map (·.no) ++ planned.map (·.no)
  let numbers := numberTasks used (kept.map (fun k => (k.1, k.2.1)) ++ given.filter fun g => !used.contains g.2) (v.tasks.map (·.1))
  let cands := (v.tasks.filterMap fun t =>
    (NMap.get figs t.1).map fun f =>
      (⟨t.1, (NMap.get numbers t.1).getD 0, t.2, f, (NMap.get kept t.1).map (·.2)⟩ : Cand)).foldl putCand []
  let sched := cands.map fun x => schedOf x.no x.attr (v.taskOuts x.fig)
  let bare (x : Cand) : Load :=
    loadOf x.no x.attr x.fig.w x.fig.g ((NMap.get ((s.sweepsBeside tenant v sched).getD []) x.no).getD 0)
  match cands.find? fun x => !x.attr.cycleOk with
  | some x => .error (failTask 1 (bare x))
  | none => .ok ()
  if 16 < v.tasks.length ∨ (v.tasks.any fun t => decide (16 ≤ t.1)) ∨ 2048 < (used ++ numbers.map (·.2)).eraseDups.length then
    .error (failPlain 7)
  if v.units.any fun u => !Config.unitFitted s.ident.variant u then .error (failPlain 0x0A)
  let usable (k : Nat) : Bool := decide (k < Config.strands s.ident.variant) && !(s.strand k).retired
  match cands.find? fun x => x.keeps.isNone && x.attr.pin != 255 && !usable x.attr.pin with
  | some x => .error (failTask 0x0C (bare x))
  | none => .ok ()
  let rivals := others.map (·.attr) ++ planned.map (·.attr)
  match (cands.zipIdx).find? fun p => p.1.attr.taskClass == 3 && p.1.attr.sources.any fun n =>
      Config.sourceAbsent s.ident.variant n || Config.sourceNever n
        || decide (8 < boundTo (rivals ++ (cands.take (p.2 + 1)).map (·.attr)) n) with
  | some p => .error (failTask 0x0B (bare p.1))
  | none => .ok ()
  let (win, image) ← (match s.place v figs images with | some x => .ok x | none => .error (failPlain 0x0D))
  match cands.find? fun x => !x.fig.bounded with
  | some x => .error ({ failTask 2 (bare x) with w := 0, g := 0, c := 0 })
  | none => .ok ()
  let fast := (cands.flatMap fun x => v.fastSignals x.attr)
    ++ (others.flatMap fun t => (match s.versionBeside tenant t with | some o => o.fastSignals t.attr | none => []))
    ++ (match s.otherChange tenant with | some c => c.2.2.flatMap fun e => c.2.1.fastSignals e.2.attr | none => [])
  if 8192 < fast.eraseDups.length then .error (failPlain 8)
  let imms := (s.otherVersions tenant).flatMap fun o => match o.check with | .ok fs => o.immStations fs | .error _ => []
  let sweeps ← (if s.mapConfigured v && s.signalsFit tenant v && immLimit (imms ++ v.immStations figs) then
      (match s.sweepsBeside tenant v sched with | some x => .ok x | none => .error (failPlain 9))
    else .error (failPlain 9))
  let sweepOf (no : Nat) : Nat := (NMap.get sweeps no).getD 0
  let old := s.otherLoads tenant fun t => sweepOf t.no
  let strands := (List.range 16).map fun k => (k, (old.filter fun e => e.1 == k).map (·.2))
  let seats := cands.map fun x =>
    (⟨loadOf x.no x.attr x.fig.w x.fig.g (sweepOf x.no),
      match x.keeps with | some k => some k | none => if x.attr.pin = 255 then none else some x.attr.pin⟩ : Seat)
  let (full, places) ← assignAll usable strands seats
  match full.findSome? fun e => match e.2 with | [] => none | l :: ls => judgeStrand (l :: ls) l with
  | some f => .error f
  | none => .ok ()
  let parts := v.tasks.map fun t => (t.1, ((NMap.get figs t.1).map (·.lPart)).getD 0)
  let applies := s.applySweepsWith tenant v sched
  let tasks := (cands.zip places).map fun p =>
    { Task.fresh p.1.no tenant p.1.pos p.1.attr (v.taskOuts p.1.fig) p.2 p.1.fig.w p.1.fig.g (sweepOf p.1.no)
        ((parts.takeWhile fun q => q.1 != p.1.pos).map (·.2)).sum with applySweeps := applies }
  return ⟨tasks, win, image, sweeps⟩

/-- Words that more than one task of the tenant can write (R72). -/
def writeShared (figs : List (Nat × Figures)) : Nat :=
  let all := (figs.flatMap fun f => (f.2.writes.filter fun x => x.1 != 4).eraseDups)
  ((all.eraseDups).filter fun x => decide (1 < (all.filter (· == x)).length)).length

/-- Every CAN transmit object that a map binds is defined by its controller's schedule (R517). -/
def State.objectsDefined (s : State) (v : Version) : Bool :=
  v.ioMap.all fun b =>
    let unit := sigSlot b.signal
    !(b.output && sigSpace b.signal == 1 && decide (0x20 ≤ unit) && decide (unit ≤ 0x23) && Config.unitFitted s.ident.variant unit)
      || (match (s.ctl (unit - 0x20)).sched with
          | some x => x.objects.any fun o => o.object + 512 == sigChannel b.signal
          | none => false)

/-- A load judged whole: the refusal, or what is admitted and the words shared; `given` as for admission. -/
def State.judgeLoad (s : State) (tenant : Nat) (v : Version) (given : List (Nat × Nat)) : Except Refused (Admitted × Nat) :=
  if !v.attrsOk || !s.objectsDefined v then .error badPlain
  else match v.check with
    | .error e => .error (LoadFail.refusal { failPlain e.2 with kind := 1, offset := e.1 })
    | .ok figs =>
      match s.admission tenant v figs [] [0, 1] given with
      | .error f => .error f.refusal
      | .ok a => .ok (a, writeShared figs)

/-! ### Taking up what was admitted -/

/-- A version loaded (R60, R235): the tenant is LOADED with its tasks STOPPED, and its windows hold their initial values. -/
def State.install (s : State) (tenant : Nat) (v : Version) (a : Admitted) : State :=
  let t := s.tenant tenant
  { s with
    tenants := NMap.set s.tenants tenant
      { t with state := .loaded, version := some v, win := a.win, image := a.image, loading := none }
    tasks := a.tasks.foldl (fun m t => NMap.set m t.no t) (s.setSweeps a.sweeps).tasks
    image := { s.image with base := loadWindows s.image.base a.win v } }


end Sys2Proof.Machine
end

