-- ==== Sys2Proof/Machine/Checks.lean ====
section
/-! DEFINITION. The checks of a load and of an online change on both modules (R84, R240 to R247, R460, R461): what each module finds,
the comparison of its figures with the partner's, and what follows. -/
namespace Sys2Proof.Machine

/-! ### The carry-over map, R242 to R247 -/

/-- The big-endian words of bytes. -/
def wordsOf (bs : List Byte) : List Word := (List.range (bs.length / 4)).map fun k => BitVec.ofNat 32 (field bs (4 * k) 4)

/-- The entries of a map's words. -/
def entriesOf : Nat → List Word → List (List Word)
  | 0, _ => []
  | n + 1, ws => ws.take 4 :: entriesOf n (ws.drop 4)

/-- The size of a window by area code, in bytes. -/
def Version.areaSize (v : Version) (area : Nat) : Nat :=
  if area = 1 then v.sizeQ else if area = 2 then v.sizeM else if area = 3 then v.sizeT else if area = 4 then v.sizeL else 0

/-- Bits that an entry takes on one side: first and how many. -/
def MapEnt.oldSpan (m : MapEnt) : Nat × Nat :=
  if m.oldBits then (m.oldAddr, m.count) else if m.conv = 18 then (32 * m.oldAddr, m.oldLen) else (32 * m.oldWord 0, 32 * m.count * m.oldWords)

/-- The same on the new side. -/
def MapEnt.newSpan (m : MapEnt) : Nat × Nat :=
  if m.newBits then (m.newAddr, m.count) else if m.conv = 18 then (32 * m.newAddr, m.newLen) else (32 * m.newWord 0, 32 * m.count * m.newWords)

/-- The result of R241 for one entry, 0 where it is good: 2 MAP-FORMAT, 4 MAP-RANGE, 5 CARRY-TYPE. A register's length is limited by
R153. -/
def MapEnt.judge (m : MapEnt) (old new : Version) : Nat :=
  let fits (v : Version) (area : Nat) (span : Nat × Nat) : Bool := decide (span.1 + span.2 ≤ 8 * v.areaSize area)
  let shift := m.conv == 18 || m.conv == 19
  if m.conv = 0 ∨ 20 ≤ m.conv ∨ !m.reserved ∨ m.count = 0 ∨ (shift && m.count != 1)
      ∨ (m.conv = 19 ∧ (1024 < m.oldLen ∨ 1024 < m.newLen)) then 2
  else if !(1 ≤ m.oldArea && m.oldArea ≤ 4 && 1 ≤ m.newArea && m.newArea ≤ 4) then 4
  else if (m.conv = 13 ∨ m.conv = 14) ∧ (m.oldArea ≠ 3 ∨ m.newArea ≠ 3) then 5
  else if !(fits old m.oldArea m.oldSpan && fits new m.newArea m.newSpan)
      || ((m.conv == 10 || m.conv == 12) && m.oldAddr % 2 == 1)
      || ((m.conv == 9 || m.conv == 11 || m.conv == 12) && m.newAddr % 2 == 1) then 4
  else 0

/-- Two entries write the same new location. -/
def MapEnt.overlaps (a b : MapEnt) : Bool :=
  let x := a.newSpan
  let y := b.newSpan
  a.newArea == b.newArea && decide (x.1 < y.1 + y.2) && decide (y.1 < x.1 + x.2)

/-- The entries judged in order: the first failure and the byte offset of its entry. -/
def judgeEntries (old new : Version) : List MapEnt → List MapEnt → Nat → Option (Nat × Nat)
  | _, [], _ => none
  | seen, m :: ms, off =>
    let r := m.judge old new
    if r ≠ 0 then some (r, off)
    else if seen.any m.overlaps then some (6, off)
    else judgeEntries old new (m :: seen) ms (off + 16)

/-- The map judged (R242): its entries, or the result and the offset. -/
def judgeMap (old new : Version) (ws : List Word) : Except (Nat × Nat) (List (List Word)) :=
  let w (k : Nat) : Nat := ((ws[k]?).map (·.toNat)).getD 0
  if ws.length < 4 ∨ w 0 ≠ 1 then .error (2, 0)
  else if 65536 < w 1 ∨ (ws.length - 4) / 4 < w 1 then .error (2, 4)
  else if w 2 ≠ old.versionId.toNat then .error (3, 8)
  else if w 3 ≠ new.versionId.toNat then .error (3, 12)
  else
    let es := entriesOf (w 1) (ws.drop 4)
    match judgeEntries old new [] (es.map mapEnt) 16 with
    | some e => .error e
    | none => .ok es

/-! ### An online change judged, R240 and R241 -/

/-- The result of a change check, the result behind it and the offset. -/
structure ChangeFail where
  result : Nat
  detail : Nat
  offset : Nat
  deriving DecidableEq, Repr

/-- A failure of the admission; IMAGE-FULL has a result of its own. -/
def LoadFail.forChange (f : LoadFail) : ChangeFail :=
  if f.kind = 0 ∧ f.code = 0x0D then ⟨0x0B, 0, 0⟩ else ⟨1, f.code, f.offset⟩

/-- A kept task changes what R237 forbids: between a cyclic class and EVENT, or its pin to another strand. -/
def taskChanged (t : Task) (a : TaskAttr) : Bool :=
  ((t.attr.taskClass == 3) != (a.taskClass == 3)) || (a.pin != 255 && a.pin != t.strand)

/-- The transition set of a strand judged (R240, step 3). A failure of condition 2 names the lowest-numbered task of the tenant. -/
def State.judgeTransition (s : State) (tenant : Nat) (plan : List (Nat × Task)) (sweepOf : Task → Nat) : Option LoadFail :=
  let old := (s.tasks.filter fun e => e.2.tenant == tenant).map fun e => (e.2.pos, e.2)
  let own := transitionLoads old plan sweepOf
  let others := s.otherLoads tenant sweepOf
  (List.range 16).findSome? fun k =>
    match (own.filter fun e => e.1 == k).map (·.2) with
    | [] => none
    | x :: xs => judgeStrand ((others.filter fun e => e.1 == k).map (·.2) ++ x :: xs) (xs.foldl (fun a b => if b.no < a.no then b else a) x)

/-- Steps 1 to 5 of R240 on this module. -/
def State.judgeChange (s : State) (tenant : Nat) (v : Version) (map : List Word) (given : List (Nat × Nat)) : Except ChangeFail (Admitted × List (List Word)) := do
  let t := s.tenant tenant
  let old ← (match t.version with | some o => .ok o | none => .error ⟨0x0C, 0, 0⟩)
  if t.state = .free ∨ t.state = .frameDisplaced then .error ⟨0x0C, 0, 0⟩
  if !v.attrsOk then .error ⟨1, 0, 0⟩
  let figs ← (match v.check with | .ok f => .ok f | .error e => .error ⟨1, e.2, e.1⟩)
  let mine := (s.tasks.filter fun e => e.2.tenant == tenant).map fun e => (e.2.pos, e.2)
  let kept := v.tasks.filterMap fun x => (NMap.get mine x.1).map fun (u : Task) => (x.1, u.no, u.strand)
  if v.tasks.any fun x => match NMap.get mine x.1 with | some u => taskChanged u x.2 | none => false then .error ⟨7, 0, 0⟩
  let a ← (match s.admission tenant v figs kept [1 - t.image] given with | .ok a => .ok a | .error f => .error f.forChange)
  let plan := a.tasks.map fun u => (u.pos, u)
  match s.judgeTransition tenant plan fun u => (NMap.get a.sweeps u.no).getD u.sweep with
  | some f => .error f.forChange
  | none => .ok ()
  let es ← (match judgeMap old v map with | .ok es => .ok es | .error e => .error ⟨e.1, 0, e.2⟩)
  if v.units.any fun u => s.isQuiesced u || s.pair.peerQuiesced.contains u then .error ⟨8, 0, 0⟩
  return (a, es)

/-- The status under which a change check replies (R241). -/
def changeStatus (result : Nat) : Nat := if result = 0 then 0 else if result = 8 then 0x0A else if result = 0x0A ∨ result = 0x0C then 0x0B else 5

/-- The change status of R239. -/
def Change.words (c : Change) : List Byte :=
  be 4 (c.state + 8 * c.tenant + 65536 * c.lastResult + 16777216 * c.detail) ++ be 4 c.failOffset ++ be 8 c.switchAt
    ++ be 4 c.pendingTasks.length ++ be 4 c.clamped

/-! ### Both modules -/

/-- The figures that the modules compare (R84, R240): each task's number, W, G and strand, and the digest of what was written. -/
def figuresOf (tenant kind code : Nat) (a : Option Admitted) (bytes : List Byte) : CheckFigures :=
  { tenant := tenant, kind := kind, code := code, digest := if kind = 1 then Config.sha256 bytes else 0
    figures := match a with | some a => a.tasks.map fun t => (t.no, t.w, t.g, t.strand) | none => [] }

/-- A load accepted on this module. -/
def State.takeLoad (s : State) (w : CheckWait) : State :=
  (s.install w.tenant w.version w.admitted).finishOpt w.ticket 0
    (loadReply (failPlain 0) w.admitted.win.edge w.shared)

/-- A change accepted on this module: LOADED (R238). -/
def State.takeChange (s : State) (w : CheckWait) : State :=
  let s1 := s.modChange fun c =>
    { c with
      state := 2, lastResult := 0, detail := 0, failOffset := 0, version := some w.version, win := w.admitted.win
      image := w.admitted.image, map := w.map, plan := w.admitted.tasks.map fun t => (t.pos, t) }
  s1.finishOpt w.ticket 0 s1.change.words

/-- A change refused at its check (R241): ABORTED, the old version runs on, and the slot is free. -/
def State.failChange (s : State) (f : ChangeFail) : State :=
  ((if s.mode = .standby then s else s.releaseSlot 4).abortChange f.result).modChange fun c => { c with detail := f.detail, failOffset := f.offset }

/-- What was checked is accepted; a change whose check failed here is refused with what it found (R241). -/
def State.takeCheck (s : State) (w : CheckWait) : State :=
  match w.fail with
  | some f =>
    let s1 := s.failChange ⟨f.1, f.2.1, f.2.2⟩
    s1.finishOpt w.ticket (changeStatus f.1) s1.change.words
  | none => if w.kind = 0 then s.takeLoad w else s.takeChange w

/-- The tenant that was being loaded is FREE again (R460). -/
def State.failLoad (s : State) (tenant : Nat) : State := s.modTenant tenant fun x => { x with loading := none }

/-- What was checked is refused with PARTNER-DISAGREE (R84, R240). -/
def State.disagree (s : State) (w : CheckWait) : State :=
  if w.kind = 0 then (s.failLoad w.tenant).finishOpt w.ticket 5 (loadReply (failPlain 0x0F) 0 0)
  else
    let s1 := s.failChange ⟨9, 0, 0⟩
    s1.finishOpt w.ticket 5 s1.change.words

/-- Is a partner there that checks too: in STANDBY, with its HEALTHY discrete? -/
def State.partnerChecks (s : State) : Bool := !s.alone && s.peerState == 2

/-- A check that this module has made: accepted at once where it is alone (R84), otherwise compared with the partner's. -/
def State.askPartner (s : State) (w : CheckWait) : State :=
  if s.partnerChecks then
    ({ s with checks := s.checks ++ [w] } : State).send 3 (.recompute w.tenant w.kind (w.admitted.tasks.map fun (t : Task) => (t.pos, t.no)))
  else s.takeCheck w

/-- The partner takes part no more: what waits for it is decided alone (R84). -/
def State.checksAlone (s : State) : State :=
  (s.checks.filter fun w => w.ticket.isSome).foldl State.takeCheck { s with checks := s.checks.filter fun w => w.ticket.isNone }

/-- What a module that has no admission holds of it. -/
def Admitted.none : Admitted := ⟨[], ⟨0, 0, 0, 0, 0, 0, 0⟩, 0, []⟩

/-- RECOMPUTE_REQUEST, R61, R84 and R240: the standby makes the check with its own copy and the owner's task numbers, sends what it found,
and waits for the owner's figures. -/
def execRecomputeRequest (tenant kind : Nat) (nv : Numbered) (s : State) : Host.Outcome State Fault Refusal :=
  .next (
    if s.solo || s.mode != .standby || !s.up then s
    else
      let v := nv.version
      let numbers := nv.numbers
      let bytes := if kind = 0 then [] else assemble s.change.versionBytes ++ assemble s.change.mapBytes
      let wait (w : CheckWait) : State := ({ s with checks := s.checks ++ [w] } : State).send 3 (.recomputeResult w.figures)
      if kind = 0 then
        (match s.judgeLoad tenant v numbers with
         | .ok a => wait ⟨tenant, kind, v, [], a.1, a.2, figuresOf tenant kind 0 (some a.1) bytes, none, none⟩
         | .error e => s.send 3 (.recomputeResult (figuresOf tenant kind (field e.2 1 1 + 256) none bytes)))
      else
        match s.judgeChange tenant v (wordsOf (assemble s.change.mapBytes)) numbers with
        | .ok a => wait ⟨tenant, kind, v, a.2, a.1, 0, figuresOf tenant kind 0 (some a.1) bytes, none, none⟩
        | .error f => wait ⟨tenant, kind, v, [], Admitted.none, 0, figuresOf tenant kind f.result none bytes, some (f.result, f.detail, f.offset), none⟩)

/-- RECOMPUTE_RESULT, R84 and R240: the owner compares, decides and tells the standby its own figures; the standby takes up what it
found itself where they are equal, and records a difference. A check of a change that failed on the owner is refused with what the owner
found, whatever the standby's result is: steps 1 to 5 come before the compare (R240). -/
def execRecomputeResult (figures : CheckFigures) (s : State) : Host.Outcome State Fault Refusal :=
  .next (
    match s.checks.find? fun w => w.tenant == figures.tenant && w.kind == figures.kind with
    | none =>
      if s.mode = .standby then
        (if figures.kind = 1 then s.abortChange 9 else s.failLoad figures.tenant).record 84 1 sevWarning noSource figures.tenant
          [(4, figures.kind), (4, figures.code)]
      else s
    | some w =>
      let s1 : State := { s with checks := s.checks.filter fun x => !(x.tenant == w.tenant && x.kind == w.kind) }
      let same := w.figures == figures
      if s.mode = .owner then
        let s2 := s1.send 3 (.recomputeResult w.figures)
        if same || w.fail.isSome then s2.takeCheck w else s2.disagree w
      else if same then s1.takeCheck w
      else
        let s2 := if w.kind = 1 ∧ figures.code ≠ 0 then s1.abortChange figures.code else s1.disagree w
        s2.record 84 1 sevWarning noSource w.tenant [(4, w.kind), (4, figures.code)])

end Sys2Proof.Machine
end

