-- ==== Sys2Proof/Machine/PairEvents.lean ====
section
/-! DEFINITION. What happens to the pair (R340 to R376): heartbeats and the lanes of the link, feeds, paths and discretes,
handover, revertive return, identity and the way out of LANTERN (R355, R356, R397), joining, and the module's self-tests. -/
namespace Sys2Proof.Machine

/-! ### Leaving LANTERN and joining -/

/-- The partner is seen: a link heartbeat within 3 ms, its HEALTHY or its OWNER-CLAIM. -/
def State.partnerSeen (s : State) : Bool :=
  s.pair.peerHealthy || s.pair.peerClaim
    || (match s.pair.lastLink with | some t => decide (s.clk.local_ < t + 3000000) | none => false)

/-- Two generations share a pair in the bridge interval of an update (R570): the owner's slot is held by the update that targets the joiner's
generation, and the newer of the two manifests lists the older generation in BRIDGE_GEN. -/
def bridged (owner joiner : PeerIdent) : Bool :=
  owner.bridge && owner.target == joiner.generation
    && (if joiner.generation < owner.generation then owner.bridgeGens.contains joiner.generation
        else joiner.bridgeGens.contains owner.generation)

/-- Do two modules make a pair (R8)? The same variant, the same window fuse, and the same generation or a bridged one. -/
def pairs (owner joiner : PeerIdent) : Bool :=
  owner.variant == joiner.variant && owner.fuse == joiner.fuse && (owner.generation == joiner.generation || bridged owner joiner)

/-- The first check of R397 that fails. -/
def State.leaveHold (s : State) (peer : Option PeerIdent) : Option Hold :=
  if s.front.leverOpen then some .leverOpen
  else if !s.front.parityOk then some .slotParity
  else
    match (if s.solo then none else peer) with
    | none => none
    | some id =>
      if id.side = s.front.side then some .sideConflict
      else if id.solo then some .partnerSolo
      else if id.variant ≠ s.ident.variant then some .variant
      else if id.fuse ≠ s.ident.fuse then some .windowFuse
      else if id.generation ≠ s.ident.generation ∧ ¬ bridged id s.identity then some .generation
      else none

/-- A solo module owns only after its first margin check has ended (R45). -/
def State.mayOwn (s : State) : Bool := !s.solo || s.vcore.regOn

/-- A partner whose link is alive has not been identified yet: the checks of R397 that need its identity are still to come. -/
def State.asksIdentity (s : State) : Bool :=
  !s.solo && s.pair.peerIdent.isNone && (match s.pair.lastLink with | some t => decide (s.clk.local_ < t + 3000000) | none => false)

/-- AUTO_START (R355): the preferred side owns at once, the other once every path has been silent for 3 ms after its bring-up. -/
def State.tryOwn (s : State) : State :=
  let quiet := (s.solo || s.isolated) && decide (s.lantern.completeAt + 3000000 ≤ s.clk.local_)
  if s.mode == .lantern && s.lantern.phase == .waitOwner && s.autoStart && s.mayOwn && !s.asksIdentity && !s.ownerSeen && (s.preferred == s.front.side || quiet) then
    s.ownFromLantern .autoStart
  else s

/-- VARIANT-MISMATCH is shown and recorded (R8, R356, R397). -/
def State.showMismatch (s : State) (h : Hold) : State :=
  let s1 : State := { s with cause := .variantMismatch, pair := { s.pair with variantMismatch := true } }
  (s1.record 356 1 sevWarning 910 noSource [(4, h.code)]).fire 910

/-- The checks of R397 once bring-up is complete: held, or on to the join or to ownership. -/
def State.leaveLantern (s : State) (peer : Option PeerIdent) : State :=
  if s.mode ≠ .lantern ∨ s.lantern.bringupComplete = false ∨ s.lantern.phase = .fetching then s
  else
    match s.leaveHold peer with
    | some h =>
      let s1 := s.modLantern fun l => { l with phase := .held, hold := h }
      if h = .variant ∨ h = .windowFuse ∨ h = .generation then s1.showMismatch h else s1
    | none =>
      let s1 := s.modPair fun p => { p with variantMismatch := false }
      if s1.ownerSeen && !s1.solo then
        let s2 := s1.modLantern fun l => { l with phase := .waitJoin, hold := .none }
        if peer.isSome then s2.send 3 (.joinRequest ⟨s2.storedEpoch, s2.identity⟩) else s2.send 3 .identityRequest
      else
        let s2 := s1.modLantern fun l => { l with phase := .waitOwner, hold := .none }
        (if s2.asksIdentity then s2.send 3 .identityRequest else s2).tryOwn

/-- IDENTITY_REQUEST, R356 and R570. -/
def execIdentityRequest (s : State) : Host.Outcome State Fault Refusal :=
  .next (
    if s.solo || !s.up then s else s.send 3 (.identity s.identity))

/-- IDENTITY_READ, R356: kept, and judged by R397. -/
def execIdentityRead (id : PeerIdent) (s : State) : Host.Outcome State Fault Refusal :=
  .next (
    if s.solo || !s.up then s
    else (s.modPair fun p => { p with peerIdent := some id }).leaveLantern (some id))

/-- JOIN_REQUEST, R353 and R357: the owner accepts, records its instant and sends the static state.
A joiner whose identity makes no pair with the owner's is not accepted (R8; the request carries it, DESIGN CHOICE, log 111). -/
def execJoinRequest (ask : JoinAsk) (s : State) : Host.Outcome State Fault Refusal :=
  .next (
    if s.mode ≠ .owner ∨ s.solo ∨ pairs s.identity ask.id = false then s
    else
      (s.modPair fun p =>
        { p with
          join := some ⟨s.clk.local_, some s.clk.local_, true, none⟩
          raiseTo := if p.epoch ≤ ask.stored then some ask.stored else p.raiseTo }).send 4 .stateTransfer)

/-- The owner's settings as the joiner stores them (R471): PAIR values as they are, the SIDE values of the two sides exchanged. -/
def swapSides (vs : List (Nat × Int)) : List (Nat × Int) :=
  vs.foldl (fun m v =>
    let unit := v.1 / 65536
    if 256 ≤ unit then NMap.set m (v.1 - 16777216) v.2
    else if pairScope unit (v.1 / 256 % 256) then NMap.set m v.1 v.2
    else NMap.set m (v.1 + 16777216) v.2) []

/-- The units that start with the settings of the store. -/
def State.startUnits (s : State) : State :=
  ([0x20, 0x21, 0x22, 0x23, 0x31, 0x40, 0x41, 0x42].filter (Config.unitFitted s.ident.variant)).foldl (fun (s : State) u => s.startUnit u) s

/-- The owner's state as it stands at J (R356, R357): taken whole, this module's stores kept aside; revocations are united
(R548). -/
def State.takeTransfer (s : State) (x : Transfer) : State :=
  let keep : Transfer := match s.saved with | some k => k | none => s.stores
  let s1 : State :=
    { s with
      saved := some keep
      settings := { s.settings with values := swapSides x.config }
      tenants := x.tenants, tasks := x.tasks.map fun e => (e.1, { e.2.dropCycle with following := e.2.st == .armed || e.2.st == .running })
      change := x.change, image := ⟨Cells.ofList x.image, x.log, x.inputs⟩, forces := x.forces, slot := x.slot, acyc := x.acyc
      rings := s.rings.zipIdx.map fun p => (p.1.setTable ((x.tables[p.2]?).getD [])).setOutSeqs ((x.outSeqs[p.2]?).getD [])
      gates := s.gates.zipIdx.map fun p => { p.1 with host := (x.gates[p.2]?).getD p.1.host, stored := (x.gates[p.2]?).getD p.1.stored }
      keys := { s.keys with revoked := (s.keys.revoked ++ x.revoked).eraseDups }
      pair := { s.pair with epoch := max s.pair.epoch x.epoch, ownerSide := x.ownerSide }
      time := { s.time with alarms := x.alarms, plant := x.plant, plantValid := x.plantValid }
      lantern := { s.lantern with plantProgram := x.lanternProgram, plantCrcOk := true } }
  s1.startUnits

/-- STATE_TRANSFER, R357: the static state makes a waiting module JOINING; the state of tick J is what it follows from then on. -/
def execStateTransfer (tr : Transfer) (s : State) : Host.Outcome State Fault Refusal :=
  .next (
    let waits := s.mode == .lantern && s.lantern.phase == .waitJoin
    if s.solo || !s.up || !(waits || s.mode == .joining) then s
    else
      let now := s.clk.local_
      let s1 := if waits then s.enterJoining .none ⟨now, some now, true, none⟩ else s
      match s1.pair.join with
      | none => s1
      | some j =>
        let j1 : Join := { j with acceptedAt := some (j.acceptedAt.getD now), static_ := true }
        match tr.tickJ with
        | none => s1.modPair fun p => { p with join := some j1 }
        | some t => (s1.takeTransfer tr).modPair fun p => { p with join := some { j1 with tickJ := some t } })

/-- A join is aborted (R358): recorded; the third in a row leaves the module STANDBY-FAULTED, otherwise it goes on as `next` says. -/
def State.abortJoin (s : State) (next : State → State) : State :=
  let n := s.pair.joinAborts + 1
  let s1 := (((s.restoreStores).modPair fun p => { p with join := none, joinAborts := n }).record 358 1 sevWarning 906 noSource
    [(4, n)]).fire 906
  if 3 ≤ n then (s1.modPair fun p => { p with joinAborts := 0 }).toFaulted .joinFail else next s1

/-- The owner is lost before the join is complete: back to LANTERN, the stores as they were (R358). -/
def State.ownerLost (s : State) : State :=
  s.abortJoin fun s => s.enterLantern .none .waitOwner .none

/-- The slot of a proof test ends with it (R575). -/
def State.endProof (s : State) : State := (s.modPair fun p => { p with proofTest := false }).releaseSlot 2

/-- JOIN_COMPLETE, R357: the stores are written as one switch, and the module is STANDBY, synchronised; serials that only this module
had revoked go to the owner (R548). A difference in what admission gives ends the join (R84). The module stays in JOINING until its first margin
check has ended (R45). -/
def execJoinComplete (agrees : Bool) (s : State) : Host.Outcome State Fault Refusal :=
  .next (match s.pair.join with
    | some j =>
      if s.mode ≠ .joining ∨ j.tickJ.isNone then s
      else if !agrees then s.abortJoin fun s => s.toJoining .none
      else if !s.vcore.regOn then s
      else
        let s1 : State :=
          { s with
            mode := .standby, cause := .none, saved := none
            pair := { s.pair with
              join := none, joinAborts := 0, synchronised := true, standbySince := some s.clk.local_, linkWasSilent := false } }
        let s2 := (s1.endProof.record 357 1 sevInfo 905 noSource [(4, s1.pair.epoch)]).fire 905
        s2.keys.revoked.foldl (fun (s : State) w => s.send 3 (.mirror (.revoke s.clk.ring w))) s2
    | none => s)

/-- JOIN_TIMEOUT, R358: 10 s after the acceptance of step 1. -/
def execJoinTimeout (s : State) : Host.Outcome State Fault Refusal :=
  .next (match s.pair.join with
    | some j =>
      if s.mode == .joining && !s.pair.proofTest
          && decide ((match j.acceptedAt with | some a => a | none => j.requestedAt) + 10000000000 ≤ s.clk.local_ + 50000) then
        s.abortJoin fun s => s.toJoining .none
      else s
    | none => s)

/-! ### The link -/

/-- Buffers freed at the partner (R340, R341): credits come back, never above the table's. -/
def returnCredits (cs : List LinkClass) (back : List Nat) : List LinkClass :=
  cs.zipIdx.map fun p =>
    { p.1 with credits := min ((Config.linkCredits[p.2]?).getD 0) (p.1.credits + (back[p.2]?).getD 0), unacked := [] }

/-- LINK_HEARTBEAT, R340: the partner's HEALTH word and epoch, its free acyclic blocks, and credits. A standby whose link was silent
while the owner was still seen joins again (R352); a partner that is solo ends a join (R347); a divergence at the standby shows on
both modules (R361); a hold-off that has ended at the standby starts the return (R369). -/
def execLinkHeartbeat (health : BitVec 64) (epoch _tick : Nat) (free credits : List Nat) (s : State) : Host.Outcome State Fault Refusal :=
  .next (
    if s.solo || !s.up then s
    else
      let before := s.pair.peerHealth
      let back := s.mode == .standby && s.pair.linkSilent && !s.pair.synchronised
      let s1 : State :=
        { s with
          pair := { s.pair with
            lastLink := some s.clk.local_, linkSilent := false, peerFree := free }
          link := { s.link with
            lane0 := s.link.lane0 || (!s.link.lane0 && !s.link.lane1), lane1 := s.link.lane1 || (!s.link.lane0 && !s.link.lane1)
            classes := returnCredits s.link.classes credits } }
      let s2 := s1.takeHealth health epoch
      if back && s2.mode == .standby then s2.toJoining .none
      else if s2.mode == .joining && health.getLsbD 6 then
        (s2.restoreStores).enterLantern .partnerSolo .held .partnerSolo
      else if s2.mode == .owner && s2.peerStandbySync then
        let s3 := s2.modPair fun p => { p with join := none, linkWasSilent := false }
        let fresh := !((before.extractLsb' 0 3).toNat == 2 && before.getLsbD 5)
        let s4 := if fresh then s3.updateJoined else s3
        if before.getLsbD 41 && !health.getLsbD 41 && health.getLsbD 4 && s4.mayHandOver && s4.slot.isNone then
          s4.proposeHandover .revert false none
        else s4
      else if s2.mode == .owner && s2.peerState == 4 && (before.extractLsb' 0 3).toNat != 4 && s2.pairUpdate && s2.update.pairStep == 2 then
        s2.endUpdate 7 3
      else s2)

/-- A lane is declared lost (R342): recorded, source 900; its traffic goes over the other. -/
def State.loseLane (s : State) (lane : Nat) : State :=
  if (if lane = 0 then s.link.lane0 else s.link.lane1) then
    ((s.modLink fun l =>
      { l with lane0 := l.lane0 && lane != 0, lane1 := l.lane1 && lane == 0, classes := l.classes.map fun c => { c with unacked := [] } }).record
        342 1 sevWarning 900 noSource [(4, lane)]).fire 900
  else s

/-- LINK_FRAME_RESEND, R342: 20 µs without an acknowledgement; counted, or after the third resend the lane is lost. -/
def execLinkFrameResend (lane : Fin 2) (cls : Fin 5) (seq : Nat) (s : State) : Host.Outcome State Fault Refusal :=
  .next (
    let n := (((s.link.classes[cls.val]?).bind fun c => NMap.get c.unacked seq)).getD 0
    if s.solo || !s.up then s
    else if 3 ≤ n then s.loseLane lane
    else
      (s.modLink fun l =>
        { l with
          classes := modAt l.classes cls fun c => { c with unacked := NMap.set c.unacked seq (n + 1) }
          resends0 := if lane = 0 then satInc l.resends0 else l.resends0
          resends1 := if lane = 0 then l.resends1 else satInc l.resends1 }).count (0x4000 + lane))

/-- LINK_LOSS_OF_LOCK, R342. -/
def execLinkLossOfLock (lane : Fin 2) (s : State) : Host.Outcome State Fault Refusal :=
  .next (if s.solo || !s.up then s else s.loseLane lane)

/-! ### Feeds -/

/-- Every monitored feed is lost (R348). -/
def State.feedsGone (s : State) : Bool := !s.feeds.present1 && (!s.feedDual || !s.feeds.present2)

/-- Power-fail (R348): an owner makes the emergency handover, and every module stops transmitting. -/
def State.failPower (s : State) : State :=
  if s.front.powerFail then s
  else
    let s1 := if s.mode = .owner ∧ ¬ s.solo then s.emergency else s.silencePorts.releaseLocal
    let s2 : State := { s1 with cause := .powerFail, front := { s1.front with powerFail := true } }
    s2.record 348 3 sevFault noSource noSource []

/-- The presence of a feed changed: recorded, source 902 or 903. -/
def State.feedChange (s : State) (feed : Nat) (on : Bool) : State :=
  let s1 := s.modFeeds fun f => if feed = 0 then { f with present1 := on } else { f with present2 := on }
  if feed = 1 ∧ ¬ s.feedDual then s1
  else (s1.record 348 (if on then 2 else 1) (if on then sevInfo else sevWarning) (902 + feed) noSource [(4, feed + 1)]).fire (902 + feed)

/-- FEED_LOST, R348. -/
def execFeedLost (feed : Fin 2) (s : State) : Host.Outcome State Fault Refusal :=
  .next (
    let had := if feed = 0 then s.feeds.present1 else s.feeds.present2
    if !had || !s.up then s
    else
      let s1 := s.feedChange feed false
      if s1.feedsGone then s1.failPower else s1)

/-- FEED_RESTORED, R348: a module that still runs on its hold-up restarts. -/
def execFeedRestored (feed : Fin 2) (s : State) : Host.Outcome State Fault Refusal :=
  .next (
    let had := if feed = 0 then s.feeds.present1 else s.feeds.present2
    if had then s
    else if !s.up then s.modFeeds fun f => if feed = 0 then { f with present1 := true } else { f with present2 := true }
    else
      let s1 := s.feedChange feed true
      if s1.front.powerFail && !s1.feedsGone then (s1.modFront fun f => { f with powerFail := false }).restart .powerFail else s1)

/-! ### Paths and discretes -/

/-- The standby becomes owner without a planned handover (R366, R367): under the next epoch, or the one it has written already; it
waits for nothing of its partner, takes its full share, and an update that ran with the partner ends (R571). -/
def State.takeOver (s : State) (c : Cause) : State :=
  (((s.becomeOwner s.nextEpoch c false).fullShare).stopWaiting).updateOrphaned

/-- PATH_SILENT, R349: 0 the link, 1 the discretes, 2 the ring view, silent for 3 ms. With every path silent the module is ISOLATED:
a standby claims ownership (R367), a joiner has lost its owner (R358), a waiting module may own (R355). A standby that has lost the
link alone, the owner being seen on another path since, is no longer synchronised; one whose owner is silent on every path goes on
transmitting until it claims (R25, R27). -/
def execPathSilent (path : Fin 3) (s : State) : Host.Outcome State Fault Refusal :=
  .next (
    let p := s.pair
    let flag := if path = 0 then p.linkSilent else if path = 1 then p.discSilent else p.ringSilent
    let last := if path = 0 then p.lastLink else if path = 1 then p.lastDisc else p.lastRing
    let quiet := (match last with | some t => decide (t + 3000000 ≤ s.clk.local_ + 50000) | none => true)
      && !(path == 1 && p.peerHealthy)
    let elsewhere := p.peerHealthy || (match p.lastRing with
      | some r => decide ((p.lastLink.getD 0) + 100000 < r)
      | none => false)
    if !s.up || flag || !quiet then s
    else
      let s1 := s.modPair fun p =>
        if path = 0 then { p with linkSilent := true, linkWasSilent := true, synchronised := p.synchronised && !(s.mode == .standby && elsewhere),
                                  holdoffFrom := none, holdoffDue := false }
        else if path = 1 then { p with discSilent := true }
        else { p with ringSilent := true }
      if !s1.isolated then s1
      else
        let s2 := if s1.solo then s1 else (s1.record 349 1 sevWarning 898 noSource []).fire 898
        let s3 := s2.modPair fun p => { p with peerHealth := 0, peerClaim := false }
        if s3.mode = .standby then s3.takeOver .silenceClaim
        else if s3.mode = .joining then s3.ownerLost
        else if s3.mode = .owner then s3.updateOrphaned
        else s3.tryOwn)

/-- HEALTHY_LOST, R350: the partner takes no part any more (R19, R497); a joiner that has the owner on no other path has lost it. -/
def execHealthyLost (s : State) : Host.Outcome State Fault Refusal :=
  .next (
    if !s.pair.peerHealthy then s
    else
      let s1 := s.modPair fun p => { p with peerHealthy := false, lastDisc := some s.clk.local_ }
      let s2 := ((s1.record 350 1 sevWarning 897 noSource []).fire 897)
      let s3 := ((if s2.io.half then s2.fullShare else s2).stopWaiting).checksAlone
      if s3.mode = .joining ∧ s3.pair.linkSilent ∧ s3.pair.ringSilent then s3.ownerLost else s3)

/-- HEALTHY_PRESENT, R349 and R350. -/
def execHealthyPresent (s : State) : Host.Outcome State Fault Refusal :=
  .next (s.modPair fun p => { p with peerHealthy := true, discSilent := false, lastDisc := some s.clk.local_ }).linkAlone

/-- OWNER_CLAIM_CHANGE, R350: in LANTERN a claim ends the driving of outputs (R393), and the owner's identity is read (R356). -/
def execOwnerClaimChange (level : Bool) (s : State) : Host.Outcome State Fault Refusal :=
  .next (
    let s1 := s.modPair fun p => { p with peerClaim := level }
    if level && !s.pair.peerClaim && s.mode == .lantern && s.up then
      let s2 := (s1.modLantern fun l => { l with driven := false }).releaseLocal
      let s3 := if s2.lantern.phase == .waitOwner && !s2.solo then s2.modLantern fun l => { l with phase := .waitJoin } else s2
      if s3.solo then s3 else s3.send 3 .identityRequest
    else s1)

/-! ### Handover -/

/-- HANDOVER_PULSE, R366: a standby becomes owner; at the tick of a planned handover the pulse brings nothing more. -/
def execHandoverPulse (s : State) : Host.Outcome State Fault Refusal :=
  .next (
    let planned : Bool := match s.pair.handover with | some h => decide (h.h ≤ s.clk.ring + 50000) | none => false
    if s.mode == .standby && s.up && !planned then s.takeOver .none
    else if s.up ∧ s.io.half then s.fullShare
    else s)

/-- HANDOVER_PROPOSAL, R364: the standby writes the epoch and acknowledges, unless its lever is open (R401). H 0 withdraws the proposal
of a handover that was cancelled. -/
def execHandoverProposal (h epoch : Nat) (s : State) : Host.Outcome State Fault Refusal :=
  .next (
    if s.mode ≠ .standby ∨ ¬ s.up then s
    else if h = 0 then s.modPair fun p => { p with handover := none, holdoffDue := false }
    else if s.front.leverOpen then s
    else
      (s.modPair fun p =>
        { p with stored := max p.stored epoch, handover := some ⟨h, epoch, true, if p.holdoffDue then .revert else .command, false, none⟩ }).send 3 (.handoverAck epoch))

/-- HANDOVER_ACK, R364: the owner writes the epoch. -/
def execHandoverAck (epoch : Nat) (s : State) : Host.Outcome State Fault Refusal :=
  .next (match s.pair.handover with
    | some h => if s.mode = .owner ∧ h.epoch = epoch then s.modPair fun p => { p with stored := max p.stored epoch, handover := some { h with acked := true } } else s
    | none => s)

/-- What the old owner does at H (R364, R501): it is STANDBY, or leaves (R365), or restarts where `MODULE.RESTART` began the handover
(R458); its command is answered. -/
def State.giveOwnership (s : State) (h : Handover) : State :=
  let s1 := (s.hartLeave true).modPair fun p => { p with epoch := h.epoch, handoverPulse := true }
  let restart := ((h.ticket).map (·.opcode)) == some 0x0103
  let s2 := (s1.ownerToStandby h.cause s.front.side.other).finishOpt h.ticket 0
    (if restart then [] else be 8 h.h ++ be 4 h.epoch ++ be 4 0)
  if h.leave then s2.leave .lever false else if restart then State.restartFor .command s2 else s2.updateSwapped

/-- HANDOVER_TICK, R364: at H both modules change their roles. -/
def execHandoverTick (s : State) : Host.Outcome State Fault Refusal :=
  .next (match s.pair.handover with
    | some h =>
      if !h.acked || s.clk.ring < h.h then s
      else if s.mode = .owner then s.giveOwnership h
      else if s.mode = .standby then ((s.becomeOwner h.epoch h.cause true).updateSwapped)
      else s
    | none => s)

/-- HANDOVER_CANCEL, R364: no acknowledgement by H − 100 µs; neither module changes, the command gets WRONG-STATE, and a lever is
refused (R365). -/
def execHandoverCancel (s : State) : Host.Outcome State Fault Refusal :=
  .next (match s.pair.handover with
    | some h =>
      if s.mode ≠ .owner ∨ h.acked ∨ s.clk.ring + 100000 < h.h then s
      else
        let s1 := ((s.modPair fun p => { p with handover := none }).finishOpt h.ticket 11 errorPlain).send 3 (.handover 0 h.epoch)
        if h.leave then s1.leverRefuse else s1
    | none => s)

/-- REVERT_HOLDOFF_EXPIRY, R369: the return starts, or waits for the slot and for unit 16#60. The owner starts the handover when
HOLDOFF_RUNNING ends. -/
def execRevertHoldoffExpiry (s : State) : Host.Outcome State Fault Refusal :=
  .next (match s.pair.holdoffFrom with
    | some t =>
      if s.mode = .standby ∧ t + s.settingNat 0x60 4 0 * 1000000000 ≤ s.clk.local_ + 50000 ∧ s.pair.holdoffDue = false then
        let s1 := s.modPair fun p => { p with holdoffDue := true }
        if s.slot.isNone && !s.isQuiesced 0x60 && !s.pair.peerQuiesced.contains 0x60 then
          (s1.modPair fun p => { p with holdoffFrom := none }).fire 909
        else s1
      else s
    | none => s)

/-- LEAVING_NOTICE, R365 and R497. -/
def execLeavingNotice (s : State) : Host.Outcome State Fault Refusal :=
  .next (if s.solo || !s.up then s else (((if s.io.half then s.fullShare else s).stopWaiting).checksAlone).updateLeft)

/-! ### Self-test and memory -/

/-- SCRUBBER_REPAIR, R335. -/
def execScrubberRepair (bank : Fin 8) (s : State) : Host.Outcome State Fault Refusal :=
  .next ((s.count (0x3000 + bank)).modPair fun p => { p with corrected := p.corrected + 1 })

/-- MEMORY_UNCORRECTABLE, R335 and R372. -/
def execMemoryUncorrectable (s : State) : Host.Outcome State Fault Refusal :=
  .next (
    if !s.up then s
    else
      ((s.modPair fun p => { p with memoryUncorrectable := true }).record 335 1 sevFault noSource noSource []).moduleFault .memory
        (State.restartFor .memory))

/-- ECC_PATROL_PASS, R374: SCRUB_CORRECTED shows the corrected errors of the patrol. -/
def execEccPatrolPass (dram : Bool) (corrected : Nat) (s : State) : Host.Outcome State Fault Refusal :=
  .next (
    if !s.up then s
    else
      (s.modPair fun p =>
        { p with
          scrubCorrected := decide (0 < corrected) || (!dram && decide (0 < p.corrected))
          corrected := if dram then p.corrected else 0 }).selftestPass)

/-- PATTERN_TEST, R374, item 3: of a sleeping strand, on a standby. -/
def execPatternTest (strand : Nat) (pass : Bool) (s : State) : Host.Outcome State Fault Refusal :=
  .next (
    if s.mode ≠ .standby ∨ ¬ s.up ∨ ¬ s.sleeps strand then s
    else if pass then s.selftestPass
    else (s.modPair fun p => { p with patternFail := true }).selftestFail)

/-- PROOF_TEST_DONE, R375: the module joins, or is STANDBY-FAULTED. -/
def execProofTestDone (pass : Bool) (s : State) : Host.Outcome State Fault Refusal :=
  .next (
    if s.mode ≠ .joining ∨ s.pair.proofTest = false then s
    else if pass then
      (s.modPair fun p => { p with proofTest := false, join := some ⟨s.clk.local_, none, false, none⟩ }).send 3 (.joinRequest ⟨s.storedEpoch, s.identity⟩)
    else
      ((((s.modPair fun p => { p with laneTestFail := true }).endProof).record 374 1 sevFault 908 noSource []).fire 908).toFaulted .selftest)

/-- What keeps a module STANDBY-FAULTED (R373). -/
def State.causePersists (s : State) : Bool :=
  s.anyStrand (·.paceLow) || s.anyStrand (·.probeFault) || s.anyStrand (·.retired) || s.vcore.supplyFault

/-- A module leaves STANDBY-FAULTED (R373) with a clean self-test. -/
def State.rejoin (s : State) : State :=
  (s.modPair fun p =>
    { p with laneTestFail := false, patternFail := false, memoryUncorrectable := false }).toJoining .none

/-- AUTO_REJOIN, R373: 60 s after a fault by a budget overrun or INGRESS-OVERRUN, once in 24 h. -/
def execAutoRejoin (pass : Bool) (s : State) : Host.Outcome State Fault Refusal :=
  .next (
    let waited := match s.pair.faultAt with | some t => decide (t + 60000000000 ≤ s.clk.local_ + 50000) | none => false
    let once := match s.pair.autoRejoinAt with | some t => decide (t + 86400000000000 ≤ s.clk.local_) | none => true
    if s.mode == .standbyFaulted && s.up && s.pair.faultBudgetOrIngress && waited && once && pass && !s.causePersists then
      (s.modPair fun p => { p with autoRejoinAt := some s.clk.local_ }).rejoin
    else s)

end Sys2Proof.Machine
end

