-- ==== Sys2Proof/Machine/Bringup.lean ====
section
/-! DEFINITION. Bring-up, LANTERN and removal (R384 to R402): power start, the loader, bring-up complete, parts fetched from the
partner (R568), the lantern task's cycle, the SEATED contacts and the extraction lever. -/
namespace Sys2Proof.Machine

/-! ### Power and the contacts -/

/-- FEED_SWITCH_CLOSE, R385: SEATED is made and the feed's sense has read above 17.5 V. -/
def execFeedSwitchClose (feed : Fin 2) (s : State) : Host.Outcome State Fault Refusal :=
  .next (
    let present := if feed = 0 then s.feeds.present1 else s.feeds.present2
    if s.front.seated && present then
      s.modFeeds fun f => if feed = 0 then { f with switch1 := true } else { f with switch2 := true }
    else s)

/-- The module as it comes up from an unpowered state: what MRAM, flash and the contacts keep, TB-LOCAL at 0 (R407). -/
def State.powerUp (s : State) : State :=
  let s1 := (s.endSessions).fresh
  { s1 with
    mode := .seated, cause := .none
    clk := ⟨0, 0, 0⟩
    pair := { pairReset with epoch := s1.pair.epoch, joinAborts := 0 }
    time := { s1.time with ring := baseZero }
    privWds := s1.privWds.map fun w => { w with lastService := 0 }
    lantern := { s1.lantern with phase := .notLantern, enteredAt := 0 }
    front := { s1.front with powered := true, powerFail := false, refStopped := false, lampTest := true, cmServed := true }
    tap := (State.reset).tap }

/-- RESET_RELEASED, R388: the end of the power start phase; at least one feed's switch is closed. The lamp test begins, and the carrier
management bus is served (R612). -/
def execResetReleased (s : State) : Host.Outcome State Fault Refusal :=
  .next (if !s.front.powered && s.front.seated && (s.feeds.switch1 || s.feeds.switch2) then s.powerUp else s)

/-- LAMP_TEST_END, R388. -/
def execLampTestEnd (s : State) : Host.Outcome State Fault Refusal := .next (s.modFront fun f => { f with lampTest := false })

/-- SEATED_MADE, R386: contacts made; a module that still runs on its hold-up restarts into LANTERN (R402). -/
def execSeatedMade (s : State) : Host.Outcome State Fault Refusal :=
  .next (
    if s.front.seated then s
    else
      let s1 := s.modFront fun f => { f with seated := true }
      if s1.front.powered then s1.restart .seatedLost else { s1 with mode := .seated })

/-- SEATED_OPENING, R386: shorter than 10 µs; counted. -/
def execSeatedOpening (s : State) : Host.Outcome State Fault Refusal := .next (s.modFront fun f => { f with openings := f.openings + 1 })

/-- SEATED_LOST, R386 and R402: without the lever an owner makes the emergency handover, any other module stops transmitting and
driving; the switches open, and the module runs on its hold-up. Being pulled after it has left is a removal without more. -/
def execSeatedLost (s : State) : Host.Outcome State Fault Refusal :=
  .next (
    if !s.front.seated then s
    else
      let s1 : State :=
        { s with front := { s.front with seated := false }, feeds := { s.feeds with switch1 := false, switch2 := false }
                 lantern := { s.lantern with removedSince := true } }
      if !s1.up then { s1 with mode := .unseated }
      else
        let s2 := if s1.mode = .owner ∧ ¬ s1.solo then s1.emergency else s1.silencePorts.releaseLocal
        let s3 : State := { s2 with mode := .unseated, cause := .seatedLost, time := { s2.time with ppsOut := false } }
        s3.record 402 1 sevFault noSource noSource [])

/-- LOSS_OF_POWER, R348: the hold-up ends; only what MRAM and flash hold lasts until the next power start. Nothing is driven, a HANDOVER
pulse neither (R350). -/
def execLossOfPower (s : State) : Host.Outcome State Fault Refusal :=
  .next (
    { s.silencePorts.releaseLocal with
      pair := { s.pair with handoverPulse := false }
      mode := if s.front.seated then .seated else .unseated
      front := { s.front with powered := false, lampTest := false, cmServed := false, safeToRemove := false, leverRefused := false }
      feeds := { s.feeds with switch1 := false, switch2 := false } })

/-- SLOT_ID_CHANGE, R387: while seated a change is recorded and has no effect until the next restart. -/
def execSlotIdChange (id : Nat) (side : Side) (parity : Bool) (s : State) : Host.Outcome State Fault Refusal :=
  .next (
    if s.up then s.record 387 2 sevInfo noSource noSource [(4, id), (4, side.bit), (4, if parity then 1 else 0)] else s)

/-! ### The resident loader and bring-up -/

/-- The module asks its partner for the active manifest and parts (R568, R389). -/
def State.beginFetch (s : State) (part : Nat) : State :=
  let s1 : State :=
    { s with
      lantern := { s.lantern with phase := .fetching, hold := .none,
                                  manifestProgram := if part = 7 then none else s.lantern.manifestProgram }
      update := { s.update with state := 5, part := part, bytes := 0, fetchFrom := some s.clk.local_ } }
  if s1.solo then s1 else s1.send 3 .partRequest

/-- LOADER_DONE, R387 and R388: the slot identity as read, the TEST_HOLD contact, and the first part that fails its hash, 0 none. The
module enters LANTERN and runs the lantern program. -/
def execLoaderDone (id : Nat) (side : Side) (parity testHold : Bool) (badPart : Nat) (s : State) : Host.Outcome State Fault Refusal :=
  .next (
    let ready := s.mode == .seated || (s.mode == .lantern && s.lantern.phase == .bringup && !s.lantern.running && !s.lantern.bringupComplete)
    if !s.up || !ready then s
    else
      let s1 : State :=
        { s with
          mode := .lantern
          front := { s.front with slotId := id, side := side, parityOk := parity }
          lantern := { s.lantern with phase := .bringup, hold := .none, testHoldPin := testHold, enteredAt := s.clk.local_ } }
      let s2 := if parity then s1 else s1.record 387 1 sevFault noSource noSource [(4, id)]
      (if badPart = 0 then s2 else s2.beginFetch badPart).lanternStart)

/-- BRINGUP_COMPLETE, R397 and R399: the configuration store is read; TEST-HOLD where its contact is asserted and no partner is seen,
otherwise the checks of R397. -/
def execBringupComplete (s : State) : Host.Outcome State Fault Refusal :=
  .next (
    if !s.up || s.mode != .lantern || s.lantern.bringupComplete || s.lantern.phase != .bringup then s
    else
      let s1 := (s.modLantern fun l => { l with bringupComplete := true, completeAt := s.clk.local_, overruns := 0 }).startUnits
      if s1.lantern.testHoldPin && s1.front.parityOk then
        (if s1.pair.peerHealthy || s1.pair.peerClaim then
           s1.modLantern fun l => { l with phase := .held, hold := .testHoldRefused }
         else s1.enterTestHold)
      else s1.leaveLantern (if s1.partnerSeen then s1.pair.peerIdent else none))

/-- BRINGUP_PHASE_OVERRUN, R389: recorded; a restart, or at the third in a row HELD with BRINGUP-TIMEOUT. -/
def execBringupPhaseOverrun (s : State) : Host.Outcome State Fault Refusal :=
  .next (
    if !s.up || !(s.mode == .seated || (s.mode == .lantern && !s.lantern.bringupComplete)) then s
    else
      let n := s.lantern.overruns + 1
      let s1 := (s.modLantern fun l => { l with overruns := n }).record 389 1 sevWarning noSource noSource [(4, n)]
      if n < 3 then s1.restart s1.cause
      else { s1 with mode := .lantern, lantern := { s1.lantern with phase := .held, hold := .bringupTimeout, overruns := 0 } })

/-! ### Parts from the partner, R568 -/

/-- PART_FETCH_REQUEST, R568: the partner's active manifest and parts are sent; a write that it interrupted during a pair update shows
in how that update ends (R571). -/
def execPartFetchRequest (s : State) : Host.Outcome State Fault Refusal :=
  .next (
    if s.solo || !s.up || s.lantern.phase == .fetching then s
    else
      let s1 := s.send 5 (.parts s.ident.generation)
      if !(s1.pairUpdate && s1.mode == .owner) then s1
      else if s1.update.pairStep ≤ 2 then s1.endUpdate 7 2
      else if 4 ≤ s1.update.pairStep then s1.modUpdate fun u => { u with endCause := 6 }
      else s1)

/-- The module has no valid parts and nobody to give them: held with PART-INVALID (R389, R568). -/
def State.partInvalid (s : State) : State :=
  ((s.modLantern fun l => { l with phase := .held, hold := .partInvalid }).modUpdate fun u => { u with state := 7, fetchFrom := none }).record
    568 2 sevFault noSource noSource [(4, s.update.part)]

/-- PART_FETCH_DONE, R568: the parts that came are checked, written and active after a restart, or fail a check; `ok` says that the checks of
R563 passed but for the hardware type, which the fetched manifest names (R7). -/
def execPartFetchDone (ok : Bool) (manifest : FetchedManifest) (s : State) : Host.Outcome State Fault Refusal :=
  .next (
    if !s.up || s.mode != .lantern || s.lantern.phase != .fetching then s
    else if !ok || manifest.typeCode != Config.typeCode s.ident.variant then s.partInvalid
    else
      let s1 : State :=
        { s with
          ident := { s.ident with generation := manifest.generation }
          update := { s.update with state := 6, endCause := 6, part := 0, fetchFrom := none, recordSeq := s.update.recordSeq + 1,
                                    scopePair := false, bridge := false } }
      (s1.record 568 1 sevWarning noSource noSource [(4, manifest.generation)]).restart .none)

/-- PART_FETCH_TIMEOUT, R568: no partner has answered for 10 s. -/
def execPartFetchTimeout (s : State) : Host.Outcome State Fault Refusal :=
  .next (match s.update.fetchFrom with
    | some t =>
      if s.mode = .lantern ∧ s.lantern.phase = .fetching ∧ t + 10000000000 ≤ s.clk.local_ + 50000 then s.partInvalid else s
    | none => s)

/-! ### The lantern task -/

/-- The lantern program that an accepted load puts in place at the next cycle boundary (R391). -/
def State.takeLanternNext (s : State) : State :=
  match s.lantern.next with
  | some _ => s.lanternStart
  | none => s

/-- LANTERN_CYCLE, R390: every 100 ms of TB-LOCAL from the entry into LANTERN the lantern task starts on the inputs as sampled (R392). A
cycle that has not reached its transit runs on. -/
def execLanternCycle (s : State) : Host.Outcome State Fault Refusal :=
  .next (
    if !s.up || s.mode != .lantern then s
    else
      let s1 := s.takeLanternNext
      match s1.task lanternTask with
      | none => s1.tryOwn
      | some t =>
        let now := s1.clk.local_
        let m := s1.lantern.enteredAt + (now - s1.lantern.enteredAt) / 100000000 * 100000000
        let due := t.st == .armed || decide (t.startAt < m)
        if !s1.lantern.running || !due || (t.inCycle && !t.transited) || t.st == .faulted then s1.tryOwn
        else
          let n := if t.st = .armed then 0 else t.cycle + 1
          let vs := ((s1.versionOf t).inputs.map s1.localNow).eraseDups
          (s1.modTask lanternTask fun t => { t.begin m n now .notSpeculating with inputs := vs, snap := none }).tryOwn)

/-! ### The extraction lever -/

/-- What the lever does to activities of this module (R401): staging and a write are given up, and so are a proof test and a debug
session. -/
def State.leverStops (s : State) : State :=
  let s1 := s.endDebug
  let s2 := if s1.pair.proofTest then s1.endProof else s1
  if s2.update.state = 1 ∨ s2.update.state = 2 then s2.abortUpdate
  else if s2.update.state = 3 ∧ (¬ s2.pairUpdate ∨ s2.mode = .standby) then
    (s2.modUpdate fun u => { u with state := 7, endCause := 2, ownSlot := false }).releaseSlot 1
  else s2

/-- LEVER_OPEN, R365 and R400. -/
def execLeverOpen (s : State) : Host.Outcome State Fault Refusal :=
  .next (
    if s.front.leverOpen then s
    else
      let s1 := s.modFront fun f => { f with leverOpen := true }
      if !s1.up then s1
      else if s1.mode = .owner ∧ ¬ s1.solo then
        (if s1.peerStandbySync then
           (match s1.pair.handover with
            | some h => s1.modPair fun p => { p with handover := some { h with leave := true } }
            | none => s1.leverStops.proposeHandover .lever true none)
         else s1.leverRefuse)
      else if s1.mode = .owner ∨ s1.mode = .testHold then
        (if s1.reader.present.isSome then s1.leverStops.leave .lever true else s1.leverRefuse)
      else if s1.mode = .standby ∨ s1.mode = .joining ∨ s1.mode = .standbyFaulted then s1.leverStops.leave .lever false
      else if s1.mode = .lantern then
        { s1.releaseLocal with
          front := { s1.front with safeToRemove := true }
          lantern := { s1.lantern with driven := false, removedSince := true, phase := if s1.lantern.bringupComplete then .held else s1.lantern.phase,
                                       hold := if s1.lantern.bringupComplete then .leverOpen else s1.lantern.hold } }
      else s1)

/-- LEVER_CLOSE, R365, R400 and R404: a refusal ends, SAFE-TO-REMOVE goes dark, and a module that was not removed joins again. -/
def execLeverClose (s : State) : Host.Outcome State Fault Refusal :=
  .next (
    if !s.front.leverOpen then s
    else
      let s1 := s.modFront fun f => { f with leverOpen := false, leverRefused := false, safeToRemove := false }
      if s1.mode == .lantern && s1.lantern.hold == .leverOpen then
        (s1.modLantern fun l => { l with hold := .none, phase := .waitOwner }).leaveLantern (if s1.partnerSeen then s1.pair.peerIdent else none)
      else s1)

/-- A key presented while a refused lever is open makes a solo module leave (R400). -/
def State.keyAtLever (s : State) : State :=
  if s.front.leverOpen && s.front.leverRefused && ((s.mode == .owner && s.solo) || s.mode == .testHold) then
    s.leverStops.leave .lever true
  else s

end Sys2Proof.Machine
end

