-- ==== Sys2Proof/Machine/Keys.lean ====
section
/-! DEFINITION. The signature engine (R542 to R544), the key window reader (R549 to R556), and the times that end sessions (R436,
R448, R449). -/
namespace Sys2Proof.Machine

/-! ### The signature engine -/

/-- Operations that wait for the engine, in the order of arrival (R544); those of the key window go ahead of all other waiting
work, and not before the one that runs. -/
def State.submit (s : State) (ops : List SigOp) : State :=
  s.modKeys fun k =>
    { k with ops :=
        match k.ops with
        | [] => ops
        | o :: rest =>
          o :: (rest.filter (·.keyWindow) ++ ops.filter (·.keyWindow) ++ rest.filter (fun x => !x.keyWindow)
            ++ ops.filter fun x => !x.keyWindow) }

/-- The fixed times of R542 in ns: kind 0 ECDSA P-256, 1 ECDSA P-384, 2 ECDH, 3 key generation. -/
def SigOp.time (o : SigOp) : Nat := if o.kind = 0 then 900000 else if o.kind = 1 then 2100000 else 800000

/-- The result of R543: 1 VALID or done, 2 INVALID-SIGNATURE, 3 KEY-INVALID; and whether the precheck gave it. -/
def SigOp.result (o : SigOp) (p : Precheck) (valid : Bool) : Nat × Bool :=
  if o.kind = 3 then (1, false)
  else if p.coordinate || p.infinity || p.offCurve then (3, true)
  else if o.kind = 2 then (1, false)
  else if p.range then (2, true)
  else (if valid then 1 else 2, false)

/-- SIGNATURE_OPERATION_DONE, R542 and R543: the operation that runs ends, at 12 µs where the precheck refuses it. -/
def execSignatureOperationDone (p : Precheck) (valid : Bool) (s : State) : Host.Outcome State Fault Refusal :=
  .next (match s.keys.ops with
    | [] => s
    | o :: rest =>
      let r := o.result p valid
      s.modKeys fun k => { k with ops := rest, lastResult := r.1, lastTimeNs := if r.2 then 12000 else o.time })

/-! ### The key window -/

/-- A presentation ends. -/
def Reader.idle (r : Reader) : Reader :=
  { r with
    challenging := false, answers := [], collided := [], identified := [], selected := none, received := none, verdicts := [],
    retries := 0, floods := 0, flooded := false }

/-- KEY_CHALLENGE, R549 and R550: a challenge with a fresh nonce, while no key is being read, no flooding is waited out (R554), no
lockout holds (R555), and an ambiguous presentation has been followed by 1 s without an answer (R553). -/
def execKeyChallenge (nonce : List Byte) (s : State) : Host.Outcome State Fault Refusal :=
  .next (
    let r := s.reader
    let quiet := !r.waitQuiet || (match r.quietFrom with | some t => decide (t + 1000000000 ≤ s.clk.local_) | none => true)
    if s.up && !r.challenging && r.selected.isNone && !r.flooded && !r.lockout && quiet then
      s.modReader fun r =>
        { r with
          nonce := nonce, challenging := true, answers := [], collided := [], identified := [], received := none, verdicts := [],
          waitQuiet := false, quietFrom := none }
    else s)

/-- TAG_SERIAL_ANSWER, R550 and R553: a tag answers in a slot. Answers in one slot garble each other; an answer that comes while the
reader waits for quiet starts its second again. -/
def execTagSerialAnswer (slot : Fin 16) (serial : Word) (crcOk : Bool) (s : State) : Host.Outcome State Fault Refusal :=
  .next (
    if s.reader.waitQuiet then s.modReader fun r => { r with quietFrom := some s.clk.local_ }
    else if !s.reader.challenging then s
    else s.modReader fun r =>
      if !crcOk || r.collided.contains slot || r.answers.any fun a => a.1 == slot.val then
        { r with
          answers := r.answers.filter fun a => a.1 != slot.val
          collided := if r.collided.contains slot then r.collided else r.collided ++ [slot.val] }
      else { r with answers := NMap.set r.answers slot serial })

/-- KEY_SLOTS_END, R550 and R553: a collision asks for a new challenge; otherwise the first tag that answered is selected. -/
def execKeySlotsEnd (s : State) : Host.Outcome State Fault Refusal :=
  .next (
    if !s.reader.challenging then s
    else s.modReader fun r =>
      if !r.collided.isEmpty then { r with challenging := false, answers := [], collided := [] }
      else match r.answers with
        | [] => r.idle
        | a :: as => { r with challenging := false, identified := (a :: as).map (·.2), selected := some a.2 })

/-- CREDENTIAL, R549 and R551: the selected tag's credential, used whole or not at all; its two verifications go to the signature
engine, ahead of other waiting work. -/
def execCredential (c : Credential) (s : State) : Host.Outcome State Fault Refusal :=
  .next (
    if s.reader.selected = some c.serial ∧ s.reader.received.isNone ∧ c.crcOk ∧ ¬ s.reader.flooded then
      (s.modReader fun r => { r with received := some c }).submit [⟨if c.curve = 2 then 1 else 0, true⟩, ⟨0, true⟩]
    else s)

/-- Why a credential is not valid (R552): 0 where it is; 1 a field outside R551, 2 the issuer, 3 the issuer's signature, 4 the
challenge signature, 5 revoked, 6 expired. -/
def State.credentialFault (s : State) (c : Credential) : Nat :=
  if !(c.priv == 1 || c.priv == 2) || !(c.curve == 1 || c.curve == 2) then 1
  else if !(c.issuer == 1 && s.keys.authority.isSome || c.issuer == 0 && s.keys.authority.isNone) then 2
  else if !c.issuerSigOk then 3
  else if !c.challengeSigOk then 4
  else if s.keys.revoked.contains c.serial then 5
  else if s.calValid && decide (c.expiry ≤ s.calSec) then 6
  else 0

/-- A failed attempt (R555): recorded with TAG_SERIAL and the reason; the fifth within 60 s locks the reader for 60 s, is recorded
and fires source 964. -/
def State.failedAttempt (s : State) (serial : Word) (reason : Nat) : State :=
  let s1 := s.record 555 1 sevInfo noSource noSource [(4, serial.toNat), (4, reason)]
  let recent := (s1.reader.failed.filter fun t => decide (s1.clk.local_ < t + 60000000000)) ++ [s1.clk.local_]
  let s2 := s1.modReader fun r => { r with failed := recent }
  if 5 ≤ recent.length ∧ ¬ s2.reader.lockout then
    ((s2.modReader fun r => { r.idle with lockout := true, failed := [] }).record 555 2 sevInfo 964 noSource []).fire 964
  else s2

/-- A key is present (R556): for KEY_HOLD, and not beyond its EXPIRY while TB-CAL is valid. The acceptance is recorded, with whether
its EXPIRY could be checked (R552) and the floods of the presentation. -/
def State.keyPresent (s : State) (c : Credential) : State :=
  let hold := s.clk.local_ + s.settingNat 0x70 1 0 * 1000000000
  let until_ := if s.calValid then min hold (s.clk.local_ + (c.expiry - s.calSec) * 1000000000) else hold
  ((s.modReader fun r => { r with present := some ⟨c.serial, c.priv, c.expiry, until_⟩ }).record 552 1 sevInfo noSource noSource
    [(4, c.serial.toNat), (4, if s.calValid then 0 else 1), (4, s.reader.floods)]).keyAtLever

/-- KEY_VERIFY_DONE, R552 to R556: the verdict on the credential received. The next tag of the presentation is selected; after the
last, one key presented alone is present, and an ambiguous presentation grants nothing. -/
def execKeyVerifyDone (s : State) : Host.Outcome State Fault Refusal :=
  .next (match s.reader.received with
    | none => s
    | some c =>
      let fault := s.credentialFault c
      let many := decide (2 ≤ s.reader.identified.length)
      let left := (s.reader.identified.dropWhile (· != c.serial)).drop 1
      let s1 := if fault ≠ 0 then s.failedAttempt c.serial fault else s
      let s2 := s1.modReader fun r => { r with received := none, selected := none, verdicts := r.verdicts ++ [(c.serial, fault == 0)] }
      match left with
      | t :: _ => if s2.reader.lockout then s2 else s2.modReader fun r => { r with selected := some t }
      | [] =>
        let s3 := if fault = 0 ∧ ¬ many then s2.keyPresent c else s2
        s3.modReader fun r => { r.idle with waitQuiet := many, quietFrom := if many then some s.clk.local_ else none })

/-- LIGHT_FLOODING, R554: the frame in progress is discarded. -/
def execLightFlooding (s : State) : Host.Outcome State Fault Refusal :=
  .next (
    if s.reader.challenging || s.reader.selected.isSome then
      s.modReader fun r => { r with
        challenging := false, answers := [], collided := [], identified := [], selected := none, received := none, verdicts := [],
        flooded := true, floods := r.floods + 1 }
    else s)

/-- FLOOD_QUIET, R554: 10 ms without flooding; the presentation begins again, or ends FLOODED after its third retry. -/
def execFloodQuiet (s : State) : Host.Outcome State Fault Refusal :=
  .next (
    if !s.reader.flooded then s
    else if s.reader.retries < 3 then s.modReader fun r => { r with flooded := false, retries := r.retries + 1 }
    else (s.record 554 1 sevInfo noSource noSource []).modReader Reader.idle)

/-- KEY_LOCKOUT_END, R555. -/
def execKeyLockoutEnd (s : State) : Host.Outcome State Fault Refusal := .next (s.modReader fun r => { r with lockout := false })

/-- KEY_HOLD_EXPIRY, R556. -/
def execKeyHoldExpiry (s : State) : Host.Outcome State Fault Refusal :=
  .next (s.modReader fun r => { r with present := r.present.filter fun p => decide (s.clk.local_ + 50000 < p.until_) })

/-! ### Times of sessions -/

/-- SESSION_IDLE_EXPIRY, R449: SESSION_IDLE seconds without an accepted request. -/
def execSessionIdleExpiry (session : Nat) (s : State) : Host.Outcome State Fault Refusal :=
  .next (match s.session session with
    | some x =>
      if x.isOpen && decide (x.lastAt + s.settingNat 0x50 5 0 * 1000000000 ≤ s.clk.local_ + 50000) then s.closeSession session else s
    | none => s)

/-- HALF_OPEN_EXPIRY, R448: 5 s after the open. -/
def execHalfOpenExpiry (session : Nat) (s : State) : Host.Outcome State Fault Refusal :=
  .next (match s.session session with
    | some x => if !x.isOpen && decide (x.openedAt + 5000000000 ≤ s.clk.local_ + 50000) then s.closeSession session else s
    | none => s)

/-- REASSEMBLY_TIMEOUT, R436: the fragments of a datagram that is not whole after 1 s are discarded. A request reaches the module as
a command only once it is whole, so nothing of it is in the state. -/
def execReassemblyTimeout (_source : Word) (s : State) : Host.Outcome State Fault Refusal := .next s

end Sys2Proof.Machine
end

