-- ==== Sys2Proof/Machine/Sessions.lean ====
section
/-! DEFINITION. Group 16#00 and 16#01 (R444 to R449, R456 to R458): opening and closing sessions, identity, capability, module state,
test hold and restart. -/
namespace Sys2Proof.Machine

/-! ### Certificates -/

/-- The fields of a certificate that the module uses (R444). -/
structure Cert where
  format : Nat
  keyCurve : Nat
  kind : Nat
  privMax : Nat
  serial : Word
  notBefore : Nat
  notAfter : Nat
  tenantFirst : Nat
  tenantLast : Nat
  moduleWide : Bool
  issuerCurve : Nat
  subject : List Byte
  key : List Byte
  deriving DecidableEq, Repr

/-- Bytes of a key, or of a signature, of a curve: 1 P-256, 2 P-384. -/
def curveBytes (curve : Nat) : Nat := if curve = 2 then 96 else 64

/-- A certificate and what follows it; nothing where the bytes hold none. -/
def takeCert (p : List Byte) : Option (Cert × List Byte) :=
  let kc := field p 1 1
  let ic := field p 21 1
  let key := curveBytes kc
  let n := 56 + key + curveBytes ic
  if p.length < 56 ∨ p.length < n ∨ ¬ (kc = 1 ∨ kc = 2) ∨ ¬ (ic = 1 ∨ ic = 2) then none
  else
    some
      (⟨field p 0 1, kc, field p 2 1, field p 3 1, BitVec.ofNat 32 (field p 4 4), field p 8 4, field p 12 4, field p 16 2, field p 18 2,
        field p 20 1 % 2 == 1, ic, (p.drop 24).take 32, (p.drop 56).take key⟩, p.drop n)

/-- A chain of one or two certificates (R445). -/
def takeChain (p : List Byte) : Option (Cert × Option Cert) :=
  match takeCert p with
  | none => none
  | some (h, []) => some (h, none)
  | some (h, rest) =>
    match takeCert rest with
    | some (i, []) => some (h, some i)
    | _ => none

/-- A certificate that R445 does not refuse for its own fields. -/
def State.certGood (s : State) (c : Cert) (kind : Nat) : Bool :=
  c.format == 1 && c.kind == kind && (c.privMax == 1 || c.privMax == 2) && !s.keys.revoked.contains c.serial
    && (!s.calValid || (decide (c.notBefore ≤ s.calSec) && decide (s.calSec ≤ c.notAfter)))
    && decide (c.tenantFirst ≤ c.tenantLast) && decide (c.tenantLast ≤ 511)

/-- The HOST certificate stays within its INTERMEDIATE (R445). -/
def Cert.within (h i : Cert) : Bool :=
  decide (h.privMax ≤ i.privMax) && decide (i.tenantFirst ≤ h.tenantFirst) && decide (h.tenantLast ≤ i.tenantLast)
    && (!h.moduleWide || i.moduleWide)

/-- A chain that R445 does not refuse, leaving its signatures to the signature engine. -/
def State.chainGood (s : State) (ch : Cert × Option Cert) : Bool :=
  s.certGood ch.1 1 && (match ch.2 with | some i => s.certGood i 2 && ch.1.within i | none => true)

/-! ### Sessions -/

/-- The module is in commissioning (R546). -/
def State.commissioning (s : State) : Bool := s.keys.authority.isNone || s.keys.moduleCert.isNone

/-- A session number that is not in use. -/
def State.freeSession (s : State) (no : Nat) : Nat :=
  if no = 0 ∨ (s.session no).isSome then (s.gelit.sessions.map (·.no)).foldl max 0 + 1 else no

/-- The half-open session that an open request creates (R446, R546). -/
def State.newSession (s : State) (no priv : Nat) (comm : Bool) (chain : Option (Cert × Option Cert)) (g : OpenGrant) : Session :=
  let whole := comm || chain.isNone
  { no := no, isOpen := false, priv := if comm then 2 else priv
    moduleWide := whole || (match chain with | some c => c.1.moduleWide | none => true)
    tenantFirst := if whole then 0 else (match chain with | some c => c.1.tenantFirst | none => 0)
    tenantLast := if whole then 511 else (match chain with | some c => c.1.tenantLast | none => 511)
    commissioning := comm, chainSent := chain.isSome, highest := 0, accepted := [0], stored := [], openedAt := s.clk.local_,
    lastAt := s.clk.local_, key := g.key
    serials := match chain with | some (h, some i) => [h.serial, i.serial] | some (h, none) => [h.serial] | none => []
    ready := none, waiting := [] }

/-- The operations of an opening: a verification per certificate, the ephemeral key, and two ECDH (R542, R447). -/
def openOps (chain : Option (Cert × Option Cert)) : List SigOp :=
  (match chain with
   | some (h, i) => (h :: i.toList).map fun c => ⟨if c.issuerCurve = 2 then 1 else 0, false⟩
   | none => []) ++ [⟨3, false⟩, ⟨2, false⟩, ⟨2, false⟩]

/-- SESSION.OPEN, R446 and R546: a refusal, or the state with the half-open session and the reply. -/
def State.openSession (s : State) (r : Req) (c : Cmd) (g : OpenGrant) : Except Refused State := do
  let p := r.payload
  let n := field p 2 2
  need (84 ≤ p.length && p.length == 84 + up4 n) badLength
  zeros p (84 + n) (up4 n - n)
  need (field p 0 1 == 1 || field p 0 1 == 2) (badParam 0)
  need (field p 1 1 == 1) (badParam 1)
  need (r.seq == 0) badPlain
  need g.pointOk (badParam 20)
  need (s.gelit.sessions.length < 32) (6, [])
  let comm := s.commissioning
  need (!comm || s.keyAt 2) (denied 3)
  need (n != 0 || (comm && s.keys.authority.isNone)) (denied 5)
  let chain := takeChain ((p.drop 84).take n)
  need (n == 0 || (g.chainOk && s.keys.authority.isSome && (match chain with | some ch => s.chainGood ch | none => false))) (denied 5)
  need (n == 0 || (match chain with | some ch => decide (field p 0 1 ≤ ch.1.privMax) | none => false)) (denied 1)
  let chain := if n = 0 then none else chain
  let no := s.freeSession g.session
  let cert := if comm then s.keys.staticKey else (s.keys.moduleCert).getD []
  let s1 : State :=
    { s with gelit := { s.gelit with sessions := s.gelit.sessions ++ [s.newSession no (field p 0 1) comm chain g] } }
  let s2 := if comm then s1.useKey no else s1
  let s3 := if s.calValid || n == 0 then s2 else s2.record 445 1 sevInfo noSource noSource [(4, no)]
  let body := be 4 no ++ g.nonce ++ g.ephemeral ++ be 2 cert.length ++ [0, 0] ++ cert
  return (s3.submit (openOps chain)).sendReply (r.reply c 0 true body)

/-- The row of SESSION.OPEN. -/
def cmdSessionOpen : Cmd := ⟨0x0001, true, 0, false, .EL, true⟩

/-- SESSION_OPEN, R446; refusals carry a zero tag. -/
def execSessionOpen (r : Req) (g : OpenGrant) (s : State) : Host.Outcome State Fault Refusal :=
  .next (s.receive cmdSessionOpen .none r fun s _ =>
    .ok (.later (match s.openSession r cmdSessionOpen g with
      | .error e => s.sendReply (r.reply cmdSessionOpen e.1 false e.2)
      | .ok t => t)))

/-- The row of SESSION.CONFIRM. -/
def cmdSessionConfirm : Cmd := ⟨0x0002, true, 0, false, .EL, true⟩

/-- SESSION_CONFIRM, R448: the second and last step. A signature that is not valid ends the half-open session. -/
def execSessionConfirm (r : Req) (sigOk : Bool) (s : State) : Host.Outcome State Fault Refusal :=
  .next (s.receive cmdSessionConfirm (.flag sigOk) r fun s k =>
    match s.session r.session with
    | none => .error wrongState
    | some x => do
      let p := r.payload
      let n := field p 0 2
      need (!x.isOpen) wrongState
      need (4 ≤ p.length && p.length == 4 + up4 n) badLength
      zeros p 2 2
      need (r.seq == 1) badPlain
      need (if x.chainSent then n == 64 || n == 96 else n == 0) (badParam 0)
      let s1 := if x.chainSent then s.submit [⟨if n = 96 then 1 else 0, false⟩] else s
      if x.chainSent && !sigOk then .ok (.later ((s1.finish k 8 (denied 5).2).closeSession r.session))
      else
        ok (s1.modSession r.session fun x => { x with isOpen := true })
          (be 1 x.priv ++ be 1 (if x.moduleWide then 1 else 0) ++ be 2 x.tenantFirst ++ be 2 x.tenantLast ++ [0, 0]
            ++ be 4 (s.settingNat 0x50 5 0)))

/-- SESSION_CLOSE, R449. -/
def execSessionClose (r : Req) (s : State) : Host.Outcome State Fault Refusal :=
  .next (s.receive ⟨0x0003, true, 1, false, .EL, true⟩ .none r fun s k => do
    sized r.payload 0
    .ok (.later ((s.finish k 0 []).closeSession r.session)))

/-! ### Identity and state -/

/-- MODULE_IDENTITY, R7 and R456. -/
def execModuleIdentity (r : Req) (s : State) : Host.Outcome State Fault Refusal :=
  .next (s.receive ⟨0x0004, true, 1, false, .EL, true⟩ .none r fun s _ => do
    sized r.payload 0
    ok s (be 2 (Config.typeCode s.ident.variant) ++ be 1 s.ident.fuse ++ be 1 s.front.side.bit ++ be 8 s.ident.serial
      ++ be 4 s.ident.generation ++ be 1 s.front.slotId ++ be 1 2 ++ [0, 0]))

/-- UNIT_MAP of R457. -/
def unitMap (v : Variant) : List Byte :=
  (List.range 16).map fun b => BitVec.ofNat 8 (((List.range 8).map fun k => if Config.unitFitted v (8 * b + k) then 2 ^ k else 0).sum)

/-- MODULE_CAPABILITY, R3 and R457. -/
def execModuleCapability (r : Req) (s : State) : Host.Outcome State Fault Refusal :=
  .next (s.receive ⟨0x0005, true, 1, false, .EL, true⟩ .none r fun s _ => do
    sized r.payload 0
    let v := s.ident.variant
    ok s (unitMap v ++ be 1 (Config.strands v) ++ be 1 (Config.rings v) ++ be 1 (Config.domains v) ++ be 1 (Config.cans v)
      ++ be 4 (Config.tags v) ++ be 2 (Config.stations v) ++ [0, 0] ++ be 4 (Config.signals v)))

/-- KEY_REQUIRED, R398: the record is empty or differs from the present slot identity and side, or a removal came after it. -/
def State.keyRequired (s : State) : Bool :=
  s.lantern.record != some (s.front.slotId, s.front.side) || s.lantern.removedSince

/-- A first ownership under PAIR.ASSUME needs a key: KEY_REQUIRED with AUTO_START OFF (R355, R398). -/
def State.keyNeeded (s : State) : Bool := s.keyRequired && !s.autoStart

/-- LANTERN_STATUS, R396. -/
def State.lanternStatus (s : State) : Nat :=
  let l := s.lantern
  let bit (n : Nat) (b : Bool) : Nat := if b then 2 ^ n else 0
  (if s.mode = .lantern then l.phase.code else 0) + 8 * (if s.mode = .lantern then l.hold.code else 0)
    + bit 8 (s.mode == .lantern && l.running) + bit 9 (s.mode == .lantern && l.driven) + bit 10 (s.mode == .lantern && l.ran)
    + bit 11 s.keyRequired + bit 12 l.bringupComplete + bit 13 l.testHoldPin + 65536 * (l.fault % 256)

/-- MODULE_STATE, R458. -/
def execModuleState (r : Req) (s : State) : Host.Outcome State Fault Refusal :=
  .next (s.receive ⟨0x0101, true, 1, false, .EL, true⟩ .none r fun s _ => do
    sized r.payload 0
    ok s (be 1 s.mode.code ++ be 1 s.front.side.bit ++ be 2 s.forces.length ++ be 4 s.pair.epoch ++ be 4 s.lanternStatus
      ++ be 1 s.gelit.sessions.length ++ be 1 ((s.slot.map (·.holder)).getD 0) ++ be 1 ((s.slot.map (·.side.bit)).getD 0) ++ [0]
      ++ be 8 s.health.toNat ++ be 8 s.clk.local_))

/-- A solo OWNER goes into TEST-HOLD (R399): it goes on computing and transmitting. The regulator is off there, and VCORE is held at 0.70 V
(R40); a margin check under way runs to its end. -/
def State.commandTestHold (s : State) : State :=
  ({ s.restVcore with
      mode := .testHold, cause := .command, lantern := { s.lantern with testHoldPin := false } } : State).record 399 1 sevInfo
    noSource noSource []

/-- MODULE_TEST_HOLD, R399 and R458. -/
def execModuleTestHold (r : Req) (s : State) : Host.Outcome State Fault Refusal :=
  .next (s.receive ⟨0x0102, true, 2, false, .solo, false⟩ .none r fun s _ => do
    sized r.payload 0
    s.needKey
    ok (s.useKey r.session).commandTestHold [])

/-- MODULE_RESTART, R458 and R56: the reply is sent before the restart. An owner of a pair first makes a planned handover; a solo owner
needs a key. R395 does not list the command, so LANTERN and JOINING do not serve it. -/
def execModuleRestart (r : Req) (s : State) : Host.Outcome State Fault Refusal :=
  .next (s.receive ⟨0x0103, true, 2, false, .E, false⟩ .none r fun s k => do
    sized r.payload 0
    if s.mode = .owner ∧ ¬ s.solo then
      need s.mayHandOver wrongState
      .ok (.later (s.proposeHandover .command false (some k)))
    else
      need (s.mode != .owner || s.keyAt 2) (denied 3)
      let s1 := if s.mode = .owner then s.useKey r.session else s
      .ok (.later (State.restartFor .command (s1.finish k 0 []))))

end Sys2Proof.Machine
end

