-- ==== Sys2Proof/Machine/FuncUnits.lean ====
section
/-! DEFINITION. Group 16#02: stop-change-restart (R346, R459, R469 to R476). -/
namespace Sys2Proof.Machine

/-! ### Settings -/

/-- The channels of a setting and the range and step of its value (R38, R268, R307, R345, R415, R419, R476): a setting that is not
per channel has one channel. Nothing where the unit has no such setting. -/
def settingSpec (v : Variant) (unit no : Nat) : Option (Nat × Int × Int × Int) :=
  if unit = 0 then
    match no with
    | 1 => some (1, 0, 1, 1)
    | 2 => some (1, 5, 40, 1)
    | 3 => some (1, 16384, if v = .nk920 then 32768 else 65536, 1024)
    | _ => none
  else if 0x10 ≤ unit ∧ unit ≤ 0x17 then
    match no with
    | 4 => some (1, 1000, 100000, 50)
    | _ => if 1 ≤ no ∧ no ≤ 5 then some (1, 0, 1, 1) else none
  else if 0x20 ≤ unit ∧ unit ≤ 0x23 then
    match no with
    | 1 => some (1, 0, 1, 1)
    | 2 => some (1, 0, 2, 1)
    | 3 => some (1, 10, 1000, 1)
    | 4 => some (1, 50, 90, 1)
    | 5 => some (1, 0, 5000, 1)
    | 6 => some (1, 50, 90, 1)
    | 7 => some (1, 0, 15, 1)
    | 8 => some (1, 0, 1, 1)
    | 9 => some (1, 0, 7, 1)
    | _ => none
  else if unit = 0x30 then
    match no with
    | 1 => some (32, 0, 1, 1)
    | 2 => some (32, 0, 10000, 100)
    | 3 => some (32, 0, 3, 1)
    | _ => none
  else if unit = 0x31 then
    match no with
    | 1 => some (16, 0, 1, 1)
    | 2 => some (1, 10, 10000, 1)
    | _ => none
  else if unit = 0x32 then (if no = 1 ∨ no = 2 then some (8, 0, 1, 1) else none)
  else if unit = 0x33 then (if 1 ≤ no ∧ no ≤ 3 then some (4, 0, 1, 1) else none)
  else if unit = 0x40 ∨ unit = 0x41 then
    match no with
    | 1 => some (1, 0, 1, 1)
    | 2 => some (1, 0, 2, 1)
    | 3 => some (1, 0, 1, 1)
    | 4 => some (1, 0, 127, 1)
    | 5 => some (1, 0, 2, 1)
    | 6 => some (1, 0, 255, 1)
    | 7 => some (1, 0, 255, 1)
    | 8 => some (1, -4, 1, 1)
    | 9 => some (1, 0, 3, 1)
    | 10 => some (1, 2, 10, 1)
    | 11 => some (1, -4, 5, 1)
    | 12 => some (1, 0, 3, 1)
    | _ => none
  else if unit = 0x42 then
    match no with
    | 1 => some (1, 0, if v = .nk920 then 0 else 1, 1)
    | 2 => some (1, 0, 1, 1)
    | 3 => some (1, 1, 600, 1)
    | 4 => some (1, 0, 1, 1)
    | 5 => some (1, 0, 1, 1)
    | 6 => some (1, 0, 4, 1)
    | 7 => some (1, 1, 500, 1)
    | 8 => some (1, 0, 255, 1)
    | _ => none
  else if unit = 0x50 then
    match no with
    | 1 => some (1, 0, 1, 1)
    | 2 => some (1, -2147483648, 2147483647, 1)
    | 3 => some (1, 8, 30, 1)
    | 4 => some (1, -2147483648, 2147483647, 1)
    | 5 => some (1, 30, 3600, 1)
    | _ => none
  else if unit = 0x60 then
    match no with
    | 1 => some (1, 0, 1, 1)
    | 2 => some (1, 0, 1, 1)
    | 3 => some (1, 0, 1, 1)
    | 4 => some (1, 5, 3600, 1)
    | 5 => some (1, 0, 1, 1)
    | _ => none
  else if unit = 0x70 then (if no = 1 then some (1, 10, 600, 1) else none)
  else none

/-- Does the unit have the setting and its channel (R474)? -/
def settingThere (v : Variant) (unit setting : Nat) : Bool :=
  match settingSpec v unit (setting / 256) with
  | some x => decide (setting % 256 < x.1)
  | none => false

/-- Is a value in the range of its setting? Steps count from the lower limit; a data rate may also be 0 and is otherwise at least
1,000; 3 is reserved for PPS_OUT_SOURCE on the NK-920; a ring's settings lie on its even port, and CLOSURE on its odd port. -/
def settingOk (v : Variant) (unit setting : Nat) (value : Int) : Bool :=
  match settingSpec v unit (setting / 256) with
  | none => false
  | some (_, lo, hi, step) =>
    let no := setting / 256
    decide (lo ≤ value) && decide (value ≤ hi) && (value - lo) % step == 0
      && !(0x20 ≤ unit && unit ≤ 0x23 && no == 5 && decide (0 < value) && decide (value < 1000))
      && !(unit == 0x42 && no == 6 && value == 3 && v == .nk920)
      && !(0x10 ≤ unit && unit ≤ 0x17 && no == 3 && unit % 2 == 0)
      && !(0x10 ≤ unit && unit ≤ 0x17 && (no == 4 || no == 5) && unit % 2 == 1)

/-- A 4-byte VALUE as a signed number. -/
def signed32 (n : Nat) : Int := (BitVec.ofNat 32 n).toInt

/-- The value that a setting would have with the staged values (R469). -/
def State.withStaged (s : State) (staged : List (Nat × Int)) (unit no : Nat) : Int := (NMap.get staged (no * 256)).getD (s.setting unit no 0)

/-- A bit rate of R504 in kbit/s with its prescaler within `pmax` and at most `qmax` quanta. -/
def rateOk (rate : Int) (pmax qmax : Nat) : Bool :=
  let c := 80000 / rate.toNat
  decide (0 < rate) && 80000 % rate.toNat == 0 && (List.range pmax).any fun p => c % (p + 1) == 0 && decide (c / (p + 1) ≤ qmax)

/-- The further limits that `FUNC.RESTART` judges (R415, R476, R504). -/
def State.limitsOk (s : State) (unit : Nat) (staged : List (Nat × Int)) : Bool :=
  let val (no : Nat) : Int := s.withStaged staged unit no
  if unit = 0x40 ∨ unit = 0x41 then
    let other := 0x81 - unit
    !(val 2 == 2 && val 3 == 1) && !(val 5 == 2 && s.setting 0x50 1 0 == 0) && !(val 12 == 0 && val 1 == 1)
      && !(Config.unitFitted s.ident.variant other && s.setting other 2 0 == val 2 && s.setting other 3 0 == val 3
        && s.setting other 4 0 == val 4)
  else if 0x20 ≤ unit ∧ unit ≤ 0x23 then
    rateOk (val 3) 256 385 && (val 5 == 0 || (decide (val 3 ≤ val 5) && rateOk (val 5) 32 49))
  else true

/-- Cyclic tags that the admitted snapshots reserve (R308): one per I/O module of every snapshot. -/
def State.tagsReserved (s : State) : Nat :=
  (s.tasks.map fun e => if e.2.attr.taskClass ≤ 1 then e.2.attr.snap.length else 0).sum

/-! ### The commands -/

/-- The unit is quiesced on this module by this session (R469, R470). -/
def State.mine (s : State) (unit session : Nat) : Except Refused Quiesced :=
  match s.quiesce unit with
  | none => .error quiesceRequired
  | some q => if q.session = session then .ok q else .error (busyMaint 5 s.front.side unit)

/-- A pair update runs its steps (R572): commands that it holds off get BUSY-MAINT. -/
def State.noPairUpdate (s : State) : Except Refused Unit :=
  if s.pairUpdate then
    .error (busyMaint 1 ((s.slot.map (·.side)).getD s.front.side) ((s.slot.map (·.id)).getD 0))
  else .ok ()

/-- The unit field of a command. -/
def State.unitField (s : State) (p : List Byte) : Except Refused Nat := do
  let u := field p 0 1
  s.unitThere 0 u
  return u

/-- The partner carries the function of a port, controller or local unit (R473). -/
def State.partnerCarries (s : State) : Bool := s.solo || s.mode == .testHold || s.peerState == 3 || s.peerStandbySync

/-- The unit is not held quiesced by the partner, nor referenced by a change that is under way (R473, R256). -/
def State.quiesceFree (s : State) (unit session : Nat) : Except Refused Unit := do
  match s.quiesce unit with
  | some q => need (q.session == session) (busyMaint 5 s.front.side unit)
  | none => .ok ()
  need (unit == 0x60 || !s.pair.peerQuiesced.contains unit) (busyMaint 5 s.front.side.other unit)
  s.noPairUpdate
  let hit := match s.change.version with | some v => v.units.contains unit | none => false
  need (!(hit && decide (2 ≤ s.change.state) && decide (s.change.state ≤ 4)))
    (busyMaint 4 ((s.slot.map (·.side)).getD s.front.side) s.change.tenant)

/-- A unit quiesced by a session (R469, R472): the serving role of a CAN controller moves first (R507), and a PTP domain runs on in
holdover (R415). The lease of a unit that the session holds already starts again. -/
def State.quiesceUnit (s : State) (unit session : Nat) : State :=
  let lease := s.clk.local_ + 60000000000
  match s.quiesce unit with
  | some _ =>
    s.modSettings fun c => { c with quiesced := c.quiesced.map fun q => if q.unit = unit then { q with lease := lease } else q }
  | none =>
    let s1 := if 0x20 ≤ unit ∧ unit ≤ 0x23 then (s.canLoseAll (unit - 0x20)).giveCan (unit - 0x20) else s
    let s2 := s1.modSettings fun c => { c with quiesced := c.quiesced ++ [⟨unit, session, lease, []⟩] }
    let s3 :=
      if unit = 0x40 ∨ unit = 0x41 then
        s2.modDomain (unit - 0x40) fun x => if x.locked then { x with locked := false, holdover := true, lockedSince := none } else x
      else s2
    if s3.solo then s3 else s3.send 3 (.mirror (.quiesce unit true))

/-- FUNC_QUIESCE, R346, R469, R472 and R473. -/
def execFuncQuiesce (r : Req) (s : State) : Host.Outcome State Fault Refusal :=
  .next (s.receive ⟨0x0201, true, 2, false, .E, false⟩ .none r fun s _ => do
    let p := r.payload
    let u := field p 0 1
    s.unitThere 0 u
    need (u != 0x60 || s.owns) notOwner
    need (!(0x10 ≤ u && u ≤ 0x33) || s.partnerCarries) wrongState
    sized p 4
    zeros p 1 3
    need (Config.unitExists u) (badParam 0)
    s.quiesceFree u r.session
    ok (s.quiesceUnit u r.session) (be 2 60 ++ [0, 0]))

/-- The entries of FUNC.STAGE: SETTING and VALUE. -/
def stageEntries (p : List Byte) (count : Nat) : List (Nat × Int) :=
  (List.range count).map fun k => (field p (4 + 8 * k) 2, signed32 (field p (8 + 8 * k) 4))

/-- The first entry that a check refuses. -/
def firstBad {α : Type} (xs : List α) (bad : α → Bool) : Option Nat := (xs.zipIdx.find? fun x => bad x.1).map (·.2)

/-- No entry of a list is refused; the error names the field of the first that is. -/
def allGood {α : Type} (xs : List α) (bad : α → Bool) (err : Nat → Refused) : Except Refused Unit :=
  match firstBad xs bad with
  | some k => .error (err k)
  | none => .ok ()

/-- FUNC_STAGE, R469 to R471 and R474. -/
def execFuncStage (r : Req) (s : State) : Host.Outcome State Fault Refusal :=
  .next (s.receive ⟨0x0202, true, 2, false, .E, false⟩ .none r fun s _ => do
    let p := r.payload
    let u := field p 0 1
    let n := field p 2 2
    let es := stageEntries p (min n ((p.length - 4) / 8))
    s.unitThere 0 u
    need (s.owns || !es.any fun e => pairScope u (e.1 / 256)) notOwner
    sized p (4 + 8 * n)
    zeros p 1 1
    allGood (List.range n) (fun k => field p (6 + 8 * k) 2 != 0) fun k => reservedAt (6 + 8 * k)
    need (Config.unitExists u) (badParam 0)
    allGood es (fun e => !settingThere s.ident.variant u e.1) fun k => badParam (4 + 8 * k)
    allGood es (fun e => !settingOk s.ident.variant u e.1 e.2
        || (u == 0 && e.1 / 256 == 3 && decide ((Config.tags s.ident.variant : Int) - e.2 < s.tagsReserved))) fun k => badParam (8 + 8 * k)
    let q ← s.mine u r.session
    let staged := es.foldl (fun m e => NMap.set m e.1 e.2) q.staged
    need (staged.length ≤ 64) (badParam 2)
    let s1 := s.modSettings fun c =>
      { c with quiesced := c.quiesced.map fun x =>
          if x.unit = u then { x with staged := staged, lease := s.clk.local_ + 60000000000 } else x }
    ok s1 (be 2 staged.length ++ [0, 0]))

/-- The staged values of a unit take effect (R469, R471): those of SIDE scope now, those of PAIR scope at APPLY_AT on both modules. -/
def State.applyStaged (s : State) (unit : Nat) (staged : List (Nat × Int)) : State × Nat :=
  let pair := staged.filter fun v => pairScope unit (v.1 / 256)
  let side := staged.filter fun v => !pairScope unit (v.1 / 256)
  let at_ := if pair.isEmpty then 0 else s.tickIn 1000000
  let tell (s : State) (m : Mirror) : State := if s.solo then s else s.send 3 (.mirror m)
  let s1 := if side.isEmpty then s else tell (s.setValues unit side) (.settings 0 (otherSide unit) side)
  let s2 := if pair.isEmpty then s1
    else tell (s1.modSettings fun c => { c with applies := c.applies ++ [(at_, unit, pair)] }) (.settings at_ unit pair)
  (s2.restartUnit unit, at_)

/-- FUNC_RESTART, R469, R471 and R473: values that fail a further limit leave the unit quiesced with its values staged. A restart of
unit 16#50 replies before its settings take effect, and a new IPV4_ADDRESS ends every session. The store is written through
gate 10 (R528, R537). -/
def execFuncRestart (r : Req) (s : State) : Host.Outcome State Fault Refusal :=
  .next (s.receive ⟨0x0203, true, 2, false, .E, false⟩ .none r fun s k => do
    let p := r.payload
    let u ← s.unitField p
    sized p 4
    zeros p 1 3
    need (Config.unitExists u) (badParam 0)
    let q ← s.mine u r.session
    need (s.limitsOk u q.staged) badPlain
    s.throughGate r 10 0 1 (if u = 0x50 then
      let s1 := ((s.finish k 0 (be 8 0)).applyStaged u q.staged).1
      let moved := s1.setting 0x50 2 0 != s.setting 0x50 2 0
      .ok (.later (if moved then (s1.gelit.sessions.map (·.no)).foldl (fun (s : State) n => s.closeSession n) s1 else s1))
    else
      let t := s.applyStaged u q.staged
      ok t.1 (be 8 t.2)))

/-- FUNC_DISCARD, R469. -/
def execFuncDiscard (r : Req) (s : State) : Host.Outcome State Fault Refusal :=
  .next (s.receive ⟨0x0204, true, 2, false, .E, false⟩ .none r fun s _ => do
    let p := r.payload
    let u ← s.unitField p
    sized p 4
    zeros p 1 3
    need (Config.unitExists u) (badParam 0)
    let _ ← s.mine u r.session
    ok (s.restartUnit u) [])

/-- One entry of the reply of FUNC.READ. -/
def State.readEntry (s : State) (unit setting : Nat) : List Byte :=
  let staged := (s.quiesce unit).bind fun q => NMap.get q.staged setting
  be 2 setting ++ be 1 (if staged.isSome then 1 else 0) ++ [0] ++ be 4 (twos 32 (s.setting unit (setting / 256) (setting % 256)))
    ++ be 4 (twos 32 (staged.getD 0))

/-- FUNC_READ, R459. -/
def execFuncRead (r : Req) (s : State) : Host.Outcome State Fault Refusal :=
  .next (s.receive ⟨0x0205, true, 1, false, .E, false⟩ .none r fun s _ => do
    let p := r.payload
    let u ← s.unitField p
    let n := field p 2 2
    need (p.length == 4 + 4 * n && decide (40 + 12 * n ≤ 16384)) badLength
    zeros p 1 1
    allGood (List.range n) (fun k => field p (6 + 4 * k) 2 != 0) fun k => reservedAt (6 + 4 * k)
    need (Config.unitExists u) (badParam 0)
    let es := (List.range n).map fun k => field p (4 + 4 * k) 2
    allGood es (fun e => !settingThere s.ident.variant u e) fun k => badParam (4 + 4 * k)
    s.throughGate r 10 0 0 (ok s (be 2 n ++ [0, 0] ++ es.flatMap fun e => s.readEntry u e)))

/-- FUNC_STATUS, R459; of a unit that the partner holds, the module knows no lease. -/
def execFuncStatus (r : Req) (s : State) : Host.Outcome State Fault Refusal :=
  .next (s.receive ⟨0x0206, true, 1, false, .E, false⟩ .none r fun s _ => do
    let p := r.payload
    let u ← s.unitField p
    sized p 4
    zeros p 1 3
    need (Config.unitExists u) (badParam 0)
    match s.quiesce u with
    | some q =>
      ok s (be 1 1 ++ be 1 s.front.side.bit ++ be 2 ((q.lease - s.clk.local_ + 999999999) / 1000000000) ++ be 4 q.session
        ++ be 2 q.staged.length ++ [0, 0])
    | none =>
      if s.pair.peerQuiesced.contains u then ok s (be 1 1 ++ be 1 s.front.side.other.bit ++ be 2 0 ++ be 4 0 ++ be 2 0 ++ [0, 0])
      else ok s (be 2 0 ++ be 2 0 ++ be 4 0 ++ be 2 0 ++ [0, 0]))

end Sys2Proof.Machine
end

