-- ==== Sys2Proof/Machine/Programs.lean ====
section
/-! DEFINITION. Group 16#03: programs and tenants (R60, R67, R90, R213, R224, R229, R238 to R248, R391, R460, R461). -/
namespace Sys2Proof.Machine

/-! ### Loading -/

/-- PROG_LOAD_BEGIN, R460: the tenant is FREE, and this session holds it from here on. -/
def execProgLoadBegin (r : Req) (s : State) : Host.Outcome State Fault Refusal :=
  .next (s.receive ⟨0x0301, true, 2, true, .O, false⟩ .none r fun s _ => do
    sized r.payload 0
    let t := s.tenant r.tenant
    need (t.state == .free && (match t.loading with | some l => l.session == 0 | none => true)) wrongState
    ok { s with tenants := NMap.set s.tenants r.tenant { t with loading := some ⟨r.session, [], false⟩ } } [])

/-- The writing of a tenant that this session holds. -/
def State.loadingOf (s : State) (tenant session : Nat) : Except Refused Loading :=
  match (s.tenant tenant).loading with
  | some l => if l.session = session then .ok l else .error wrongState
  | none => .error wrongState

/-- PROG_LOAD_WRITE, R454 and R460; the chunk goes on to the partner. -/
def execProgLoadWrite (r : Req) (s : State) : Host.Outcome State Fault Refusal :=
  .next (s.receive ⟨0x0302, true, 2, true, .O, false⟩ .none r fun s _ => do
    let c ← chunkOf r.payload
    need (c.select == 0) (badParam 6)
    let l ← s.loadingOf r.tenant r.session
    let l1 ← l.add c
    ok ((s.modTenant r.tenant fun x => { x with loading := some l1 }).forwardChunk (0x200 + r.tenant) c) [])

/-- PROG_LOAD_CHECK, R84, R101, R460, R461, R572 and R623. `v` is the version that the chunks spell. -/
def execProgLoadCheck (r : Req) (v : Version) (s : State) : Host.Outcome State Fault Refusal :=
  .next (s.receive ⟨0x0303, true, 2, true, .O, false⟩ (.version v) r fun s k => do
    sized r.payload 0
    let l ← s.loadingOf r.tenant r.session
    need l.last wrongState
    s.noPairUpdate
    match s.judgeLoad r.tenant v [] with
    | .error e => .ok (.reply (s.failLoad r.tenant) e.1 e.2)
    | .ok a =>
      .ok (.later (s.askPartner ⟨r.tenant, 0, v, [], a.1, a.2, figuresOf r.tenant 0 0 (some a.1) [], none, some k⟩)))

/-! ### Starting and stopping -/

/-- The mask of a start or stop; each bit set names a task of the tenant. -/
def State.maskOf (s : State) (tenant : Nat) (p : List Byte) : Except Refused Nat := do
  sized p 4
  zeros p 2 2
  let m := field p 0 2
  let there := (s.tasks.filter fun e => e.2.tenant == tenant).map (·.2.pos)
  need ((List.range 16).all fun k => m / 2 ^ k % 2 == 0 || there.contains k) (badParam 0)
  return m

/-- The fault frame of a tenant can be written where it is (R226, R229). -/
def State.frameOk (s : State) (tenant : Nat) : Bool :=
  let t := s.tenant tenant
  match t.version with
  | some v =>
    let a := t.win.m + 4 * v.faultFrame
    a % 64 == 0 && s.ownerOf a == some tenant
      && (match p0Access tenant a 1 with | some x => (s.gateCheck x).isNone | none => true)
  | none => false

/-- PROG_START, R67, R90, R213, R229 and R460. -/
def execProgStart (r : Req) (s : State) : Host.Outcome State Fault Refusal :=
  .next (s.receive ⟨0x0304, true, 2, true, .O, false⟩ .none r fun s _ => do
    let m ← s.maskOf r.tenant r.payload
    need ((s.maskTasks r.tenant m).all fun n => !(s.strand (((s.task n).map (·.strand)).getD 0)).retired) wrongState
    need ((s.tenant r.tenant).state != .frameDisplaced || m == 0 || s.frameOk r.tenant) wrongState
    let start0 := s.newStart
    ok ((s.startTasks r.tenant m start0).tellPartner (.start r.tenant m start0)) [])

/-- PROG_STOP, R224 and R460. -/
def execProgStop (r : Req) (s : State) : Host.Outcome State Fault Refusal :=
  .next (s.receive ⟨0x0305, true, 2, true, .O, false⟩ .none r fun s _ => do
    let m ← s.maskOf r.tenant r.payload
    ok ((s.stopTasks r.tenant m).tellPartner (.stop r.tenant m)) [])

/-- PROG_UNLOAD, R61, R229 and R460; a tenant of a change or a debug session that is under way is held by it. -/
def execProgUnload (r : Req) (s : State) : Host.Outcome State Fault Refusal :=
  .next (s.receive ⟨0x0306, true, 2, true, .O, false⟩ .none r fun s _ => do
    sized r.payload 0
    let st := (s.tenant r.tenant).state
    need (st == .loaded || st == .stopped || st == .frameDisplaced) wrongState
    match s.slot with
    | some x => need (!((x.holder == 3 || x.holder == 4) && x.id == r.tenant)) (busyMaint x.holder x.side x.id)
    | none => .ok ()
    ok ((s.unload r.tenant).tellPartner (.unload r.tenant)) [])

/-! ### Status -/

/-- The forces on signals that a version maps (R264). -/
def State.forcedSignals (s : State) (v : Version) : Nat := (s.forces.filter fun f => v.ioMap.any fun b => b.signal == f.signal).length

/-- One task of `PROG.TENANT-STATUS`. -/
def Task.status (t : Task) : List Byte :=
  be 2 t.no ++ be 1 t.st.code ++ be 1 t.strand ++ be 8 t.cycle ++ be 2 t.faultCode ++ be 2 (t.lBase / 64)

/-- Tasks in the order of their positions. -/
def byPosition (ts : List Task) : List Task := (List.range 16).flatMap fun p => ts.filter fun t => t.pos == p

/-- PROG_TENANT_STATUS, R93, R233, R264 and R460. -/
def execProgTenantStatus (r : Req) (s : State) : Host.Outcome State Fault Refusal :=
  .next (s.receive ⟨0x0307, true, 1, true, .E, false⟩ .none r fun s _ => do
    sized r.payload 0
    let t := s.tenant r.tenant
    let ts := byPosition ((s.tasks.map (·.2)).filter fun u => u.tenant == r.tenant)
    let dbg := (s.dbg.map (·.tenant)) == some r.tenant
    ok s (be 1 t.state.code ++ be 1 ((if dbg then 1 else 0) + if t.state == .frameDisplaced then 2 else 0)
      ++ be 2 ((t.version.map s.forcedSignals).getD 0) ++ be 4 ((t.version.map (·.versionId.toNat)).getD 0)
      ++ be 1 ts.length ++ [0, 0, 0] ++ ts.flatMap Task.status))

/-! ### Online changes -/

/-- PROG_CHANGE_BEGIN, R238. -/
def execProgChangeBegin (r : Req) (s : State) : Host.Outcome State Fault Refusal :=
  .next (s.receive ⟨0x0308, true, 2, true, .O, false⟩ .none r fun s _ => do
    sized r.payload 0
    need (s.change.state == 0 || decide (5 ≤ s.change.state)) wrongState
    s.slotFree
    ok ({ s with change := { changeReset with state := 1, tenant := r.tenant, session := r.session } }.takeSlot 4 r.tenant) [])

/-- The change is in one of the states, and its tenant is this one. -/
def State.changeIn (s : State) (tenant : Nat) (states : List Nat) : Except Refused Unit :=
  need (states.contains s.change.state && s.change.tenant == tenant) wrongState

/-- A change check waits for the partner. -/
def State.changeChecks (s : State) : Bool := s.checks.any fun w => w.kind == 1 && w.ticket.isSome

/-- PROG_CHANGE_WRITE, R238 and R460. -/
def execProgChangeWrite (r : Req) (s : State) : Host.Outcome State Fault Refusal :=
  .next (s.receive ⟨0x0309, true, 2, true, .O, false⟩ .none r fun s _ => do
    let c ← chunkOf r.payload
    need (decide (c.select ≤ 1)) (badParam 6)
    s.changeIn r.tenant [1]
    need (!s.changeChecks) wrongState
    let x := s.change
    if c.select = 0 then
      let cs ← addChunk x.versionBytes x.versionLast c
      ok ({ s with change := { x with versionBytes := cs, versionLast := c.last } }.forwardChunk 0x100 c) []
    else
      let cs ← addChunk x.mapBytes x.mapLast c
      ok ({ s with change := { x with mapBytes := cs, mapLast := c.last } }.forwardChunk 0x101 c) [])

/-- PROG_CHANGE_CHECK, R238, R240 and R241: both modules check, and the reply waits for both. `v` is the version that the chunks spell. -/
def execProgChangeCheck (r : Req) (v : Version) (s : State) : Host.Outcome State Fault Refusal :=
  .next (s.receive ⟨0x030A, true, 2, true, .O, false⟩ (.version v) r fun s k => do
    sized r.payload 0
    s.changeIn r.tenant [1]
    need (!s.changeChecks) wrongState
    let bytes := assemble s.change.versionBytes ++ assemble s.change.mapBytes
    match s.judgeChange r.tenant v (wordsOf (assemble s.change.mapBytes)) [] with
    | .error f =>
      .ok (.later (s.askPartner ⟨r.tenant, 1, v, [], Admitted.none, 0, figuresOf r.tenant 1 f.result none bytes,
        some (f.result, f.detail, f.offset), some k⟩))
    | .ok a =>
      .ok (.later (s.askPartner ⟨r.tenant, 1, v, a.2, a.1, 0, figuresOf r.tenant 1 0 (some a.1) bytes, none, some k⟩)))

/-- PROG_CHANGE_ARM, R248 and R250: the instant is fixed, the published state is converted, and the partner is asked to confirm. -/
def execProgChangeArm (r : Req) (s : State) : Host.Outcome State Fault Refusal :=
  .next (s.receive ⟨0x030B, true, 2, true, .O, false⟩ .none r fun s _ => do
    sized r.payload 8
    let at_ := field r.payload 0 8
    need (at_ == 0 || (at_ % 50000 == 0 && decide (s.clk.ring + 20000000 ≤ at_) && decide (at_ ≤ s.clk.ring + 600000000000))) (badParam 0)
    s.changeIn r.tenant [2]
    let instant := if at_ = 0 then s.tickIn 20000000 else at_
    let s1 := (s.modChange fun c => { c with state := 3, switchAt := instant, confirmed := s.alone }).convertAll.rebuildQueues instant
    let s2 := if s.solo then s1 else s1.send 3 (.switchAt instant)
    ok s2 s2.change.words)

/-- PROG_CHANGE_ABORT, R238 and R248: until the abort limit. A check that waits ends with it. -/
def execProgChangeAbort (r : Req) (s : State) : Host.Outcome State Fault Refusal :=
  .next (s.receive ⟨0x030C, true, 2, true, .O, false⟩ .none r fun s _ => do
    sized r.payload 0
    s.changeIn r.tenant [1, 2, 3]
    need (s.change.state != 3 || decide (s.clk.ring + 5000000 ≤ s.change.switchAt)) wrongState
    let ended := (s.checks.filter fun w => w.kind == 1).filterMap (·.ticket)
    let s1 : State := { s with checks := s.checks.filter fun w => w.kind != 1 }
    let s2 := ended.foldl (fun (s : State) k => s.finish k wrongState.1 wrongState.2) s1
    ok ((s2.releaseSlot 4).abortChange s.change.lastResult) [])

/-- PROG_CHANGE_STATUS, R239. -/
def execProgChangeStatus (r : Req) (s : State) : Host.Outcome State Fault Refusal :=
  .next (s.receive ⟨0x030D, true, 1, true, .E, false⟩ .none r fun s _ => do
    sized r.payload 0
    ok s s.change.words)

/-! ### The plant lantern program -/

/-- A plant lantern program judged (R391): its tasks but the first are none, its instructions at most 16,384, its code good on the
lantern windows, and its worst-case path within the 100 ms cycle. -/
def State.judgeLantern (s : State) (v : Version) : Except Refused Unit := do
  let lv := lanternVersion s.ident.variant v
  need (v.tasks.length == 1 && decide (4 * v.konst.length ≤ v.sizeK) && windowOk v.sizeK && lv.forecastOk && decide (v.agreedImm ≤ 1)
    && decide (v.safe.length ≤ 4096) && v.safe.all fun e => decide (4 * e.word < lv.sizeQ)) badPlain
  match lv.check with
  | .error e => .error (LoadFail.refusal { failPlain e.2 with kind := 1, offset := e.1 })
  | .ok figs =>
    need (decide ((insFrom 0 v.code).length ≤ 16384) && decide (lv.edgeBytes ≤ 256)) (failPlain 0x0D).refusal
    need (figs.all fun f => f.2.bounded) (failPlain 2).refusal
    need (figs.all fun f => decide (f.2.w ≤ 19992000)) (failPlain 3).refusal

/-- PROG_LANTERN_LOAD, R391, R460 and R572. `v` is the program that the chunks spell; the one with LAST brings it into force. -/
def execProgLanternLoad (r : Req) (v : Version) (s : State) : Host.Outcome State Fault Refusal :=
  .next (s.receive ⟨0x030E, true, 2, false, .OL, false⟩ (.version v) r fun s _ => do
    let c ← chunkOf r.payload
    need (c.select == 0) (badParam 6)
    s.noPairUpdate
    let l := match s.lantern.loading with
      | some l => if l.session = r.session ∧ ¬ l.last then l else ⟨r.session, [], false⟩
      | none => ⟨r.session, [], false⟩
    let l1 ← l.add c
    if !c.last then ok (s.modLantern fun x => { x with loading := some l1 }) []
    else
      let s1 := s.modLantern fun x => { x with loading := none }
      match s.judgeLantern v with
      | .error e => .ok (.reply s1 e.1 e.2)
      | .ok _ =>
        let s2 := s1.modLantern fun x =>
          { x with plantProgram := some v, plantCrcOk := true, next := if s.mode = .lantern then some v else x.next }
        ok (if s.mode = .owner then s2.tellPartner (.lanternProgram v) else s2) (loadReply (failPlain 0) lanternWindows.edge 0))

end Sys2Proof.Machine
end

