-- ==== Sys2Proof/Machine/RingCommands.lean ====
section
/-! DEFINITION. Group 16#05: rings and stations (R293, R296, R305, R311 to R315, R464, R465). -/
namespace Sys2Proof.Machine

/-! ### Status -/

/-- A ring of a request: fitted (R3), and one of the four. -/
def State.ringField (s : State) (off ring : Nat) : Except Refused Unit := do
  s.ringThere off ring
  need (decide (ring < 4)) (badParam off)

/-- Snapshots of a ring with their input sweeps. -/
def RingPlan.sweeps (p : RingPlan) : List (Nat × Nat) := p.snapshots.map fun t => (t.no, (p.inputSweep t).getD 0)

/-- RING_READ_STATUS, R293 and R464. -/
def execRingReadStatus (r : Req) (s : State) : Host.Outcome State Fault Refusal :=
  .next (s.receive ⟨0x0501, true, 1, false, .E, false⟩ .none r fun s _ => do
    let p := r.payload
    let k := field p 0 1
    s.ringThere 0 k
    sized p 4
    zeros p 1 3
    s.ringField 0 k
    let pl := s.plan k
    let active := ((s.ring k).stations.filter fun v => v.state == StationState.active).length
    let up := (if (s.port (2 * k)).linkUp then 1 else 0) + (if (s.port (2 * k + 1)).linkUp then 2 else 0)
    s.throughGate r 13 0 0
      (ok s (be 2 (s.ring k).table.length ++ be 2 active ++ be 4 pl.outputSweep ++ be 2 pl.occupancy
        ++ be 2 ((s.ring k).cut.getD 0xFFFF) ++ be 1 up ++ [0] ++ be 2 pl.sweeps.length
        ++ pl.sweeps.flatMap fun e => be 2 e.1 ++ [0, 0] ++ be 4 e.2)))

/-- The words of a station, R305. -/
def StationView.words (v : StationView) (pos : Nat) : List Byte :=
  let bit (n : Nat) (b : Bool) : Nat := if b then 2 ^ n else 0
  be 4 (v.state.code + 8 * v.refuse + bit 6 v.seenA + bit 7 v.seenB + bit 8 v.freeRun + 65536 * pos)
    ++ be 4 v.typeId.toNat ++ be 4 v.serial.toNat ++ be 4 (v.delayA % 65536 + 65536 * (v.delayB % 65536))
    ++ be 4 v.slotEdge ++ be 4 v.slotIntrusion ++ be 4 v.late ++ be 4 v.dupMismatch ++ be 4 v.epochLow ++ be 4 v.resyncs

/-- RING_READ_STATION, R305: either module answers from its own view. -/
def execRingReadStation (r : Req) (s : State) : Host.Outcome State Fault Refusal :=
  .next (s.receive ⟨0x0503, true, 1, false, .E, false⟩ .none r fun s _ => do
    let p := r.payload
    s.ringThere 0 (field p 0 1)
    sized p 4
    zeros p 2 2
    s.ringField 0 (field p 0 1)
    ok s ((s.station (field p 0 1) (field p 1 1)).words (field p 1 1)))

/-! ### The station table -/

/-- `n` entries of `size` bytes each, at an offset. -/
def entriesAt (p : List Byte) (off size n : Nat) : List (List Byte) := (List.range n).map fun k => (p.drop (off + size * k)).take size

/-- The positions of a station table from an offset on; nothing where the bytes do not hold exactly them. -/
def takePositions (p : List Byte) : Nat → Nat → Option (List StationCfg)
  | 0, off => if p.length = off then some [] else none
  | n + 1, off =>
    if p.length < off + 12 then none
    else
      let m := field p (off + 8) 1
      let a := field p (off + 9) 1
      let next := off + 12 + 8 * m + 4 * a
      let mods := (entriesAt p (off + 12) 8 m).map fun e => (⟨field e 0 1, field e 2 2, field e 4 2⟩ : StationMod)
      let alarms := (entriesAt p (off + 12 + 8 * m) 4 a).map fun e => (⟨field e 0 2, field e 2 1⟩ : AlarmCh)
      (takePositions p n next).map fun rest =>
        ⟨BitVec.ofNat 32 (field p off 4), BitVec.ofNat 32 (field p (off + 4) 4), mods, alarms⟩ :: rest

/-- The reserved bytes of the positions are zero. -/
def positionsClear (p : List Byte) : Nat → Nat → Bool
  | 0, _ => true
  | n + 1, off =>
    let m := field p (off + 8) 1
    let a := field p (off + 9) 1
    field p (off + 10) 2 == 0
      && ((entriesAt p (off + 12) 8 m).all fun e => field e 1 1 == 0 && field e 6 2 == 0)
      && ((entriesAt p (off + 12 + 8 * m) 4 a).all fun e => field e 3 1 == 0)
      && positionsClear p n (off + 12 + 8 * m + 4 * a)

/-- The station table that bytes spell (R465). The fields at fault lie in no one request, so the error block names none. -/
def stationTable (p : List Byte) : Except Refused (List StationCfg) := do
  need (field p 0 2 == 1 && decide (field p 2 2 ≤ 256)) badPlain
  let t ← (match takePositions p (field p 2 2) 4 with | some t => .ok t | none => .error badPlain)
  need (positionsClear p (field p 2 2) 4) (2, errorPlain)
  let sources := t.flatMap fun c => c.alarms.map (·.source)
  need (sources.all fun n => decide (576 ≤ n) && decide (n ≤ 831)) badPlain
  need (sources.eraseDups.length == sources.length) badPlain
  return t

/-- The tenants that are loaded, with their versions. -/
def State.loadedVersions (s : State) : List Version := (s.tenants.filter fun e => e.1 != lanternTenant).filterMap fun e => e.2.version

/-- The alarm channel of a table that gives a source: its position, its number there and its slot. -/
def alarmOf (t : List StationCfg) (source : Nat) : Option (Nat × Nat × Nat) :=
  t.zipIdx.findSome? fun c => c.1.alarms.zipIdx.findSome? fun a => if a.1.source = source then some (c.2, a.2, a.1.slot) else none

/-- A new table leaves every position, module and alarm channel that a loaded tenant maps as it was (R465). -/
def State.tableKeeps (s : State) (ring : Nat) (new : List StationCfg) : Bool :=
  let old := (s.ring ring).table
  s.loadedVersions.all fun v =>
    ((v.ioMap.filter fun b => sigSpace b.signal == 0 && sigRing b.signal == ring).all fun b =>
      match old[sigStation b.signal]?, new[sigStation b.signal]? with
      | some x, some y =>
        x.typeId == y.typeId && x.serial == y.serial
          && (x.mods.find? fun m => m.slot == sigSlot b.signal) == (y.mods.find? fun m => m.slot == sigSlot b.signal)
      | none, _ => true
      | some _, none => false)
    && (v.tasks.flatMap fun t => t.2.sources).all fun n => (alarmOf old n).isNone || alarmOf old n == alarmOf new n

/-- Stations of the module's other rings (R2). -/
def State.stationsElsewhere (s : State) (ring : Nat) : Nat :=
  ((s.rings.zipIdx.filter fun p => p.2 != ring).map fun p => p.1.table.length).sum

/-- RING_LOAD_CONFIG, R296, R464 and R465. -/
def execRingLoadConfig (r : Req) (s : State) : Host.Outcome State Fault Refusal :=
  .next (s.receive ⟨0x0502, true, 2, false, .O, false⟩ .none r fun s _ => do
    s.ringThere 6 (field r.payload 6 1)
    let c ← chunkOf r.payload
    need (decide (c.select < 4)) (badParam 6)
    s.noPairUpdate
    let l := ((s.ring c.select).loading).getD ⟨r.session, [], false⟩
    need (l.session == r.session || (s.session l.session).isNone) wrongState
    let l1 ← (if l.session = r.session then l else ⟨r.session, [], false⟩).add c
    if c.last then do
      let t ← stationTable (assemble l1.chunks)
      need (decide (t.length + s.stationsElsewhere c.select ≤ Config.stations s.ident.variant)) badPlain
      need (s.tableKeeps c.select t) wrongState
      let at_ := s.tickIn 1000000
      ok ((s.modRing c.select fun x => { x with loading := none, staged := some (at_, t) }).tellPartner (.stationTable at_ c.select t)) []
    else ok (s.modRing c.select fun x => { x with loading := some l1 }) [])

/-! ### Acyclic requests -/

/-- The privilege of a request to a station: P2 to write (R464). -/
def acyclicPriv (op : Nat) : Nat := if op = 2 then 2 else 1

/-- `RING.ACYCLIC`, R311 to R315 and R464. A station that is not ACTIVE, or past the table, cannot answer: the transaction ends
STATION-GONE at once, counted and fired as every end is (R304, R315). -/
def State.ringAcyclic (s : State) (r : Req) : State :=
  s.receive ⟨0x0504, true, acyclicPriv (field r.payload 4 1), false, .E, false⟩ .none r fun s k => do
    let p := r.payload
    s.ringThere 0 (field p 0 1)
    let op := field p 4 1
    let len := field p 8 2
    need (decide (12 ≤ p.length) && p.length == 12 + (if op = 2 then up4 len else 0)) badLength
    zeros p 2 2
    zeros p 10 2
    need (((p.drop (12 + len)).all (· == 0)) || op != 2) (reservedAt (12 + len))
    s.ringField 0 (field p 0 1)
    need (op == 1 || op == 2 || op == 3) (badParam 4)
    need (decide (len ≤ 1024)) (badParam 8)
    let q : AcycReq := ⟨field p 0 1, field p 1 1, op, field p 5 1, field p 6 2, len, if op = 2 then (p.drop 12).take len else []⟩
    if (s.station q.ring q.station).state ≠ .active then ok ((s.count 0x2602).fire (836 + 8 * q.ring)) (acycReply 2 [])
    else if s.owns then .ok (.later (s.offerAcyc q (some k) 0))
    else .ok (.later (s.forwardAcyc q k))

/-- ACYCLIC_READ: `RING.ACYCLIC` with OP 1. -/
def execAcyclicRead (r : Req) (s : State) : Host.Outcome State Fault Refusal := .next (s.ringAcyclic r)

/-- ACYCLIC_WRITE: `RING.ACYCLIC` with OP 2. -/
def execAcyclicWrite (r : Req) (s : State) : Host.Outcome State Fault Refusal := .next (s.ringAcyclic r)

/-- ALARM_FETCH: `RING.ACYCLIC` with OP 3. -/
def execAlarmFetch (r : Req) (s : State) : Host.Outcome State Fault Refusal := .next (s.ringAcyclic r)

/-- The transaction that a sequence of a session started and that has not ended. -/
def State.acyclicOf (s : State) (session seq : Nat) : Option Acyc :=
  (s.acyc.map (·.2)).find? fun x => match x.ticket with | some k => k.session == session && k.seq == seq | none => false

/-- RING_ACYCLIC_ABORT, R464: the original ends ABORTED. -/
def execRingAcyclicAbort (r : Req) (s : State) : Host.Outcome State Fault Refusal :=
  .next (
    let op := ((s.acyclicOf r.session (field r.payload 0 4)).map (·.req.op)).getD 1
    s.receive ⟨0x0505, true, acyclicPriv op, false, .E, false⟩ .none r fun s _ => do
      sized r.payload 4
      match s.acyclicOf r.session (field r.payload 0 4) with
      | some x => ok (s.endAcyc x 4 []) []
      | none => .error (badParam 0))

end Sys2Proof.Machine
end

