-- ==== Sys2Proof/Machine/PairCommands.lean ====
section
/-! DEFINITION. Groups 16#06 and 16#07: pair and time (R355, R364, R373, R375, R376, R378, R408, R420, R432, R434, R466). -/
namespace Sys2Proof.Machine

/-! ### The pair -/

/-- Seconds left of the hold-off of revertive return (R369). -/
def State.holdoffLeft (s : State) : Nat :=
  match s.pair.holdoffFrom with
  | some t => (t + s.settingNat 0x60 4 0 * 1000000000 - s.clk.local_ + 999999999) / 1000000000
  | none => 0

/-- PAIR_STATUS, R376 and R466. -/
def execPairStatus (r : Req) (s : State) : Host.Outcome State Fault Refusal :=
  .next (s.receive ⟨0x0601, true, 1, false, .E, false⟩ .none r fun s _ => do
    sized r.payload 0
    ok s (be 8 s.health.toNat ++ be 8 s.pair.peerHealth.toNat ++ be 4 s.pair.epoch ++ be 1 s.pair.ownerSide.bit ++ [0, 0, 0]
      ++ be 4 (if s.mode = .standby then s.holdoffLeft else 0)))

/-- LANTERN keeps the module whatever a host asks: a slot identity that fails (R9, R387), a part that is invalid or being fetched
(R389), a bring-up that timed out (R389), TEST-HOLD refused (R399), or an open lever (R400). PAIR.ASSUME overrides the other reasons
of R396 (R355). -/
def State.heldBack (s : State) : Bool :=
  s.front.leverOpen || s.lantern.phase == Phase.fetching ||
    match s.lantern.hold with
    | .slotParity => true
    | .sideConflict => true
    | .partInvalid => true
    | .bringupTimeout => true
    | .testHoldRefused => true
    | .leverOpen => true
    | _ => false

/-- PAIR_ASSUME, R355 and R398: a first ownership with AUTO_START OFF needs a key. -/
def execPairAssume (r : Req) (s : State) : Host.Outcome State Fault Refusal :=
  .next (s.receive ⟨0x0602, true, 2, false, .OL, false⟩ .none r fun s _ => do
    sized r.payload 0
    need (s.mode == ModState.lantern && s.lantern.bringupComplete && !s.heldBack && !s.ownerSeen && s.mayOwn) wrongState
    need (!s.keyNeeded || s.keyAt 2) (denied 3)
    let s1 := if s.keyNeeded then s.useKey r.session else s
    let s2 := s1.ownFromLantern .assume
    ok s2 (be 4 s2.pair.epoch))

/-- PAIR_HANDOVER, R364: the reply is sent after H. -/
def execPairHandover (r : Req) (s : State) : Host.Outcome State Fault Refusal :=
  .next (s.receive ⟨0x0603, true, 2, false, .O, false⟩ .none r fun s k => do
    sized r.payload 0
    need (s.mode == ModState.owner && s.mayHandOver && s.pair.handover.isNone) wrongState
    .ok (.later (s.proposeHandover .command false (some k))))

/-- PAIR_REJOIN, R373: `selftestOk` is what the repeated self-test finds. -/
def execPairRejoin (r : Req) (selftestOk : Bool) (s : State) : Host.Outcome State Fault Refusal :=
  .next (s.receive ⟨0x0604, true, 2, false, .E, false⟩ (.flag selftestOk) r fun s _ => do
    sized r.payload 0
    need (s.mode == ModState.standbyFaulted && !s.causePersists && selftestOk) wrongState
    ok s.rejoin [])

/-- PAIR_HEALTH_ACK, R376 and R466: the bits are cleared on both modules. -/
def execPairHealthAck (r : Req) (s : State) : Host.Outcome State Fault Refusal :=
  .next (s.receive ⟨0x0605, true, 2, false, .E, false⟩ .none r fun s _ => do
    sized r.payload 8
    let m := BitVec.ofNat 64 (field r.payload 0 8)
    need (m &&& ~~~ackBits == 0) (badParam 0)
    ok ((s.ackHealth m).tellPartner (.healthAck m)) [])

/-- A quiesce of either module stands in the way of a proof test (R576). -/
def State.noQuiesce (s : State) : Except Refused Unit :=
  match s.settings.quiesced, s.pair.peerQuiesced with
  | q :: _, _ => .error (busyMaint 5 s.front.side q.unit)
  | [], u :: _ => .error (busyMaint 5 s.front.side.other u)
  | [], [] => .ok ()

/-- PAIR_PROOF_TEST, R375 and R378: on the standby it starts there; on the owner it starts on the synchronised standby. -/
def execPairProofTest (r : Req) (s : State) : Host.Outcome State Fault Refusal :=
  .next (s.receive ⟨0x0606, true, 2, false, .E, false⟩ .none r fun s _ => do
    sized r.payload 0
    need ((s.mode == ModState.standby && s.pair.synchronised) || (s.mode == ModState.owner && !s.solo && s.peerStandbySync)) wrongState
    s.slotFree
    s.noQuiesce
    let s1 := s.takeSlot 2 r.session
    ok (if s.mode = .standby then s1.startProof else s1) [])

/-! ### Time -/

/-- TB-PTPk as a read gives it: zero where the domain is not fitted, or has had no time of a master and is not master itself (R434). -/
def State.ptpTime (s : State) (d : Nat) : Int :=
  let x := s.domain d
  if decide (d < Config.domains s.ident.variant) && (x.base != baseZero || x.portState == 6) then x.base.valueAt s.clk.local_ else 0

/-- The bases of R434, in their order, latched at one instant. -/
def State.timeBases (s : State) : List Byte :=
  be 8 s.clk.local_ ++ be 8 (twos 64 (s.ptpTime 0)) ++ be 8 (twos 64 (s.ptpTime 1))
    ++ be 8 (if s.time.plantValid then twos 64 (s.time.plant.valueAt s.clk.local_) else 0)
    ++ be 8 (if s.calValid then twos 64 s.cal else 0) ++ be 8 s.clk.ring
    ++ (List.range 4).flatMap fun k => be 8 (if k < Config.cans s.ident.variant then s.canTime k else 0)

/-- An integer in a signed 32-bit field that saturates. -/
def satSigned32 (i : Int) : Nat := twos 32 (max (-2147483648) (min 2147483647 i))

/-- TIME_STATUS, R434. -/
def State.timeStatus (s : State) : List Byte :=
  let x := s.time
  let bit (n : Nat) (b : Bool) : Nat := if b then 2 ^ n else 0
  let left := if x.plantValid then s.slewRemaining else 0
  be 4 (bit 0 x.plantValid + 2 * x.selected + bit 2 (decide (100 < left.natAbs)) + bit 3 s.calValid + bit 4 s.leapPending + bit 5 x.inLeap
      + bit 6 x.refLocked + bit 7 x.ppsInPresent + bit 8 x.ringMaster + bit 9 (x.ringMaster && x.ringPlant) + bit 10 x.ringHoldover)
    ++ be 4 (satSigned32 left) ++ be 8 (twos 64 x.ringOffset) ++ be 4 (if x.ringMaster then 0 else satSigned32 x.ringFollow)
    ++ be 4 (satSigned32 x.ppsInOffset)

/-- TIME_READ, R408 and R434. -/
def execTimeRead (r : Req) (s : State) : Host.Outcome State Fault Refusal :=
  .next (s.receive ⟨0x0701, true, 1, false, .E, false⟩ .none r fun s _ => do
    sized r.payload 0
    ok s (s.timeBases ++ s.timeStatus))

/-- DOMAIN_STATUS, R434. -/
def Domain.status (x : Domain) : List Byte :=
  let bit (n : Nat) (b : Bool) : Nat := if b then 2 ^ n else 0
  be 4 (x.portState % 16 + bit 4 x.locked + bit 5 x.holdover + 64 * (x.activePort % 2) + bit 7 x.utcValid + bit 8 x.leap61 + bit 9 x.leap59
      + 65536 * (x.gmClass % 256) + 16777216 * min 255 x.steps)
    ++ be 8 x.gmIdentity.toNat ++ be 4 (satSigned32 x.offset) ++ be 4 (twos 32 x.meanPath)
    ++ be 4 (twos 16 x.utcOffset + 65536 * (x.stepsRemoved % 65536)) ++ be 4 (twos 32 x.base.rate) ++ be 4 0

/-- TIME_DOMAIN_STATUS, R434. -/
def execTimeDomainStatus (r : Req) (s : State) : Host.Outcome State Fault Refusal :=
  .next (s.receive ⟨0x0702, true, 1, false, .E, false⟩ .none r fun s _ => do
    let d := field r.payload 0 1
    need (d != 1 || s.ident.variant != .nk920) (unitAbsent 0)
    sized r.payload 4
    zeros r.payload 1 3
    need (decide (d < 2)) (badParam 0)
    ok s (s.domain d).status)

/-- TIME_SET_PLANT, R420. -/
def execTimeSetPlant (r : Req) (s : State) : Host.Outcome State Fault Refusal :=
  .next (s.receive ⟨0x0703, true, 2, false, .E, false⟩ .none r fun s _ => do
    sized r.payload 8
    need (!s.time.plantValid) wrongState
    ok (s.initPlant (field r.payload 0 8) (s.domain s.time.selected).base.rate) [])

/-- TIME_ALARM_WRITE, R432 and R466: an alarm written anew has fired nothing. -/
def execTimeAlarmWrite (r : Req) (s : State) : Host.Outcome State Fault Refusal :=
  .next (s.receive ⟨0x0704, true, 2, false, .O, false⟩ .none r fun s _ => do
    let p := r.payload
    sized p 20
    zeros p 3 1
    need (decide (field p 0 1 < 16)) (badParam 0)
    need (decide (field p 1 1 < 2)) (badParam 1)
    need (decide (field p 2 1 < 2)) (badParam 2)
    let per := field p 12 8
    need (per == 0 || (decide (1000000 ≤ per) && decide (per ≤ 86400000000000))) (badParam 12)
    let no := field p 0 1
    let a : Alarm := ⟨field p 1 1, field p 2 1, field p 4 8, per⟩
    let s1 := s.modTime fun x =>
      { x with alarms := modAt x.alarms no fun _ => a, alarmDone := modAt x.alarmDone no fun _ => none, alarmHeld := x.alarmHeld.filter (· != no) }
    ok (s1.tellPartner (.alarm no a)) [])

/-- TIME_ALARM_READ, R432 and R466. -/
def execTimeAlarmRead (r : Req) (s : State) : Host.Outcome State Fault Refusal :=
  .next (s.receive ⟨0x0705, true, 1, false, .E, false⟩ .none r fun s _ => do
    let p := r.payload
    sized p 4
    zeros p 1 3
    need (decide (field p 0 1 < 16)) (badParam 0)
    let a := (s.time.alarms[field p 0 1]?).getD ⟨0, 0, 0, 0⟩
    ok s (be 1 (field p 0 1) ++ be 1 a.enable ++ be 1 a.base ++ [0] ++ be 8 a.at_ ++ be 8 a.period))

end Sys2Proof.Machine
end

