-- ==== Sys2Proof/Machine/LocalCommands.lean ====
section
/-! DEFINITION. Groups 16#08 and 16#09: local I/O, HART and CAN (R467, R494, R498, R500, R501, R511 to R514, R518 to R521, R526). The register
files are reached through gate 13 (R528, R529, R537). -/
namespace Sys2Proof.Machine

/-! ### Local I/O -/

/-- AI_STATUS, R494. -/
def State.aiStatus (s : State) (ch : Nat) : Nat :=
  let c := s.io.aiCh ch
  let bit (n : Nat) (b : Bool) : Nat := if b then 2 ^ n else 0
  bit 0 (s.setting 0x32 1 ch == 0) + bit 1 c.open_ + bit 2 c.failLow + bit 3 c.failHigh + bit 4 c.overrange + bit 5 c.converterFault
    + bit 6 (s.hartCh ch).active.isSome

/-- AO_STATUS, R498. -/
def State.aoStatus (s : State) (ch : Nat) : Nat :=
  let c := s.aoCh ch
  let bit (n : Nat) (b : Bool) : Nat := if b then 2 ^ n else 0
  bit 0 (s.setting 0x33 1 ch == 0) + bit 1 c.openLoop + bit 2 c.clamped + bit 3 c.alarm + bit 4 c.fullShare + bit 5 c.released
    + bit 6 (s.hartCh (8 + ch)).active.isSome + bit 7 c.stageFault

/-- LOCAL_READ, R467: the AI and AO fields read 0 on the NK-940. -/
def execLocalRead (r : Req) (s : State) : Host.Outcome State Fault Refusal :=
  .next (s.receive ⟨0x0801, true, 1, false, .E, false⟩ .none r fun s _ => do
    need (s.ident.variant != .nk920) (unitAbsent 0xFFFF)
    sized r.payload 0
    let analogue := s.ident.variant == .nk960
    s.throughGate r 13 0 0 (ok s (be 4 s.io.di.toNat ++ be 2 s.io.doCmd.toNat ++ be 2 s.io.readback.toNat ++ be 1 (if s.io.doFault then 1 else 0) ++ [0, 0, 0]
      ++ ((List.range 8).flatMap fun k =>
            if analogue then be 2 (s.io.aiCh k).code ++ be 1 (s.aiStatus k) ++ [0] else [0, 0, 0, 0])
      ++ (List.range 4).flatMap fun k =>
            if analogue then be 2 (s.aoCh k).code ++ be 1 (s.aoStatus k) ++ [0] else [0, 0, 0, 0])))

/-! ### HART -/

/-- The channel of a transaction is enabled and its HART setting is ON (R500). -/
def State.hartOn (s : State) (q : HartReq) : Bool :=
  if q.kind = 0 then s.setting 0x32 1 q.channel == 1 && s.setting 0x32 2 q.channel == 1
  else s.setting 0x33 1 q.channel == 1 && s.setting 0x33 3 q.channel == 1

/-- CHANNEL-FAULT of R500. -/
def State.hartFault (s : State) (q : HartReq) : Bool :=
  if q.kind = 0 then (s.io.aiCh q.channel).open_ else (s.aoCh q.channel).openLoop || (s.aoCh q.channel).stageFault

/-- HART_TRANSACT, R500 and R501: a reply that is held for this request is given, and otherwise the transaction starts or waits. -/
def execHartTransact (r : Req) (s : State) : Host.Outcome State Fault Refusal :=
  .next (s.receive ⟨0x0802, true, 2, false, .O, false⟩ .none r fun s k => do
    let p := r.payload
    need (s.ident.variant == .nk960) (unitAbsent 0xFFFF)
    let len := field p 4 2
    need (p.length == 8 + up4 len) badLength
    zeros p 6 2
    need ((p.drop (8 + len)).all (· == 0)) (reservedAt (8 + len))
    need (decide (field p 0 1 < 2)) (badParam 0)
    need (decide (field p 1 1 < (if field p 0 1 = 0 then 8 else 4))) (badParam 1)
    need (decide (len ≤ 255)) (badParam 4)
    let q : HartReq := ⟨field p 0 1, field p 1 1, field p 2 2, (p.drop 8).take len⟩
    let h := s.hartCh q.ch
    s.throughGate r 13 0 1 (match h.held.find? fun x => x.1 == q && decide (s.clk.local_ < x.2.2.2) with
    | some x => ok s (hartBody 0 x.2.1 x.2.2.1)
    | none =>
      if !s.hartOn q then ok s (hartBody 5 0 [])
      else if s.hartFault q then ok s (hartBody 6 0 [])
      else if 4 ≤ h.queue.length then ok s (hartBody 3 0 [])
      else .ok (.later ((s.modHart q.ch fun h => { h with queue := h.queue ++ [⟨q, some k, 0, 0, 0⟩] }).hartNext q.ch))))

/-! ### CAN -/

/-- The controller that a request names is fitted (check 12). -/
def State.canThere (s : State) (k : Nat) : Except Refused Unit :=
  need (!(decide (k < 4) && decide (Config.cans s.ident.variant ≤ k)) && s.ident.variant != .nk920) (unitAbsent 0)

/-- The words of `CAN.STATUS`, R526: a controller in bus monitoring shows MONITORING (R506). -/
def State.canStatusWords (s : State) (k : Nat) : List Byte :=
  let c := s.ctl k
  let bit (n : Nat) (b : Bool) : Nat := if b then 2 ^ n else 0
  let mode := if s.canSetting k 2 = 0 ∧ c.state ≠ 0 ∧ c.serving = false then 3 else s.canSetting k 2
  be 4 (c.state % 4 + 4 * (mode % 4) + bit 4 c.serving + bit 5 c.redundant + bit 6 c.timeMaster + bit 7 c.ttSync + bit 8 c.xcvrFault
      + bit 9 (s.isQuiesced (0x20 + k)) + bit 10 c.rateFound + 65536 * min 255 c.tec + 16777216 * min 255 c.rec_)
    ++ be 4 (c.detNominal + 65536 * c.detData) ++ be 4 c.txOk ++ be 4 c.retransmissions ++ be 4 c.txLost ++ be 4 c.rxOk
    ++ be 4 c.rxOverflow ++ be 4 c.errorFrames ++ be 4 c.busOffs ++ be 4 c.violations
    ++ be 4 (c.lastViolation + bit 29 c.lastViolationXtd) ++ be 4 c.refMissing ++ be 4 (c.cycleCount % 64 + 64 * (c.masterPriority % 8))

/-- CAN_STATUS, R526. -/
def execCanStatus (r : Req) (s : State) : Host.Outcome State Fault Refusal :=
  .next (s.receive ⟨0x0901, true, 1, false, .E, false⟩ .none r fun s _ => do
    s.canThere (field r.payload 0 1)
    sized r.payload 4
    zeros r.payload 1 3
    need (decide (field r.payload 0 1 < 4)) (badParam 0)
    s.throughGate r 13 0 0 (ok s (s.canStatusWords (field r.payload 0 1))))

/-- A filter element that R511 refuses: a RANGE whose first identifier is above the last, or a base identifier of more than 11 bits. -/
def filterBad (w0 w1 : Nat) : Bool :=
  let id1 := w0 % 536870912
  let id2 := w1 % 536870912
  (w0 / 1073741824 == 1 && decide (id2 < id1))
    || (w0 / 536870912 % 2 == 0 && (decide (2048 ≤ id1) || decide (2048 ≤ id2)))

/-- A table of a running controller was addressed (R467). -/
def State.canQuiesced (s : State) (k : Nat) : Except Refused Unit := need (s.isQuiesced (0x20 + k)) quiesceRequired

/-- CAN_FILTER_WRITE, R467 and R511. -/
def execCanFilterWrite (r : Req) (s : State) : Host.Outcome State Fault Refusal :=
  .next (s.receive ⟨0x0902, true, 2, false, .E, false⟩ .none r fun s _ => do
    let p := r.payload
    let k := field p 0 1
    let first := field p 2 2
    let n := field p 4 2
    s.canThere k
    need (p.length == 8 + 8 * n) badLength
    zeros p 1 1
    zeros p 6 2
    need (decide (k < 4)) (badParam 0)
    need (decide (first < 512)) (badParam 2)
    need (decide (first + n ≤ 512)) (badParam 4)
    allGood (List.range n) (fun j => filterBad (field p (8 + 8 * j) 4) (field p (12 + 8 * j) 4)) fun j => badParam (8 + 8 * j)
    s.canQuiesced k
    s.throughGate r 13 0 1 (ok (s.modCan k fun c =>
      { c with
        filters := (List.range n).foldl (fun fs j =>
          NMap.set fs (first + j) (BitVec.ofNat 32 (field p (8 + 8 * j) 4), BitVec.ofNat 32 (field p (12 + 8 * j) 4))) c.filters }) []))

/-- CAN_FILTER_READ, R467 and R511. -/
def execCanFilterRead (r : Req) (s : State) : Host.Outcome State Fault Refusal :=
  .next (s.receive ⟨0x0903, true, 1, false, .E, false⟩ .none r fun s _ => do
    let p := r.payload
    let k := field p 0 1
    s.canThere k
    sized p 8
    zeros p 1 1
    zeros p 6 2
    need (decide (k < 4)) (badParam 0)
    need (decide (field p 2 2 < 512)) (badParam 2)
    need (decide (field p 2 2 + field p 4 2 ≤ 512)) (badParam 4)
    s.throughGate r 13 0 0 (ok s ((List.range (field p 4 2)).flatMap fun j =>
      let e := (NMap.get (s.ctl k).filters (field p 2 2 + j)).getD (0, 0)
      be 4 e.1.toNat ++ be 4 e.2.toNat)))

/-- A data length of R502, for a classical frame or an FD frame. -/
def canLength (fdf : Bool) (n : Nat) : Bool := decide (n ≤ 8) || (fdf && [12, 16, 20, 24, 32, 48, 64].contains n)

/-- A CAN.SEND frame cannot be sent and is lost at once (R519). -/
def State.canLostNow (s : State) (k : Nat) : State := s.modCan k fun c => { c with txLost := satInc c.txLost }

/-- CAN_SEND, R467, R518 and R519. FRAME_FLAGS is [0] XTD, [1] FDF, [2] BRS; the spec does not lay it out. -/
def execCanSend (r : Req) (s : State) : Host.Outcome State Fault Refusal :=
  .next (s.receive ⟨0x0904, true, 2, false, .O, false⟩ .none r fun s t => do
    let p := r.payload
    let k := field p 0 1
    let fl := field p 1 1
    let len := field p 8 1
    s.canThere k
    need (p.length == 12 + up4 len) badLength
    need (decide (fl < 8)) (reservedAt 1)
    zeros p 2 2
    need (decide (field p 4 4 < 536870912)) (reservedAt 4)
    zeros p 9 3
    need ((p.drop (12 + len)).all (· == 0)) (reservedAt (12 + len))
    need (decide (k < 4)) (badParam 0)
    let xtd := fl % 2 == 1
    let fdf := fl / 2 % 2 == 1
    let brs := fl / 4 == 1
    need (fdf || !brs) (badParam 1)
    need (xtd || decide (field p 4 4 < 2048)) (badParam 4)
    need (canLength fdf len) (badParam 8)
    need (decide (((s.ctl k).sending.filter fun x => x.ticket.isSome).length < 64)) (busyMaint 0 .a 0)
    s.throughGate r 13 0 1 (if !s.canRuns k || s.canSetting k 2 != 0 then .ok (.reply (s.canLostNow k) 0x0B errorPlain)
    else
      let f : CanFrame := ⟨field p 4 4, xtd, fdf, brs, false, len, (p.drop 12).take len⟩
      let s1 := s.modCan k fun c => { c with sending := c.sending ++ [⟨f, some t, none, false, 0⟩] }
      .ok (.later (if s1.alone then s1 else s1.send 3 (.canMirror k f)))))

/-- A receive record on the wire (R513): DATA is a string of bytes. -/
def CanRec.wire (x : CanRec) : List Byte :=
  be 4 (x.word 0).toNat ++ be 4 (x.word 1).toNat ++ be 8 x.rxTime
    ++ x.frame.data.take x.frame.len ++ List.replicate (64 - min x.frame.data.length x.frame.len) 0

/-- CAN_RECEIVE, R514: the records that it returns leave the queue. -/
def execCanReceive (r : Req) (s : State) : Host.Outcome State Fault Refusal :=
  .next (s.receive ⟨0x0905, true, 1, false, .E, false⟩ .none r fun s _ => do
    let p := r.payload
    let k := field p 0 1
    let q := field p 1 1
    s.canThere k
    sized p 4
    need (decide (k < 4)) (badParam 0)
    need (decide (q < 8)) (badParam 1)
    let rs := (((s.ctl k).queues[q]?).getD []).take (field p 2 2)
    s.throughGate r 13 0 0 (ok (s.modCan k fun c => { c with queues := modAt c.queues q fun l => l.drop rs.length })
      (be 2 rs.length ++ [0, 0] ++ rs.flatMap CanRec.wire)))

/-! ### Schedules -/

/-- The longest time of a frame on the bus, in nominal bit times × the data rate: with every stuff bit, and with the intermission
(PRESUMED from ISO 11898-1; the example of R521 gives 135 bits for 8 bytes). `data` is the data rate, 0 for none. -/
def frameBits (xtd fdf : Bool) (len : Nat) : Nat × Nat :=
  if fdf then
    let head := if xtd then 36 else 17
    let body := 5 + 8 * len
    (head + (head - 1) / 4 + 13, body + (head + body - 1) / 4 - (head - 1) / 4 + (if len ≤ 16 then 27 else 32))
  else
    ((if xtd then 67 + 8 * len + (53 + 8 * len) / 4 else 47 + 8 * len + (33 + 8 * len) / 4), 0)

/-- A frame's longest time exceeds `us` microseconds at the rates of a controller. -/
def State.frameOver (s : State) (k : Nat) (xtd fdf brs : Bool) (len us : Nat) : Bool :=
  let n := s.canSetting k 3
  let d := if brs && s.canSetting k 5 != 0 then s.canSetting k 5 else n
  let b := frameBits xtd fdf len
  decide (us * n * d < 1000 * (b.1 * d + b.2 * n))

/-- The windows of a schedule's bytes. -/
def schedWindows (p : List Byte) (n : Nat) : List CanWindow :=
  (List.range n).map fun j => ⟨field p (20 + 8 * j) 4, field p (24 + 8 * j) 2, field p (26 + 8 * j) 1⟩

/-- The objects of a schedule's bytes, after its windows. -/
def schedObjects (p : List Byte) (w n : Nat) : List CanObject :=
  (List.range n).map fun j =>
    let o := 20 + 8 * w + 16 * j
    let id := field p (o + 4) 4
    ⟨field p o 1, field p (o + 1) 1, field p (o + 2) 1, field p (o + 3) 1, id % 536870912, id / 536870912 % 2 == 1,
     id / 1073741824 % 2 == 1, id / 2147483648 == 1, field p (o + 8) 1, field p (o + 10) 2⟩

/-- 1, 2, 4, … 64. -/
def powers64 : List Nat := [1, 2, 4, 8, 16, 32, 64]

/-- A window that R521 refuses: past the end of the basic cycle, within the reference message, or overlapping an earlier one. -/
def State.windowBad (s : State) (k basic : Nat) (refXtd : Bool) (ws : List CanWindow) (w : CanWindow × Nat) : Bool :=
  decide (2 < w.1.kind) || decide (basic < w.1.start + w.1.length) || s.frameOver k refXtd false false 1 w.1.start
    || ((ws.take w.2).any fun x => decide (x.start < w.1.start + w.1.length) && decide (w.1.start < x.start + x.length))

/-- An object that R521 refuses. -/
def State.objectBad (s : State) (k : Nat) (ws : List CanWindow) (os : List CanObject) (x : CanObject × Nat) : Bool :=
  let o := x.1
  let timed := o.window != 0xFF
  let fits := match ws[o.window]? with
    | some w => w.kind == 0 && !s.frameOver k o.xtd o.fdf o.brs o.len w.length
    | none => false
  decide (63 < o.object) || !powers64.contains o.repeat_ || decide (o.repeat_ ≤ o.base) || (o.brs && !o.fdf)
    || (!o.xtd && decide (2048 ≤ o.id)) || !canLength o.fdf o.len || decide (60000 < o.period)
    || timed == decide (0 < o.period) || (timed && !fits)
    || ((os.take x.2).any fun y => timed && y.window == o.window && o.base % min y.repeat_ o.repeat_ == y.base % min y.repeat_ o.repeat_)

/-- CAN_SCHEDULE_WRITE, R467 and R521. -/
def execCanScheduleWrite (r : Req) (s : State) : Host.Outcome State Fault Refusal :=
  .next (s.receive ⟨0x0906, true, 2, false, .E, false⟩ .none r fun s _ => do
    let p := r.payload
    let k := field p 0 1
    let w := field p 6 1
    let o := field p 7 1
    s.canThere k
    need (decide (20 ≤ p.length) && p.length == 20 + 8 * w + 16 * o) badLength
    zeros p 1 3
    need (decide (field p 12 4 < 1073741824)) (reservedAt 12)
    zeros p 16 4
    allGood (List.range w) (fun j => field p (27 + 8 * j) 1 != 0) fun j => reservedAt (27 + 8 * j)
    allGood (List.range o) (fun j => field p (29 + 8 * w + 16 * j) 1 != 0) fun j => reservedAt (29 + 8 * w + 16 * j)
    allGood (List.range o) (fun j => field p (32 + 8 * w + 16 * j) 4 != 0) fun j => reservedAt (32 + 8 * w + 16 * j)
    need (decide (k < 4)) (badParam 0)
    need (field p 4 1 == 1) (badParam 4)
    need (powers64.contains (field p 5 1)) (badParam 5)
    let basic := field p 8 4
    need (decide (w ≤ 64) && (basic != 0 || w == 0)) (badParam 6)
    need (decide (o ≤ 64)) (badParam 7)
    need (basic == 0 || (decide (1000 ≤ basic) && decide (basic ≤ 1000000))) (badParam 8)
    let ref := field p 12 4
    let refXtd := ref / 536870912 == 1
    need (ref % 8 == 0 && (refXtd || decide (ref < 2048))) (badParam 12)
    let ws := schedWindows p w
    let os := schedObjects p w o
    allGood ws.zipIdx (s.windowBad k basic refXtd ws) fun j => badParam (20 + 8 * j)
    allGood os.zipIdx (s.objectBad k ws os) fun j => badParam (20 + 8 * w + 16 * j)
    s.canQuiesced k
    s.throughGate r 13 0 1
      (ok (s.modCan k fun c => { c with sched := some ⟨field p 5 1, basic, ref % 536870912, refXtd, ws, os⟩ }) []))

end Sys2Proof.Machine
end

