-- ==== Sys2Proof/Machine/Security.lean ====
section
/-! DEFINITION. Group 16#0A: gates, authority, certificates and keys (R532 to R541, R545 to R548, R556, R557). -/
namespace Sys2Proof.Machine

/-! ### Gate entries -/

/-- An entry that matches nothing. -/
def GateEnt.none : GateEnt := ⟨0, 0, 0, 0, 0, false, false⟩

/-- An entry on the wire, R532. -/
def GateEnt.bytes (e : GateEnt) : List Byte :=
  be 4 e.base ++ be 4 e.limit ++ be 4 (e.tenant + 512 * e.match_)
    ++ be 4 (e.perm + (if e.valid then 4096 else 0) + if e.lock then 8192 else 0)

/-- The entry at an index as it runs (R538); the system entries are locked (R536). -/
def State.gateEntry (s : State) (gate index : Nat) : GateEnt :=
  (NMap.get (s.gateEntries gate) index).getD { GateEnt.none with lock := decide (index < 32) }

/-- The status block of a gate, R541. -/
def Gate.statusBlock (g : Gate) : List Byte :=
  let bit (n : Nat) (b : Bool) : Nat := if b then 2 ^ n else 0
  be 4 g.denied
    ++ be 4 (g.lastGranule % 16777216 + 16777216 * (g.lastAccess % 4) + 67108864 * (g.lastLevel % 4) + bit 28 g.lastNone + bit 29 g.lastMulti)
    ++ be 4 (g.lastTenant % 512 + bit 9 g.lastNoTenant + 1024 * (g.lastFirst % 64)) ++ be 4 g.lastTime

/-- SEC_GATE_READ, R541. -/
def execSecGateRead (r : Req) (s : State) : Host.Outcome State Fault Refusal :=
  .next (s.receive ⟨0x0A01, true, 2, false, .E, false⟩ .none r fun s _ => do
    let p := r.payload
    sized p 4
    zeros p 3 1
    let g := field p 0 1
    need (decide (g < 16)) (badParam 0)
    need (decide (field p 1 1 ≤ 64)) (badParam 1)
    need (decide (field p 1 1 + field p 2 1 ≤ 65)) (badParam 2)
    ok s ((List.range (field p 2 1)).flatMap fun k =>
      if field p 1 1 + k = 64 then ((s.gates[g]?).getD (Config.gate g)).statusBlock else (s.gateEntry g (field p 1 1 + k)).bytes))

/-- Two entries can match one access together, for some level and some tenant (R538). -/
def GateEnt.meets (a b : GateEnt) : Bool :=
  a.valid && b.valid && decide (a.base ≤ b.limit) && decide (b.base ≤ a.limit)
    && ((List.range 4).any fun k => a.perm / 8 ^ k % 8 != 0 && b.perm / 8 ^ k % 8 != 0)
    && !(a.match_ == 0 && b.match_ == 0 && a.tenant != b.tenant)

/-- The host entries of a gate as they will stand once every accepted write is applied (R538): those in use, or the stored ones. -/
def State.hostAfter (s : State) (gate : Nat) (stored : Bool) : List (Nat × GateEnt) :=
  match s.gates[gate]? with
  | none => []
  | some g =>
    (s.gateWrites.filter fun w => w.gate == gate && (stored || !w.storedOnly)).foldl (fun es w => NMap.set es w.index w.entry)
      (if stored && !g.stored.isEmpty then g.stored else g.host)

/-- The fields of an entry that R538 refuses with BAD-PARAM, by the offset of the field in the request. -/
def gateEntryBad (gate : Nat) (e : GateEnt) : Option Nat :=
  if e.limit < e.base ∨ Config.gateGranules gate ≤ e.limit then some 8
  else if e.match_ = 3 ∨ (e.match_ = 2 ∧ 9 ≤ gate) then some 12
  else if e.perm % 8 ≠ 0 ∨ e.perm / 512 ≠ 0 then some 16
  else none

/-- SEC_GATE_WRITE, R538 and R539: it applies on both modules at its tick, and its reply follows. A locked entry is written only with
a key, in its stored copies. -/
def execSecGateWrite (r : Req) (s : State) : Host.Outcome State Fault Refusal :=
  .next (s.receive ⟨0x0A02, true, 2, false, .O, false⟩ .none r fun s k => do
    let p := r.payload
    sized p 20
    zeros p 2 2
    need (decide (field p 4 4 < 16777216)) (reservedAt 4)
    need (decide (field p 8 4 < 16777216)) (reservedAt 8)
    need (decide (field p 12 4 < 2048)) (reservedAt 12)
    need (decide (field p 16 4 < 16384)) (reservedAt 16)
    let g := field p 0 1
    let i := field p 1 1
    let e : GateEnt := ⟨field p 4 4, field p 8 4, field p 12 4 % 512, field p 12 4 / 512, field p 16 4 % 4096,
                        field p 16 4 / 4096 % 2 == 1, field p 16 4 / 8192 == 1⟩
    need (decide (g < 16)) (badParam 0)
    need (decide (i < 64)) (badParam 1)
    match gateEntryBad g e with
    | some off => .error (badParam off)
    | none => .ok ()
    s.noPairUpdate
    need (decide (32 ≤ i)) (denied 6)
    let locked := ((NMap.get (s.hostAfter g false) i).getD GateEnt.none).lock
    need (!locked || s.keyAt 2) (denied 6)
    need (!(s.hostAfter g locked).any fun x => x.1 != i && x.2.meets e) (badParam 4)
    let at_ := s.tickIn 1000000
    let s1 := if locked then s.useKey r.session else s
    .ok (.later (({ s1 with gateWrites := s1.gateWrites ++ [⟨at_, g, i, e, locked, some k⟩] } : State).tellPartner
      (.gateEntry at_ g i e locked))))

/-! ### Installation -/

/-- SEC_AUTHORITY_INSTALL, R546 and R547: `pointOk` is what the precheck of R543 finds. It ends every session. -/
def execSecAuthorityInstall (r : Req) (pointOk : Bool) (s : State) : Host.Outcome State Fault Refusal :=
  .next (s.receive ⟨0x0A03, true, 2, false, .EL, true⟩ (.flag pointOk) r fun s k => do
    let p := r.payload
    let c := field p 0 1
    need (p.length == 4 + curveBytes c || (c != 1 && c != 2 && p.length == 100)) badLength
    zeros p 1 3
    need (c == 1 || c == 2) (badParam 0)
    need pointOk (badParam 4)
    s.needKey
    let s1 := (s.useKey r.session).modKeys fun x =>
      { x with authority := some (c, p.drop 4), moduleCert := none, revoked := [], revoking := [] }
    let s2 := (s1.record 547 1 sevInfo noSource noSource [(4, r.session), (4, c)]).finish k 0 []
    .ok (.later ((s2.gelit.sessions.map (·.no)).foldl (fun (s : State) n => s.closeSession n) s2)))

/-- A hexadecimal digit in ASCII. -/
def hexDigit (n : Nat) : Byte := BitVec.ofNat 8 (if n < 10 then 48 + n else 55 + n)

/-- The unit serial as SUBJECT gives it (R7, R444): 16 digits, zero-padded to 32 bytes. -/
def serialSubject (serial : Nat) : List Byte :=
  ((List.range 16).map fun k => hexDigit (serial / 16 ^ (15 - k) % 16)) ++ List.replicate 16 0

/-- SEC_MODULE_CERT_INSTALL, R444 and R547: `sigOk` is what the signature engine finds under the installed authority key. -/
def execSecModuleCertInstall (r : Req) (sigOk : Bool) (s : State) : Host.Outcome State Fault Refusal :=
  .next (s.receive ⟨0x0A04, true, 2, false, .EL, true⟩ (.flag sigOk) r fun s _ => do
    let p := r.payload
    need (decide (56 ≤ p.length)) badLength
    need (field p 1 1 == 1) (badParam 1)
    need (field p 21 1 == 1 || field p 21 1 == 2) (badParam 21)
    let c ← (match takeCert p with | some (c, []) => .ok c | _ => .error badLength)
    need (field p 20 1 < 2) (reservedAt 20)
    zeros p 22 2
    need (c.format == 1) (badParam 0)
    need (c.kind == 3) (badParam 2)
    need (c.privMax == 0) (badParam 3)
    need (c.subject == serialSubject s.ident.serial) (badParam 24)
    need (c.key == s.keys.staticKey) (badParam 56)
    s.needKey
    let known := match s.keys.authority with | some a => a.1 == c.issuerCurve | none => false
    need (known && sigOk) (denied 5)
    let s1 := ((s.useKey r.session).submit [⟨if c.issuerCurve = 2 then 1 else 0, false⟩]).modKeys fun x => { x with moduleCert := some p }
    ok (s1.record 547 2 sevInfo noSource noSource [(4, r.session), (4, c.serial.toNat)]) [])

/-! ### Revocation and keys -/

/-- SEC_REVOKE, R548: it applies on both modules at its tick, and its reply follows; a serial already listed changes nothing. -/
def execSecRevoke (r : Req) (s : State) : Host.Outcome State Fault Refusal :=
  .next (s.receive ⟨0x0A05, true, 2, false, .O, false⟩ .none r fun s k => do
    sized r.payload 4
    let w := BitVec.ofNat 32 (field r.payload 0 4)
    let listed := s.keys.revoked.contains w
    need (listed || decide (s.keys.revoked.length + s.keys.revoking.length < 1024)) (badParam 0)
    s.needKey
    let s1 := s.useKey r.session
    if listed then ok s1 []
    else
      let at_ := s.tickIn 1000000
      .ok (.later ((s1.modKeys fun x => { x with revoking := x.revoking ++ [(at_, w, some k)] }).tellPartner (.revoke at_ w))))

/-- SEC_KEY_STATUS, R556: EXPIRY is the earlier of presence end and the tag's own, in TB-CAL seconds. The status registers are read
through gate 12 (R537). -/
def execSecKeyStatus (r : Req) (s : State) : Host.Outcome State Fault Refusal :=
  .next (s.receive ⟨0x0A06, true, 1, false, .EL, true⟩ .none r fun s _ => do
    sized r.payload 0
    s.throughGate r 12 0 0
      (match s.reader.present with
       | some p =>
         if s.clk.local_ < p.until_ then
           let ends := ((s.cal + (p.until_ - s.clk.local_ : Nat)) / 1000000000).toNat
           ok s (be 1 1 ++ be 1 p.priv ++ [0, 0] ++ be 4 (min ends p.expiry))
         else ok s (be 8 0)
       | none => ok s (be 8 0)))

end Sys2Proof.Machine
end

