-- ==== Sys2Proof/Machine/Updates.lean ====
section
/-! DEFINITION. Group 16#0B and the steps of an update (R558 to R576): staging, verification, activation, the retain image, status. -/
namespace Sys2Proof.Machine

/-! ### The staged manifest, R560 -/

/-- The staged manifest's bytes. -/
def Update.manifestBytes (u : Update) : List Byte := assemble u.manifest

/-- GENERATION of a manifest. -/
def manifestGen (m : List Byte) : Nat := field m 4 4

/-- LENGTH of a part in a manifest. -/
def manifestLength (m : List Byte) (part : Nat) : Nat := field m (32 + 60 * (part - 1) + 4) 4

/-- The listed SHA-384 hash of a part. -/
def manifestHash (m : List Byte) (part : Nat) : List Byte := (m.drop (32 + 60 * (part - 1) + 12)).take 48

/-- The generations of BRIDGE_GEN that a manifest lists. -/
def manifestBridge (m : List Byte) : List Nat := (List.range (min 4 (field m 9 1))).map fun k => field m (16 + 4 * k) 4

/-- The largest size of a part, R558. -/
def partLimit (part : Nat) : Nat :=
  if part = 1 then 67108864 else if part = 2 then 4194304 else if part = 3 ∨ part = 4 then 2097152
  else if part = 7 then 131072 else 1048576

/-- FORMAT of R563: the layout of R560. -/
def manifestFormat (m : List Byte) : Bool :=
  field m 0 2 == 1 && field m 8 1 == 7 && decide (field m 9 1 ≤ 4) && decide (field m 10 2 ≤ 256)
    && m.length == 548 + 8 * field m 10 2
    && ((List.range 7).all fun k => field m (32 + 60 * k) 1 == k + 1 && field m (33 + 60 * k) 3 == 0)
    && ((List.range 4).all fun k => decide (k < field m 9 1) || field m (16 + 4 * k) 4 == 0)

/-- The chunks staged for a part. -/
def Update.partChunks (u : Update) (part : Nat) : List (Nat × List Byte) := (u.parts.filter fun c => c.1 == part).map (·.2)

/-- A part is staged in full, or flash holds it with the listed hash (R562). -/
def Update.partThere (u : Update) (m : List Byte) (part : Nat) : Bool :=
  (u.partsDone.contains part && (assemble (u.partChunks part)).length == manifestLength m part)
    || NMap.get u.hashes part == some (manifestHash m part)

/-- The first part that the checks find at fault. -/
def firstPart (bad : Nat → Bool) : Option Nat := ((List.range 7).map (· + 1)).find? bad

/-- PAIR_CAPABLE of R563. -/
def State.pairCapable (s : State) : Bool := (manifestBridge s.update.manifestBytes).contains s.ident.generation

/-- The result of R563 and the part that fails: the verdicts of the signature engine, the first staged part whose hash differs (0 none),
and whether the partner agrees where it staged too. -/
def State.verifyResult (s : State) (sigOk : Bool) (badHash : Nat) (peer : Bool) : Nat × Nat :=
  let u := s.update
  let m := u.manifestBytes
  if !u.manifestDone || !manifestFormat m then (1, 0)
  else if !sigOk then (2, 0)
  else if field m 2 2 ≠ Config.typeCode s.ident.variant then (3, 0)
  else if field m 10 2 ≠ 0 ∧ ¬ ((List.range (field m 10 2)).any fun k => field m (452 + 8 * k) 8 == s.ident.serial) then (4, 0)
  else if u.loader < field m 12 4 then (5, 0)
  else match firstPart fun k => !u.partThere m k with
    | some k => (6, k)
    | none =>
      match firstPart fun k => decide (partLimit k < manifestLength m k) with
      | some k => (7, k)
      | none =>
        if badHash ≠ 0 ∧ u.partsDone.contains badHash then (8, badHash)
        else if manifestGen m = s.ident.generation then (9, 0)
        else if !peer then (10, 0)
        else (0, 0)

/-! ### Staging -/

/-- An update holds its slot, or the module's own in LANTERN and JOINING (R561). -/
def State.updateFree (s : State) : Except Refused Unit :=
  if s.mode = .lantern ∨ s.mode = .joining then
    (if s.update.ownSlot then .error (busyMaint 1 s.front.side ((s.update.session).getD 0))
     else need (!(decide (3 ≤ s.update.state) && decide (s.update.state ≤ 5))) wrongState)
  else s.slotFree

/-- UPDATE_BEGIN, R561 and R575. -/
def execUpdateBegin (r : Req) (s : State) : Host.Outcome State Fault Refusal :=
  .next (s.receive ⟨0x0B01, true, 2, false, .EL, false⟩ .none r fun s _ => do
    sized r.payload 0
    s.updateFree
    let own := s.mode == .lantern || s.mode == .joining
    let s1 := s.modUpdate fun u =>
      { u with
        state := 1, pairStep := 0, part := 0, scopePair := false, endCause := 0, targetGen := 0, bytes := 0, session := some r.session
        manifest := [], manifestDone := false, parts := [], partsDone := [], retryFrom := none, ownSlot := own }
    ok (if own then s1 else s1.takeSlot 1 r.session) [])

/-- The update in RECEIVING or VERIFIED is this session's (R564). -/
def State.updateMine (s : State) (session : Nat) : Except Refused Unit := do
  need (s.update.state == 1 || s.update.state == 2) wrongState
  need (s.update.session == some session)
    (busyMaint 1 ((s.slot.map (·.side)).getD s.front.side) ((s.update.session).getD ((s.slot.map (·.id)).getD 0)))

/-- A chunk added to the staging (R562): SELECT 0 is the manifest, and must be ended before any part. -/
def Update.stage (u : Update) (c : Chunk) : Except Refused Update := do
  let v := { u with state := 1, bytes := sat32 (u.bytes + c.data.length) }
  if c.select = 0 then
    need (decide (c.offset + c.data.length ≤ 2596)) (badParam 0)
    let m ← addChunk u.manifest u.manifestDone c
    return { v with manifest := m, manifestDone := c.last, targetGen := if c.last then manifestGen (assemble m) else u.targetGen }
  else
    need u.manifestDone wrongState
    need (decide (c.offset + c.data.length ≤ manifestLength u.manifestBytes c.select)) (badParam 0)
    let cs ← addChunk (u.partChunks c.select) (u.partsDone.contains c.select) c
    return { v with parts := (u.parts.filter fun x => x.1 != c.select) ++ cs.map (fun x => (c.select, x.1, x.2))
                    partsDone := if c.last then u.partsDone ++ [c.select] else u.partsDone }

/-- UPDATE_WRITE, R454, R561 and R562: the owner of a pair forwards the chunk. -/
def execUpdateWrite (r : Req) (s : State) : Host.Outcome State Fault Refusal :=
  .next (s.receive ⟨0x0B02, true, 2, false, .EL, false⟩ .none r fun s _ => do
    let c ← chunkOf r.payload
    need (decide (c.select ≤ 7)) (badParam 6)
    s.updateMine r.session
    let u ← s.update.stage c
    let s1 : State := { s with update := u }
    ok (if s.mode = .owner then s1.forwardChunk c.select c else s1) [])

/-- UPDATE_CHUNK_FORWARD, R238, R460 and R561: the standby stages what the owner forwards: an update, a change, or a program. -/
def execUpdateChunkForward (select offset : Nat) (data : List Byte) (last : Bool) (s : State) : Host.Outcome State Fault Refusal :=
  .next (
    let c : Chunk := ⟨offset, select, last, data⟩
    if s.solo || s.mode != .standby || !s.up then s
    else if select ≤ 7 then
      let u0 : Update := if s.update.state = 1 ∨ s.update.state = 2 then s.update else
        { s.update with
          state := 1, pairStep := 0, part := 0, scopePair := false, endCause := 0, targetGen := 0, bytes := 0, session := none
          manifest := [], manifestDone := false, parts := [], partsDone := [] }
      match u0.stage c with
      | .ok u => { s with update := u }
      | .error _ => s
    else if select = 0x100 then
      match addChunk s.change.versionBytes s.change.versionLast c with
      | .ok cs => s.modChange fun x => { x with versionBytes := cs, versionLast := last }
      | .error _ => s
    else if select = 0x101 then
      match addChunk s.change.mapBytes s.change.mapLast c with
      | .ok cs => s.modChange fun x => { x with mapBytes := cs, mapLast := last }
      | .error _ => s
    else
      let n := select - 0x200
      let l := ((s.tenant n).loading).getD ⟨0, [], false⟩
      match (if l.last then (⟨0, [], false⟩ : Loading) else l).add c with
      | .ok l1 => { s with tenants := NMap.set s.tenants n { s.tenant n with loading := some l1 } }
      | .error _ => s)

/-- UPDATE_VERIFY, R563. -/
def execUpdateVerify (r : Req) (sigOk : Bool) (badHash : Nat) (peerAgrees : Bool) (s : State) : Host.Outcome State Fault Refusal :=
  .next (s.receive ⟨0x0B03, true, 2, false, .EL, false⟩ (.verify sigOk badHash peerAgrees) r fun s _ => do
    sized r.payload 0
    s.updateMine r.session
    let v := s.verifyResult sigOk badHash (peerAgrees || s.mode != .owner || s.solo)
    let s1 := (s.submit [⟨1, false⟩]).modUpdate fun u => { u with state := if v.1 = 0 then 2 else 1, lastResult := v.1 }
    .ok (.reply s1 (if v.1 = 0 then 0 else 5)
      (be 1 v.1 ++ be 1 v.2 ++ be 1 (if s.pairCapable then 1 else 0) ++ [0] ++ be 4 (manifestGen s.update.manifestBytes)
        ++ be 4 s.ident.generation)))

/-- UPDATE_ABORT, R564. -/
def execUpdateAbort (r : Req) (s : State) : Host.Outcome State Fault Refusal :=
  .next (s.receive ⟨0x0B05, true, 2, false, .EL, false⟩ .none r fun s _ => do
    sized r.payload 0
    need (s.update.state == 1 || s.update.state == 2) wrongState
    ok s.abortUpdate [])

/-! ### Activation -/

/-- The partner's generation: the one it gave, or this module's own where the partner is in STANDBY (R570). -/
def State.partnerGen (s : State) : Nat :=
  match (if s.solo then none else s.pair.peerIdent) with
  | some id => id.generation
  | none => if !s.solo && s.peerState == 2 then s.ident.generation else 0

/-- What R565 asks of SCOPE 1. -/
def State.pairMayUpdate (s : State) : Bool :=
  s.mode == .owner && !s.solo && s.peerStandbySync && !healthFaults s.pair.peerHealth && s.partnerGen == s.ident.generation && s.pairCapable

/-- What R565 asks of SCOPE 0. A module in LANTERN that no owner reaches takes what it is given (R568). -/
def State.soleMayUpdate (s : State) : Bool :=
  (s.mode == .owner && s.solo) || s.mode == .testHold
    || ((s.mode == .standby || s.mode == .standbyFaulted) && s.partnerGen == s.update.targetGen)
    || (s.mode == .lantern && (!s.ownerSeen || s.solo || s.partnerGen == s.update.targetGen))

/-- The first part to write: the first whose flash hash differs from the listed one; 0 none. -/
def Update.firstToWrite (u : Update) : Nat :=
  (firstPart fun k => NMap.get u.hashes k != some (manifestHash u.manifestBytes k)).getD 0

/-- `UPDATE.ACTIVATE`, R565: the reply is sent when activation starts. -/
def State.activate (s : State) (r : Req) : State :=
  s.receive ⟨0x0B04, true, 2, false, .EL, false⟩ .none r fun s _ => do
    let p := r.payload
    sized p 4
    zeros p 1 3
    need (decide (field p 0 1 < 2)) (badParam 0)
    let pair := field p 0 1 == 1
    need (s.update.state == 2) wrongState
    s.updateMine r.session
    need (if pair then s.pairMayUpdate else s.soleMayUpdate) wrongState
    s.noQuiesce
    let keyed := decide (s.update.targetGen < s.ident.generation) || (!pair && s.owns)
    need (!keyed || s.keyAt 2) (denied 3)
    let s1 := if keyed then s.useKey r.session else s
    let s2 := s1.modUpdate fun u =>
      { u with state := 3, scopePair := pair, pairStep := if pair then 1 else 0, bytes := 0, part := u.firstToWrite }
    ok (if pair then s2.tellPartner .activate else s2) []

/-- UPDATE_ACTIVATE_MODULE: `UPDATE.ACTIVATE` with SCOPE 0. -/
def execUpdateActivateModule (r : Req) (s : State) : Host.Outcome State Fault Refusal := .next (s.activate r)

/-- UPDATE_ACTIVATE_PAIR: `UPDATE.ACTIVATE` with SCOPE 1. -/
def execUpdateActivatePair (r : Req) (s : State) : Host.Outcome State Fault Refusal := .next (s.activate r)

/-- The activation record written (R567): every part of the manifest is active together from the next bring-up. -/
def State.writeRecord (s : State) : State :=
  let u := s.update
  let m := u.manifestBytes
  let s1 : State :=
    { s with
      ident := { s.ident with generation := manifestGen m }
      update := { u with
        hashes := (List.range 7).map fun k => (k + 1, manifestHash m (k + 1)), bridgeList := manifestBridge m, recordSeq := u.recordSeq + 1
        part := 0 }
      lantern := { s.lantern with
        manifestProgram := if u.partsDone.contains 7 then Config.lanternPart (Sys2Proof.Machine.assemble (u.partChunks 7)) else s.lantern.manifestProgram } }
  s1.record 566 1 sevInfo noSource noSource [(4, manifestGen m), (4, if u.scopePair then 1 else 0)]

/-- The staged manifest is bound to this module's hardware type (R7). -/
def State.manifestFits (s : State) : Bool := field s.update.manifestBytes 2 2 == Config.typeCode s.ident.variant

/-- ACTIVATION_DONE, R566, R569 and R571: `ok` says that every part, the manifest and the record were read back. A manifest for another
variant never activates (R7). In a pair update the
module leaves and restarts; a solo owner first keeps its retain image (R573). -/
def execActivationDone (ok : Bool) (s : State) : Host.Outcome State Fault Refusal :=
  .next (
    if !s.up || s.update.state != 3 || (s.update.scopePair && s.mode != .standby) then s
    else if !ok || !s.manifestFits then s.endUpdate 7 7
    else
      let s1 := s.writeRecord
      if s1.update.scopePair then
        let s2 := s1.modUpdate fun u => { u with pairStep := if u.pairStep ≤ 1 then 2 else 5, state := 4, bridge := true }
        ((s2.silencePorts.releaseLocal.hartLeave false).send 3 .leaving).restart .command
      else if s1.owns then s1.modUpdate fun u => { u with state := 4 }
      else State.restartFor .command (s1.endUpdate 6 0))

/-- RETAIN_IMAGE_WRITE, R573: at the next publication instant of the fast tasks every task stops, the published state is kept, and the
module restarts. -/
def execRetainImageWrite (s : State) : Host.Outcome State Fault Refusal :=
  .next (
    if !s.up || !s.owns || s.update.state != 4 || s.update.scopePair then s
    else
      let ks := (s.tasks.filter fun e => e.1 != lanternTask && e.2.st == .running).map (·.1)
      let base := (s.image.fold s.clk.ring).base
      let s1 := (s.modUpdate fun u => { u with retain := some base, retainTasks := ks }).record 573 1 sevInfo noSource noSource []
      State.restartFor .command (s1.endUpdate 6 0))

/-- UPDATE_HANDOVER_RETRY, R571: every 1 s; after 600 s the update ends. -/
def execUpdateHandoverRetry (s : State) : Host.Outcome State Fault Refusal :=
  .next (
    if !s.pairUpdate || s.mode != .owner || s.update.pairStep != 3 || s.pair.handover.isSome then s
    else match s.update.retryFrom with
      | some t => if t + 600000000000 ≤ s.clk.local_ + 50000 then s.endUpdate 7 4 else s.updateHandover
      | none => s)

/-! ### Status -/

/-- UPDATE_STATUS, R574. -/
def execUpdateStatus (r : Req) (s : State) : Host.Outcome State Fault Refusal :=
  .next (s.receive ⟨0x0B06, true, 1, false, .EL, false⟩ .none r fun s _ => do
    sized r.payload 0
    let u := s.update
    ok s (be 4 (u.state % 16 + 16 * (u.pairStep % 16) + 256 * (u.lastResult % 256) + 65536 * (u.part % 8)
        + (if u.scopePair then 524288 else 0) + 1048576 * (u.endCause % 256))
      ++ be 4 u.targetGen ++ be 4 s.ident.generation ++ be 4 s.partnerGen ++ be 4 (sat32 u.bytes) ++ be 4 u.loader))

end Sys2Proof.Machine
end

