-- ==== Sys2Proof/Machine/AlmanacCommands.lean ====
section
/-! DEFINITION. Group 16#0C: the almanac (R577 to R582). -/
namespace Sys2Proof.Machine

/-- The DATA of a record that fits 24 bytes: the quantities in their order, each whole (R578). -/
def dataBytes : Nat → List (Nat × Nat) → List Byte
  | _, [] => []
  | room, (w, v) :: ds => if w ≤ room then be w v ++ dataBytes (room - w) ds else []

/-- The first 60 bytes of a record, R578. -/
def Rec.body (x : Rec) : List Byte :=
  let d := dataBytes 24 x.data
  be 8 x.seq ++ be 8 x.time ++ be 2 x.source ++ be 2 (256 * ruleGroup x.rule + x.ordinal) ++ be 2 x.rule ++ be 2 x.tenant
    ++ be 1 (x.side.bit + (if x.owner then 2 else 0) + (if x.calTime then 4 else 0) + 8 * (x.severity % 4)) ++ [0]
    ++ be 2 x.restarts ++ be 4 x.epoch ++ d ++ List.replicate (24 - d.length) 0 ++ be 4 0

/-- A record with its CRC. -/
def Rec.bytes (x : Rec) : List Byte := x.body ++ be 4 (crc32 x.body).toNat

/-- ALMANAC_READ, R578 and R579; the records are read through gate 11. -/
def execAlmanacRead (r : Req) (s : State) : Host.Outcome State Fault Refusal :=
  .next (s.receive ⟨0x0C01, true, 1, false, .EL, false⟩ .none r fun s _ => do
    let p := r.payload
    sized p 12
    zeros p 10 2
    need (decide (field p 8 2 ≤ 255)) (badParam 8)
    let xs := (s.almanac.records.filter fun x => decide (field p 0 8 ≤ x.seq)).take (field p 8 2)
    let first := ((xs.head?).map (·.seq)).getD s.almanac.next
    let next := ((xs.getLast?).map (·.seq + 1)).getD s.almanac.next
    s.throughGate r 11 0 0 (ok s (be 8 first ++ be 8 next ++ be 2 xs.length ++ be 6 0 ++ xs.flatMap Rec.bytes)))

/-- ALMANAC_STATUS, R579. -/
def execAlmanacStatus (r : Req) (s : State) : Host.Outcome State Fault Refusal :=
  .next (s.receive ⟨0x0C03, true, 1, false, .E, false⟩ .none r fun s _ => do
    sized r.payload 0
    let oldest := ((s.almanac.records.head?).map (·.seq)).getD s.almanac.next
    let newest := ((s.almanac.records.getLast?).map (·.seq)).getD (s.almanac.next - 1)
    s.throughGate r 11 0 0 (ok s (be 8 oldest ++ be 8 newest)))

/-- The records up to a bound, but CLEAR records, removed (R580); what is staged stays staged. -/
def Almanac.clearTo (a : Almanac) (bound : Nat) : Almanac :=
  let keep (x : Rec) : Bool := decide (bound < x.seq) || x.rule == 580
  { a with records := a.records.filter keep, staged := ((a.records.drop (a.records.length - a.staged)).filter keep).length }

/-- A clear under a bound, with its CLEAR record (R580). -/
def State.clearAlmanac (s : State) (bound serial session : Nat) : State :=
  let gone := s.almanac.records.filter fun x => decide (x.seq ≤ bound) && x.rule != 580
  let first := ((gone.head?).map (·.seq)).getD (bound + 1)
  let last := ((gone.getLast?).map (·.seq)).getD bound
  let s1 : State := { s with almanac := s.almanac.clearTo bound }
  s1.record 580 1 sevInfo noSource noSource [(8, first), (8, last), (4, serial), (4, session)]

/-- A clear token that R581 does not refuse, leaving its signature to the signature engine. -/
def State.tokenGood (s : State) (t : List Byte) : Bool :=
  (match s.keys.authority with | some a => a.1 == field t 1 1 | none => false) && field t 4 8 == s.ident.serial
    && (!s.calValid || decide (s.calSec ≤ field t 20 4))

/-- ALMANAC_CLEAR, R580 and R581: with a key at the module, or with a token under the plant authority key. -/
def execAlmanacClear (r : Req) (sigOk : Bool) (s : State) : Host.Outcome State Fault Refusal :=
  .next (s.receive ⟨0x0C02, true, 2, false, .E, false⟩ (.flag sigOk) r fun s _ => do
    let p := r.payload
    let n := field p 0 2
    let size := match s.keys.authority with | some a => 28 + curveBytes a.1 | none => 92
    need (decide (4 ≤ p.length) && p.length == 4 + n && (n == 0 || n == size)) badLength
    zeros p 2 2
    let newest := s.almanac.next - 1
    if n = 0 then do
      s.needKey
      let s1 := s.clearAlmanac newest s.keySerial r.session
      ok (s1.useKey r.session) []
    else do
      let t := p.drop 4
      zeros p 6 2
      zeros p 28 4
      need (field t 0 1 == 1) (badParam 4)
      need (s.tokenGood t && sigOk) (denied 5)
      let s1 := (s.submit [⟨if field t 1 1 = 2 then 1 else 0, false⟩]).clearAlmanac (min newest (field t 12 8)) 0 r.session
      ok (if s.calValid then s1 else s1.record 581 1 sevInfo noSource noSource [(4, r.session)]) [])

/-- ALMANAC_FLASH_COPY, R577: the oldest staged records are copied; a gap since the last copy is stated in a LOST record. -/
def execAlmanacFlashCopy (count : Nat) (s : State) : Host.Outcome State Fault Refusal :=
  .next (
    let lost := s.almanac.lost
    let s1 : State := { s with almanac := { s.almanac with staged := s.almanac.staged - count, lost := 0 } }
    if lost = 0 then s1 else s1.record 577 1 sevWarning noSource noSource [(4, lost)])

end Sys2Proof.Machine
end

