-- ==== Sys2Proof/Machine/BitLogic.lean ====
section
/-! DEFINITION. Bit logic, 16#00 to 16#19 (R105 to R107). -/
namespace Sys2Proof.Machine

/-- ACC becomes a function of ACC and the bit operand. -/
def accWith (f : Bool → Bool → Bool) (keepsMark : Bool) (e : Env) (l : Lane) (o : Opnd) : Except Stop Lane := do
  let (b, m, l) ← e.readBit l o
  .ok (l.setAcc (f l.regs.acc b) (m || (keepsMark && l.regs.accMark)))

/-- The parenthesis opens: (ACC, operator) is pushed before ACC takes the operand (R106). -/
def openWith (op : Nat) (e : Env) (l : Lane) (o : Opnd) : Except Stop Lane := do
  let l ← l.pushBranch op
  let (b, m, l) ← e.readBit l o
  .ok (l.setAcc b m)

/-- ACC becomes a test of the quality of the signal that holds the bit operand (R107). -/
def accQuality (f : Quality → Bool) (e : Env) (l : Lane) (o : Opnd) : Except Stop Lane := do
  let (_, l) ← e.readI l o.word true
  .ok (l.setAcc (f (e.ver.bitQuality e.qualities o.word (o.index % 32))) false)

/-- ACC ← op. -/
def bodyLd : Body := fun e o _ l => accWith (fun _ b => b) false e l o
/-- ACC ← NOT op. -/
def bodyLdn : Body := fun e o _ l => accWith (fun _ b => !b) false e l o
/-- ACC ← ACC AND op. -/
def bodyAnd : Body := fun e o _ l => accWith (fun a b => a && b) true e l o
/-- ACC ← ACC AND NOT op. -/
def bodyAndn : Body := fun e o _ l => accWith (fun a b => a && !b) true e l o
/-- ACC ← ACC OR op. -/
def bodyOr : Body := fun e o _ l => accWith (fun a b => a || b) true e l o
/-- ACC ← ACC OR NOT op. -/
def bodyOrn : Body := fun e o _ l => accWith (fun a b => a || !b) true e l o
/-- ACC ← ACC XOR op. -/
def bodyXor : Body := fun e o _ l => accWith (fun a b => a != b) true e l o
/-- ACC ← ACC XOR NOT op. -/
def bodyXorn : Body := fun e o _ l => accWith (fun a b => a != !b) true e l o
/-- op ← ACC. -/
def bodySt : Body := fun e o _ l => e.storeBit l o l.regs.acc l.regs.accMark
/-- op ← NOT ACC. -/
def bodyStn : Body := fun e o _ l => e.storeBit l o (!l.regs.acc) l.regs.accMark
/-- If ACC = 1: op ← 1. -/
def bodySetb : Body := fun e o _ l => if l.regs.acc then e.storeBit l o true l.regs.accMark else .ok l
/-- If ACC = 1: op ← 0. -/
def bodyRstb : Body := fun e o _ l => if l.regs.acc then e.storeBit l o false l.regs.accMark else .ok l
/-- Push (ACC, AND); ACC ← op. -/
def bodyAndp : Body := fun e o _ l => openWith 1 e l o
/-- Push (ACC, ANDN); ACC ← op. -/
def bodyAndnp : Body := fun e o _ l => openWith 2 e l o
/-- Push (ACC, OR); ACC ← op. -/
def bodyOrp : Body := fun e o _ l => openWith 3 e l o
/-- Push (ACC, ORN); ACC ← op. -/
def bodyOrnp : Body := fun e o _ l => openWith 4 e l o
/-- Push (ACC, XOR); ACC ← op. -/
def bodyXorp : Body := fun e o _ l => openWith 5 e l o
/-- Push (ACC, XORN); ACC ← op. -/
def bodyXornp : Body := fun e o _ l => openWith 6 e l o
/-- ACC ← NOT ACC. -/
def bodyNot : Body := fun _ _ _ l => .ok (l.setAcc (!l.regs.acc) l.regs.accMark)
/-- ACC ← 1. -/
def bodySet1 : Body := fun _ _ _ l => .ok (l.setAcc true false)
/-- ACC ← 0. -/
def bodyClr0 : Body := fun _ _ _ l => .ok (l.setAcc false false)
/-- ACC ← WACC[BIT_INDEX]. -/
def bodyLdwb (w : BitVec 24) : Body := fun _ _ _ l => .ok (l.setAcc (l.regs.wacc.getLsbD (fld w 0 5)) l.regs.waccMark)
/-- WACC[BIT_INDEX] ← ACC. -/
def bodyStwb (w : BitVec 24) : Body := fun _ _ _ l =>
  .ok (l.setWacc (overlay l.regs.wacc (1#32 <<< fld w 0 5) (if l.regs.acc then 0xFFFFFFFF else 0))
    (l.regs.waccMark || l.regs.accMark))
/-- ACC ← 1 if the quality is GOOD. -/
def bodyLdqg : Body := fun e o _ l => accQuality (fun q => q == .good) e l o
/-- ACC ← 1 if the quality is GOOD or FORCED. -/
def bodyLdqu : Body := fun e o _ l => accQuality (fun q => q == .good || q == .forced) e l o
/-- If ACC = 1: op ← NOT op. -/
def bodyTgl : Body := fun e o _ l =>
  if l.regs.acc then do
    let (b, m, l) ← e.readBit l o
    e.storeBit l o (!b) (l.regs.accMark || m)
  else .ok l

/-- LD, R105. -/
def execOpLd (x : Exec) (w : BitVec 24) (s : State) : Host.Outcome State Fault Refusal :=
  .next (runEngine 0x00 bodyLd x w 0 s)

/-- LDN, R105. -/
def execOpLdn (x : Exec) (w : BitVec 24) (s : State) : Host.Outcome State Fault Refusal :=
  .next (runEngine 0x01 bodyLdn x w 0 s)

/-- AND, R105. -/
def execOpAnd (x : Exec) (w : BitVec 24) (s : State) : Host.Outcome State Fault Refusal :=
  .next (runEngine 0x02 bodyAnd x w 0 s)

/-- ANDN, R105. -/
def execOpAndn (x : Exec) (w : BitVec 24) (s : State) : Host.Outcome State Fault Refusal :=
  .next (runEngine 0x03 bodyAndn x w 0 s)

/-- OR, R105. -/
def execOpOr (x : Exec) (w : BitVec 24) (s : State) : Host.Outcome State Fault Refusal :=
  .next (runEngine 0x04 bodyOr x w 0 s)

/-- ORN, R105. -/
def execOpOrn (x : Exec) (w : BitVec 24) (s : State) : Host.Outcome State Fault Refusal :=
  .next (runEngine 0x05 bodyOrn x w 0 s)

/-- XOR, R105. -/
def execOpXor (x : Exec) (w : BitVec 24) (s : State) : Host.Outcome State Fault Refusal :=
  .next (runEngine 0x06 bodyXor x w 0 s)

/-- XORN, R105. -/
def execOpXorn (x : Exec) (w : BitVec 24) (s : State) : Host.Outcome State Fault Refusal :=
  .next (runEngine 0x07 bodyXorn x w 0 s)

/-- ST, R105. -/
def execOpSt (x : Exec) (w : BitVec 24) (s : State) : Host.Outcome State Fault Refusal :=
  .next (runEngine 0x08 bodySt x w 0 s)

/-- STN, R105. -/
def execOpStn (x : Exec) (w : BitVec 24) (s : State) : Host.Outcome State Fault Refusal :=
  .next (runEngine 0x09 bodyStn x w 0 s)

/-- SETB, R105. -/
def execOpSetb (x : Exec) (w : BitVec 24) (s : State) : Host.Outcome State Fault Refusal :=
  .next (runEngine 0x0A bodySetb x w 0 s)

/-- RSTB, R105. -/
def execOpRstb (x : Exec) (w : BitVec 24) (s : State) : Host.Outcome State Fault Refusal :=
  .next (runEngine 0x0B bodyRstb x w 0 s)

/-- ANDP, R106. -/
def execOpAndp (x : Exec) (w : BitVec 24) (s : State) : Host.Outcome State Fault Refusal :=
  .next (runEngine 0x0C bodyAndp x w 0 s)

/-- ANDNP, R106. -/
def execOpAndnp (x : Exec) (w : BitVec 24) (s : State) : Host.Outcome State Fault Refusal :=
  .next (runEngine 0x0D bodyAndnp x w 0 s)

/-- ORP, R106. -/
def execOpOrp (x : Exec) (w : BitVec 24) (s : State) : Host.Outcome State Fault Refusal :=
  .next (runEngine 0x0E bodyOrp x w 0 s)

/-- ORNP, R106. -/
def execOpOrnp (x : Exec) (w : BitVec 24) (s : State) : Host.Outcome State Fault Refusal :=
  .next (runEngine 0x0F bodyOrnp x w 0 s)

/-- XORP, R106. -/
def execOpXorp (x : Exec) (w : BitVec 24) (s : State) : Host.Outcome State Fault Refusal :=
  .next (runEngine 0x10 bodyXorp x w 0 s)

/-- XORNP, R106. -/
def execOpXornp (x : Exec) (w : BitVec 24) (s : State) : Host.Outcome State Fault Refusal :=
  .next (runEngine 0x11 bodyXornp x w 0 s)

/-- NOT, R105. -/
def execOpNot (x : Exec) (w : BitVec 24) (s : State) : Host.Outcome State Fault Refusal :=
  .next (runEngine 0x12 bodyNot x w 0 s)

/-- SET1, R105. -/
def execOpSet1 (x : Exec) (w : BitVec 24) (s : State) : Host.Outcome State Fault Refusal :=
  .next (runEngine 0x13 bodySet1 x w 0 s)

/-- CLR0, R105. -/
def execOpClr0 (x : Exec) (w : BitVec 24) (s : State) : Host.Outcome State Fault Refusal :=
  .next (runEngine 0x14 bodyClr0 x w 0 s)

/-- LDWB, R105. -/
def execOpLdwb (x : Exec) (w : BitVec 24) (s : State) : Host.Outcome State Fault Refusal :=
  .next (runEngine 0x15 (bodyLdwb w) x w 0 s)

/-- STWB, R105. -/
def execOpStwb (x : Exec) (w : BitVec 24) (s : State) : Host.Outcome State Fault Refusal :=
  .next (runEngine 0x16 (bodyStwb w) x w 0 s)

/-- LDQG, R107. -/
def execOpLdqg (x : Exec) (w : BitVec 24) (s : State) : Host.Outcome State Fault Refusal :=
  .next (runEngine 0x17 bodyLdqg x w 0 s)

/-- LDQU, R107. -/
def execOpLdqu (x : Exec) (w : BitVec 24) (s : State) : Host.Outcome State Fault Refusal :=
  .next (runEngine 0x18 bodyLdqu x w 0 s)

/-- TGL, R105. -/
def execOpTgl (x : Exec) (w : BitVec 24) (s : State) : Host.Outcome State Fault Refusal :=
  .next (runEngine 0x19 bodyTgl x w 0 s)

end Sys2Proof.Machine
end

