-- ==== Sys2Proof/Machine/Carrier.lean ====
section
/-! DEFINITION. The front indicators (R403, R404) and the carrier management bus (R612, R613). -/
namespace Sys2Proof.Machine

/-! ### Indicators -/

/-- The patterns of R403. -/
inductive Pattern where | off | slow | flash | on
  deriving DecidableEq, Repr

/-- The front indicators. -/
structure Lamps where
  run : Pattern
  owner : Pattern
  standby : Pattern
  lantern : Pattern
  force : Pattern
  fault : Pattern
  safeToRemove : Pattern
  deriving DecidableEq, Repr

/-- The steadier of two patterns (R404). -/
def Pattern.steadier (a b : Pattern) : Pattern :=
  match a, b with
  | .on, _ => .on
  | _, .on => .on
  | .off, p => p
  | p, .off => p
  | .slow, _ => .slow
  | _, .slow => .slow
  | .flash, .flash => .flash

/-- RUN, OWNER, STANDBY, LANTERN and FAULT by the table of R403. -/
def State.lampTable (s : State) : Pattern × Pattern × Pattern × Pattern × Pattern :=
  match s.mode with
  | .unseated => (.off, .off, .off, .off, .off)
  | .seated => (.off, .off, .off, .flash, .off)
  | .lantern =>
    let run : Pattern := if s.lantern.running then .slow else .off
    match s.lantern.phase with
    | .held => (run, .off, .off, .on, .slow)
    | .waitOwner => (run, .off, .off, .on, .off)
    | .waitJoin => (run, .off, .off, .on, .off)
    | _ => (run, .off, .off, .flash, .off)
  | .joining => (.on, .off, .flash, .off, .off)
  | .standby => (.on, .off, .on, .off, .off)
  | .owner => (.on, .on, .off, .off, .off)
  | .standbyFaulted => (.off, .off, .slow, .off, .on)
  | .testHold => (.flash, if s.transmits then .on else .off, .off, .off, .off)

/-- The indicators, R403 and R404: dark without supply; all lit in the lamp test of R388. -/
def State.lamps (s : State) : Lamps :=
  if !s.front.powered then ⟨.off, .off, .off, .off, .off, .off, .off⟩
  else if s.front.lampTest then ⟨.on, .on, .on, .on, .on, .on, .on⟩
  else
    let (run, owner, standby, lantern, fault) := s.lampTable
    let retired : Pattern := if s.anyStrand (·.retired) then .on else .off
    let refused : Pattern := if s.front.leverRefused then .flash else .off
    { run := run, owner := owner, standby := standby, lantern := lantern
      force := if s.forces.isEmpty then .off else .on
      fault := (fault.steadier retired).steadier refused
      safeToRemove := if s.front.safeToRemove then .on else .off }

/-! ### Carrier management bus -/

/-- CM_ALERT_N is held low while FAULT or SAFE-TO-REMOVE is lit (R612). -/
def State.cmAlert (s : State) : Bool := s.lamps.fault != .off || s.lamps.safeToRemove != .off

/-- The block of R613 with what is measured: the inlet temperature in 0.1 °C and the feeds in 10 mV. -/
def State.cmFresh (s : State) (temp : Int) (feed1 feed2 : Nat) : List Byte :=
  let lit (n : Nat) (p : Pattern) : Nat := if p = .off then 0 else 2 ^ n
  let flag (n : Nat) (b : Bool) : Nat := if b then 2 ^ n else 0
  let l := s.lamps
  be 1 1 ++ be 1 (if s.mode = .seated ∨ s.mode = .unseated then 0xFE else s.mode.code)
    ++ be 1 (s.front.side.bit + lit 1 l.safeToRemove + lit 2 l.fault + lit 3 l.force + flag 4 s.feeds.present1 + flag 5 s.feeds.present2)
    ++ [0] ++ be 2 (Config.typeCode s.ident.variant) ++ be 1 s.ident.fuse ++ [0] ++ be 2 (twos 16 temp) ++ be 2 feed1 ++ be 2 feed2
    ++ [0, 0]

/-- What a read of the bus returns from an offset on, `n` bytes; offsets beyond byte 15 read zero (R612). Nothing answers before the
end of the power start phase. -/
def State.cmRead (s : State) (offset n : Nat) : Option (List Byte) :=
  if s.front.cmServed then some ((List.range n).map fun k => (s.cmBlock[offset + k]?).getD 0) else none

/-- CM_WRITE, R612: the data bytes are not acknowledged, and nothing changes. -/
def execCmWrite (_offset : Nat) (_data : List Byte) (s : State) : Host.Outcome State Fault Refusal := .next s

/-- CM_BLOCK_REFRESH, R613, while the bus is served. -/
def execCmBlockRefresh (temp : Int) (feed1 feed2 : Nat) (s : State) : Host.Outcome State Fault Refusal :=
  .next (if s.front.cmServed then { s with cmBlock := s.cmFresh temp feed1 feed2 } else s)

end Sys2Proof.Machine
end

