-- ==== Sys2Proof/Machine/Control.lean ====
section
/-! DEFINITION. The branch stack, jumps, calls, loops, segments and the end of a cycle (R109 to R121), and undefined
opcodes (R131, R166). -/
namespace Sys2Proof.Machine

/-- TARGET of format J. -/
def targetOf (w : BitVec 24) : BitVec 22 := BitVec.ofNat 22 (fld w 0 22)

/-- A call frame pushed and the jump made (R114). -/
def callTo (l : Lane) (w : BitVec 24) : Except Stop Lane :=
  if 16 ≤ l.regs.calls.length then .error fCallOver
  else
    .ok { l with regs := { l.regs with
      calls := ⟨l.regs.pc, l.regs.branch.length, l.regs.loops.length⟩ :: l.regs.calls, pc := targetOf w } }

/-- The cycle ends at the instruction just fetched (R111, R121). -/
def endCycle (l : Lane) : Except Stop Lane :=
  if l.regs.branch.isEmpty then .ok { l with endAt := some (l.regs.pc - 1) } else .error fBranchOver

/-- The innermost call returns, or the cycle ends where there is none (R111, R112, R114). -/
def returnFrom (l : Lane) : Except Stop Lane :=
  match l.regs.calls with
  | [] => endCycle l
  | f :: rest =>
    if f.branchDepth < l.regs.branch.length then .error fBranchOver
    else if f.loopDepth < l.regs.loops.length then .error fLoop
    else .ok { l with regs := { l.regs with calls := rest, pc := f.ret } }

/-- A loop opened with a count (R115). -/
def openLoop (l : Lane) (count : Nat) (ext : Word) : Except Stop Lane :=
  let exit : BitVec 22 := BitVec.ofNat 22 (fldE ext 0 22)
  if count = 0 then .ok (l.setPc exit)
  else if 8 ≤ l.regs.loops.length then .error fLoop
  else .ok { l with regs := { l.regs with loops := ⟨BitVec.ofNat 32 count, 0, l.regs.pc, exit⟩ :: l.regs.loops } }

/-- The innermost visible loop frame, or LOOP-STACK (R116). -/
def loopFrame (l : Lane) : Except Stop LoopFrame :=
  match l.loop with
  | some f => .ok f
  | none => .error fLoop

/-- A new segment opened (R119, R180). -/
def openSegment (e : Env) (l : Lane) : Except Stop Lane :=
  let n := l.segNo + 1
  if l.spec = .speculating then
    if 256 ≤ e.recordsOther + l.segs.length then .error (.wait .waitRecords)
    else .ok { l with segNo := n, segs := l.segs ++ [⟨n, l.regs, l.flags, [], none, [], false, l.immLog.length⟩] }
  else .ok { l with segNo := n }

/-- Push (ACC, NONE). -/
def bodyBpush : Body := fun _ _ _ l => l.pushBranch 0
/-- ACC ← top value; the entry stays. -/
def bodyBpeek : Body := fun _ _ _ l => do
  let b ← l.topBranch
  .ok (l.setAcc b.value b.mark)
/-- ACC ← top value; pop. -/
def bodyBpop : Body := fun _ _ _ l => do
  let b ← l.topBranch
  .ok (l.popBranch.setAcc b.value b.mark)
/-- Pop (v, operator); ACC ← v operator ACC. -/
def bodyClose : Body := fun _ _ _ l => do
  let b ← l.topBranch
  .ok (l.popBranch.setAcc (branchOp b.op b.value l.regs.acc) (l.regs.accMark || (b.op != 0 && b.mark)))
/-- No operation. -/
def bodyNop : Body := fun _ _ _ l => .ok l
/-- PC ← TARGET. -/
def bodyJmp (w : BitVec 24) : Body := fun _ _ _ l => .ok (l.setPc (targetOf w))
/-- If ACC = 1: PC ← TARGET. -/
def bodyJmpc (w : BitVec 24) : Body := fun _ _ _ l =>
  let l := l.pathOn l.regs.accMark
  .ok (if l.regs.acc then l.setPc (targetOf w) else l)
/-- If ACC = 0: PC ← TARGET. -/
def bodyJmpcn (w : BitVec 24) : Body := fun _ _ _ l =>
  let l := l.pathOn l.regs.accMark
  .ok (if l.regs.acc then l else l.setPc (targetOf w))
/-- Push a call frame; PC ← TARGET. -/
def bodyCall (w : BitVec 24) : Body := fun _ _ _ l => callTo l w
/-- If ACC = 1: as CALL. -/
def bodyCallc (w : BitVec 24) : Body := fun _ _ _ l =>
  let l := l.pathOn l.regs.accMark
  if l.regs.acc then callTo l w else .ok l
/-- If ACC = 0: as CALL. -/
def bodyCallcn (w : BitVec 24) : Body := fun _ _ _ l =>
  let l := l.pathOn l.regs.accMark
  if l.regs.acc then .ok l else callTo l w
/-- Pop the call frame and return. -/
def bodyRet : Body := fun _ _ _ l => returnFrom l
/-- If ACC = 1: as RET. -/
def bodyRetc : Body := fun _ _ _ l =>
  let l := l.pathOn l.regs.accMark
  if l.regs.acc then returnFrom l else .ok l
/-- If ACC = 0: as RET. -/
def bodyRetcn : Body := fun _ _ _ l =>
  let l := l.pathOn l.regs.accMark
  if l.regs.acc then .ok l else returnFrom l
/-- A loop of MAX passes. -/
def bodyFor (w : BitVec 24) (ext : Word) : Body := fun _ _ _ l => openLoop l (fld w 0 16) ext
/-- A loop of WACC passes, at most MAX; the clamp sets LOOP_CLAMPED, and a marked WACC the path mark (R115, R218). -/
def bodyForw (w : BitVec 24) (ext : Word) : Body := fun _ _ _ l => do
  let max := fld w 0 16
  let n := l.regs.wacc.toNat
  let l := l.pathOn l.regs.waccMark
  let l ← openLoop l (min n max) ext
  .ok (if max < n then { l with flags := l.flags ||| 2 } else l)
/-- Close an iteration. -/
def bodyNext : Body := fun _ _ _ l => do
  let f ← loopFrame l
  let g : LoopFrame := { f with index := f.index + 1, remaining := f.remaining - 1 }
  .ok (if g.remaining = 0 then { l with regs := { l.regs with loops := l.regs.loops.tail } }
       else { l with regs := { l.regs with loops := g :: l.regs.loops.tail, pc := g.body } })
/-- Pop the innermost loop frame; PC ← its EXIT. -/
def bodyLeave : Body := fun _ _ _ l => do
  let f ← loopFrame l
  .ok { l with regs := { l.regs with loops := l.regs.loops.tail, pc := f.exit } }
/-- WACC ← INDEX of the innermost loop frame. -/
def bodyLidx : Body := fun _ _ _ l => do
  let f ← loopFrame l
  .ok (l.setWacc f.index false)
/-- The running segment ends and the next opens. -/
def bodySegment : Body := fun e _ _ l => openSegment e l
/-- The cycle ends. -/
def bodyEnd : Body := fun _ _ _ l => endCycle l
/-- If ACC = 1: as END. -/
def bodyEndc : Body := fun _ _ _ l =>
  let l := l.pathOn l.regs.accMark
  if l.regs.acc then endCycle l else .ok l

/-- BPUSH, R109, R110. -/
def execOpBpush (x : Exec) (w : BitVec 24) (s : State) : Host.Outcome State Fault Refusal :=
  .next (runEngine 0xD0 bodyBpush x w 0 s)

/-- BPEEK, R109, R110. -/
def execOpBpeek (x : Exec) (w : BitVec 24) (s : State) : Host.Outcome State Fault Refusal :=
  .next (runEngine 0xD1 bodyBpeek x w 0 s)

/-- BPOP, R109, R110. -/
def execOpBpop (x : Exec) (w : BitVec 24) (s : State) : Host.Outcome State Fault Refusal :=
  .next (runEngine 0xD2 bodyBpop x w 0 s)

/-- CLOSE, R109, R110. -/
def execOpClose (x : Exec) (w : BitVec 24) (s : State) : Host.Outcome State Fault Refusal :=
  .next (runEngine 0xD3 bodyClose x w 0 s)

/-- NOP, R112. -/
def execOpNop (x : Exec) (w : BitVec 24) (s : State) : Host.Outcome State Fault Refusal :=
  .next (runEngine 0xC0 bodyNop x w 0 s)

/-- JMP, R113. -/
def execOpJmp (x : Exec) (w : BitVec 24) (s : State) : Host.Outcome State Fault Refusal :=
  .next (runEngine 0xC1 (bodyJmp w) x w 0 s)

/-- JMPC, R113. -/
def execOpJmpc (x : Exec) (w : BitVec 24) (s : State) : Host.Outcome State Fault Refusal :=
  .next (runEngine 0xC2 (bodyJmpc w) x w 0 s)

/-- JMPCN, R113. -/
def execOpJmpcn (x : Exec) (w : BitVec 24) (s : State) : Host.Outcome State Fault Refusal :=
  .next (runEngine 0xC3 (bodyJmpcn w) x w 0 s)

/-- CALL, R114. -/
def execOpCall (x : Exec) (w : BitVec 24) (s : State) : Host.Outcome State Fault Refusal :=
  .next (runEngine 0xC4 (bodyCall w) x w 0 s)

/-- CALLC, R114. -/
def execOpCallc (x : Exec) (w : BitVec 24) (s : State) : Host.Outcome State Fault Refusal :=
  .next (runEngine 0xC5 (bodyCallc w) x w 0 s)

/-- CALLCN, R114. -/
def execOpCallcn (x : Exec) (w : BitVec 24) (s : State) : Host.Outcome State Fault Refusal :=
  .next (runEngine 0xC6 (bodyCallcn w) x w 0 s)

/-- RET, R114. -/
def execOpRet (x : Exec) (w : BitVec 24) (s : State) : Host.Outcome State Fault Refusal :=
  .next (runEngine 0xC7 bodyRet x w 0 s)

/-- RETC, R114. -/
def execOpRetc (x : Exec) (w : BitVec 24) (s : State) : Host.Outcome State Fault Refusal :=
  .next (runEngine 0xC8 bodyRetc x w 0 s)

/-- RETCN, R114. -/
def execOpRetcn (x : Exec) (w : BitVec 24) (s : State) : Host.Outcome State Fault Refusal :=
  .next (runEngine 0xC9 bodyRetcn x w 0 s)

/-- FOR, R115. -/
def execOpFor (x : Exec) (w : BitVec 24) (e : Word) (s : State) : Host.Outcome State Fault Refusal :=
  .next (runEngine 0xCA (bodyFor w e) x w e s)

/-- FORW, R115. -/
def execOpForw (x : Exec) (w : BitVec 24) (e : Word) (s : State) : Host.Outcome State Fault Refusal :=
  .next (runEngine 0xCB (bodyForw w e) x w e s)

/-- NEXT, R116. -/
def execOpNext (x : Exec) (w : BitVec 24) (s : State) : Host.Outcome State Fault Refusal :=
  .next (runEngine 0xCC bodyNext x w 0 s)

/-- LEAVE, R116. -/
def execOpLeave (x : Exec) (w : BitVec 24) (s : State) : Host.Outcome State Fault Refusal :=
  .next (runEngine 0xCD bodyLeave x w 0 s)

/-- LIDX, R116. -/
def execOpLidx (x : Exec) (w : BitVec 24) (s : State) : Host.Outcome State Fault Refusal :=
  .next (runEngine 0xCE bodyLidx x w 0 s)

/-- SEGMENT, R119. -/
def execOpSegment (x : Exec) (w : BitVec 24) (s : State) : Host.Outcome State Fault Refusal :=
  .next (runEngine 0xD4 bodySegment x w 0 s)

/-- END, R121. -/
def execOpEnd (x : Exec) (w : BitVec 24) (s : State) : Host.Outcome State Fault Refusal :=
  .next (runEngine 0xD5 bodyEnd x w 0 s)

/-- ENDC, R121. -/
def execOpEndc (x : Exec) (w : BitVec 24) (s : State) : Host.Outcome State Fault Refusal :=
  .next (runEngine 0xD6 bodyEndc x w 0 s)

/-- UNDEFINED_OPCODE, R131 and R166. -/
def execUndefinedOpcode (x : Exec) (op : Byte) (w : BitVec 24) (s : State) : Host.Outcome State Fault Refusal :=
  .next (runUndefined op.toNat x w s)

end Sys2Proof.Machine
end

