-- ==== Sys2Proof/Machine/Diagnostics.lean ====
section
/-! DEFINITION. Diagnostics, 16#0D01 to 16#0D07 (R35, R200, R215, R226, R310, R468, R594, R596 to R600). -/
namespace Sys2Proof.Machine

/-- A bit of a word as a number. -/
def bitAt (n : Nat) (b : Bool) : Nat := if b then 2 ^ n else 0

/-! ### Counters -/

/-- DIAG_COUNTER_READ, R600; the reads of one reply are one instant. -/
def execDiagCounterRead (r : Req) (s : State) : Host.Outcome State Fault Refusal :=
  .next (s.receive ⟨0x0D01, true, 1, false, .E, false⟩ .none r fun s _ => do
    let p := r.payload
    sized p 4
    need (decide (field p 0 2 + field p 2 2 ≤ 256)) (badParam 2)
    ok s (((s.counters.drop (field p 0 2)).take (field p 2 2)).flatMap fun c => be 4 c.value ++ be 8 s.clk.local_))

/-- A selection of R599. The counter above an even one is chained to it, or loses its chaining. -/
def selectCounter (cs : List Counter) (n source : Nat) (chain : Bool) : List Counter :=
  let was := ((cs[n]?).map (·.chained)).getD false
  let one := modAt cs n fun _ => ⟨source, 0, chain⟩
  if n % 2 = 0 ∧ (chain ∨ was) then modAt one (n + 1) fun _ => ⟨0, 0, false⟩ else one

/-- DIAG_COUNTER_SELECT, R597 and R599. -/
def execDiagCounterSelect (r : Req) (s : State) : Host.Outcome State Fault Refusal :=
  .next (s.receive ⟨0x0D02, true, 2, false, .E, false⟩ .none r fun s _ => do
    let p := r.payload
    sized p 8
    zeros p 5 3
    let n := field p 0 2
    let chain := field p 4 1
    need (decide (n ≤ 255)) (badParam 0)
    need (Config.counterSource s.ident.variant (field p 2 2)) (badParam 2)
    need (chain == 0 || (chain == 1 && n % 2 == 0)) (badParam 4)
    need (!chainedOdd s.counters n) wrongState
    ok { s with counters := selectCounter s.counters n (field p 2 2) (chain == 1) } [])

/-! ### Watchdogs -/

/-- The words of R594, in their order. -/
def watchdogBody (head period window lastService lastExpiry expiries early pc evidence gap : Nat) : List Byte :=
  be 4 head ++ be 4 period ++ be 4 window ++ be 8 lastService ++ be 8 lastExpiry ++ be 4 expiries ++ be 4 early ++ be 4 pc
    ++ be 4 evidence ++ be 4 gap

/-- Word 0 of R594. -/
def watchdogHead (state fuse task : Nat) (locked privileged : Bool) : Nat :=
  state + bitAt 2 locked + bitAt 3 privileged + 16 * (fuse % 4) + 65536 * (task % 2048)

/-- The watchdog of a task; one that is not written is OFF (R594). -/
def State.taskWatchdog (s : State) (t : Task) : List Byte :=
  let w := t.wd
  let on := w.period != 0
  watchdogBody (watchdogHead (if !on then 0 else if w.expired then 2 else 1) s.ident.fuse t.no on false) w.period
    (s.windowNs w.period / 1000) w.lastService w.lastExpiry w.expiries w.early w.pc
    (bitAt 0 w.pcValid + 2 * (w.runState % 4) + 8 * (t.strand % 16)) w.lastGap

/-- A privileged watchdog: it always runs and is always locked. -/
def State.unitWatchdog (s : State) (k : Nat) : List Byte :=
  let w := (s.privWds[k]?).getD ⟨0, 0, 0, 0, 0, false, 0, false⟩
  let period := Config.privPeriod k / 1000
  watchdogBody (watchdogHead (if w.expired then 2 else 1) s.ident.fuse 0 true true) period (s.windowNs period / 1000) w.lastService
    w.lastExpiry w.expiries w.early w.evidence (bitAt 0 w.evidenceValid) w.lastGap

/-- DIAG_WATCHDOG_READ, R594. -/
def execDiagWatchdogRead (r : Req) (s : State) : Host.Outcome State Fault Refusal :=
  .next (s.receive ⟨0x0D03, true, 1, false, .E, false⟩ .none r fun s _ => do
    let p := r.payload
    sized p 4
    zeros p 2 2
    let n := field p 0 2
    need (decide (n ≤ 2055)) (badParam 0)
    if 2048 ≤ n then ok s (s.unitWatchdog (n - 2048))
    else
      match s.task n with
      | some t => ok s (s.taskWatchdog t)
      | none => ok s (be 48 0))

/-! ### Strands and speculation -/

/-- PACE_STATUS, R35; it reads 0 for a strand that is not fitted. -/
def State.paceStatus (s : State) (k : Nat) : Nat :=
  let x := s.strand k
  if Config.strands s.ident.variant ≤ k then 0
  else min 4095 x.probe + 4096 * min 4095 x.run + bitAt 24 x.marginLow + bitAt 25 x.paceLow + bitAt 26 x.probeFault + bitAt 27 (s.sleeps k)

/-- PARALLAX_STATUS, R215. -/
def State.parallaxStatus (s : State) (k : Nat) : Nat :=
  let x := s.strand k
  if Config.strands s.ident.variant ≤ k then 0
  else
    let recent := (x.parTimes.filter fun t => decide (s.clk.local_ < t + 1000000000)).length
    x.parKind % 8 + bitAt 3 x.parImmediate + 16 * (x.parOutcome % 4) + 64 * min 3 recent + bitAt 8 x.retired + 65536 * (x.parTask % 2048)

/-- VCORE_STATUS, R35. -/
def State.vcoreStatus (s : State) : Nat :=
  let v := s.vcore
  v.code % 64 + 64 * (v.limiting % 16) + bitAt 10 (v.code == 40) + bitAt 11 v.marginCheck + bitAt 12 (s.isQuiesced 0)

/-- DIAG_STRAND_STATUS, R35, R215 and R468. -/
def execDiagStrandStatus (r : Req) (s : State) : Host.Outcome State Fault Refusal :=
  .next (s.receive ⟨0x0D04, true, 1, false, .E, false⟩ .none r fun s _ => do
    let p := r.payload
    sized p 4
    zeros p 1 3
    let k := field p 0 1
    need (decide (k ≤ 15)) (badParam 0)
    ok s (be 4 (s.paceStatus k) ++ be 4 (s.parallaxStatus k) ++ be 4 s.vcoreStatus))

/-- SPEC_STATUS, R200. -/
def Task.specStatus (t : Task) : Nat :=
  t.lane0.spec.code + bitAt 3 t.wideLast + bitAt 4 t.replayedLast + bitAt 5 t.abandonedLast + 65536 * min 65535 t.verifiedLast

/-- DIAG_TASK_SPEC, R200 and R468: a task of the named tenant. -/
def execDiagTaskSpec (r : Req) (s : State) : Host.Outcome State Fault Refusal :=
  .next (s.receive ⟨0x0D05, true, 1, true, .E, false⟩ .none r fun s _ => do
    let p := r.payload
    sized p 4
    zeros p 2 2
    match s.task (field p 0 2) with
    | some t => if t.tenant = r.tenant then ok s (be 4 t.specStatus) else .error (badParam 0)
    | none => .error (badParam 0))

/-! ### Displaced frames and tags -/

/-- DIAG_DISPLACED_READ, R226: the tenant's 64-byte slot, read through gate 15. -/
def execDiagDisplacedRead (r : Req) (s : State) : Host.Outcome State Fault Refusal :=
  .next (s.receive ⟨0x0D06, true, 2, true, .E, false⟩ .none r fun s _ => do
    sized r.payload 0
    let words := (s.tenant r.tenant).slot
    s.throughGate r 15 (r.tenant / 4) 0
      (ok s (if words.isEmpty then be 64 0 else (List.range 16).flatMap fun k => be 4 ((words[k]?).getD 0).toNat)))

/-- A tag as R310 lays it out. -/
def tagBody (tag cls state ring station slot task cycle expect deadline crc attempts : Nat) : List Byte :=
  be 4 (tag % 131072 + 131072 * cls + 262144 * state + 2097152 * (ring % 4)) ++ be 4 (station % 256 + 256 * (slot % 256) + 65536 * (task % 2048))
    ++ be 4 cycle ++ be 4 (expect % 65536) ++ be 8 deadline ++ be 4 crc ++ be 4 (attempts % 16)

/-- A tag in use, or FREE: a cyclic tag is OPEN, FILED or EXPIRED; an acyclic tag is QUEUED before its first transmission and then
OPEN, and it is freed with its result (R309, R315). -/
def State.tagWords (s : State) (tag : Nat) : List Byte :=
  match s.cyclicTags.find? fun g => g.tag == tag with
  | some g =>
    tagBody tag 0 (if g.filed.isSome then 3 else if g.expired then 4 else 2) g.ring g.station g.slot g.task g.cycle g.expect g.deadline
      ((g.filed.map (·.toNat)).getD 0) 0
  | none =>
    match NMap.get s.acyc tag with
    | some x =>
      tagBody tag 1 (if x.attempts = 0 then 1 else 2) x.req.ring x.req.station 0 2047 x.seq (8 + if x.req.op = 2 then 0 else x.req.length)
        x.deadline 0 x.attempts
    | none => tagBody tag (if s.cyclicTotal ≤ tag then 1 else 0) 0 0 0 0 0 0 0 0 0 0

/-- DIAG_TAG_READ, R310. -/
def execDiagTagRead (r : Req) (s : State) : Host.Outcome State Fault Refusal :=
  .next (s.receive ⟨0x0D07, true, 1, false, .E, false⟩ .none r fun s _ => do
    let p := r.payload
    sized p 4
    need (decide (field p 0 4 < Config.tags s.ident.variant)) (badParam 0)
    ok s (s.tagWords (field p 0 4)))

end Sys2Proof.Machine
end

