-- ==== Sys2Proof/Machine/Process.lean ====
section
/-! DEFINITION. Group 16#04: process data and forces (R199, R258 to R264, R327, R452, R462, R463, R528). -/
namespace Sys2Proof.Machine

/-! ### Items -/

/-- An ITEM of R462, its offset in the request, and the values that follow it in a write. -/
structure Item where
  off : Nat
  area : Nat
  reserved : Bool
  words : Nat
  index : Nat
  values : List Word
  deriving DecidableEq, Repr

/-- The items of a request from an offset on; nothing where the payload is too short or too long. -/
def items (write : Bool) (p : List Byte) : Nat → Nat → Option (List Item)
  | 0, off => if p.length = off then some [] else none
  | n + 1, off =>
    if p.length < off + 8 then none
    else
      let words := field p (off + 2) 2
      let after := off + 8 + (if write then 4 * words else 0)
      (items write p n after).map fun rest =>
        { off := off, area := field p off 1 % 8, reserved := field p off 1 < 8 && field p (off + 1) 1 == 0, words := words
          index := field p (off + 4) 4
          values := if write then (List.range words).map fun k => BitVec.ofNat 32 (field p (off + 8 + 4 * k) 4) else [] } :: rest

/-- The items of a payload: its length, its reserved fields, and at most 2,040 words (R440, R462). -/
def itemsOf (write : Bool) (p : List Byte) : Except Refused (List Item) := do
  need (decide (4 ≤ p.length)) badLength
  let is ← (match items write p (field p 0 2) 4 with | some is => .ok is | none => .error badLength)
  need (decide ((is.map (·.words)).sum ≤ 2040)) badLength
  zeros p 2 2
  match is.find? fun i => !i.reserved with
  | some i => .error (reservedAt i.off)
  | none => .ok is

/-- Bytes of a tenant's window in an area. -/
def Tenant.windowBytes (t : Tenant) (area : Nat) : Nat :=
  match t.version with
  | none => 0
  | some v => if area = 0 then v.sizeI else if area = 5 then v.sizeK else v.areaSize area

/-- Every item names words of the tenant's windows (R462). -/
def Tenant.reaches (t : Tenant) (is : List Item) : Except Refused Unit :=
  match is.find? fun i => !(i.area ≤ 5 && decide (0 < i.words) && decide (4 * (i.index + i.words) ≤ t.windowBytes i.area)) with
  | some i => .error (badParam (if 5 < i.area then i.off else if i.words = 0 then i.off + 2 else i.off + 4))
  | none => .ok ()

/-- The host's access to a word (R452, R528): at the address of the word in the window. I windows lie in the shared input region of
the tenant's bank, and a K window in its program image. -/
def Tenant.hostAccess (t : Tenant) (tenant level kind area word : Nat) : Access :=
  if area = 0 then ⟨1 + t.win.bank, 2048 + min (4 * word / 256) 1023, kind, level, some tenant⟩
  else if area = 5 then ⟨0, 65536 * t.image + 4 * word / 256, kind, level, some tenant⟩
  else
    let a := t.win.base area + 4 * word
    ⟨1 + a / bankBytes, a % bankBytes / 256, kind, level, some tenant⟩

/-- The first denial among the accesses of a request. -/
def State.firstDenial (s : State) (tenant level kind : Nat) (is : List Item) : Option Denial :=
  let t := s.tenant tenant
  is.findSome? fun i => (List.range i.words).findSome? fun k => s.gateCheck (t.hostAccess tenant level kind i.area (i.index + k))

/-! ### Reading -/

/-- The pending copies of a task's cycle (R182): lane 0's writes that lane 1 has matched; under debug lane 0's writes without a match (R231). -/
def State.pendingCopies (s : State) (t : Task) : List WriteRec :=
  if (s.debugFor t).isSome then t.lane0.drained
  else ((t.lane0.drained.zip t.lane1.drained).filter fun p =>
    p.1.addr == p.2.addr && p.1.mask == p.2.mask && p.1.value == p.2.value).map (·.1)

/-- The provisional value of a word at an address (R199): lane 0's newest shadow entry, a pending copy, or the published value. From transit on
what a cycle wrote is COMMITTED and no pending copy (R328). -/
def State.provisional (s : State) (tenant addr : Nat) (published : Word) : Word × Bool :=
  let ts := (s.tasks.map (·.2)).filter fun t => t.tenant == tenant && t.inCycle && !t.transited
  let old := (ts.flatMap fun t => (s.pendingCopies t).filter fun w => w.addr == addr).map fun w => (w.mask, w.value)
  let new := (ts.flatMap fun t => t.lane0.shadow.filter fun w => w.addr == addr).map fun w => (w.mask, w.value)
  ((old ++ new).foldl (fun v w => overlay v w.1 w.2) published, !(old.isEmpty && new.isEmpty))

/-- Is a Q word bound to a forced output (R264)? -/
def State.forcedOut (s : State) (v : Version) (word : Nat) : Bool :=
  v.ioMap.any fun b => b.output && b.word == word && (forceOf s.forces b.signal).isSome

/-- The VALUE entry of a word (R462): an I word as an ASYNC read sees it, forced inputs with quality FORCED (R264). -/
def State.valueEntry (s : State) (tenant : Nat) (v : Version) (win : Windows) (prov : Bool) (area word : Nat) : List Byte :=
  let out (w : Word) (flags : Nat) : List Byte := be 4 w.toNat ++ be 1 flags ++ [0, 0, 0]
  if area = 0 then
    out (v.inputWord (valueIn (s.asyncInputs v)) word) (v.wordQuality (s.asyncInputs v) word).code
  else if area = 5 then out ((v.konst[word]?).getD 0) 0
  else
    let a := win.base area + 4 * word
    let w := s.image.wordAt s.clk.ring a
    let p := if prov then s.provisional tenant a w else (w, false)
    out p.1 ((if area = 1 ∧ s.forcedOut v word then 4 else 0) + if p.2 then 8 else 0)

/-- What `DATA.READ` and `DATA.READ-PROVISIONAL` answer. -/
def State.readData (s : State) (r : Req) (prov : Bool) : Answer := do
  let is ← itemsOf false r.payload
  let t := s.tenant r.tenant
  t.reaches is
  need (!prov || r.flags / 2 % 2 == 1) (0x10, errorPlain)
  match s.firstDenial r.tenant (s.privOf r.session) 0 is with
  | some d => .ok (.reply (s.deny d) 8 (denied 4).2)
  | none =>
    let entries := match t.version with
      | some v => is.flatMap fun i => (List.range i.words).flatMap fun k => s.valueEntry r.tenant v t.win prov i.area (i.index + k)
      | none => []
    ok s (be 2 (is.map (·.words)).sum ++ [0, 0] ++ entries)

/-- DATA_READ, R462. -/
def execDataRead (r : Req) (s : State) : Host.Outcome State Fault Refusal :=
  .next (s.receive ⟨0x0401, true, 1, true, .E, false⟩ .none r fun s _ => s.readData r false)

/-- DATA_READ_PROVISIONAL, R199 and R462. -/
def execDataReadProvisional (r : Req) (s : State) : Host.Outcome State Fault Refusal :=
  .next (s.receive ⟨0x0402, true, 1, true, .E, false⟩ .none r fun s _ => s.readData r true)

/-! ### Writing -/

/-- DATA_WRITE, R463. -/
def execDataWrite (r : Req) (s : State) : Host.Outcome State Fault Refusal :=
  .next (s.receive ⟨0x0403, true, 1, true, .O, false⟩ .none r fun s _ => do
    let is ← itemsOf true r.payload
    let t := s.tenant r.tenant
    match is.find? fun i => i.area != 2 with
    | some i => .error (badParam i.off)
    | none => .ok ()
    t.reaches is
    need (!(s.change.tenant == r.tenant && decide (2 ≤ s.change.state) && decide (s.change.state ≤ 4)))
      (busyMaint 4 ((s.slot.map (·.side)).getD s.front.side) s.change.tenant)
    match s.firstDenial r.tenant (s.privOf r.session) 1 is with
    | some d => .ok (.reply (s.deny d) 8 (denied 4).2)
    | none =>
      let at_ := s.tickIn 2000000
      let ws := is.flatMap fun i => i.values.zipIdx.map fun p =>
        (⟨t.win.m + 4 * (i.index + p.2), 0xFFFFFFFF, p.1, false⟩ : WriteRec)
      let s1 : State := { s with hostWrites := s.hostWrites ++ [⟨at_, r.tenant, r.session, ws⟩] }
      let s2 := s1.tellPartner (.hostWrite at_ r.tenant ws)
      ok (s2.record 463 1 sevInfo noSource r.tenant [(4, r.session), (4, r.tenant), (4, ws.length)]) (be 8 at_))

/-! ### Forces -/

/-- The direction and width of a local signal (R477): true for an output. -/
def localKind (unit ch : Nat) : Option (Bool × Nat) :=
  if unit = 0x30 ∧ ch < 32 then some (false, 0)
  else if unit = 0x31 ∧ ch < 16 then some (true, 0)
  else if unit = 0x31 ∧ ch ≤ 32 then some (false, 0)
  else if unit = 0x32 ∧ ch < 8 then some (false, 1)
  else if unit = 0x33 ∧ ch < 4 then some (true, 1)
  else none

/-- The direction and width of a signal (R258, R625): of a station's, as a map in force has it. -/
def State.signalKind (s : State) (g : Word) : Option (Bool × Nat) :=
  if sigSpace g = 0 then
    s.activeVersions.findSome? fun p => (p.1.ioMap.find? fun b => b.signal == g).map fun b => (b.output, b.width)
  else if sigSpace g = 1 ∧ sigRing g = 0 ∧ sigStation g = 0 then localKind (sigSlot g) (sigChannel g)
  else none

/-- Does a signal name a local unit that is not fitted? -/
def State.signalAbsent (s : State) (g : Word) : Bool :=
  sigSpace g == 1 && 0x30 ≤ sigSlot g && sigSlot g ≤ 0x33 && Config.unitAbsent s.ident.variant (sigSlot g)

/-- The signals that the table will hold once every request that waits has taken effect. -/
def State.forcedAfter (s : State) : List Word :=
  s.forceReqs.foldl (fun fs q => ((fs.filter fun g => !q.clears.contains g) ++ q.sets.map (·.signal)).eraseDups) (s.forces.map (·.signal))

/-- The results of the entries to set, in order (R259): 1 NO-SIGNAL, 2 TABLE-FULL, 3 WIDTH, 4 UNIT-ABSENT. -/
def State.setResults (s : State) : List Word → List (Word × Nat) → List Nat
  | _, [] => []
  | held, (g, w) :: es =>
    if s.signalAbsent g then 4 :: s.setResults held es
    else match s.signalKind g with
      | none => 1 :: s.setResults held es
      | some k =>
        if k.2 ≠ w then 3 :: s.setResults held es
        else if held.contains g then 0 :: s.setResults held es
        else if 1024 ≤ held.length then 2 :: s.setResults held es
        else 0 :: s.setResults (g :: held) es

/-- The reply of `FORCE.SET` and `FORCE.CLEAR`. -/
def forceReply (at_ : Nat) (rs : List Nat) : List Byte := be 8 at_ ++ be 2 rs.length ++ [0, 0] ++ pad4 (rs.map fun n => BitVec.ofNat 8 n)

/-- The refusal of a request with its results (R259). -/
def forceRefused (rs : List Nat) : Refused := (if rs.contains 4 then 9 else 5, forceReply 0 rs)

/-- The force table is not frozen (R263). -/
def State.forcesFree (s : State) : Except Refused Unit :=
  need (!(decide (1 ≤ s.change.state) && decide (s.change.state ≤ 4))) (busyMaint 4 ((s.slot.map (·.side)).getD s.front.side) s.change.tenant)

/-- A request accepted (R259): it waits on both modules for its effective instant. -/
def State.takeForces (s : State) (q : ForceReq) : State :=
  let s1 : State := { s with forceReqs := s.forceReqs ++ [q] }
  if s.solo then s1 else s1.send 3 (.forces q)

/-- The value of a force in its width. -/
def cutTo (width n : Nat) : Word := BitVec.ofNat 32 (if width = 0 then n % 2 else if width = 1 then n % 65536 else n)

/-- FORCE_SET, R258, R259 and R263. -/
def execForceSet (r : Req) (s : State) : Host.Outcome State Fault Refusal :=
  .next (s.receive ⟨0x0404, true, 2, false, .O, false⟩ .none r fun s _ => do
    let p := r.payload
    let n := field p 0 2
    need (p.length == 4 + 12 * n) badLength
    zeros p 2 2
    allGood (List.range n) (fun k => field p (13 + 12 * k) 3 != 0) fun k => reservedAt (13 + 12 * k)
    let es := (List.range n).map fun k => (BitVec.ofNat 32 (field p (4 + 12 * k) 4), field p (8 + 12 * k) 4, field p (12 + 12 * k) 1)
    let rs := s.setResults s.forcedAfter (es.map fun e => (e.1, e.2.2))
    need (rs.all (· == 0)) (forceRefused rs)
    s.forcesFree
    let at_ := s.tickIn 2000000
    let sets := es.map fun e =>
      (⟨e.1, cutTo e.2.2 e.2.1, e.2.2, ((s.signalKind e.1).map (·.1)).getD false, s.privOf r.session, 0⟩ : Force)
    ok (s.takeForces ⟨at_, sets, [], r.session⟩) (forceReply at_ rs))

/-- FORCE_CLEAR, R259 and R263: a signal in the table can be cleared although no map names it any more. -/
def execForceClear (r : Req) (s : State) : Host.Outcome State Fault Refusal :=
  .next (s.receive ⟨0x0405, true, 2, false, .O, false⟩ .none r fun s _ => do
    let p := r.payload
    let n := field p 0 2
    need (p.length == 4 + 4 * n) badLength
    zeros p 2 2
    let gs := (List.range n).map fun k => BitVec.ofNat 32 (field p (4 + 4 * k) 4)
    let rs := gs.map fun g =>
      if s.signalAbsent g then 4 else if (s.signalKind g).isSome || s.forcedAfter.contains g then 0 else 1
    need (rs.all (· == 0)) (forceRefused rs)
    s.forcesFree
    let at_ := s.tickIn 2000000
    ok (s.takeForces ⟨at_, [], gs, r.session⟩) (forceReply at_ rs))

/-- FORCE_CLEAR_ALL, R259 and R263. -/
def execForceClearAll (r : Req) (s : State) : Host.Outcome State Fault Refusal :=
  .next (s.receive ⟨0x0406, true, 2, false, .O, false⟩ .none r fun s _ => do
    sized r.payload 0
    s.forcesFree
    let at_ := s.tickIn 2000000
    let gs := s.forcedAfter
    ok (s.takeForces ⟨at_, [], gs, r.session⟩) (be 8 at_ ++ be 2 gs.length ++ [0, 0]))

/-- An entry as R258 lays it out. -/
def Force.bytes (f : Force) : List Byte :=
  be 4 f.signal.toNat ++ be 4 f.value.toNat ++ be 4 (f.width + (if f.output then 4 else 0) + 8 * f.setPriv) ++ be 4 f.setAt.toNat

/-- FORCE_LIST, R258 and R259; a reply holds at most the 1,021 entries of one datagram. -/
def execForceList (r : Req) (s : State) : Host.Outcome State Fault Refusal :=
  .next (s.receive ⟨0x0407, true, 1, false, .E, false⟩ .none r fun s _ => do
    let p := r.payload
    sized p 4
    let es := (s.forces.drop (field p 0 2)).take (min (field p 2 2) 1021)
    ok s (be 2 s.forces.length ++ be 2 es.length ++ es.flatMap Force.bytes))

end Sys2Proof.Machine
end

