-- ==== Sys2Proof/Machine/Debug.lean ====
section
/-! DEFINITION. Debug sessions, 16#0D08 to 16#0D0C (R230 to R234, R468). Lane 1's instructions come as the engine's commands do; what
one of them does under debug stands in Engine.lean. -/
namespace Sys2Proof.Machine

/-- The windows of a tenant as published (R231). -/
def State.tenantCopy (s : State) (tenant : Nat) : List (Nat × Byte) :=
  let t := s.tenant tenant
  match t.version with
  | none => []
  | some v => (s.image.fold s.clk.ring).base.filter fun e => inRanges (windowRanges t.win v) e.1

/-- A task of a tenant under debug does not speculate (R173, R232): what it holds unverified is squashed. -/
def Task.stopSpeculating (t : Task) : Task :=
  match t.firstSeg with
  | some k => t.modLanes fun l => { l.squash k false with segs := [] }
  | none => t.modLanes fun l => if l.spec = .speculating then { l with spec := .notSpeculating } else l

/-- A debug session opens on a tenant (R230, R231). -/
def State.openDebug (s : State) (tenant session : Nat) : State :=
  let s1 : State := { s with
    tasks := s.tasks.map fun e => if e.2.tenant = tenant then (e.1, e.2.stopSpeculating) else e
    dbg := some
      { session := session, tenant := tenant, halted := false, task := 0, start := none, step := none, leaving := false
        lane := Lane.start 0 .notSpeculating, breaks := [], copy := s.tenantCopy tenant, inputs := s.image.inputs, copied := true, refreshed := none
        closing := [] } }
  s1.takeSlot 3 tenant

/-- DEBUG_OPEN, R230: on a standby, or on a solo module in TEST-HOLD, with a key at the module. -/
def execDebugOpen (r : Req) (s : State) : Host.Outcome State Fault Refusal :=
  .next (s.receive ⟨0x0D08, true, 2, true, .SB, false⟩ .none r fun s _ => do
    sized r.payload 0
    s.slotFree
    need (s.dbg.isNone && (s.tenant r.tenant).version.isSome) wrongState
    s.needKey
    ok ((s.openDebug r.tenant r.session).useKey r.session) [])

/-- The debug session of a request (R468): another session's is busy, and there must be one on the request's tenant. -/
def State.debugOf (s : State) (r : Req) : Except Refused DebugSt :=
  match s.dbg with
  | some d =>
    if d.session = 0 then .error wrongState
    else if d.session ≠ r.session then .error (busyMaint 3 s.front.side d.tenant)
    else if d.tenant ≠ r.tenant then .error wrongState
    else .ok d
  | none => .error wrongState

/-- Has lane 1 an instruction to execute? -/
def DebugSt.inCycle (d : DebugSt) : Bool := d.start.isSome && d.lane.endAt.isNone && d.lane.raised.isNone

/-- The operations of `DEBUG.CONTROL` (R232). A single step replies when its instruction has been executed; where lane 1 has none to
execute it only halts. A run and a step leave a breakpoint that lane 1 stands at. -/
def State.debugDo (s : State) (k : Ticket) (d : DebugSt) (op task offset : Nat) : Answer :=
  let put (d : DebugSt) : Answer := ok { s with dbg := some d } d.body
  if op = 1 then put { d with halted := true }
  else if op = 2 then
    (if d.inCycle then .ok (.later { s with dbg := some { d with halted := false, leaving := true, step := some k } })
     else put { d with halted := true })
  else if op = 3 then put { d with halted := false, leaving := d.halted }
  else if op = 4 then
    (if d.breaks.contains (task, offset) then put d
     else if 16 ≤ d.breaks.length then .error wrongState
     else put { d with breaks := d.breaks ++ [(task, offset)] })
  else put { d with breaks := d.breaks.filter fun b => b != (task, offset) }

/-- `DEBUG.CONTROL`, R232 and R468; a breakpoint names a task of the tenant and an offset in its code. -/
def State.debugControl (s : State) (r : Req) : State :=
  s.receive ⟨0x0D09, true, 2, true, .SB, false⟩ .none r fun s k => do
    let p := r.payload
    sized p 8
    zeros p 1 1
    let op := field p 0 1
    let code := (((s.tenant r.tenant).version).map (·.code.length)).getD 0
    need (1 ≤ op && op ≤ 5) (badParam 0)
    need (decide (op < 4) || (s.task (field p 2 2)).map (·.tenant) == some r.tenant) (badParam 2)
    need (decide (op < 4) || decide (field p 4 4 < code)) (badParam 4)
    let d ← s.debugOf r
    s.debugDo k d op (field p 2 2) (field p 4 4)

/-- DEBUG_HALT: `DEBUG.CONTROL` with OP 1. -/
def execDebugHalt (r : Req) (s : State) : Host.Outcome State Fault Refusal := .next (s.debugControl r)

/-- DEBUG_STEP: `DEBUG.CONTROL` with OP 2. -/
def execDebugStep (r : Req) (s : State) : Host.Outcome State Fault Refusal := .next (s.debugControl r)

/-- DEBUG_RUN: `DEBUG.CONTROL` with OP 3. -/
def execDebugRun (r : Req) (s : State) : Host.Outcome State Fault Refusal := .next (s.debugControl r)

/-- DEBUG_SET_BREAK: `DEBUG.CONTROL` with OP 4. -/
def execDebugSetBreak (r : Req) (s : State) : Host.Outcome State Fault Refusal := .next (s.debugControl r)

/-- DEBUG_CLEAR_BREAK: `DEBUG.CONTROL` with OP 5. -/
def execDebugClearBreak (r : Req) (s : State) : Host.Outcome State Fault Refusal := .next (s.debugControl r)

/-- A stack of at most `n` entries as words, empty entries 0. -/
def stackWords (n size : Nat) (xs : List (List Word)) : List Word :=
  let ws := xs.flatten
  ws ++ List.replicate (n * size - ws.length) 0

/-- Lane 1's registers and stacks (R95), newest entry first: ACC, WACC, PC, the depths of the branch, loop and call stacks, 32 branch
entries (value, operator), 8 loop entries (REMAINING, INDEX, BODY, EXIT), 16 call entries (return offset, branch and loop depth). -/
def Lane.debugWords (l : Lane) : List Word :=
  let r := l.regs
  let n (k : Nat) : Word := BitVec.ofNat 32 k
  [boolWord r.acc, r.wacc, r.pc.zeroExtend 32, n (r.branch.length + 256 * r.loops.length + 65536 * r.calls.length)]
    ++ stackWords 32 1 (r.branch.map fun b => [n ((if b.value then 1 else 0) + 2 * b.op)])
    ++ stackWords 8 4 (r.loops.map fun f => [f.remaining, f.index, f.body.zeroExtend 32, f.exit.zeroExtend 32])
    ++ stackWords 16 2 (r.calls.map fun f => [f.ret.zeroExtend 32, n (f.branchDepth + 256 * f.loopDepth)])

/-- The address in the debug copy of a word of area 1 to 4; L is addressed within the whole window (R93). -/
def Tenant.copyAddr (t : Tenant) (area word : Nat) : Nat := t.win.base area + 4 * word

/-- The first denial at gate 9 among words of the debug copy (R528, R537); the copy stands in DRAM as the windows do in the process
image. -/
def State.copyDenial (s : State) (r : Req) (t : Tenant) (kind area first words : Nat) : Option Denial :=
  (List.range words).findSome? fun k =>
    s.gateCheck ⟨9, 8388608 + (t.copyAddr area (first + k) / 256) % 65536, kind, s.privOf r.session, some r.tenant⟩

/-- DEBUG_READ, R232: registers and stacks, or words of the debug copy. -/
def execDebugRead (r : Req) (s : State) : Host.Outcome State Fault Refusal :=
  .next (s.receive ⟨0x0D0A, true, 2, true, .SB, false⟩ .none r fun s _ => do
    let p := r.payload
    sized p 8
    zeros p 1 1
    let what := field p 0 1
    let words := field p 2 2
    let first := field p 4 4
    need (decide (36 + 4 * words ≤ 16384)) badLength
    need (decide (what ≤ 5)) (badParam 0)
    let t := s.tenant r.tenant
    let size := if what = 0 then 100 else t.windowBytes (what - 1) / 4
    need (decide (first + words ≤ size)) (badParam 4)
    let d ← s.debugOf r
    let give (vs : List Word) : Answer := ok s (vs.flatMap fun w => be 4 w.toNat)
    if what = 0 then give ((d.lane.debugWords.drop first).take words)
    else if what = 1 then
      give ((List.range words).map fun k => ((t.version).map fun v => v.inputWord (valueIn d.inputs) (first + k)).getD 0)
    else
      match s.copyDenial r t 0 (what - 1) first words with
      | some x => .ok (.reply (s.deny x) 8 (denied 4).2)
      | none => give ((List.range words).map fun k => Cells.readWord d.copy (t.copyAddr (what - 1) (first + k))))

/-- DEBUG_WRITE, R232: words of Q, M, T or L of the debug copy, and of nothing else; AREA is the area code of R91. -/
def execDebugWrite (r : Req) (s : State) : Host.Outcome State Fault Refusal :=
  .next (s.receive ⟨0x0D0B, true, 2, true, .SB, false⟩ .none r fun s _ => do
    let p := r.payload
    let area := field p 0 1
    let words := field p 2 2
    let first := field p 4 4
    need (decide (8 ≤ p.length) && p.length == 8 + 4 * words) badLength
    zeros p 1 1
    need (1 ≤ area && area ≤ 4) (badParam 0)
    let t := s.tenant r.tenant
    need (decide (4 * (first + words) ≤ t.windowBytes area)) (badParam 4)
    let d ← s.debugOf r
    match s.copyDenial r t 1 area first words with
    | some x => .ok (.reply (s.deny x) 8 (denied 4).2)
    | none =>
      let copy := (List.range words).foldl (fun m k =>
        Cells.writeWord m (t.copyAddr area (first + k)) (BitVec.ofNat 32 (field p (8 + 4 * k) 4))) d.copy
      ok { s with dbg := some { d with copy := copy } } [])

/-- DEBUG_CLOSE, R234. -/
def execDebugClose (r : Req) (s : State) : Host.Outcome State Fault Refusal :=
  .next (s.receive ⟨0x0D0C, true, 2, true, .SB, false⟩ .none r fun s _ => do
    sized r.payload 0
    let _ ← s.debugOf r
    ok s.endDebug [])

end Sys2Proof.Machine
end

