-- ==== Sys2Proof/Machine/Float.lean ====
section
/-! DEFINITION. The math coprocessor, 16#A0 to 16#B3 (R156 to R165): binary32 on WACC, binary64 from memory to memory,
and the control blocks. -/
namespace Sys2Proof.Machine

/-- A binary32 operation of WACC and the operand into WACC. -/
def floatWith (f : Nat → Nat → Except Stop Nat) (e : Env) (l : Lane) (o : Opnd) : Except Stop Lane := do
  let (v, m, l) ← e.readOp l o
  let r ← f l.regs.wacc.toNat v.toNat
  .ok (l.setWacc (BitVec.ofNat 32 r) (m || l.regs.waccMark))

/-- A binary32 test of WACC and the operand into ACC. -/
def floatTest (f : Nat → Nat → Except Stop Bool) (e : Env) (l : Lane) (o : Opnd) : Except Stop Lane := do
  let (v, m, l) ← e.readOp l o
  let r ← f l.regs.wacc.toNat v.toNat
  .ok (l.setAcc r (m || l.regs.waccMark))

/-- WACC converted. -/
def floatMap (f : Word → Except Stop Word) (l : Lane) : Except Stop Lane := do
  let r ← f l.regs.wacc
  .ok (l.setWacc r l.regs.waccMark)

/-- The value of an operand of one or two words, the low word first (R134). -/
def Env.readWide (e : Env) (l : Lane) (o : Opnd) : Except Stop (Nat × Bool × Lane) := do
  let (vs, m, l) ← e.readWords l o
  .ok (vs.foldr (fun v n => n * 4294967296 + v.toNat) 0, m, l)

/-- A value stored to an operand of one or two words. -/
def Env.storeWide (e : Env) (l : Lane) (o : Opnd) (v : Nat) (mark : Bool) : Except Stop Lane :=
  e.store l (e.wordWrites o.area o.word
    ((List.range o.words).map fun k => BitVec.ofNat 32 (v / 4294967296 ^ k)) mark)

/-- dst ← dst operation src, in binary64. -/
def wideWith (f : Nat → Nat → Except Stop Nat) (e : Env) (d src : Opnd) (l : Lane) : Except Stop Lane := do
  let (a, m, l) ← e.readWide l d
  let (b, n, l) ← e.readWide l src
  let r ← f a b
  e.storeWide l d r (m || n)

/-- dst ← function of src. -/
def wideMap (f : Nat → Except Stop Nat) (e : Env) (d src : Opnd) (l : Lane) : Except Stop Lane := do
  let (b, n, l) ← e.readWide l src
  let r ← f b
  e.storeWide l d r n

/-- WACC ← WACC + op. -/
def bodyFadd : Body := fun e o _ l => floatWith binary32.add e l o
/-- WACC ← WACC − op. -/
def bodyFsub : Body := fun e o _ l => floatWith binary32.sub e l o
/-- WACC ← WACC × op. -/
def bodyFmul : Body := fun e o _ l => floatWith binary32.mul e l o
/-- WACC ← WACC / op. -/
def bodyFdiv : Body := fun e o _ l => floatWith binary32.div e l o
/-- WACC ← √WACC. -/
def bodyFsqrt : Body := fun _ _ _ l => floatMap (fun a => do .ok (BitVec.ofNat 32 (← binary32.sqrt a.toNat))) l
/-- ACC ← (WACC < op). -/
def bodyFlt : Body := fun e o _ l => floatTest binary32.lt e l o
/-- ACC ← (WACC = op). -/
def bodyFeq : Body := fun e o _ l => floatTest binary32.eq e l o
/-- WACC ← signed integer WACC as binary32. -/
def bodyItof : Body := fun _ _ _ l => floatMap (fun a => do .ok (BitVec.ofNat 32 (← binary32.ofInt a.toInt))) l
/-- WACC ← binary32 WACC truncated towards zero. -/
def bodyFtoi : Body := fun _ _ _ l => floatMap (fun a => binary32.toInt a.toNat) l
/-- dst ← dst + src. -/
def bodyDadd : Body := fun e d src l => wideWith binary64.add e d src l
/-- dst ← dst − src. -/
def bodyDsub : Body := fun e d src l => wideWith binary64.sub e d src l
/-- dst ← dst × src. -/
def bodyDmul : Body := fun e d src l => wideWith binary64.mul e d src l
/-- dst ← dst / src. -/
def bodyDdiv : Body := fun e d src l => wideWith binary64.div e d src l
/-- dst ← √src. -/
def bodyDsqrt : Body := fun e d src l => wideMap binary64.sqrt e d src l
/-- ACC ← (dst < src); nothing is written. -/
def bodyDlt : Body := fun e d src l => do
  let (a, m, l) ← e.readWide l d
  let (b, n, l) ← e.readWide l src
  let r ← binary64.lt a b
  .ok (l.setAcc r (m || n))
/-- dst ← src widened. -/
def bodyFtod : Body := fun e d src l => wideMap (binary32.convert binary64) e d src l
/-- dst ← src rounded. -/
def bodyDtof : Body := fun e d src l => wideMap (binary64.convert binary32) e d src l

/-! ### Control blocks -/

/-- dt of R161 in binary64. -/
def Env.dt (e : Env) : Except Stop Nat :=
  sampleTime (if e.task.attr.taskClass = 3 then e.task.attr.minInterval else e.task.attr.cycle)

/-- A binary32 word widened to binary64. -/
def widen (w : Word) : Except Stop Nat := binary32.convert binary64 w.toNat

/-- A binary64 value rounded to a binary32 word. -/
def narrow (v : Nat) : Except Stop Word := do .ok (BitVec.ofNat 32 (← binary64.convert binary32 v))

/-- The negation of a binary64 value. -/
def negate64 (v : Nat) : Nat := (v + binary64.signBit) % (2 * binary64.signBit)

/-- Is a binary64 value below zero? −0 is not. -/
def below0 (v : Nat) : Except Stop Bool := binary64.lt v 0

/-- A value limited, and whether the limit acted. -/
def limit64 (v lo hi : Nat) : Except Stop (Nat × Bool) := do
  let b ← binary64.lt v lo
  let a ← binary64.lt hi v
  .ok (if b then (lo, true) else if a then (hi, true) else (v, false))

/-- What PID computes: OUT, X_PREV, I_STATE, D_STATE and whether OUT was limited (R163). -/
structure PidOut where
  out : Word
  xPrev : Word
  iState : Nat
  dState : Word
  limited : Bool
  deriving DecidableEq, Repr

/-- The procedure of R163 in binary64, on the 16 words of a block. With TI = 0 in automatic and the output limit acting it keeps I_STATE as the
pseudocode does, where the prose has the integrator read 0; and a word of the block that the taken branch does not use is not read, so a NaN
there faults nothing (DESIGN CHOICE on both; log 101). -/
def pidStep (dt : Nat) (vs : List Word) : Except Stop PidOut := do
  let at_ (k : Nat) : Word := (vs[k]?).getD 0
  let ctl := at_ 9
  let ti ← widen (at_ 3)
  let td ← widen (at_ 4)
  let tf ← widen (at_ 5)
  let lo ← widen (at_ 6)
  let hi ← widen (at_ 7)
  if (← below0 tf) || (← below0 ti) || (← below0 td) || (← binary64.lt hi lo) || ctl.toNat / 8 != 0 then .error fParam
  let man := ctl.getLsbD 0
  let rev := ctl.getLsbD 1
  let onPv := ctl.getLsbD 2
  let sp ← widen (at_ 0)
  let pv ← widen (at_ 1)
  let kp ← widen (at_ 2)
  let diff ← binary64.sub sp pv
  let err := if rev then negate64 diff else diff
  let x := if onPv then (if rev then pv else negate64 pv) else err
  let p ← binary64.mul kp err
  let d ← (if (← binary64.lt 0 td) then do
      let dPrev ← widen (at_ 14)
      let xPrev ← widen (at_ 11)
      let a ← binary64.mul tf dPrev
      let b ← binary64.mul (← binary64.mul kp td) (← binary64.sub x xPrev)
      binary64.div (← binary64.add a b) (← binary64.add tf dt)
    else .ok 0)
  let iState := (at_ 12).toNat + (at_ 13).toNat * 4294967296
  let (out, limited, i) ← (if man then do
      let (out, lim) ← limit64 (← widen (at_ 10)) lo hi
      .ok (out, lim, ← binary64.sub (← binary64.sub out p) d)
    else do
      let ic ← (if (← binary64.lt 0 ti) then do
          let g ← binary64.div (← binary64.mul kp dt) ti
          binary64.add iState (← binary64.mul g err)
        else .ok 0)
      let u ← binary64.add (← binary64.add p ic) d
      let up ← (if (← binary64.lt hi u) then binary64.lt iState ic else .ok false)
      let down ← (if (← binary64.lt u lo) then binary64.lt ic iState else .ok false)
      let ic := if up || down then iState else ic
      let (out, lim) ← limit64 (← binary64.add (← binary64.add p ic) d) lo hi
      .ok (out, lim, ic))
  .ok ⟨← narrow out, ← narrow x, i, ← narrow d, limited⟩

/-- PID: OUT, X_PREV, I_STATE and D_STATE are written; WACC ← OUT; ACC ← limited (R163). -/
def bodyPid : Body := fun e o _ l => do
  let (vs, m, l) ← e.readWords l o
  let r ← pidStep (← e.dt) vs
  let l ← e.store l
    (e.wordWrites o.area (o.word + 8) [r.out] m
      ++ e.wordWrites o.area (o.word + 11)
          [r.xPrev, BitVec.ofNat 32 r.iState, BitVec.ofNat 32 (r.iState / 4294967296), r.dState] m)
  .ok ((l.setAcc r.limited m).setWacc r.out m)

/-- OUT ← OUT + (IN − OUT) × dt / (TAU + dt) (R165). -/
def lagStep (dt : Nat) (vs : List Word) : Except Stop Word := do
  let inp ← widen ((vs[0]?).getD 0)
  let tau ← widen ((vs[1]?).getD 0)
  let out ← widen ((vs[2]?).getD 0)
  if ← below0 tau then .error fParam
  let d ← binary64.sub inp out
  let q ← binary64.div (← binary64.mul d dt) (← binary64.add tau dt)
  narrow (← binary64.add out q)

/-- LAG; ACC unchanged. -/
def bodyLag : Body := fun e o _ l => do
  let (vs, m, l) ← e.readWords l o
  let r ← lagStep (← e.dt) vs
  let l ← e.store l (e.wordWrites o.area (o.word + 2) [r] m)
  .ok (l.setWacc r m)

/-- OUT ← OUT + limit(IN − OUT, −FALL × dt, RISE × dt), and whether the limit acted (R165). -/
def rlimStep (dt : Nat) (vs : List Word) : Except Stop (Word × Bool) := do
  let inp ← widen ((vs[0]?).getD 0)
  let rise ← widen ((vs[1]?).getD 0)
  let fall ← widen ((vs[2]?).getD 0)
  let out ← widen ((vs[3]?).getD 0)
  if (← below0 rise) || (← below0 fall) then .error fParam
  let d ← binary64.sub inp out
  let lo := negate64 (← binary64.mul fall dt)
  let hi ← binary64.mul rise dt
  let (d, lim) ← limit64 d lo hi
  .ok (← narrow (← binary64.add out d), lim)

/-- RLIM. -/
def bodyRlim : Body := fun e o _ l => do
  let (vs, m, l) ← e.readWords l o
  let (r, lim) ← rlimStep (← e.dt) vs
  let l ← e.store l (e.wordWrites o.area (o.word + 3) [r] m)
  .ok ((l.setAcc lim m).setWacc r m)

/-- FADD, R159. -/
def execOpFadd (x : Exec) (w : BitVec 24) (s : State) : Host.Outcome State Fault Refusal :=
  .next (runEngine 0xA0 bodyFadd x w 0 s)

/-- FSUB, R159. -/
def execOpFsub (x : Exec) (w : BitVec 24) (s : State) : Host.Outcome State Fault Refusal :=
  .next (runEngine 0xA1 bodyFsub x w 0 s)

/-- FMUL, R159. -/
def execOpFmul (x : Exec) (w : BitVec 24) (s : State) : Host.Outcome State Fault Refusal :=
  .next (runEngine 0xA2 bodyFmul x w 0 s)

/-- FDIV, R159. -/
def execOpFdiv (x : Exec) (w : BitVec 24) (s : State) : Host.Outcome State Fault Refusal :=
  .next (runEngine 0xA3 bodyFdiv x w 0 s)

/-- FSQRT, R159. -/
def execOpFsqrt (x : Exec) (w : BitVec 24) (s : State) : Host.Outcome State Fault Refusal :=
  .next (runEngine 0xA4 bodyFsqrt x w 0 s)

/-- FLT, R159. -/
def execOpFlt (x : Exec) (w : BitVec 24) (s : State) : Host.Outcome State Fault Refusal :=
  .next (runEngine 0xA5 bodyFlt x w 0 s)

/-- FEQ, R159. -/
def execOpFeq (x : Exec) (w : BitVec 24) (s : State) : Host.Outcome State Fault Refusal :=
  .next (runEngine 0xA6 bodyFeq x w 0 s)

/-- ITOF, R159. -/
def execOpItof (x : Exec) (w : BitVec 24) (s : State) : Host.Outcome State Fault Refusal :=
  .next (runEngine 0xA7 bodyItof x w 0 s)

/-- FTOI, R159. -/
def execOpFtoi (x : Exec) (w : BitVec 24) (s : State) : Host.Outcome State Fault Refusal :=
  .next (runEngine 0xA8 bodyFtoi x w 0 s)

/-- DADD, R159. -/
def execOpDadd (x : Exec) (w : BitVec 24) (e : Word) (s : State) : Host.Outcome State Fault Refusal :=
  .next (runEngine 0xA9 bodyDadd x w e s)

/-- DSUB, R159. -/
def execOpDsub (x : Exec) (w : BitVec 24) (e : Word) (s : State) : Host.Outcome State Fault Refusal :=
  .next (runEngine 0xAA bodyDsub x w e s)

/-- DMUL, R159. -/
def execOpDmul (x : Exec) (w : BitVec 24) (e : Word) (s : State) : Host.Outcome State Fault Refusal :=
  .next (runEngine 0xAB bodyDmul x w e s)

/-- DDIV, R159. -/
def execOpDdiv (x : Exec) (w : BitVec 24) (e : Word) (s : State) : Host.Outcome State Fault Refusal :=
  .next (runEngine 0xAC bodyDdiv x w e s)

/-- DSQRT, R159. -/
def execOpDsqrt (x : Exec) (w : BitVec 24) (e : Word) (s : State) : Host.Outcome State Fault Refusal :=
  .next (runEngine 0xAD bodyDsqrt x w e s)

/-- DLT, R159. -/
def execOpDlt (x : Exec) (w : BitVec 24) (e : Word) (s : State) : Host.Outcome State Fault Refusal :=
  .next (runEngine 0xAE bodyDlt x w e s)

/-- FTOD, R159. -/
def execOpFtod (x : Exec) (w : BitVec 24) (e : Word) (s : State) : Host.Outcome State Fault Refusal :=
  .next (runEngine 0xAF bodyFtod x w e s)

/-- DTOF, R159. -/
def execOpDtof (x : Exec) (w : BitVec 24) (e : Word) (s : State) : Host.Outcome State Fault Refusal :=
  .next (runEngine 0xB0 bodyDtof x w e s)

/-- PID, R163. -/
def execOpPid (x : Exec) (w : BitVec 24) (s : State) : Host.Outcome State Fault Refusal :=
  .next (runEngine 0xB1 bodyPid x w 0 s)

/-- LAG, R165. -/
def execOpLag (x : Exec) (w : BitVec 24) (s : State) : Host.Outcome State Fault Refusal :=
  .next (runEngine 0xB2 bodyLag x w 0 s)

/-- RLIM, R165. -/
def execOpRlim (x : Exec) (w : BitVec 24) (s : State) : Host.Outcome State Fault Refusal :=
  .next (runEngine 0xB3 bodyRlim x w 0 s)

end Sys2Proof.Machine
end

