-- ==== Sys2Proof/Machine/Lanes.lean ====
section
/-! DEFINITION. What acts on both lanes and at transit: watchdog service and event posts (R122 to R124), AGREE and the
immediates (R125 to R130, R216 to R218), and the restore of a squashed segment's record (R195). -/
namespace Sys2Proof.Machine

/-- A service recorded (R123). -/
def bodyWdserv : Body := fun _ _ _ l => .ok (l.hold .wdserv)
/-- A post recorded (R124). -/
def bodyEvpost : Body := fun _ _ _ l => .ok (l.hold .evpost)

/-- Lane 0 keeps its registers at AGREE (R127). -/
def bodyAgree : Body := fun _ _ _ l => .ok l
/-- Lane 1 takes lane 0's values, SEL 1 ACC, 2 WACC, 3 both; no mark is cleared (R127, R218). -/
def bodyAgreeTake (w : BitVec 24) (l0 : Lane) : Body := fun _ _ _ l =>
  let sel := fld w 0 2
  let l := if sel % 2 = 1 then l.setAcc l0.regs.acc (l.regs.accMark || l0.regs.accMark) else l
  .ok (if sel / 2 = 1 then l.setWacc l0.regs.wacc (l.regs.waccMark || l0.regs.waccMark) else l)

/-- The log of native immediate reads, at most 64 (R207). -/
def Lane.logImm (l : Lane) (v : Word) : Lane :=
  if 64 ≤ l.immLog.length then { l with immOver := true } else { l with immLog := l.immLog ++ [v] }

/-- A live read of a bit into ACC, which it marks (R126, R218). -/
def bodyImmin : Body := fun e o _ l =>
  let b := (e.live o.word).getLsbD (o.index % 32)
  let l := l.setAcc b true
  .ok (if e.ver.agreedImm = 1 then l else l.logImm (boolWord b))
/-- Lane 1 takes the bit that lane 0 read (R217). -/
def bodyImminTake (l0 : Lane) : Body := fun _ _ _ l => .ok (l.setAcc l0.regs.acc true)
/-- A live read of a word into WACC, which it marks. -/
def bodyImminw : Body := fun e o _ l =>
  let v := e.live o.word
  let l := l.setWacc v true
  .ok (if e.ver.agreedImm = 1 then l else l.logImm v)
/-- Lane 1 takes the word that lane 0 read. -/
def bodyImminwTake (l0 : Lane) : Body := fun _ _ _ l => .ok (l.setWacc l0.regs.wacc true)

/-- An immediate release queued; beyond the 32nd of the cycle the store stands alone (R130). Under debug nothing is
released (R232). -/
def Lane.queueImm (l : Lane) (e : Env) (word : Nat) (mask value : Word) (marked : Bool) : Lane :=
  if e.dbg.isSome then l
  else if l.imms.length < 32 then
    { l with imms := l.imms ++ [⟨word, mask, value &&& mask, marked || l.regs.pathMark⟩] }
  else { l with flags := l.flags ||| 4, immExcess := l.immExcess + 1 }

/-- The barrier of R128. -/
def barrier (e : Env) : Except Stop Unit :=
  if e.agreed || e.dbg.isSome then .ok () else .error (.wait .waitBarrier)

/-- op ← ACC, and the value is queued for release (R129). -/
def bodyImmout : Body := fun e o _ l => do
  barrier e
  let v : Word := if l.regs.acc then 0xFFFFFFFF else 0
  let l ← e.storeBit l o l.regs.acc l.regs.accMark
  .ok (l.queueImm e o.word (1#32 <<< (o.index % 32)) v l.regs.accMark)
/-- op ← WACC, and the value is queued for release. -/
def bodyImmoutw : Body := fun e o _ l => do
  barrier e
  let l ← e.storeWord l o l.regs.wacc l.regs.waccMark
  .ok (l.queueImm e o.word 0xFFFFFFFF l.regs.wacc l.regs.waccMark)

/-- Does the task's tenant run in agreed-immediates mode (R217)? -/
def agreedMode (s : State) (n : Nat) : Bool :=
  match s.task n with
  | some t => (s.versionOf t).agreedImm == 1
  | none => false

/-- WDSERV, R123. -/
def execOpWdserv (x : Exec) (w : BitVec 24) (s : State) : Host.Outcome State Fault Refusal :=
  .next (runEngine 0xD7 bodyWdserv x w 0 s)

/-- EVPOST, R124. -/
def execOpEvpost (x : Exec) (w : BitVec 24) (s : State) : Host.Outcome State Fault Refusal :=
  .next (runEngine 0xDD bodyEvpost x w 0 s)

/-- IMMOUT, R129. -/
def execOpImmout (x : Exec) (w : BitVec 24) (s : State) : Host.Outcome State Fault Refusal :=
  .next (runEngine 0xDB bodyImmout x w 0 s)

/-- IMMOUTW, R129. -/
def execOpImmoutw (x : Exec) (w : BitVec 24) (s : State) : Host.Outcome State Fault Refusal :=
  .next (runEngine 0xDC bodyImmoutw x w 0 s)

/-- AGREE, R127. -/
def execOpAgree (x : Exec) (w : BitVec 24) (s : State) : Host.Outcome State Fault Refusal :=
  .next (runTogether 0xD8 bodyAgree (bodyAgreeTake w) x w s)

/-- IMMIN, R126. -/
def execOpImmin (x : Exec) (w : BitVec 24) (s : State) : Host.Outcome State Fault Refusal :=
  .next (if agreedMode s x.task then runTogether 0xD9 bodyImmin bodyImminTake x w s else runEngine 0xD9 bodyImmin x w 0 s)

/-- IMMINW, R126. -/
def execOpImminw (x : Exec) (w : BitVec 24) (s : State) : Host.Outcome State Fault Refusal :=
  .next (if agreedMode s x.task then runTogether 0xDA bodyImminw bodyImminwTake x w s
         else runEngine 0xDA bodyImminw x w 0 s)

/-- SQUASHED_COPROC_COMPLETE, R195. -/
def execSquashedCoprocComplete (x : Exec) (s : State) : Host.Outcome State Fault Refusal :=
  .next (s.modTask x.task (·.modLane x.lane (·.coprocEnded)))

end Sys2Proof.Machine
end

