-- ==== Sys2Proof/Machine/TestPort.lean ====
section
/-! DEFINITION. The test access port: its instructions, the SCANGUARD and identification registers, IOLOOP and what a driving instruction
does to the module (R617 to R622). What the cells of IEEE 1149.1 and 1149.6 capture is an operand of the instruction. -/
namespace Sys2Proof.Machine

/-- The identification register, R619. -/
def State.idRegister (s : State) : BitVec 32 :=
  BitVec.ofNat 32 (s.ident.dieRevision % 16 * 268435456 + Config.typeCode s.ident.variant * 4096 + s.ident.jep106 % 2048 * 2 + 1)

/-- The SCANGUARD register, R620. -/
def State.scanguard (s : State) : BitVec 8 :=
  let bit (n : Nat) (b : Bool) : Nat := if b then 2 ^ n else 0
  BitVec.ofNat 8 (bit 0 s.tap.extestDenied + bit 1 s.tap.driveDenied + bit 2 s.tap.ioloopDenied + bit 3 (s.mode == .testHold)
    + bit 4 s.tap.driveTaken)

/-- An instruction in the instruction register, and the one it acts as. IOLOOP drives the outputs while it is in effect. -/
def State.tapSelect (s : State) (code acts : Nat) : State := (s.modTap fun t => { t with ir := code, selected := acts }).settleDo

/-- The first instruction that drives a contact in TEST-HOLD (R622): every task stops, the local outputs are released, nothing more is
transmitted on any port, and the event is recorded. -/
def State.driveTake (s : State) : State :=
  if s.tap.driveTaken then s
  else
    let s1 := s.tenants.foldl (fun (s : State) e => s.stopTasks e.1 65535) s
    ((s1.silencePorts.modTap fun t => { t with driveTaken := true, taken := true }).releaseLocal).record 622 1 sevWarning noSource
      noSource [(4, s.tap.ir)]

/-- A test instruction that drives from the boundary register or the bypass register: in TEST-HOLD it takes effect, and elsewhere it
acts as SAMPLE or BYPASS and sets its flag (R619). -/
def State.drive (s : State) (code otherwise_ : Nat) (cells : List Bool) (deny : Tap → Tap) : State :=
  if s.mode = .testHold then ((s.modTap fun t => { t with boundary := if cells.isEmpty then t.boundary else cells }).tapSelect code code).driveTake
  else (s.modTap fun t => { deny t with boundary := if cells.isEmpty then t.boundary else cells }).tapSelect code otherwise_

/-- The port acts while the module is powered. -/
def State.tapOn (s : State) (t : State) : State := if s.front.powered then t else s

/-- TAP_RESET, R619 and R620: Test-Logic-Reset selects IDCODE and clears the flags. What R622 has done lasts until a restart. -/
def execTapReset (s : State) : Host.Outcome State Fault Refusal :=
  .next (s.tapOn ((s.modTap fun t =>
    { t with
      ioloop := 0, extestDenied := false, driveDenied := false, ioloopDenied := false, driveTaken := false }).tapSelect 3 3))

/-- EXTEST, R619 and R622. -/
def execExtest (cells : List Bool) (s : State) : Host.Outcome State Fault Refusal :=
  .next (s.tapOn (s.drive 0 1 cells fun t => { t with extestDenied := true }))

/-- SAMPLE, R619: no contact is disturbed. -/
def execSample (cells : List Bool) (s : State) : Host.Outcome State Fault Refusal :=
  .next (s.tapOn ((s.modTap fun t => { t with boundary := cells }).tapSelect 1 1))

/-- PRELOAD, R619: the values that a driving instruction will give the contacts. -/
def execPreload (cells : List Bool) (s : State) : Host.Outcome State Fault Refusal :=
  .next (s.tapOn ((s.modTap fun t => { t with preload := cells }).tapSelect 2 2))

/-- IDCODE, R619. -/
def execIdcode (s : State) : Host.Outcome State Fault Refusal := .next (s.tapOn (s.tapSelect 3 3))

/-- CLAMP, R619 and R622. -/
def execClamp (s : State) : Host.Outcome State Fault Refusal :=
  .next (s.tapOn (s.drive 4 0xFF [] fun t => { t with driveDenied := true }))

/-- HIGHZ, R619 and R622. -/
def execHighz (s : State) : Host.Outcome State Fault Refusal :=
  .next (s.tapOn (s.drive 5 0xFF [] fun t => { t with driveDenied := true }))

/-- EXTEST_PULSE, R619 and R622. -/
def execExtestPulse (cells : List Bool) (s : State) : Host.Outcome State Fault Refusal :=
  .next (s.tapOn (s.drive 6 1 cells fun t => { t with extestDenied := true }))

/-- EXTEST_TRAIN, R619 and R622. -/
def execExtestTrain (cells : List Bool) (s : State) : Host.Outcome State Fault Refusal :=
  .next (s.tapOn (s.drive 7 1 cells fun t => { t with extestDenied := true }))

/-- IOLOOP, R619, R621 and R622; on the NK-920 it always acts as BYPASS. -/
def execIoloop (s : State) : Host.Outcome State Fault Refusal :=
  .next (s.tapOn (
    if s.mode = .testHold ∧ s.ident.variant ≠ .nk920 then ((s.modTap fun t => { t with ir := 0x20, selected := 0x20 }).driveTake).settleDo
    else (s.modTap fun t => { t with ioloopDenied := true }).tapSelect 0x20 0xFF))

/-- SCANGUARD, R619. -/
def execScanguard (s : State) : Host.Outcome State Fault Refusal := .next (s.tapOn (s.tapSelect 0x21 0x21))

/-- BYPASS, R619. -/
def execBypass (s : State) : Host.Outcome State Fault Refusal := .next (s.tapOn (s.tapSelect 0xFF 0xFF))

/-- UPDATE_DR, R621: under IOLOOP, DO k is switched by bit k; the captured fields are not written. -/
def execUpdateDr (v : BitVec 49) (s : State) : Host.Outcome State Fault Refusal :=
  .next (
    if s.front.powered ∧ s.tap.selected = 0x20 then
      (s.modTap fun t => { t with ioloop := (t.ioloop &&& ~~~ 0xFFFF#49) ||| (v &&& 0xFFFF#49) }).settleDo
    else s)

/-- CAPTURE_DR, R621: under IOLOOP, the readback of each DO, the state of each DI before its filter, and LPLUS_OK; what was captured
is shifted out, and DO k stays as Update-DR left it. -/
def execCaptureDr (readback : BitVec 16) (di : BitVec 32) (lplus : Bool) (s : State) : Host.Outcome State Fault Refusal :=
  .next (
    if s.front.powered ∧ s.tap.selected = 0x20 then s.modTap fun t => { t with captured := (BitVec.ofBool lplus) ++ di ++ readback }
    else s)

end Sys2Proof.Machine
end

