-- ==== Sys2Proof/Machine/Words.lean ====
section
/-! DEFINITION. Words and integer arithmetic, 16#40 to 16#63 (R137 to R141). -/
namespace Sys2Proof.Machine

/-- WACC becomes a function of WACC and the word operand, which can fault. -/
def waccWith (f : Word → Word → Except Stop Word) (keepsMark : Bool) (e : Env) (l : Lane) (o : Opnd) :
    Except Stop Lane := do
  let (v, m, l) ← e.readOp l o
  let r ← f l.regs.wacc v
  .ok (l.setWacc r (m || (keepsMark && l.regs.waccMark)))

/-- ACC becomes a test of WACC and the word operand. -/
def compareWith (f : Word → Word → Bool) (e : Env) (l : Lane) (o : Opnd) : Except Stop Lane := do
  let (v, m, l) ← e.readOp l o
  .ok (l.setAcc (f l.regs.wacc v) (m || l.regs.waccMark))

/-- WACC becomes a function of itself. -/
def waccMap (f : Word → Except Stop Word) (l : Lane) : Except Stop Lane := do
  let r ← f l.regs.wacc
  .ok (l.setWacc r l.regs.waccMark)

/-- IMM of format C, sign-extended (R139). -/
def immOf (w : BitVec 24) : Word := (w.extractLsb' 0 16).signExtend 32

/-- WACC ← op. -/
def bodyLdw : Body := fun e o _ l => waccWith (fun _ v => .ok v) false e l o
/-- op ← WACC. -/
def bodyStw : Body := fun e o _ l => e.storeWord l o l.regs.wacc l.regs.waccMark
/-- WACC ← IMM sign-extended. -/
def bodyLdk (w : BitVec 24) : Body := fun _ _ _ l => .ok (l.setWacc (immOf w) false)
/-- WACC[31:16] ← IMM. -/
def bodyLdkh (w : BitVec 24) : Body := fun _ _ _ l =>
  .ok (l.setWacc ((w.extractLsb' 0 16) ++ (l.regs.wacc.extractLsb' 0 16)) l.regs.waccMark)
/-- WACC ← WACC + op, checked. -/
def bodyAdd : Body := fun e o _ l => waccWith (fun a v => checked (a.toInt + v.toInt)) true e l o
/-- WACC ← WACC − op, checked. -/
def bodySub : Body := fun e o _ l => waccWith (fun a v => checked (a.toInt - v.toInt)) true e l o
/-- WACC ← WACC × op, checked. -/
def bodyMul : Body := fun e o _ l => waccWith (fun a v => checked (a.toInt * v.toInt)) true e l o
/-- WACC ← WACC DIV op (R138). -/
def bodyDiv : Body := fun e o _ l => waccWith (fun a v => divChecked a.toInt v.toInt) true e l o
/-- WACC ← WACC MOD op (R138). -/
def bodyMod : Body := fun e o _ l => waccWith (fun a v => modChecked a.toInt v.toInt) true e l o
/-- WACC ← (WACC + op) mod 2^32. -/
def bodyAddu : Body := fun e o _ l => waccWith (fun a v => .ok (a + v)) true e l o
/-- WACC ← (WACC − op) mod 2^32. -/
def bodySubu : Body := fun e o _ l => waccWith (fun a v => .ok (a - v)) true e l o
/-- WACC ← −WACC, checked. -/
def bodyNeg : Body := fun _ _ _ l => waccMap (fun a => checked (-a.toInt)) l
/-- WACC ← |WACC|, checked. -/
def bodyAbs : Body := fun _ _ _ l => waccMap (fun a => checked a.toInt.natAbs) l
/-- WACC ← WACC AND op. -/
def bodyAndw : Body := fun e o _ l => waccWith (fun a v => .ok (a &&& v)) true e l o
/-- WACC ← WACC OR op. -/
def bodyOrw : Body := fun e o _ l => waccWith (fun a v => .ok (a ||| v)) true e l o
/-- WACC ← WACC XOR op. -/
def bodyXorw : Body := fun e o _ l => waccWith (fun a v => .ok (a ^^^ v)) true e l o
/-- WACC ← NOT WACC. -/
def bodyNotw : Body := fun _ _ _ l => waccMap (fun a => .ok (~~~a)) l
/-- WACC shifted left by BIT_INDEX. -/
def bodyShlw (w : BitVec 24) : Body := fun _ _ _ l => waccMap (fun a => .ok (a <<< fld w 0 5)) l
/-- WACC shifted right by BIT_INDEX, zeros in. -/
def bodyShrw (w : BitVec 24) : Body := fun _ _ _ l => waccMap (fun a => .ok (a >>> fld w 0 5)) l
/-- WACC shifted right by BIT_INDEX, bit 31 repeated. -/
def bodySarw (w : BitVec 24) : Body := fun _ _ _ l => waccMap (fun a => .ok (a.sshiftRight (fld w 0 5))) l
/-- WACC rotated left by BIT_INDEX. -/
def bodyRolw (w : BitVec 24) : Body := fun _ _ _ l => waccMap (fun a => .ok (rotl a (fld w 0 5))) l
/-- ACC ← (WACC = op). -/
def bodyEq : Body := fun e o _ l => compareWith (fun a v => a == v) e l o
/-- ACC ← (WACC ≠ op). -/
def bodyNe : Body := fun e o _ l => compareWith (fun a v => a != v) e l o
/-- ACC ← (WACC < op), signed. -/
def bodyLt : Body := fun e o _ l => compareWith (fun a v => a.slt v) e l o
/-- ACC ← (WACC ≤ op), signed. -/
def bodyLe : Body := fun e o _ l => compareWith (fun a v => a.sle v) e l o
/-- ACC ← (WACC > op), signed. -/
def bodyGt : Body := fun e o _ l => compareWith (fun a v => v.slt a) e l o
/-- ACC ← (WACC ≥ op), signed. -/
def bodyGe : Body := fun e o _ l => compareWith (fun a v => v.sle a) e l o
/-- ACC ← (WACC < op), unsigned. -/
def bodyLtu : Body := fun e o _ l => compareWith (fun a v => a.ult v) e l o
/-- ACC ← (WACC ≥ op), unsigned. -/
def bodyGeu : Body := fun e o _ l => compareWith (fun a v => v.ule a) e l o
/-- WACC ← the smaller of WACC and op, signed. -/
def bodyMinw : Body := fun e o _ l => waccWith (fun a v => .ok (if v.slt a then v else a)) true e l o
/-- WACC ← the larger of WACC and op, signed. -/
def bodyMaxw : Body := fun e o _ l => waccWith (fun a v => .ok (if a.slt v then v else a)) true e l o
/-- WACC limited to [op, op+1], signed; op where op > op+1. -/
def bodyLimw : Body := fun e o _ l => do
  let (vs, m, l) ← e.readWords l o
  let lo := (vs[0]?).getD 0
  let hi := (vs[1]?).getD 0
  let a := l.regs.wacc
  let r := if hi.slt lo then lo else if a.slt lo then lo else if hi.slt a then hi else a
  .ok (l.setWacc r (m || l.regs.waccMark))
/-- WACC ← WACC + IMM sign-extended, checked. -/
def bodyAddk (w : BitVec 24) : Body := fun _ _ _ l => waccMap (fun a => checked (a.toInt + (immOf w).toInt)) l
/-- If ACC = 1: WACC ← op. -/
def bodySelw : Body := fun e o _ l =>
  if l.regs.acc then do
    let (v, m, l) ← e.readOp l o
    .ok (l.setWacc v (m || l.regs.accMark))
  else .ok (l.setWacc l.regs.wacc (l.regs.waccMark || l.regs.accMark))
/-- dst ← src, one word. -/
def bodyMovw : Body := fun e d src l => do
  let (v, m, l) ← e.readOp l src
  e.storeWord l d v m
/-- WACC ← the quality code of the word's signals, the worse where there are two (R140). -/
def bodyLdqw : Body := fun e o _ l => do
  let (_, l) ← e.readI l o.word true
  .ok (l.setWacc (BitVec.ofNat 32 (e.ver.wordQuality e.qualities o.word).code) false)

/-- LDW, R139. -/
def execOpLdw (x : Exec) (w : BitVec 24) (s : State) : Host.Outcome State Fault Refusal :=
  .next (runEngine 0x40 bodyLdw x w 0 s)

/-- STW, R139. -/
def execOpStw (x : Exec) (w : BitVec 24) (s : State) : Host.Outcome State Fault Refusal :=
  .next (runEngine 0x41 bodyStw x w 0 s)

/-- LDK, R139. -/
def execOpLdk (x : Exec) (w : BitVec 24) (s : State) : Host.Outcome State Fault Refusal :=
  .next (runEngine 0x42 (bodyLdk w) x w 0 s)

/-- LDKH, R139. -/
def execOpLdkh (x : Exec) (w : BitVec 24) (s : State) : Host.Outcome State Fault Refusal :=
  .next (runEngine 0x43 (bodyLdkh w) x w 0 s)

/-- ADD, R139. -/
def execOpAdd (x : Exec) (w : BitVec 24) (s : State) : Host.Outcome State Fault Refusal :=
  .next (runEngine 0x44 bodyAdd x w 0 s)

/-- SUB, R139. -/
def execOpSub (x : Exec) (w : BitVec 24) (s : State) : Host.Outcome State Fault Refusal :=
  .next (runEngine 0x45 bodySub x w 0 s)

/-- MUL, R139. -/
def execOpMul (x : Exec) (w : BitVec 24) (s : State) : Host.Outcome State Fault Refusal :=
  .next (runEngine 0x46 bodyMul x w 0 s)

/-- DIV, R138. -/
def execOpDiv (x : Exec) (w : BitVec 24) (s : State) : Host.Outcome State Fault Refusal :=
  .next (runEngine 0x47 bodyDiv x w 0 s)

/-- MOD, R138. -/
def execOpMod (x : Exec) (w : BitVec 24) (s : State) : Host.Outcome State Fault Refusal :=
  .next (runEngine 0x48 bodyMod x w 0 s)

/-- ADDU, R139. -/
def execOpAddu (x : Exec) (w : BitVec 24) (s : State) : Host.Outcome State Fault Refusal :=
  .next (runEngine 0x49 bodyAddu x w 0 s)

/-- SUBU, R139. -/
def execOpSubu (x : Exec) (w : BitVec 24) (s : State) : Host.Outcome State Fault Refusal :=
  .next (runEngine 0x4A bodySubu x w 0 s)

/-- NEG, R139. -/
def execOpNeg (x : Exec) (w : BitVec 24) (s : State) : Host.Outcome State Fault Refusal :=
  .next (runEngine 0x4B bodyNeg x w 0 s)

/-- ABS, R139. -/
def execOpAbs (x : Exec) (w : BitVec 24) (s : State) : Host.Outcome State Fault Refusal :=
  .next (runEngine 0x4C bodyAbs x w 0 s)

/-- ANDW, R139. -/
def execOpAndw (x : Exec) (w : BitVec 24) (s : State) : Host.Outcome State Fault Refusal :=
  .next (runEngine 0x4D bodyAndw x w 0 s)

/-- ORW, R139. -/
def execOpOrw (x : Exec) (w : BitVec 24) (s : State) : Host.Outcome State Fault Refusal :=
  .next (runEngine 0x4E bodyOrw x w 0 s)

/-- XORW, R139. -/
def execOpXorw (x : Exec) (w : BitVec 24) (s : State) : Host.Outcome State Fault Refusal :=
  .next (runEngine 0x4F bodyXorw x w 0 s)

/-- NOTW, R139. -/
def execOpNotw (x : Exec) (w : BitVec 24) (s : State) : Host.Outcome State Fault Refusal :=
  .next (runEngine 0x50 bodyNotw x w 0 s)

/-- SHLW, R139. -/
def execOpShlw (x : Exec) (w : BitVec 24) (s : State) : Host.Outcome State Fault Refusal :=
  .next (runEngine 0x51 (bodyShlw w) x w 0 s)

/-- SHRW, R139. -/
def execOpShrw (x : Exec) (w : BitVec 24) (s : State) : Host.Outcome State Fault Refusal :=
  .next (runEngine 0x52 (bodyShrw w) x w 0 s)

/-- SARW, R139. -/
def execOpSarw (x : Exec) (w : BitVec 24) (s : State) : Host.Outcome State Fault Refusal :=
  .next (runEngine 0x53 (bodySarw w) x w 0 s)

/-- ROLW, R139. -/
def execOpRolw (x : Exec) (w : BitVec 24) (s : State) : Host.Outcome State Fault Refusal :=
  .next (runEngine 0x54 (bodyRolw w) x w 0 s)

/-- EQ, R139. -/
def execOpEq (x : Exec) (w : BitVec 24) (s : State) : Host.Outcome State Fault Refusal :=
  .next (runEngine 0x55 bodyEq x w 0 s)

/-- NE, R139. -/
def execOpNe (x : Exec) (w : BitVec 24) (s : State) : Host.Outcome State Fault Refusal :=
  .next (runEngine 0x56 bodyNe x w 0 s)

/-- LT, R139. -/
def execOpLt (x : Exec) (w : BitVec 24) (s : State) : Host.Outcome State Fault Refusal :=
  .next (runEngine 0x57 bodyLt x w 0 s)

/-- LE, R139. -/
def execOpLe (x : Exec) (w : BitVec 24) (s : State) : Host.Outcome State Fault Refusal :=
  .next (runEngine 0x58 bodyLe x w 0 s)

/-- GT, R139. -/
def execOpGt (x : Exec) (w : BitVec 24) (s : State) : Host.Outcome State Fault Refusal :=
  .next (runEngine 0x59 bodyGt x w 0 s)

/-- GE, R139. -/
def execOpGe (x : Exec) (w : BitVec 24) (s : State) : Host.Outcome State Fault Refusal :=
  .next (runEngine 0x5A bodyGe x w 0 s)

/-- LTU, R139. -/
def execOpLtu (x : Exec) (w : BitVec 24) (s : State) : Host.Outcome State Fault Refusal :=
  .next (runEngine 0x5B bodyLtu x w 0 s)

/-- GEU, R139. -/
def execOpGeu (x : Exec) (w : BitVec 24) (s : State) : Host.Outcome State Fault Refusal :=
  .next (runEngine 0x5C bodyGeu x w 0 s)

/-- MINW, R139. -/
def execOpMinw (x : Exec) (w : BitVec 24) (s : State) : Host.Outcome State Fault Refusal :=
  .next (runEngine 0x5D bodyMinw x w 0 s)

/-- MAXW, R139. -/
def execOpMaxw (x : Exec) (w : BitVec 24) (s : State) : Host.Outcome State Fault Refusal :=
  .next (runEngine 0x5E bodyMaxw x w 0 s)

/-- LIMW, R139. -/
def execOpLimw (x : Exec) (w : BitVec 24) (s : State) : Host.Outcome State Fault Refusal :=
  .next (runEngine 0x5F bodyLimw x w 0 s)

/-- ADDK, R139. -/
def execOpAddk (x : Exec) (w : BitVec 24) (s : State) : Host.Outcome State Fault Refusal :=
  .next (runEngine 0x60 (bodyAddk w) x w 0 s)

/-- SELW, R139. -/
def execOpSelw (x : Exec) (w : BitVec 24) (s : State) : Host.Outcome State Fault Refusal :=
  .next (runEngine 0x61 bodySelw x w 0 s)

/-- MOVW, R139. -/
def execOpMovw (x : Exec) (w : BitVec 24) (e : Word) (s : State) : Host.Outcome State Fault Refusal :=
  .next (runEngine 0x62 bodyMovw x w e s)

/-- LDQW, R140. -/
def execOpLdqw (x : Exec) (w : BitVec 24) (s : State) : Host.Outcome State Fault Refusal :=
  .next (runEngine 0x63 bodyLdqw x w 0 s)

end Sys2Proof.Machine
end

