-- ==== Sys2Proof/Machine/Dispatch.lean ====
section
/-! DEFINITION. One arm per command: its meaning, by its full name. -/
namespace Sys2Proof.Machine

/-- The effect of a command on everything but the queue. -/
def exec (i : Instr) (s : State) : Host.Outcome State Fault Refusal :=
  match i with
  | .opLd x w => Sys2Proof.Machine.execOpLd x w s
  | .opLdn x w => Sys2Proof.Machine.execOpLdn x w s
  | .opAnd x w => Sys2Proof.Machine.execOpAnd x w s
  | .opAndn x w => Sys2Proof.Machine.execOpAndn x w s
  | .opOr x w => Sys2Proof.Machine.execOpOr x w s
  | .opOrn x w => Sys2Proof.Machine.execOpOrn x w s
  | .opXor x w => Sys2Proof.Machine.execOpXor x w s
  | .opXorn x w => Sys2Proof.Machine.execOpXorn x w s
  | .opSt x w => Sys2Proof.Machine.execOpSt x w s
  | .opStn x w => Sys2Proof.Machine.execOpStn x w s
  | .opSetb x w => Sys2Proof.Machine.execOpSetb x w s
  | .opRstb x w => Sys2Proof.Machine.execOpRstb x w s
  | .opAndp x w => Sys2Proof.Machine.execOpAndp x w s
  | .opAndnp x w => Sys2Proof.Machine.execOpAndnp x w s
  | .opOrp x w => Sys2Proof.Machine.execOpOrp x w s
  | .opOrnp x w => Sys2Proof.Machine.execOpOrnp x w s
  | .opXorp x w => Sys2Proof.Machine.execOpXorp x w s
  | .opXornp x w => Sys2Proof.Machine.execOpXornp x w s
  | .opNot x w => Sys2Proof.Machine.execOpNot x w s
  | .opSet1 x w => Sys2Proof.Machine.execOpSet1 x w s
  | .opClr0 x w => Sys2Proof.Machine.execOpClr0 x w s
  | .opLdwb x w => Sys2Proof.Machine.execOpLdwb x w s
  | .opStwb x w => Sys2Proof.Machine.execOpStwb x w s
  | .opLdqg x w => Sys2Proof.Machine.execOpLdqg x w s
  | .opLdqu x w => Sys2Proof.Machine.execOpLdqu x w s
  | .opTgl x w => Sys2Proof.Machine.execOpTgl x w s
  | .opBpush x w => Sys2Proof.Machine.execOpBpush x w s
  | .opBpeek x w => Sys2Proof.Machine.execOpBpeek x w s
  | .opBpop x w => Sys2Proof.Machine.execOpBpop x w s
  | .opClose x w => Sys2Proof.Machine.execOpClose x w s
  | .opNop x w => Sys2Proof.Machine.execOpNop x w s
  | .opJmp x w => Sys2Proof.Machine.execOpJmp x w s
  | .opJmpc x w => Sys2Proof.Machine.execOpJmpc x w s
  | .opJmpcn x w => Sys2Proof.Machine.execOpJmpcn x w s
  | .opCall x w => Sys2Proof.Machine.execOpCall x w s
  | .opCallc x w => Sys2Proof.Machine.execOpCallc x w s
  | .opCallcn x w => Sys2Proof.Machine.execOpCallcn x w s
  | .opRet x w => Sys2Proof.Machine.execOpRet x w s
  | .opRetc x w => Sys2Proof.Machine.execOpRetc x w s
  | .opRetcn x w => Sys2Proof.Machine.execOpRetcn x w s
  | .opFor x w e => Sys2Proof.Machine.execOpFor x w e s
  | .opForw x w e => Sys2Proof.Machine.execOpForw x w e s
  | .opNext x w => Sys2Proof.Machine.execOpNext x w s
  | .opLeave x w => Sys2Proof.Machine.execOpLeave x w s
  | .opLidx x w => Sys2Proof.Machine.execOpLidx x w s
  | .opSegment x w => Sys2Proof.Machine.execOpSegment x w s
  | .opEnd x w => Sys2Proof.Machine.execOpEnd x w s
  | .opEndc x w => Sys2Proof.Machine.execOpEndc x w s
  | .opWdserv x w => Sys2Proof.Machine.execOpWdserv x w s
  | .opEvpost x w => Sys2Proof.Machine.execOpEvpost x w s
  | .opAgree x w => Sys2Proof.Machine.execOpAgree x w s
  | .opImmin x w => Sys2Proof.Machine.execOpImmin x w s
  | .opImminw x w => Sys2Proof.Machine.execOpImminw x w s
  | .opImmout x w => Sys2Proof.Machine.execOpImmout x w s
  | .opImmoutw x w => Sys2Proof.Machine.execOpImmoutw x w s
  | .opLdw x w => Sys2Proof.Machine.execOpLdw x w s
  | .opStw x w => Sys2Proof.Machine.execOpStw x w s
  | .opLdk x w => Sys2Proof.Machine.execOpLdk x w s
  | .opLdkh x w => Sys2Proof.Machine.execOpLdkh x w s
  | .opAdd x w => Sys2Proof.Machine.execOpAdd x w s
  | .opSub x w => Sys2Proof.Machine.execOpSub x w s
  | .opMul x w => Sys2Proof.Machine.execOpMul x w s
  | .opDiv x w => Sys2Proof.Machine.execOpDiv x w s
  | .opMod x w => Sys2Proof.Machine.execOpMod x w s
  | .opAddu x w => Sys2Proof.Machine.execOpAddu x w s
  | .opSubu x w => Sys2Proof.Machine.execOpSubu x w s
  | .opNeg x w => Sys2Proof.Machine.execOpNeg x w s
  | .opAbs x w => Sys2Proof.Machine.execOpAbs x w s
  | .opAndw x w => Sys2Proof.Machine.execOpAndw x w s
  | .opOrw x w => Sys2Proof.Machine.execOpOrw x w s
  | .opXorw x w => Sys2Proof.Machine.execOpXorw x w s
  | .opNotw x w => Sys2Proof.Machine.execOpNotw x w s
  | .opShlw x w => Sys2Proof.Machine.execOpShlw x w s
  | .opShrw x w => Sys2Proof.Machine.execOpShrw x w s
  | .opSarw x w => Sys2Proof.Machine.execOpSarw x w s
  | .opRolw x w => Sys2Proof.Machine.execOpRolw x w s
  | .opEq x w => Sys2Proof.Machine.execOpEq x w s
  | .opNe x w => Sys2Proof.Machine.execOpNe x w s
  | .opLt x w => Sys2Proof.Machine.execOpLt x w s
  | .opLe x w => Sys2Proof.Machine.execOpLe x w s
  | .opGt x w => Sys2Proof.Machine.execOpGt x w s
  | .opGe x w => Sys2Proof.Machine.execOpGe x w s
  | .opLtu x w => Sys2Proof.Machine.execOpLtu x w s
  | .opGeu x w => Sys2Proof.Machine.execOpGeu x w s
  | .opMinw x w => Sys2Proof.Machine.execOpMinw x w s
  | .opMaxw x w => Sys2Proof.Machine.execOpMaxw x w s
  | .opLimw x w => Sys2Proof.Machine.execOpLimw x w s
  | .opAddk x w => Sys2Proof.Machine.execOpAddk x w s
  | .opSelw x w => Sys2Proof.Machine.execOpSelw x w s
  | .opMovw x w e => Sys2Proof.Machine.execOpMovw x w e s
  | .opLdqw x w => Sys2Proof.Machine.execOpLdqw x w s
  | .opTon x w => Sys2Proof.Machine.execOpTon x w s
  | .opTof x w => Sys2Proof.Machine.execOpTof x w s
  | .opTp x w => Sys2Proof.Machine.execOpTp x w s
  | .opTonr x w => Sys2Proof.Machine.execOpTonr x w s
  | .opTrst x w => Sys2Proof.Machine.execOpTrst x w s
  | .opCtu x w => Sys2Proof.Machine.execOpCtu x w s
  | .opCtd x w => Sys2Proof.Machine.execOpCtd x w s
  | .opCtud x w => Sys2Proof.Machine.execOpCtud x w s
  | .opCrst x w => Sys2Proof.Machine.execOpCrst x w s
  | .opCldv x w => Sys2Proof.Machine.execOpCldv x w s
  | .opEdgep x w => Sys2Proof.Machine.execOpEdgep x w s
  | .opEdgen x w => Sys2Proof.Machine.execOpEdgen x w s
  | .opShfb x w e => Sys2Proof.Machine.execOpShfb x w e s
  | .opShfw x w e => Sys2Proof.Machine.execOpShfw x w e s
  | .opFadd x w => Sys2Proof.Machine.execOpFadd x w s
  | .opFsub x w => Sys2Proof.Machine.execOpFsub x w s
  | .opFmul x w => Sys2Proof.Machine.execOpFmul x w s
  | .opFdiv x w => Sys2Proof.Machine.execOpFdiv x w s
  | .opFsqrt x w => Sys2Proof.Machine.execOpFsqrt x w s
  | .opFlt x w => Sys2Proof.Machine.execOpFlt x w s
  | .opFeq x w => Sys2Proof.Machine.execOpFeq x w s
  | .opItof x w => Sys2Proof.Machine.execOpItof x w s
  | .opFtoi x w => Sys2Proof.Machine.execOpFtoi x w s
  | .opDadd x w e => Sys2Proof.Machine.execOpDadd x w e s
  | .opDsub x w e => Sys2Proof.Machine.execOpDsub x w e s
  | .opDmul x w e => Sys2Proof.Machine.execOpDmul x w e s
  | .opDdiv x w e => Sys2Proof.Machine.execOpDdiv x w e s
  | .opDsqrt x w e => Sys2Proof.Machine.execOpDsqrt x w e s
  | .opDlt x w e => Sys2Proof.Machine.execOpDlt x w e s
  | .opFtod x w e => Sys2Proof.Machine.execOpFtod x w e s
  | .opDtof x w e => Sys2Proof.Machine.execOpDtof x w e s
  | .opPid x w => Sys2Proof.Machine.execOpPid x w s
  | .opLag x w => Sys2Proof.Machine.execOpLag x w s
  | .opRlim x w => Sys2Proof.Machine.execOpRlim x w s
  | .undefinedOpcode x op w => Sys2Proof.Machine.execUndefinedOpcode x op w s
  | .tick m => Sys2Proof.Machine.execTick m s
  | .cycleStart task => Sys2Proof.Machine.execCycleStart task s
  | .eventTaskStart task => Sys2Proof.Machine.execEventTaskStart task s
  | .fireReport source time => Sys2Proof.Machine.execFireReport source time s
  | .fireMatchTimeout source => Sys2Proof.Machine.execFireMatchTimeout source s
  | .inputFrame f => Sys2Proof.Machine.execInputFrame f s
  | .snapshotClose task => Sys2Proof.Machine.execSnapshotClose task s
  | .stationDigest task cycle ring station crc => Sys2Proof.Machine.execStationDigest task cycle ring station crc s
  | .copyRequest task cycle ring station => Sys2Proof.Machine.execCopyRequest task cycle ring station s
  | .stationCopy task cycle sec => Sys2Proof.Machine.execStationCopy task cycle sec s
  | .agreementTimeout task => Sys2Proof.Machine.execAgreementTimeout task s
  | .squashedCoprocComplete x => Sys2Proof.Machine.execSquashedCoprocComplete x s
  | .transit task t => Sys2Proof.Machine.execTransit task t s
  | .laneStall task => Sys2Proof.Machine.execLaneStall task s
  | .releaseCheckpoint strand lane1 => Sys2Proof.Machine.execReleaseCheckpoint strand lane1 s
  | .immediateFrameSend port => Sys2Proof.Machine.execImmediateFrameSend port s
  | .acyclicFrameSend port => Sys2Proof.Machine.execAcyclicFrameSend port s
  | .budgetOverrun task => Sys2Proof.Machine.execBudgetOverrun task s
  | .publicationInstant task => Sys2Proof.Machine.execPublicationInstant task s
  | .inputPublication task => Sys2Proof.Machine.execInputPublication task s
  | .writeSet ws => Sys2Proof.Machine.execWriteSet ws s
  | .writeSetRequest task cycle => Sys2Proof.Machine.execWriteSetRequest task cycle s
  | .overrunNotice task cycle => Sys2Proof.Machine.execOverrunNotice task cycle s
  | .faultNotice task cycle => Sys2Proof.Machine.execFaultNotice task cycle s
  | .frameDisplacedNotice n => Sys2Proof.Machine.execFrameDisplacedNotice n s
  | .earlyServiceNotice task cycle => Sys2Proof.Machine.execEarlyServiceNotice task cycle s
  | .expiryNotice task => Sys2Proof.Machine.execExpiryNotice task s
  | .watchdogExpiry task => Sys2Proof.Machine.execWatchdogExpiry task s
  | .privilegedWatchdogExpiry unit evidence valid => Sys2Proof.Machine.execPrivilegedWatchdogExpiry unit evidence valid s
  | .paceProbeRun strand p0 p1 => Sys2Proof.Machine.execPaceProbeRun strand p0 p1 s
  | .runPaceWindow strand count busy => Sys2Proof.Machine.execRunPaceWindow strand count busy s
  | .vcoreRegulatorStep t => Sys2Proof.Machine.execVcoreRegulatorStep t s
  | .marginCheckStart => Sys2Proof.Machine.execMarginCheckStart s
  | .marginCheckEnd => Sys2Proof.Machine.execMarginCheckEnd s
  | .vcoreSupplyFault millivolts => Sys2Proof.Machine.execVcoreSupplyFault millivolts s
  | .islandWake unit => Sys2Proof.Machine.execIslandWake unit s
  | .islandWakeFail unit => Sys2Proof.Machine.execIslandWakeFail unit s
  | .crossingResetNotice unit => Sys2Proof.Machine.execCrossingResetNotice unit s
  | .crossingReopen side => Sys2Proof.Machine.execCrossingReopen side s
  | .changeSwitch => Sys2Proof.Machine.execChangeSwitch s
  | .switchAtConfirm instant => Sys2Proof.Machine.execSwitchAtConfirm instant s
  | .changeConfirmDeadline => Sys2Proof.Machine.execChangeConfirmDeadline s
  | .forceEffective => Sys2Proof.Machine.execForceEffective s
  | .forceTableExchange req => Sys2Proof.Machine.execForceTableExchange req s
  | .hostWriteEffective => Sys2Proof.Machine.execHostWriteEffective s
  | .pairSettingsApply => Sys2Proof.Machine.execPairSettingsApply s
  | .stationTableApply ring => Sys2Proof.Machine.execStationTableApply ring s
  | .gateEntryApply => Sys2Proof.Machine.execGateEntryApply s
  | .revocationApply => Sys2Proof.Machine.execRevocationApply s
  | .discoverSend ring => Sys2Proof.Machine.execDiscoverSend ring s
  | .discoverResponse f => Sys2Proof.Machine.execDiscoverResponse f s
  | .segmentDelayMeasure ring delays => Sys2Proof.Machine.execSegmentDelayMeasure ring delays s
  | .backgroundCycle ring => Sys2Proof.Machine.execBackgroundCycle ring s
  | .acycResponseFrame f => Sys2Proof.Machine.execAcycResponseFrame f s
  | .acyclicRetry tag => Sys2Proof.Machine.execAcyclicRetry tag s
  | .acyclicMirror tx => Sys2Proof.Machine.execAcyclicMirror tx s
  | .resyncTimeout ring station => Sys2Proof.Machine.execResyncTimeout ring station s
  | .portLinkChange port up => Sys2Proof.Machine.execPortLinkChange port up s
  | .portLoopbackTest port pass => Sys2Proof.Machine.execPortLoopbackTest port pass s
  | .partnerRingFrame f => Sys2Proof.Machine.execPartnerRingFrame f s
  | .closureHeartbeat hdr health stored stamp => Sys2Proof.Machine.execClosureHeartbeat hdr health stored stamp s
  | .closureDelayMeasure ring sent arrived peerSent peerArrived => Sys2Proof.Machine.execClosureDelayMeasure ring sent arrived peerSent peerArrived s
  | .linkHeartbeat health epoch tick free credits => Sys2Proof.Machine.execLinkHeartbeat health epoch tick free credits s
  | .linkFrameResend lane cls seq => Sys2Proof.Machine.execLinkFrameResend lane cls seq s
  | .linkLossOfLock lane => Sys2Proof.Machine.execLinkLossOfLock lane s
  | .linkReset => Sys2Proof.Machine.execLinkReset s
  | .scrubberRepair bank => Sys2Proof.Machine.execScrubberRepair bank s
  | .memoryUncorrectable => Sys2Proof.Machine.execMemoryUncorrectable s
  | .feedLost feed => Sys2Proof.Machine.execFeedLost feed s
  | .feedRestored feed => Sys2Proof.Machine.execFeedRestored feed s
  | .pathSilent path => Sys2Proof.Machine.execPathSilent path s
  | .healthyLost => Sys2Proof.Machine.execHealthyLost s
  | .healthyPresent => Sys2Proof.Machine.execHealthyPresent s
  | .ownerClaimChange level => Sys2Proof.Machine.execOwnerClaimChange level s
  | .handoverPulse => Sys2Proof.Machine.execHandoverPulse s
  | .handoverProposal h epoch => Sys2Proof.Machine.execHandoverProposal h epoch s
  | .handoverAck epoch => Sys2Proof.Machine.execHandoverAck epoch s
  | .handoverTick => Sys2Proof.Machine.execHandoverTick s
  | .handoverCancel => Sys2Proof.Machine.execHandoverCancel s
  | .revertHoldoffExpiry => Sys2Proof.Machine.execRevertHoldoffExpiry s
  | .leavingNotice => Sys2Proof.Machine.execLeavingNotice s
  | .joinRequest ask => Sys2Proof.Machine.execJoinRequest ask s
  | .stateTransfer tr => Sys2Proof.Machine.execStateTransfer tr s
  | .joinComplete agrees => Sys2Proof.Machine.execJoinComplete agrees s
  | .joinTimeout => Sys2Proof.Machine.execJoinTimeout s
  | .identityRead id => Sys2Proof.Machine.execIdentityRead id s
  | .autoRejoin pass => Sys2Proof.Machine.execAutoRejoin pass s
  | .patternTest strand pass => Sys2Proof.Machine.execPatternTest strand pass s
  | .proofTestDone pass => Sys2Proof.Machine.execProofTestDone pass s
  | .shareChange half => Sys2Proof.Machine.execShareChange half s
  | .feedSwitchClose feed => Sys2Proof.Machine.execFeedSwitchClose feed s
  | .seatedMade => Sys2Proof.Machine.execSeatedMade s
  | .seatedLost => Sys2Proof.Machine.execSeatedLost s
  | .leverOpen => Sys2Proof.Machine.execLeverOpen s
  | .leverClose => Sys2Proof.Machine.execLeverClose s
  | .slotIdChange id side parity => Sys2Proof.Machine.execSlotIdChange id side parity s
  | .lampTestEnd => Sys2Proof.Machine.execLampTestEnd s
  | .loaderDone id side parity testHold badPart => Sys2Proof.Machine.execLoaderDone id side parity testHold badPart s
  | .bringupComplete => Sys2Proof.Machine.execBringupComplete s
  | .bringupPhaseOverrun => Sys2Proof.Machine.execBringupPhaseOverrun s
  | .partFetchDone ok manifest => Sys2Proof.Machine.execPartFetchDone ok manifest s
  | .partFetchTimeout => Sys2Proof.Machine.execPartFetchTimeout s
  | .lanternCycle => Sys2Proof.Machine.execLanternCycle s
  | .activationDone ok => Sys2Proof.Machine.execActivationDone ok s
  | .updateHandoverRetry => Sys2Proof.Machine.execUpdateHandoverRetry s
  | .retainImageWrite => Sys2Proof.Machine.execRetainImageWrite s
  | .updateChunkForward select offset data last => Sys2Proof.Machine.execUpdateChunkForward select offset data last s
  | .almanacFlashCopy count => Sys2Proof.Machine.execAlmanacFlashCopy count s
  | .ref10mValid => Sys2Proof.Machine.execRef10mValid s
  | .ref10mLost => Sys2Proof.Machine.execRef10mLost s
  | .ptpSync d m rate => Sys2Proof.Machine.execPtpSync d m rate s
  | .ptpFollowUp d m rate => Sys2Proof.Machine.execPtpFollowUp d m rate s
  | .ptpAnnounce d m best => Sys2Proof.Machine.execPtpAnnounce d m best s
  | .ptpDelayReq d m => Sys2Proof.Machine.execPtpDelayReq d m s
  | .ptpDelayResp d m => Sys2Proof.Machine.execPtpDelayResp d m s
  | .ptpPdelayReq d m => Sys2Proof.Machine.execPtpPdelayReq d m s
  | .ptpPdelayResp d m => Sys2Proof.Machine.execPtpPdelayResp d m s
  | .ptpPdelayRespFollowUp d m => Sys2Proof.Machine.execPtpPdelayRespFollowUp d m s
  | .ptpSyncInterval d => Sys2Proof.Machine.execPtpSyncInterval d s
  | .ptpAnnounceInterval d => Sys2Proof.Machine.execPtpAnnounceInterval d s
  | .ptpDelayInterval d => Sys2Proof.Machine.execPtpDelayInterval d s
  | .announceReceiptTimeout d => Sys2Proof.Machine.execAnnounceReceiptTimeout d s
  | .selectDelayExpiry => Sys2Proof.Machine.execSelectDelayExpiry s
  | .leapSecond insert => Sys2Proof.Machine.execLeapSecond insert s
  | .ringTimeHoldover => Sys2Proof.Machine.execRingTimeHoldover s
  | .ppsOutEdge => Sys2Proof.Machine.execPpsOutEdge s
  | .ppsOutFall => Sys2Proof.Machine.execPpsOutFall s
  | .ppsInEdge t => Sys2Proof.Machine.execPpsInEdge t s
  | .ppsInLoss => Sys2Proof.Machine.execPpsInLoss s
  | .timeAlarm no => Sys2Proof.Machine.execTimeAlarm no s
  | .diEdge ch level t => Sys2Proof.Machine.execDiEdge ch level t s
  | .outputStageSilence => Sys2Proof.Machine.execOutputStageSilence s
  | .doThermalShutdown ch => Sys2Proof.Machine.execDoThermalShutdown ch s
  | .doThermalRestart ch => Sys2Proof.Machine.execDoThermalRestart ch s
  | .doFaultSet => Sys2Proof.Machine.execDoFaultSet s
  | .doFaultClear => Sys2Proof.Machine.execDoFaultClear s
  | .aiStatusChange ch code fault => Sys2Proof.Machine.execAiStatusChange ch code fault s
  | .aoLoopLow ch => Sys2Proof.Machine.execAoLoopLow ch s
  | .openLoop ch on => Sys2Proof.Machine.execOpenLoop ch on s
  | .hartResponse ch code data => Sys2Proof.Machine.execHartResponse ch code data s
  | .hartAttemptTimeout ch frameError => Sys2Proof.Machine.execHartAttemptTimeout ch frameError s
  | .hartMirror req => Sys2Proof.Machine.execHartMirror req s
  | .hartReplyHoldExpiry ch => Sys2Proof.Machine.execHartReplyHoldExpiry ch s
  | .canFrameReceived k f remote own t => Sys2Proof.Machine.execCanFrameReceived k f remote own t s
  | .canTxComplete k sent => Sys2Proof.Machine.execCanTxComplete k sent s
  | .canTxError k peerSaw => Sys2Proof.Machine.execCanTxError k peerSaw s
  | .canBusOff k => Sys2Proof.Machine.execCanBusOff k s
  | .canBusOffRecovery k => Sys2Proof.Machine.execCanBusOffRecovery k s
  | .dominantTimeout k => Sys2Proof.Machine.execDominantTimeout k s
  | .canMirror k f => Sys2Proof.Machine.execCanMirror k f s
  | .rateDetectTimeout k => Sys2Proof.Machine.execRateDetectTimeout k s
  | .basicCycleStart k ok => Sys2Proof.Machine.execBasicCycleStart k ok s
  | .referenceWatchTimeout k => Sys2Proof.Machine.execReferenceWatchTimeout k s
  | .ttWindow k window => Sys2Proof.Machine.execTtWindow k window s
  | .periodMs k object => Sys2Proof.Machine.execPeriodMs k object s
  | .ttSyncLoss k => Sys2Proof.Machine.execTtSyncLoss k s
  | .keyChallenge nonce => Sys2Proof.Machine.execKeyChallenge nonce s
  | .tagSerialAnswer slot serial crcOk => Sys2Proof.Machine.execTagSerialAnswer slot serial crcOk s
  | .keySlotsEnd => Sys2Proof.Machine.execKeySlotsEnd s
  | .credential c => Sys2Proof.Machine.execCredential c s
  | .keyVerifyDone => Sys2Proof.Machine.execKeyVerifyDone s
  | .lightFlooding => Sys2Proof.Machine.execLightFlooding s
  | .floodQuiet => Sys2Proof.Machine.execFloodQuiet s
  | .keyLockoutEnd => Sys2Proof.Machine.execKeyLockoutEnd s
  | .keyHoldExpiry => Sys2Proof.Machine.execKeyHoldExpiry s
  | .signatureOperationDone p valid => Sys2Proof.Machine.execSignatureOperationDone p valid s
  | .sessionIdleExpiry session => Sys2Proof.Machine.execSessionIdleExpiry session s
  | .halfOpenExpiry session => Sys2Proof.Machine.execHalfOpenExpiry session s
  | .quiesceLeaseExpiry unit => Sys2Proof.Machine.execQuiesceLeaseExpiry unit s
  | .reassemblyTimeout source => Sys2Proof.Machine.execReassemblyTimeout source s
  | .unknownOpcode r op => Sys2Proof.Machine.execUnknownOpcode r op s
  | .sessionOpen r g => Sys2Proof.Machine.execSessionOpen r g s
  | .sessionConfirm r sigOk => Sys2Proof.Machine.execSessionConfirm r sigOk s
  | .sessionClose r => Sys2Proof.Machine.execSessionClose r s
  | .moduleIdentity r => Sys2Proof.Machine.execModuleIdentity r s
  | .moduleCapability r => Sys2Proof.Machine.execModuleCapability r s
  | .moduleState r => Sys2Proof.Machine.execModuleState r s
  | .moduleTestHold r => Sys2Proof.Machine.execModuleTestHold r s
  | .moduleRestart r => Sys2Proof.Machine.execModuleRestart r s
  | .funcQuiesce r => Sys2Proof.Machine.execFuncQuiesce r s
  | .funcStage r => Sys2Proof.Machine.execFuncStage r s
  | .funcRestart r => Sys2Proof.Machine.execFuncRestart r s
  | .funcDiscard r => Sys2Proof.Machine.execFuncDiscard r s
  | .funcRead r => Sys2Proof.Machine.execFuncRead r s
  | .funcStatus r => Sys2Proof.Machine.execFuncStatus r s
  | .progLoadBegin r => Sys2Proof.Machine.execProgLoadBegin r s
  | .progLoadWrite r => Sys2Proof.Machine.execProgLoadWrite r s
  | .progLoadCheck r v => Sys2Proof.Machine.execProgLoadCheck r v s
  | .progStart r => Sys2Proof.Machine.execProgStart r s
  | .progStop r => Sys2Proof.Machine.execProgStop r s
  | .progUnload r => Sys2Proof.Machine.execProgUnload r s
  | .progTenantStatus r => Sys2Proof.Machine.execProgTenantStatus r s
  | .progChangeBegin r => Sys2Proof.Machine.execProgChangeBegin r s
  | .progChangeWrite r => Sys2Proof.Machine.execProgChangeWrite r s
  | .progChangeCheck r v => Sys2Proof.Machine.execProgChangeCheck r v s
  | .progChangeArm r => Sys2Proof.Machine.execProgChangeArm r s
  | .progChangeAbort r => Sys2Proof.Machine.execProgChangeAbort r s
  | .progChangeStatus r => Sys2Proof.Machine.execProgChangeStatus r s
  | .progLanternLoad r v => Sys2Proof.Machine.execProgLanternLoad r v s
  | .dataRead r => Sys2Proof.Machine.execDataRead r s
  | .dataReadProvisional r => Sys2Proof.Machine.execDataReadProvisional r s
  | .dataWrite r => Sys2Proof.Machine.execDataWrite r s
  | .forceSet r => Sys2Proof.Machine.execForceSet r s
  | .forceClear r => Sys2Proof.Machine.execForceClear r s
  | .forceClearAll r => Sys2Proof.Machine.execForceClearAll r s
  | .forceList r => Sys2Proof.Machine.execForceList r s
  | .ringReadStatus r => Sys2Proof.Machine.execRingReadStatus r s
  | .ringLoadConfig r => Sys2Proof.Machine.execRingLoadConfig r s
  | .ringReadStation r => Sys2Proof.Machine.execRingReadStation r s
  | .acyclicRead r => Sys2Proof.Machine.execAcyclicRead r s
  | .acyclicWrite r => Sys2Proof.Machine.execAcyclicWrite r s
  | .alarmFetch r => Sys2Proof.Machine.execAlarmFetch r s
  | .ringAcyclicAbort r => Sys2Proof.Machine.execRingAcyclicAbort r s
  | .pairStatus r => Sys2Proof.Machine.execPairStatus r s
  | .pairAssume r => Sys2Proof.Machine.execPairAssume r s
  | .pairHandover r => Sys2Proof.Machine.execPairHandover r s
  | .pairRejoin r selftestOk => Sys2Proof.Machine.execPairRejoin r selftestOk s
  | .pairHealthAck r => Sys2Proof.Machine.execPairHealthAck r s
  | .pairProofTest r => Sys2Proof.Machine.execPairProofTest r s
  | .timeRead r => Sys2Proof.Machine.execTimeRead r s
  | .timeDomainStatus r => Sys2Proof.Machine.execTimeDomainStatus r s
  | .timeSetPlant r => Sys2Proof.Machine.execTimeSetPlant r s
  | .timeAlarmWrite r => Sys2Proof.Machine.execTimeAlarmWrite r s
  | .timeAlarmRead r => Sys2Proof.Machine.execTimeAlarmRead r s
  | .localRead r => Sys2Proof.Machine.execLocalRead r s
  | .hartTransact r => Sys2Proof.Machine.execHartTransact r s
  | .canStatus r => Sys2Proof.Machine.execCanStatus r s
  | .canFilterWrite r => Sys2Proof.Machine.execCanFilterWrite r s
  | .canFilterRead r => Sys2Proof.Machine.execCanFilterRead r s
  | .canSend r => Sys2Proof.Machine.execCanSend r s
  | .canReceive r => Sys2Proof.Machine.execCanReceive r s
  | .canScheduleWrite r => Sys2Proof.Machine.execCanScheduleWrite r s
  | .secGateRead r => Sys2Proof.Machine.execSecGateRead r s
  | .secGateWrite r => Sys2Proof.Machine.execSecGateWrite r s
  | .secAuthorityInstall r pointOk => Sys2Proof.Machine.execSecAuthorityInstall r pointOk s
  | .secModuleCertInstall r sigOk => Sys2Proof.Machine.execSecModuleCertInstall r sigOk s
  | .secRevoke r => Sys2Proof.Machine.execSecRevoke r s
  | .secKeyStatus r => Sys2Proof.Machine.execSecKeyStatus r s
  | .updateBegin r => Sys2Proof.Machine.execUpdateBegin r s
  | .updateWrite r => Sys2Proof.Machine.execUpdateWrite r s
  | .updateVerify r sigOk badHash peerAgrees => Sys2Proof.Machine.execUpdateVerify r sigOk badHash peerAgrees s
  | .updateActivateModule r => Sys2Proof.Machine.execUpdateActivateModule r s
  | .updateActivatePair r => Sys2Proof.Machine.execUpdateActivatePair r s
  | .updateAbort r => Sys2Proof.Machine.execUpdateAbort r s
  | .updateStatus r => Sys2Proof.Machine.execUpdateStatus r s
  | .almanacRead r => Sys2Proof.Machine.execAlmanacRead r s
  | .almanacClear r sigOk => Sys2Proof.Machine.execAlmanacClear r sigOk s
  | .almanacStatus r => Sys2Proof.Machine.execAlmanacStatus r s
  | .diagCounterRead r => Sys2Proof.Machine.execDiagCounterRead r s
  | .diagCounterSelect r => Sys2Proof.Machine.execDiagCounterSelect r s
  | .diagWatchdogRead r => Sys2Proof.Machine.execDiagWatchdogRead r s
  | .diagStrandStatus r => Sys2Proof.Machine.execDiagStrandStatus r s
  | .diagTaskSpec r => Sys2Proof.Machine.execDiagTaskSpec r s
  | .diagDisplacedRead r => Sys2Proof.Machine.execDiagDisplacedRead r s
  | .diagTagRead r => Sys2Proof.Machine.execDiagTagRead r s
  | .debugOpen r => Sys2Proof.Machine.execDebugOpen r s
  | .debugHalt r => Sys2Proof.Machine.execDebugHalt r s
  | .debugStep r => Sys2Proof.Machine.execDebugStep r s
  | .debugRun r => Sys2Proof.Machine.execDebugRun r s
  | .debugSetBreak r => Sys2Proof.Machine.execDebugSetBreak r s
  | .debugClearBreak r => Sys2Proof.Machine.execDebugClearBreak r s
  | .debugRead r => Sys2Proof.Machine.execDebugRead r s
  | .debugWrite r => Sys2Proof.Machine.execDebugWrite r s
  | .debugClose r => Sys2Proof.Machine.execDebugClose r s
  | .cmWrite offset data => Sys2Proof.Machine.execCmWrite offset data s
  | .cmBlockRefresh temp feed1 feed2 => Sys2Proof.Machine.execCmBlockRefresh temp feed1 feed2 s
  | .tapReset => Sys2Proof.Machine.execTapReset s
  | .extest cells => Sys2Proof.Machine.execExtest cells s
  | .sample cells => Sys2Proof.Machine.execSample cells s
  | .preload cells => Sys2Proof.Machine.execPreload cells s
  | .idcode => Sys2Proof.Machine.execIdcode s
  | .clamp => Sys2Proof.Machine.execClamp s
  | .highz => Sys2Proof.Machine.execHighz s
  | .extestPulse cells => Sys2Proof.Machine.execExtestPulse cells s
  | .extestTrain cells => Sys2Proof.Machine.execExtestTrain cells s
  | .ioloop => Sys2Proof.Machine.execIoloop s
  | .scanguard => Sys2Proof.Machine.execScanguard s
  | .bypass => Sys2Proof.Machine.execBypass s
  | .ref10mLocked => Sys2Proof.Machine.execRef10mLocked s
  | .privilegedWatchdogService unit t => Sys2Proof.Machine.execPrivilegedWatchdogService unit t s
  | .lossOfPower => Sys2Proof.Machine.execLossOfPower s
  | .mainReferenceStop => Sys2Proof.Machine.execMainReferenceStop s
  | .resetReleased => Sys2Proof.Machine.execResetReleased s
  | .stageFault ch on => Sys2Proof.Machine.execStageFault ch on s
  | .plantPortLinkChange port up => Sys2Proof.Machine.execPlantPortLinkChange port up s
  | .partFetchRequest => Sys2Proof.Machine.execPartFetchRequest s
  | .identityRequest => Sys2Proof.Machine.execIdentityRequest s
  | .switchAtProposal instant => Sys2Proof.Machine.execSwitchAtProposal instant s
  | .recomputeRequest tenant kind v => Sys2Proof.Machine.execRecomputeRequest tenant kind v s
  | .recomputeResult figures => Sys2Proof.Machine.execRecomputeResult figures s
  | .commandMirror m => Sys2Proof.Machine.execCommandMirror m s
  | .forwardedRequest req => Sys2Proof.Machine.execForwardedRequest req s
  | .eccPatrolPass dram corrected => Sys2Proof.Machine.execEccPatrolPass dram corrected s
  | .seatedOpening => Sys2Proof.Machine.execSeatedOpening s
  | .updateDr v => Sys2Proof.Machine.execUpdateDr v s
  | .captureDr readback di lplus => Sys2Proof.Machine.execCaptureDr readback di lplus s

end Sys2Proof.Machine
end

