-- ==== Sys2Proof/Machine/Waiting.lean ====
section
/-! DEFINITION. A request that waited in its session (R441): the command of its opcode, with what came with it. -/
namespace Sys2Proof.Machine

/-- The verdict of the signature engine, or of a self-test, that came with a request. -/
def Brought.good : Brought → Bool
  | .flag b => b
  | _ => false

/-- The program that came with a request. -/
def Brought.program : Brought → Version
  | .version v => v
  | _ => Version.empty

/-- A waiting request of the session group, 16#00. -/
def State.waited00 (s : State) (w : Waiting) : Host.Outcome State Fault Refusal :=
  match w.op with
  | 0x0002 => execSessionConfirm w.req w.brought.good s
  | 0x0003 => execSessionClose w.req s
  | 0x0004 => execModuleIdentity w.req s
  | 0x0005 => execModuleCapability w.req s
  | _ => execUnknownOpcode w.req w.op s

/-- A waiting request of the module group, 16#01. -/
def State.waited01 (s : State) (w : Waiting) : Host.Outcome State Fault Refusal :=
  match w.op with
  | 0x0101 => execModuleState w.req s
  | 0x0102 => execModuleTestHold w.req s
  | 0x0103 => execModuleRestart w.req s
  | _ => execUnknownOpcode w.req w.op s

/-- A waiting request of the function group, 16#02. -/
def State.waited02 (s : State) (w : Waiting) : Host.Outcome State Fault Refusal :=
  match w.op with
  | 0x0201 => execFuncQuiesce w.req s
  | 0x0202 => execFuncStage w.req s
  | 0x0203 => execFuncRestart w.req s
  | 0x0204 => execFuncDiscard w.req s
  | 0x0205 => execFuncRead w.req s
  | 0x0206 => execFuncStatus w.req s
  | _ => execUnknownOpcode w.req w.op s

/-- A waiting request of the program group, 16#03. -/
def State.waited03 (s : State) (w : Waiting) : Host.Outcome State Fault Refusal :=
  match w.op with
  | 0x0301 => execProgLoadBegin w.req s
  | 0x0302 => execProgLoadWrite w.req s
  | 0x0303 => execProgLoadCheck w.req w.brought.program s
  | 0x0304 => execProgStart w.req s
  | 0x0305 => execProgStop w.req s
  | 0x0306 => execProgUnload w.req s
  | 0x0307 => execProgTenantStatus w.req s
  | 0x0308 => execProgChangeBegin w.req s
  | 0x0309 => execProgChangeWrite w.req s
  | 0x030A => execProgChangeCheck w.req w.brought.program s
  | 0x030B => execProgChangeArm w.req s
  | 0x030C => execProgChangeAbort w.req s
  | 0x030D => execProgChangeStatus w.req s
  | 0x030E => execProgLanternLoad w.req w.brought.program s
  | _ => execUnknownOpcode w.req w.op s

/-- A waiting request of the process-data group, 16#04. -/
def State.waited04 (s : State) (w : Waiting) : Host.Outcome State Fault Refusal :=
  match w.op with
  | 0x0401 => execDataRead w.req s
  | 0x0402 => execDataReadProvisional w.req s
  | 0x0403 => execDataWrite w.req s
  | 0x0404 => execForceSet w.req s
  | 0x0405 => execForceClear w.req s
  | 0x0406 => execForceClearAll w.req s
  | 0x0407 => execForceList w.req s
  | _ => execUnknownOpcode w.req w.op s

/-- A waiting request of the ring group, 16#05. -/
def State.waited05 (s : State) (w : Waiting) : Host.Outcome State Fault Refusal :=
  match w.op with
  | 0x0501 => execRingReadStatus w.req s
  | 0x0502 => execRingLoadConfig w.req s
  | 0x0503 => execRingReadStation w.req s
  | 0x0504 =>
    let op := field w.req.payload 4 1
    if op = 1 then execAcyclicRead w.req s else if op = 2 then execAcyclicWrite w.req s else execAlarmFetch w.req s
  | 0x0505 => execRingAcyclicAbort w.req s
  | _ => execUnknownOpcode w.req w.op s

/-- A waiting request of the pair group, 16#06. -/
def State.waited06 (s : State) (w : Waiting) : Host.Outcome State Fault Refusal :=
  match w.op with
  | 0x0601 => execPairStatus w.req s
  | 0x0602 => execPairAssume w.req s
  | 0x0603 => execPairHandover w.req s
  | 0x0604 => execPairRejoin w.req w.brought.good s
  | 0x0605 => execPairHealthAck w.req s
  | 0x0606 => execPairProofTest w.req s
  | _ => execUnknownOpcode w.req w.op s

/-- A waiting request of the time group, 16#07. -/
def State.waited07 (s : State) (w : Waiting) : Host.Outcome State Fault Refusal :=
  match w.op with
  | 0x0701 => execTimeRead w.req s
  | 0x0702 => execTimeDomainStatus w.req s
  | 0x0703 => execTimeSetPlant w.req s
  | 0x0704 => execTimeAlarmWrite w.req s
  | 0x0705 => execTimeAlarmRead w.req s
  | _ => execUnknownOpcode w.req w.op s

/-- A waiting request of the local I/O group, 16#08. -/
def State.waited08 (s : State) (w : Waiting) : Host.Outcome State Fault Refusal :=
  match w.op with
  | 0x0801 => execLocalRead w.req s
  | 0x0802 => execHartTransact w.req s
  | _ => execUnknownOpcode w.req w.op s

/-- A waiting request of the CAN group, 16#09. -/
def State.waited09 (s : State) (w : Waiting) : Host.Outcome State Fault Refusal :=
  match w.op with
  | 0x0901 => execCanStatus w.req s
  | 0x0902 => execCanFilterWrite w.req s
  | 0x0903 => execCanFilterRead w.req s
  | 0x0904 => execCanSend w.req s
  | 0x0905 => execCanReceive w.req s
  | 0x0906 => execCanScheduleWrite w.req s
  | _ => execUnknownOpcode w.req w.op s

/-- A waiting request of the security group, 16#0A. -/
def State.waited0A (s : State) (w : Waiting) : Host.Outcome State Fault Refusal :=
  match w.op with
  | 0x0A01 => execSecGateRead w.req s
  | 0x0A02 => execSecGateWrite w.req s
  | 0x0A03 => execSecAuthorityInstall w.req w.brought.good s
  | 0x0A04 => execSecModuleCertInstall w.req w.brought.good s
  | 0x0A05 => execSecRevoke w.req s
  | 0x0A06 => execSecKeyStatus w.req s
  | _ => execUnknownOpcode w.req w.op s

/-- A waiting request of the update group, 16#0B. -/
def State.waited0B (s : State) (w : Waiting) : Host.Outcome State Fault Refusal :=
  match w.op with
  | 0x0B01 => execUpdateBegin w.req s
  | 0x0B02 => execUpdateWrite w.req s
  | 0x0B03 =>
    match w.brought with
    | .verify sigOk badHash peerAgrees => execUpdateVerify w.req sigOk badHash peerAgrees s
    | _ => execUpdateVerify w.req false 0 false s
  | 0x0B04 =>
    if field w.req.payload 0 1 = 0 then execUpdateActivateModule w.req s else execUpdateActivatePair w.req s
  | 0x0B05 => execUpdateAbort w.req s
  | 0x0B06 => execUpdateStatus w.req s
  | _ => execUnknownOpcode w.req w.op s

/-- A waiting request of the almanac group, 16#0C. -/
def State.waited0C (s : State) (w : Waiting) : Host.Outcome State Fault Refusal :=
  match w.op with
  | 0x0C01 => execAlmanacRead w.req s
  | 0x0C02 => execAlmanacClear w.req w.brought.good s
  | 0x0C03 => execAlmanacStatus w.req s
  | _ => execUnknownOpcode w.req w.op s

/-- A waiting request of the diagnostics and debug group, 16#0D. -/
def State.waited0D (s : State) (w : Waiting) : Host.Outcome State Fault Refusal :=
  match w.op with
  | 0x0D01 => execDiagCounterRead w.req s
  | 0x0D02 => execDiagCounterSelect w.req s
  | 0x0D03 => execDiagWatchdogRead w.req s
  | 0x0D04 => execDiagStrandStatus w.req s
  | 0x0D05 => execDiagTaskSpec w.req s
  | 0x0D06 => execDiagDisplacedRead w.req s
  | 0x0D07 => execDiagTagRead w.req s
  | 0x0D08 => execDebugOpen w.req s
  | 0x0D09 =>
    let op := field w.req.payload 0 1
    if op = 1 then execDebugHalt w.req s else if op = 2 then execDebugStep w.req s else if op = 3 then execDebugRun w.req s
    else if op = 4 then execDebugSetBreak w.req s else execDebugClearBreak w.req s
  | 0x0D0A => execDebugRead w.req s
  | 0x0D0B => execDebugWrite w.req s
  | 0x0D0C => execDebugClose w.req s
  | _ => execUnknownOpcode w.req w.op s

/-- A waiting request executes: its opcode chooses its command. -/
def State.runWaiting (s : State) (w : Waiting) : Host.Outcome State Fault Refusal :=
  match w.op / 256 with
  | 0 => s.waited00 w
  | 1 => s.waited01 w
  | 2 => s.waited02 w
  | 3 => s.waited03 w
  | 4 => s.waited04 w
  | 5 => s.waited05 w
  | 6 => s.waited06 w
  | 7 => s.waited07 w
  | 8 => s.waited08 w
  | 9 => s.waited09 w
  | 10 => s.waited0A w
  | 11 => s.waited0B w
  | 12 => s.waited0C w
  | 13 => s.waited0D w
  | _ => execUnknownOpcode w.req w.op s

/-- What the block does when no command waits at its input: the next request that waits in a session executes, and otherwise the
block idles. -/
def State.idle (s : State) : Host.Outcome State Fault Refusal :=
  match s.nextWaiting with
  | some x => x.2.runWaiting x.1
  | none => .next s

end Sys2Proof.Machine
end

