-- ==== Sys2Proof/Safety.lean ====
section
/-! DEFINITION. The terms in which the claims are made: a run that never stops, an engine instruction that has passed its checks,
and a Gelit request that is executed. -/
namespace Sys2Proof

/-- The outcome is a next state. -/
def Safe (o : Host.Outcome Machine.State Machine.Fault Machine.Refusal) : Prop := ∃ t, o = .next t

end Sys2Proof

namespace Sys2Proof.Claims
open Sys2Proof.Machine

/-! ### Engine instructions -/

/-- An engine instruction of which every check of R100 has passed: the state in which the strand runs its task, what the
instruction sees, its row of the opcode table, its operands with their effective indexes, the lane as the instruction finds it,
that lane with its PC after the instruction, and the cost. -/
structure Start where
  base : State
  env : Env
  row : OpInfo
  o1 : Opnd
  o2 : Opnd
  before : Lane
  lane : Lane
  cost : Nat

/-- A check that passes. -/
def passes (c : Except Stop Unit) : Bool := match c with | .ok _ => true | .error _ => false

/-- The state in which the strand runs the task: another task's speculation on it is abandoned for admitted work (R176). Lane 1 under a debug
session takes no strand. -/
def begun (s : State) (t : Task) (e : Env) : State :=
  if e.dbg.isSome then s else s.takeStrand t.no t e.lane (e.ctx.spec == .notSpeculating)

/-- The instruction of opcode `op` on the lane that `x` names can execute now, and it passes the checks of R100: no reserved
field is set, its areas are ones it admits, an indexed operand has a loop, its gates admit it and its 64-bit operands are aligned.
Under a debug session lane 1 stands at no breakpoint. -/
def startOf (op : Nat) (x : Exec) (w : BitVec 24) (ext : Word) (s : State) : Option Start :=
  match opInfo op, s.task x.task with
  | some r, some t =>
    let e := s.env t x.lane
    let b := begun s t e
    let e1 : Env := { e with s := b }
    let f := formOf r w ext
    match e.ctx.effective f.o1, e.ctx.effective f.o2 with
    | .ok o1, .ok o2 =>
      if e.canRun && (e.dbg.map (·.atBreak)) != some true && f.ok && f.o1.areaOk r.only && f.o2.areaOk none
          && passes (e1.passGate o1) && passes (e1.passGate o2) && passes o1.aligned && passes o2.aligned then
        some ⟨b, e1, r, o1, o2, e.ctx, e.ctx.setPc (e.ctx.regs.pc + BitVec.ofNat 22 r.fmt.words),
          costOf r (e.ver.agreedImm = 1) w ext⟩
      else none
    | _, _ => none
  | _, _ => none

/-- The state after the instruction has left its lane as `l`: one more instruction and its cost counted, a segment that became
WIDE counted on the strand, and under a debug session lane 1's writes taken to the debug copy. -/
def Start.ends (b : Start) (l : Lane) : State :=
  let s := (b.base.putLane b.env
    { l with done := l.done + 1, cost := l.cost + b.cost, lastOp := b.row.op, inFlight := isCoproc b.row.op }).countWide b.env l
  if b.env.dbg.isSome then s.debugRan else s

/-- The state after the instruction has faulted with a code of R222: its lane keeps its registers and PC, and holds the fault pending
in the segment that runs, or raised where the lane does not speculate (R192). -/
def Start.faults (b : Start) (w : BitVec 24) (code detail : Nat) : State :=
  let s := b.base.putLane b.env
    (b.before.fault (faultInfo b.before b.row.op w b.o1 code detail (b.before.spec == .speculating)))
  if b.env.dbg.isSome then s.debugRan else s

/-- The lane that an instruction of the engine names; none for a command that is no instruction of the engine. -/
def engineOf : Instr → Option Exec
  | .opLd x _ => some x
  | .opLdn x _ => some x
  | .opAnd x _ => some x
  | .opAndn x _ => some x
  | .opOr x _ => some x
  | .opOrn x _ => some x
  | .opXor x _ => some x
  | .opXorn x _ => some x
  | .opSt x _ => some x
  | .opStn x _ => some x
  | .opSetb x _ => some x
  | .opRstb x _ => some x
  | .opAndp x _ => some x
  | .opAndnp x _ => some x
  | .opOrp x _ => some x
  | .opOrnp x _ => some x
  | .opXorp x _ => some x
  | .opXornp x _ => some x
  | .opNot x _ => some x
  | .opSet1 x _ => some x
  | .opClr0 x _ => some x
  | .opLdwb x _ => some x
  | .opStwb x _ => some x
  | .opLdqg x _ => some x
  | .opLdqu x _ => some x
  | .opTgl x _ => some x
  | .opBpush x _ => some x
  | .opBpeek x _ => some x
  | .opBpop x _ => some x
  | .opClose x _ => some x
  | .opNop x _ => some x
  | .opJmp x _ => some x
  | .opJmpc x _ => some x
  | .opJmpcn x _ => some x
  | .opCall x _ => some x
  | .opCallc x _ => some x
  | .opCallcn x _ => some x
  | .opRet x _ => some x
  | .opRetc x _ => some x
  | .opRetcn x _ => some x
  | .opFor x _ _ => some x
  | .opForw x _ _ => some x
  | .opNext x _ => some x
  | .opLeave x _ => some x
  | .opLidx x _ => some x
  | .opSegment x _ => some x
  | .opEnd x _ => some x
  | .opEndc x _ => some x
  | .opWdserv x _ => some x
  | .opEvpost x _ => some x
  | .opAgree x _ => some x
  | .opImmin x _ => some x
  | .opImminw x _ => some x
  | .opImmout x _ => some x
  | .opImmoutw x _ => some x
  | .opLdw x _ => some x
  | .opStw x _ => some x
  | .opLdk x _ => some x
  | .opLdkh x _ => some x
  | .opAdd x _ => some x
  | .opSub x _ => some x
  | .opMul x _ => some x
  | .opDiv x _ => some x
  | .opMod x _ => some x
  | .opAddu x _ => some x
  | .opSubu x _ => some x
  | .opNeg x _ => some x
  | .opAbs x _ => some x
  | .opAndw x _ => some x
  | .opOrw x _ => some x
  | .opXorw x _ => some x
  | .opNotw x _ => some x
  | .opShlw x _ => some x
  | .opShrw x _ => some x
  | .opSarw x _ => some x
  | .opRolw x _ => some x
  | .opEq x _ => some x
  | .opNe x _ => some x
  | .opLt x _ => some x
  | .opLe x _ => some x
  | .opGt x _ => some x
  | .opGe x _ => some x
  | .opLtu x _ => some x
  | .opGeu x _ => some x
  | .opMinw x _ => some x
  | .opMaxw x _ => some x
  | .opLimw x _ => some x
  | .opAddk x _ => some x
  | .opSelw x _ => some x
  | .opMovw x _ _ => some x
  | .opLdqw x _ => some x
  | .opTon x _ => some x
  | .opTof x _ => some x
  | .opTp x _ => some x
  | .opTonr x _ => some x
  | .opTrst x _ => some x
  | .opCtu x _ => some x
  | .opCtd x _ => some x
  | .opCtud x _ => some x
  | .opCrst x _ => some x
  | .opCldv x _ => some x
  | .opEdgep x _ => some x
  | .opEdgen x _ => some x
  | .opShfb x _ _ => some x
  | .opShfw x _ _ => some x
  | .opFadd x _ => some x
  | .opFsub x _ => some x
  | .opFmul x _ => some x
  | .opFdiv x _ => some x
  | .opFsqrt x _ => some x
  | .opFlt x _ => some x
  | .opFeq x _ => some x
  | .opItof x _ => some x
  | .opFtoi x _ => some x
  | .opDadd x _ _ => some x
  | .opDsub x _ _ => some x
  | .opDmul x _ _ => some x
  | .opDdiv x _ _ => some x
  | .opDsqrt x _ _ => some x
  | .opDlt x _ _ => some x
  | .opFtod x _ _ => some x
  | .opDtof x _ _ => some x
  | .opPid x _ => some x
  | .opLag x _ => some x
  | .opRlim x _ => some x
  | .undefinedOpcode x _ _ => some x
  | .squashedCoprocComplete x => some x
  | _ => none

/-- The events and operations that write no byte of the process image: neither publication, transit, a program change nor a restart can follow
from one of them. -/
def leavesImage : Instr → Bool
  | .cycleStart _ => true
  | .eventTaskStart _ => true
  | .fireReport _ _ => true
  | .fireMatchTimeout _ => true
  | .snapshotClose _ => true
  | .stationDigest _ _ _ _ _ => true
  | .copyRequest _ _ _ _ => true
  | .stationCopy _ _ _ => true
  | .agreementTimeout _ => true
  | .immediateFrameSend _ => true
  | .acyclicFrameSend _ => true
  | .budgetOverrun _ => true
  | .inputPublication _ => true
  | .writeSetRequest _ _ => true
  | .overrunNotice _ _ => true
  | .faultNotice _ _ => true
  | .frameDisplacedNotice _ => true
  | .earlyServiceNotice _ _ => true
  | .expiryNotice _ => true
  | .watchdogExpiry _ => true
  | .runPaceWindow _ _ _ => true
  | .vcoreRegulatorStep _ => true
  | .marginCheckStart => true
  | .islandWake _ => true
  | .islandWakeFail _ => true
  | .crossingResetNotice _ => true
  | .crossingReopen _ => true
  | .changeSwitch => true
  | .switchAtConfirm _ => true
  | .changeConfirmDeadline => true
  | .forceEffective => true
  | .forceTableExchange _ => true
  | .hostWriteEffective => true
  | .stationTableApply _ => true
  | .gateEntryApply => true
  | .revocationApply => true
  | .discoverSend _ => true
  | .segmentDelayMeasure _ _ => true
  | .backgroundCycle _ => true
  | .acycResponseFrame _ => true
  | .acyclicRetry _ => true
  | .acyclicMirror _ => true
  | .portLinkChange _ _ => true
  | .portLoopbackTest _ _ => true
  | .partnerRingFrame _ => true
  | .closureHeartbeat _ _ _ _ => true
  | .closureDelayMeasure _ _ _ _ _ => true
  | .linkFrameResend _ _ _ => true
  | .linkLossOfLock _ => true
  | .linkReset => true
  | .scrubberRepair _ => true
  | .feedLost _ => true
  | .healthyPresent => true
  | .ownerClaimChange _ => true
  | .handoverPulse => true
  | .handoverProposal _ _ => true
  | .handoverAck _ => true
  | .handoverCancel => true
  | .revertHoldoffExpiry => true
  | .joinRequest _ => true
  | .autoRejoin _ => true
  | .patternTest _ _ => true
  | .proofTestDone _ => true
  | .shareChange _ => true
  | .feedSwitchClose _ => true
  | .seatedLost => true
  | .slotIdChange _ _ _ => true
  | .lampTestEnd => true
  | .partFetchTimeout => true
  | .updateChunkForward _ _ _ _ => true
  | .almanacFlashCopy _ => true
  | .ref10mValid => true
  | .ref10mLost => true
  | .ptpSync _ _ _ => true
  | .ptpFollowUp _ _ _ => true
  | .ptpAnnounce _ _ _ => true
  | .ptpDelayReq _ _ => true
  | .ptpDelayResp _ _ => true
  | .ptpPdelayReq _ _ => true
  | .ptpPdelayResp _ _ => true
  | .ptpPdelayRespFollowUp _ _ => true
  | .ptpSyncInterval _ => true
  | .ptpAnnounceInterval _ => true
  | .ptpDelayInterval _ => true
  | .announceReceiptTimeout _ => true
  | .selectDelayExpiry => true
  | .leapSecond _ => true
  | .ringTimeHoldover => true
  | .ppsOutEdge => true
  | .ppsOutFall => true
  | .ppsInEdge _ => true
  | .timeAlarm _ => true
  | .diEdge _ _ _ => true
  | .outputStageSilence => true
  | .doThermalShutdown _ => true
  | .doThermalRestart _ => true
  | .doFaultSet => true
  | .doFaultClear => true
  | .aiStatusChange _ _ _ => true
  | .aoLoopLow _ => true
  | .openLoop _ _ => true
  | .hartResponse _ _ _ => true
  | .hartAttemptTimeout _ _ => true
  | .hartMirror _ => true
  | .hartReplyHoldExpiry _ => true
  | .canFrameReceived _ _ _ _ _ => true
  | .canTxComplete _ _ => true
  | .canTxError _ _ => true
  | .canBusOff _ => true
  | .canBusOffRecovery _ => true
  | .dominantTimeout _ => true
  | .canMirror _ _ => true
  | .rateDetectTimeout _ => true
  | .basicCycleStart _ _ => true
  | .referenceWatchTimeout _ => true
  | .ttWindow _ _ => true
  | .periodMs _ _ => true
  | .ttSyncLoss _ => true
  | .keyChallenge _ => true
  | .tagSerialAnswer _ _ _ => true
  | .keySlotsEnd => true
  | .credential _ => true
  | .lightFlooding => true
  | .floodQuiet => true
  | .keyLockoutEnd => true
  | .keyHoldExpiry => true
  | .signatureOperationDone _ _ => true
  | .sessionIdleExpiry _ => true
  | .halfOpenExpiry _ => true
  | .quiesceLeaseExpiry _ => true
  | .reassemblyTimeout _ => true
  | .cmWrite _ _ => true
  | .cmBlockRefresh _ _ _ => true
  | .ref10mLocked => true
  | .lossOfPower => true
  | .mainReferenceStop => true
  | .stageFault _ _ => true
  | .plantPortLinkChange _ _ => true
  | .partFetchRequest => true
  | .identityRequest => true
  | .recomputeRequest _ _ _ => true
  | .eccPatrolPass _ _ => true
  | .seatedOpening => true
  | .updateDr _ => true
  | .captureDr _ _ _ => true
  | _ => false

/-! ### Gelit requests -/

/-- The state after a command that has left the module as `t` has replied (R441, R449). -/
def replied (c : Cmd) (r : Req) (t : State) (status : Nat) (body : List Byte) : State :=
  (t.finish (r.ticket c) status body).closeLast r.session

/-- The row of the command tables and the request of a Gelit command; none for a command that is no Gelit request. The privilege of an abort is that
of the transaction it names (R464). -/
def gelitOf (s : State) : Instr → Option (Cmd × Req)
  | .sessionOpen r _ => some (cmdSessionOpen, r)
  | .sessionConfirm r _ => some (cmdSessionConfirm, r)
  | .sessionClose r => some (⟨0x0003, true, 1, false, .EL, true⟩, r)
  | .moduleIdentity r => some (⟨0x0004, true, 1, false, .EL, true⟩, r)
  | .moduleCapability r => some (⟨0x0005, true, 1, false, .EL, true⟩, r)
  | .moduleState r => some (⟨0x0101, true, 1, false, .EL, true⟩, r)
  | .moduleTestHold r => some (⟨0x0102, true, 2, false, .solo, false⟩, r)
  | .moduleRestart r => some (⟨0x0103, true, 2, false, .E, false⟩, r)
  | .funcQuiesce r => some (⟨0x0201, true, 2, false, .E, false⟩, r)
  | .funcStage r => some (⟨0x0202, true, 2, false, .E, false⟩, r)
  | .funcRestart r => some (⟨0x0203, true, 2, false, .E, false⟩, r)
  | .funcDiscard r => some (⟨0x0204, true, 2, false, .E, false⟩, r)
  | .funcRead r => some (⟨0x0205, true, 1, false, .E, false⟩, r)
  | .funcStatus r => some (⟨0x0206, true, 1, false, .E, false⟩, r)
  | .progLoadBegin r => some (⟨0x0301, true, 2, true, .O, false⟩, r)
  | .progLoadWrite r => some (⟨0x0302, true, 2, true, .O, false⟩, r)
  | .progLoadCheck r _ => some (⟨0x0303, true, 2, true, .O, false⟩, r)
  | .progStart r => some (⟨0x0304, true, 2, true, .O, false⟩, r)
  | .progStop r => some (⟨0x0305, true, 2, true, .O, false⟩, r)
  | .progUnload r => some (⟨0x0306, true, 2, true, .O, false⟩, r)
  | .progTenantStatus r => some (⟨0x0307, true, 1, true, .E, false⟩, r)
  | .progChangeBegin r => some (⟨0x0308, true, 2, true, .O, false⟩, r)
  | .progChangeWrite r => some (⟨0x0309, true, 2, true, .O, false⟩, r)
  | .progChangeCheck r _ => some (⟨0x030A, true, 2, true, .O, false⟩, r)
  | .progChangeArm r => some (⟨0x030B, true, 2, true, .O, false⟩, r)
  | .progChangeAbort r => some (⟨0x030C, true, 2, true, .O, false⟩, r)
  | .progChangeStatus r => some (⟨0x030D, true, 1, true, .E, false⟩, r)
  | .progLanternLoad r _ => some (⟨0x030E, true, 2, false, .OL, false⟩, r)
  | .dataRead r => some (⟨0x0401, true, 1, true, .E, false⟩, r)
  | .dataReadProvisional r => some (⟨0x0402, true, 1, true, .E, false⟩, r)
  | .dataWrite r => some (⟨0x0403, true, 1, true, .O, false⟩, r)
  | .forceSet r => some (⟨0x0404, true, 2, false, .O, false⟩, r)
  | .forceClear r => some (⟨0x0405, true, 2, false, .O, false⟩, r)
  | .forceClearAll r => some (⟨0x0406, true, 2, false, .O, false⟩, r)
  | .forceList r => some (⟨0x0407, true, 1, false, .E, false⟩, r)
  | .ringReadStatus r => some (⟨0x0501, true, 1, false, .E, false⟩, r)
  | .ringLoadConfig r => some (⟨0x0502, true, 2, false, .O, false⟩, r)
  | .ringReadStation r => some (⟨0x0503, true, 1, false, .E, false⟩, r)
  | .acyclicRead r => some (⟨0x0504, true, acyclicPriv (field r.payload 4 1), false, .E, false⟩, r)
  | .acyclicWrite r => some (⟨0x0504, true, acyclicPriv (field r.payload 4 1), false, .E, false⟩, r)
  | .alarmFetch r => some (⟨0x0504, true, acyclicPriv (field r.payload 4 1), false, .E, false⟩, r)
  | .ringAcyclicAbort r => some (⟨0x0505, true, acyclicPriv (((s.acyclicOf r.session (field r.payload 0 4)).map (·.req.op)).getD 1), false, .E, false⟩, r)
  | .pairStatus r => some (⟨0x0601, true, 1, false, .E, false⟩, r)
  | .pairAssume r => some (⟨0x0602, true, 2, false, .OL, false⟩, r)
  | .pairHandover r => some (⟨0x0603, true, 2, false, .O, false⟩, r)
  | .pairRejoin r _ => some (⟨0x0604, true, 2, false, .E, false⟩, r)
  | .pairHealthAck r => some (⟨0x0605, true, 2, false, .E, false⟩, r)
  | .pairProofTest r => some (⟨0x0606, true, 2, false, .E, false⟩, r)
  | .timeRead r => some (⟨0x0701, true, 1, false, .E, false⟩, r)
  | .timeDomainStatus r => some (⟨0x0702, true, 1, false, .E, false⟩, r)
  | .timeSetPlant r => some (⟨0x0703, true, 2, false, .E, false⟩, r)
  | .timeAlarmWrite r => some (⟨0x0704, true, 2, false, .O, false⟩, r)
  | .timeAlarmRead r => some (⟨0x0705, true, 1, false, .E, false⟩, r)
  | .localRead r => some (⟨0x0801, true, 1, false, .E, false⟩, r)
  | .hartTransact r => some (⟨0x0802, true, 2, false, .O, false⟩, r)
  | .canStatus r => some (⟨0x0901, true, 1, false, .E, false⟩, r)
  | .canFilterWrite r => some (⟨0x0902, true, 2, false, .E, false⟩, r)
  | .canFilterRead r => some (⟨0x0903, true, 1, false, .E, false⟩, r)
  | .canSend r => some (⟨0x0904, true, 2, false, .O, false⟩, r)
  | .canReceive r => some (⟨0x0905, true, 1, false, .E, false⟩, r)
  | .canScheduleWrite r => some (⟨0x0906, true, 2, false, .E, false⟩, r)
  | .secGateRead r => some (⟨0x0A01, true, 2, false, .E, false⟩, r)
  | .secGateWrite r => some (⟨0x0A02, true, 2, false, .O, false⟩, r)
  | .secAuthorityInstall r _ => some (⟨0x0A03, true, 2, false, .EL, true⟩, r)
  | .secModuleCertInstall r _ => some (⟨0x0A04, true, 2, false, .EL, true⟩, r)
  | .secRevoke r => some (⟨0x0A05, true, 2, false, .O, false⟩, r)
  | .secKeyStatus r => some (⟨0x0A06, true, 1, false, .EL, true⟩, r)
  | .updateBegin r => some (⟨0x0B01, true, 2, false, .EL, false⟩, r)
  | .updateWrite r => some (⟨0x0B02, true, 2, false, .EL, false⟩, r)
  | .updateVerify r _ _ _ => some (⟨0x0B03, true, 2, false, .EL, false⟩, r)
  | .updateActivateModule r => some (⟨0x0B04, true, 2, false, .EL, false⟩, r)
  | .updateActivatePair r => some (⟨0x0B04, true, 2, false, .EL, false⟩, r)
  | .updateAbort r => some (⟨0x0B05, true, 2, false, .EL, false⟩, r)
  | .updateStatus r => some (⟨0x0B06, true, 1, false, .EL, false⟩, r)
  | .almanacRead r => some (⟨0x0C01, true, 1, false, .EL, false⟩, r)
  | .almanacClear r _ => some (⟨0x0C02, true, 2, false, .E, false⟩, r)
  | .almanacStatus r => some (⟨0x0C03, true, 1, false, .E, false⟩, r)
  | .diagCounterRead r => some (⟨0x0D01, true, 1, false, .E, false⟩, r)
  | .diagCounterSelect r => some (⟨0x0D02, true, 2, false, .E, false⟩, r)
  | .diagWatchdogRead r => some (⟨0x0D03, true, 1, false, .E, false⟩, r)
  | .diagStrandStatus r => some (⟨0x0D04, true, 1, false, .E, false⟩, r)
  | .diagTaskSpec r => some (⟨0x0D05, true, 1, true, .E, false⟩, r)
  | .diagDisplacedRead r => some (⟨0x0D06, true, 2, true, .E, false⟩, r)
  | .diagTagRead r => some (⟨0x0D07, true, 1, false, .E, false⟩, r)
  | .debugOpen r => some (⟨0x0D08, true, 2, true, .SB, false⟩, r)
  | .debugHalt r => some (⟨0x0D09, true, 2, true, .SB, false⟩, r)
  | .debugStep r => some (⟨0x0D09, true, 2, true, .SB, false⟩, r)
  | .debugRun r => some (⟨0x0D09, true, 2, true, .SB, false⟩, r)
  | .debugSetBreak r => some (⟨0x0D09, true, 2, true, .SB, false⟩, r)
  | .debugClearBreak r => some (⟨0x0D09, true, 2, true, .SB, false⟩, r)
  | .debugRead r => some (⟨0x0D0A, true, 2, true, .SB, false⟩, r)
  | .debugWrite r => some (⟨0x0D0B, true, 2, true, .SB, false⟩, r)
  | .debugClose r => some (⟨0x0D0C, true, 2, true, .SB, false⟩, r)
  | .unknownOpcode r op => some (⟨op, false, 0, false, .EL, true⟩, r)
  | _ => none

end Sys2Proof.Claims
end

