-- ==== Sys2Proof/Certificates/Slice0/Obligations.lean ====
section
/-! DEFINITION. The statements for the provers. Each says which rules of spec/ it formalises. -/
open Sys2Proof Sys2Proof.Machine Sys2Proof.Claims


/-- NOT, SET1, CLR0, LDWB, STWB, NOP: the rows of R105 and R112 that use registers only. ACC and WACC become what the table says, the marks of R218
follow, PC stands after the instruction, and nothing else of the machine changes but the lane's count and cost. -/
def Obligations.AccumulatorInstructions : Prop :=
  ∀ (x : Exec) (w : BitVec 24) (s : State) (b : Start),
    (startOf 0x12 x w 0 s = some b →
      exec (.opNot x w) s = .next (b.ends (b.lane.setAcc (!b.lane.regs.acc) b.lane.regs.accMark)))
    ∧ (startOf 0x13 x w 0 s = some b → exec (.opSet1 x w) s = .next (b.ends (b.lane.setAcc true false)))
    ∧ (startOf 0x14 x w 0 s = some b → exec (.opClr0 x w) s = .next (b.ends (b.lane.setAcc false false)))
    ∧ (startOf 0x15 x w 0 s = some b →
        exec (.opLdwb x w) s = .next (b.ends (b.lane.setAcc (b.lane.regs.wacc.getLsbD (w.extractLsb' 0 5).toNat) b.lane.regs.waccMark)))
    ∧ (startOf 0x16 x w 0 s = some b →
        exec (.opStwb x w) s = .next (b.ends (b.lane.setWacc
          (if b.lane.regs.acc then b.lane.regs.wacc ||| (1#32 <<< (w.extractLsb' 0 5).toNat)
           else b.lane.regs.wacc &&& ~~~ (1#32 <<< (w.extractLsb' 0 5).toNat))
          (b.lane.regs.waccMark || b.lane.regs.accMark))))
    ∧ (startOf 0xC0 x w 0 s = some b → exec (.opNop x w) s = .next (b.ends b.lane))

/-- LD to XORN, R105: the bit operand is read, ACC becomes what the table says of ACC and the bit, and its mark is the operand's, and ACC's own where the
operation uses ACC. ST, STN, SETB, RSTB, TGL, R105: where the table says that the operand is written, one byte-masked write of its word goes the way
of every store (R181), the operand's bit in it being ACC, NOT ACC, 1, 0 or the operand inverted; where ACC is 0 and the row asks for ACC, nothing is
written. -/
def Obligations.BitInstructions : Prop :=
  (∀ (x : Exec) (w : BitVec 24) (s : State) (b : Start) (v m : Bool) (l : Lane),
      b.env.readBit b.lane b.o1 = .ok (v, m, l) →
      (startOf 0x00 x w 0 s = some b → exec (.opLd x w) s = .next (b.ends (l.setAcc v m)))
      ∧ (startOf 0x01 x w 0 s = some b → exec (.opLdn x w) s = .next (b.ends (l.setAcc (!v) m)))
      ∧ (startOf 0x02 x w 0 s = some b →
          exec (.opAnd x w) s = .next (b.ends (l.setAcc (l.regs.acc && v) (m || l.regs.accMark))))
      ∧ (startOf 0x03 x w 0 s = some b →
          exec (.opAndn x w) s = .next (b.ends (l.setAcc (l.regs.acc && !v) (m || l.regs.accMark))))
      ∧ (startOf 0x04 x w 0 s = some b →
          exec (.opOr x w) s = .next (b.ends (l.setAcc (l.regs.acc || v) (m || l.regs.accMark))))
      ∧ (startOf 0x05 x w 0 s = some b →
          exec (.opOrn x w) s = .next (b.ends (l.setAcc (l.regs.acc || !v) (m || l.regs.accMark))))
      ∧ (startOf 0x06 x w 0 s = some b →
          exec (.opXor x w) s = .next (b.ends (l.setAcc (l.regs.acc ^^ v) (m || l.regs.accMark))))
      ∧ (startOf 0x07 x w 0 s = some b →
          exec (.opXorn x w) s = .next (b.ends (l.setAcc (l.regs.acc ^^ !v) (m || l.regs.accMark)))))
  ∧
  (∀ (x : Exec) (w : BitVec 24) (s : State) (b : Start),
      (∀ l, startOf 0x08 x w 0 s = some b →
        b.env.store b.lane [b.env.bitWrite b.lane b.o1 b.lane.regs.acc b.lane.regs.accMark] = .ok l →
        exec (.opSt x w) s = .next (b.ends l))
      ∧ (∀ l, startOf 0x09 x w 0 s = some b →
        b.env.store b.lane [b.env.bitWrite b.lane b.o1 (!b.lane.regs.acc) b.lane.regs.accMark] = .ok l →
        exec (.opStn x w) s = .next (b.ends l))
      ∧ (∀ l, startOf 0x0A x w 0 s = some b → b.lane.regs.acc = true →
        b.env.store b.lane [b.env.bitWrite b.lane b.o1 true b.lane.regs.accMark] = .ok l →
        exec (.opSetb x w) s = .next (b.ends l))
      ∧ (startOf 0x0A x w 0 s = some b → b.lane.regs.acc = false → exec (.opSetb x w) s = .next (b.ends b.lane))
      ∧ (∀ l, startOf 0x0B x w 0 s = some b → b.lane.regs.acc = true →
        b.env.store b.lane [b.env.bitWrite b.lane b.o1 false b.lane.regs.accMark] = .ok l →
        exec (.opRstb x w) s = .next (b.ends l))
      ∧ (startOf 0x0B x w 0 s = some b → b.lane.regs.acc = false → exec (.opRstb x w) s = .next (b.ends b.lane))
      ∧ (∀ v m l k, startOf 0x19 x w 0 s = some b → b.lane.regs.acc = true → b.env.readBit b.lane b.o1 = .ok (v, m, l) →
        b.env.store l [b.env.bitWrite l b.o1 (!v) (l.regs.accMark || m)] = .ok k →
        exec (.opTgl x w) s = .next (b.ends k))
      ∧ (startOf 0x19 x w 0 s = some b → b.lane.regs.acc = false → exec (.opTgl x w) s = .next (b.ends b.lane)))

/-- Parenthesis and branch-stack instructions, R105, R106, R109, R110: an entry (ACC, operator) is pushed while fewer than 32 are there, and ACC takes the
operand; BPEEK, BPOP and CLOSE work on the top entry above the innermost call's depth, and CLOSE combines it with ACC under the entry's operator. -/
def Obligations.BranchStackInstructions : Prop :=
  ∀ (x : Exec) (w : BitVec 24) (s : State) (b : Start),
    let pushed (op : Nat) : Lane :=
      { b.lane with regs := { b.lane.regs with branch := ⟨b.lane.regs.acc, b.lane.regs.accMark, op⟩ :: b.lane.regs.branch } }
    (∀ v m l, b.lane.regs.branch.length < 32 →
      (b.env.readBit (pushed 1) b.o1 = .ok (v, m, l) → startOf 0x0C x w 0 s = some b → exec (.opAndp x w) s = .next (b.ends (l.setAcc v m)))
      ∧ (b.env.readBit (pushed 2) b.o1 = .ok (v, m, l) → startOf 0x0D x w 0 s = some b → exec (.opAndnp x w) s = .next (b.ends (l.setAcc v m)))
      ∧ (b.env.readBit (pushed 3) b.o1 = .ok (v, m, l) → startOf 0x0E x w 0 s = some b → exec (.opOrp x w) s = .next (b.ends (l.setAcc v m)))
      ∧ (b.env.readBit (pushed 4) b.o1 = .ok (v, m, l) → startOf 0x0F x w 0 s = some b → exec (.opOrnp x w) s = .next (b.ends (l.setAcc v m)))
      ∧ (b.env.readBit (pushed 5) b.o1 = .ok (v, m, l) → startOf 0x10 x w 0 s = some b → exec (.opXorp x w) s = .next (b.ends (l.setAcc v m)))
      ∧ (b.env.readBit (pushed 6) b.o1 = .ok (v, m, l) → startOf 0x11 x w 0 s = some b → exec (.opXornp x w) s = .next (b.ends (l.setAcc v m)))
      ∧ (startOf 0xD0 x w 0 s = some b → exec (.opBpush x w) s = .next (b.ends (pushed 0))))
    ∧ (∀ t rest, b.lane.regs.branch = t :: rest → ((b.lane.regs.calls.head?.map (·.branchDepth)).getD 0) < b.lane.regs.branch.length →
      let popped : Lane := { b.lane with regs := { b.lane.regs with branch := rest } }
      (startOf 0xD1 x w 0 s = some b → exec (.opBpeek x w) s = .next (b.ends (b.lane.setAcc t.value t.mark)))
      ∧ (startOf 0xD2 x w 0 s = some b → exec (.opBpop x w) s = .next (b.ends (popped.setAcc t.value t.mark)))
      ∧ (startOf 0xD3 x w 0 s = some b → t.op = 0 →
          exec (.opClose x w) s = .next (b.ends (popped.setAcc b.lane.regs.acc b.lane.regs.accMark)))
      ∧ (∀ f : Bool → Bool → Bool,
          ((t.op = 1 ∧ f = fun v a => v && a) ∨ (t.op = 2 ∧ f = fun v a => v && !a) ∨ (t.op = 3 ∧ f = fun v a => v || a)
            ∨ (t.op = 4 ∧ f = fun v a => v || !a) ∨ (t.op = 5 ∧ f = fun v a => v ^^ a) ∨ (t.op = 6 ∧ f = fun v a => v ^^ !a)) →
          startOf 0xD3 x w 0 s = some b →
          exec (.opClose x w) s = .next (b.ends (popped.setAcc (f t.value b.lane.regs.acc) (b.lane.regs.accMark || t.mark)))))

/-- LDQG, LDQU, LDQW, R107 and R140: the word of the operand is read for its quality, and ACC says whether the signal that holds the bit is GOOD, or GOOD
or FORCED; WACC takes the quality code of the word. A quality carries no mark. LDW, STW, LDK, LDKH, SELW, MOVW, R139: moves of words, their marks with
them (R218). -/
def Obligations.QualityAndMoveInstructions : Prop :=
  (∀ (x : Exec) (w : BitVec 24) (s : State) (b : Start) (v : Word) (l : Lane),
      b.env.readI b.lane b.o1.word true = .ok (v, l) →
      let q := b.env.ver.bitQuality b.env.qualities b.o1.word (b.o1.index % 32)
      (startOf 0x17 x w 0 s = some b → exec (.opLdqg x w) s = .next (b.ends (l.setAcc (decide (q = .good)) false)))
      ∧ (startOf 0x18 x w 0 s = some b → exec (.opLdqu x w) s = .next (b.ends (l.setAcc (decide (q = .good ∨ q = .forced)) false)))
      ∧ (startOf 0x63 x w 0 s = some b →
          exec (.opLdqw x w) s = .next (b.ends
            (l.setWacc (BitVec.ofNat 32 (b.env.ver.wordQuality b.env.qualities b.o1.word).code) false))))
  ∧
  (∀ (x : Exec) (w : BitVec 24) (e : Word) (s : State) (b : Start),
      (∀ v m l, b.env.readOp b.lane b.o1 = .ok (v, m, l) → startOf 0x40 x w 0 s = some b →
        exec (.opLdw x w) s = .next (b.ends (l.setWacc v m)))
      ∧ (∀ l, startOf 0x41 x w 0 s = some b →
        b.env.store b.lane [⟨b.env.addr b.o1.area b.o1.word, 0xFFFFFFFF, b.lane.regs.wacc, b.lane.regs.waccMark⟩] = .ok l →
        exec (.opStw x w) s = .next (b.ends l))
      ∧ (startOf 0x42 x w 0 s = some b →
        exec (.opLdk x w) s = .next (b.ends (b.lane.setWacc ((w.extractLsb' 0 16).signExtend 32) false)))
      ∧ (startOf 0x43 x w 0 s = some b →
        exec (.opLdkh x w) s = .next (b.ends (b.lane.setWacc
          ((w.extractLsb' 0 16) ++ (b.lane.regs.wacc.extractLsb' 0 16)) b.lane.regs.waccMark)))
      ∧ (∀ v m l, b.env.readOp b.lane b.o1 = .ok (v, m, l) → b.lane.regs.acc = true → startOf 0x61 x w 0 s = some b →
        exec (.opSelw x w) s = .next (b.ends (l.setWacc v (m || l.regs.accMark))))
      ∧ (b.lane.regs.acc = false → startOf 0x61 x w 0 s = some b →
        exec (.opSelw x w) s = .next (b.ends (b.lane.setWacc b.lane.regs.wacc (b.lane.regs.waccMark || b.lane.regs.accMark))))
      ∧ (∀ v m l k, b.env.readOp b.lane b.o2 = .ok (v, m, l) → startOf 0x62 x w e s = some b →
        b.env.store l [⟨b.env.addr b.o1.area b.o1.word, 0xFFFFFFFF, v, m⟩] = .ok k →
        exec (.opMovw x w e) s = .next (b.ends k)))

/-- The checked rows of R139 and R138: the signed result goes to WACC where it fits in 32 bits; DIV truncates towards zero and MOD has the sign of the
dividend, where the divisor is not zero. Integer faults, R138 and R139: a checked result that does not fit is ARITH-OVERFLOW (code 9), a divisor of
zero DIVIDE-BY-ZERO (code 8); the instruction has no effect on the registers, and PC names it. -/
def Obligations.CheckedArithmetic : Prop :=
  (∀ (x : Exec) (w : BitVec 24) (s : State) (b : Start),
      let fits (i : Int) : Prop := -2147483648 ≤ i ∧ i ≤ 2147483647
      (∀ v m l, b.env.readOp b.lane b.o1 = .ok (v, m, l) →
        let res (i : Int) : State := b.ends (l.setWacc (BitVec.ofInt 32 i) (m || l.regs.waccMark))
        let a := l.regs.wacc.toInt
        (fits (a + v.toInt) → startOf 0x44 x w 0 s = some b → exec (.opAdd x w) s = .next (res (a + v.toInt)))
        ∧ (fits (a - v.toInt) → startOf 0x45 x w 0 s = some b → exec (.opSub x w) s = .next (res (a - v.toInt)))
        ∧ (fits (a * v.toInt) → startOf 0x46 x w 0 s = some b → exec (.opMul x w) s = .next (res (a * v.toInt)))
        ∧ (v ≠ 0 → fits (Int.tdiv a v.toInt) → startOf 0x47 x w 0 s = some b →
            exec (.opDiv x w) s = .next (res (Int.tdiv a v.toInt)))
        ∧ (v ≠ 0 → startOf 0x48 x w 0 s = some b → exec (.opMod x w) s = .next (res (Int.tmod a v.toInt))))
      ∧ (let res (i : Int) : State := b.ends (b.lane.setWacc (BitVec.ofInt 32 i) b.lane.regs.waccMark)
        let a := b.lane.regs.wacc.toInt
        (fits (-a) → startOf 0x4B x w 0 s = some b → exec (.opNeg x w) s = .next (res (-a)))
        ∧ (fits a.natAbs → startOf 0x4C x w 0 s = some b → exec (.opAbs x w) s = .next (res a.natAbs))
        ∧ (fits (a + ((w.extractLsb' 0 16).signExtend 32).toInt) → startOf 0x60 x w 0 s = some b →
            exec (.opAddk x w) s = .next (res (a + ((w.extractLsb' 0 16).signExtend 32).toInt)))))
  ∧
  (∀ (x : Exec) (w : BitVec 24) (s : State) (b : Start),
      let out (i : Int) : Prop := i < -2147483648 ∨ 2147483647 < i
      (∀ v m l, b.env.readOp b.lane b.o1 = .ok (v, m, l) →
        let a := l.regs.wacc.toInt
        (out (a + v.toInt) → startOf 0x44 x w 0 s = some b → exec (.opAdd x w) s = .next (b.faults w 9 0))
        ∧ (out (a - v.toInt) → startOf 0x45 x w 0 s = some b → exec (.opSub x w) s = .next (b.faults w 9 0))
        ∧ (out (a * v.toInt) → startOf 0x46 x w 0 s = some b → exec (.opMul x w) s = .next (b.faults w 9 0))
        ∧ (v = 0 → startOf 0x47 x w 0 s = some b → exec (.opDiv x w) s = .next (b.faults w 8 0))
        ∧ (v = -1 → l.regs.wacc = 0x80000000 → startOf 0x47 x w 0 s = some b → exec (.opDiv x w) s = .next (b.faults w 9 0))
        ∧ (v = 0 → startOf 0x48 x w 0 s = some b → exec (.opMod x w) s = .next (b.faults w 8 0)))
      ∧ (b.lane.regs.wacc = 0x80000000 →
        (startOf 0x4B x w 0 s = some b → exec (.opNeg x w) s = .next (b.faults w 9 0))
        ∧ (startOf 0x4C x w 0 s = some b → exec (.opAbs x w) s = .next (b.faults w 9 0)))
      ∧ (out (b.lane.regs.wacc.toInt + ((w.extractLsb' 0 16).signExtend 32).toInt) → startOf 0x60 x w 0 s = some b →
        exec (.opAddk x w) s = .next (b.faults w 9 0)))

/-- The other arithmetic rows of R139: sums and differences modulo 2^32, logic, shifts, the smaller and larger of two, and the limit. -/
def Obligations.ModularAndLogicArithmetic : Prop :=
  ∀ (x : Exec) (w : BitVec 24) (s : State) (b : Start),
    (∀ v m l, b.env.readOp b.lane b.o1 = .ok (v, m, l) →
      let res (r : Word) : State := b.ends (l.setWacc r (m || l.regs.waccMark))
      let a := l.regs.wacc
      (startOf 0x49 x w 0 s = some b → exec (.opAddu x w) s = .next (res (a + v)))
      ∧ (startOf 0x4A x w 0 s = some b → exec (.opSubu x w) s = .next (res (a - v)))
      ∧ (startOf 0x4D x w 0 s = some b → exec (.opAndw x w) s = .next (res (a &&& v)))
      ∧ (startOf 0x4E x w 0 s = some b → exec (.opOrw x w) s = .next (res (a ||| v)))
      ∧ (startOf 0x4F x w 0 s = some b → exec (.opXorw x w) s = .next (res (a ^^^ v)))
      ∧ (startOf 0x5D x w 0 s = some b → exec (.opMinw x w) s = .next (res (BitVec.ofInt 32 (min a.toInt v.toInt))))
      ∧ (startOf 0x5E x w 0 s = some b → exec (.opMaxw x w) s = .next (res (BitVec.ofInt 32 (max a.toInt v.toInt)))))
    ∧ (let res (r : Word) : State := b.ends (b.lane.setWacc r b.lane.regs.waccMark)
      let a := b.lane.regs.wacc
      let n := (w.extractLsb' 0 5).toNat
      (startOf 0x50 x w 0 s = some b → exec (.opNotw x w) s = .next (res (~~~ a)))
      ∧ (startOf 0x51 x w 0 s = some b → exec (.opShlw x w) s = .next (res (a <<< n)))
      ∧ (startOf 0x52 x w 0 s = some b → exec (.opShrw x w) s = .next (res (a >>> n)))
      ∧ (startOf 0x53 x w 0 s = some b → exec (.opSarw x w) s = .next (res (a.sshiftRight n)))
      ∧ (startOf 0x54 x w 0 s = some b → exec (.opRolw x w) s = .next (res (a.rotateLeft n))))
    ∧ (∀ lo hi m l, b.env.readWords b.lane b.o1 = .ok ([lo, hi], m, l) → startOf 0x5F x w 0 s = some b →
      let res (r : Word) : State := b.ends (l.setWacc r (m || l.regs.waccMark))
      (hi.toInt < lo.toInt → exec (.opLimw x w) s = .next (res lo))
      ∧ (lo.toInt ≤ hi.toInt →
          exec (.opLimw x w) s = .next (res (BitVec.ofInt 32 (max lo.toInt (min hi.toInt l.regs.wacc.toInt))))))

/-- The comparisons of R139: ACC becomes the truth of the comparison of WACC and the operand. -/
def Obligations.ComparisonInstructions : Prop :=
  ∀ (x : Exec) (w : BitVec 24) (s : State) (b : Start) (v : Word) (m : Bool) (l : Lane),
    b.env.readOp b.lane b.o1 = .ok (v, m, l) →
    let res (p : Bool) : State := b.ends (l.setAcc p (m || l.regs.waccMark))
    let a := l.regs.wacc
    (startOf 0x55 x w 0 s = some b → exec (.opEq x w) s = .next (res (decide (a = v))))
    ∧ (startOf 0x56 x w 0 s = some b → exec (.opNe x w) s = .next (res (decide (a ≠ v))))
    ∧ (startOf 0x57 x w 0 s = some b → exec (.opLt x w) s = .next (res (decide (a.toInt < v.toInt))))
    ∧ (startOf 0x58 x w 0 s = some b → exec (.opLe x w) s = .next (res (decide (a.toInt ≤ v.toInt))))
    ∧ (startOf 0x59 x w 0 s = some b → exec (.opGt x w) s = .next (res (decide (v.toInt < a.toInt))))
    ∧ (startOf 0x5A x w 0 s = some b → exec (.opGe x w) s = .next (res (decide (v.toInt ≤ a.toInt))))
    ∧ (startOf 0x5B x w 0 s = some b → exec (.opLtu x w) s = .next (res (decide (a.toNat < v.toNat))))
    ∧ (startOf 0x5C x w 0 s = some b → exec (.opGeu x w) s = .next (res (decide (v.toNat ≤ a.toNat))))

/-- The binary32 rows of R159: WACC, or ACC for a comparison, takes the result that IEEE 754 gives, where it is finite and the operation is valid (R157).
The binary64 rows and the conversions of R159: dst ← dst operation src, from memory to memory (R158); DLT tests only and writes nothing. What R157
does not admit, R157 and R222: an operand that is NaN or infinity, or an invalid operation, is FLOAT-INVALID (code 10, the cause in DETAIL), a finite
non-zero value divided by zero DIVIDE-BY-ZERO (8), a result beyond the largest finite value or an integer that does not fit ARITH-OVERFLOW (9): the
instruction has no effect, and PC names it. -/
def Obligations.FloatInstructions : Prop :=
  (∀ (x : Exec) (w : BitVec 24) (s : State) (b : Start),
      (∀ v m l, b.env.readOp b.lane b.o1 = .ok (v, m, l) →
        let mark := m || l.regs.waccMark
        let res (r : Nat) : State := b.ends (l.setWacc (BitVec.ofNat 32 r) mark)
        let a := l.regs.wacc.toNat
        (∀ r, binary32.add a v.toNat = .ok r → startOf 0xA0 x w 0 s = some b → exec (.opFadd x w) s = .next (res r))
        ∧ (∀ r, binary32.sub a v.toNat = .ok r → startOf 0xA1 x w 0 s = some b → exec (.opFsub x w) s = .next (res r))
        ∧ (∀ r, binary32.mul a v.toNat = .ok r → startOf 0xA2 x w 0 s = some b → exec (.opFmul x w) s = .next (res r))
        ∧ (∀ r, binary32.div a v.toNat = .ok r → startOf 0xA3 x w 0 s = some b → exec (.opFdiv x w) s = .next (res r))
        ∧ (∀ p, binary32.lt a v.toNat = .ok p → startOf 0xA5 x w 0 s = some b →
            exec (.opFlt x w) s = .next (b.ends (l.setAcc p mark)))
        ∧ (∀ p, binary32.eq a v.toNat = .ok p → startOf 0xA6 x w 0 s = some b →
            exec (.opFeq x w) s = .next (b.ends (l.setAcc p mark))))
      ∧ (let res (r : Word) : State := b.ends (b.lane.setWacc r b.lane.regs.waccMark)
        let a := b.lane.regs.wacc
        (∀ r, binary32.sqrt a.toNat = .ok r → startOf 0xA4 x w 0 s = some b →
            exec (.opFsqrt x w) s = .next (res (BitVec.ofNat 32 r)))
        ∧ (∀ r, binary32.ofInt a.toInt = .ok r → startOf 0xA7 x w 0 s = some b →
            exec (.opItof x w) s = .next (res (BitVec.ofNat 32 r)))
        ∧ (∀ r, binary32.toInt a.toNat = .ok r → startOf 0xA8 x w 0 s = some b → exec (.opFtoi x w) s = .next (res r))))
  ∧
  (∀ (x : Exec) (w : BitVec 24) (e : Word) (s : State) (b : Start) (a c : Nat) (m n : Bool) (l1 l2 : Lane),
      b.env.readWide b.lane b.o1 = .ok (a, m, l1) → b.env.readWide l1 b.o2 = .ok (c, n, l2) →
      (∀ r l, b.env.storeWide l2 b.o1 r (m || n) = .ok l →
        (binary64.add a c = .ok r → startOf 0xA9 x w e s = some b → exec (.opDadd x w e) s = .next (b.ends l))
        ∧ (binary64.sub a c = .ok r → startOf 0xAA x w e s = some b → exec (.opDsub x w e) s = .next (b.ends l))
        ∧ (binary64.mul a c = .ok r → startOf 0xAB x w e s = some b → exec (.opDmul x w e) s = .next (b.ends l))
        ∧ (binary64.div a c = .ok r → startOf 0xAC x w e s = some b → exec (.opDdiv x w e) s = .next (b.ends l)))
      ∧ (∀ p, binary64.lt a c = .ok p → startOf 0xAE x w e s = some b →
          exec (.opDlt x w e) s = .next (b.ends (l2.setAcc p (m || n))))
      ∧ (∀ d k l3 r l, b.env.readWide b.lane b.o2 = .ok (d, k, l3) → b.env.storeWide l3 b.o1 r k = .ok l →
        (binary64.sqrt d = .ok r → startOf 0xAD x w e s = some b → exec (.opDsqrt x w e) s = .next (b.ends l))
        ∧ (binary32.convert binary64 d = .ok r → startOf 0xAF x w e s = some b → exec (.opFtod x w e) s = .next (b.ends l))
        ∧ (binary64.convert binary32 d = .ok r → startOf 0xB0 x w e s = some b → exec (.opDtof x w e) s = .next (b.ends l))))
  ∧
  (∀ (x : Exec) (w : BitVec 24) (e : Word) (s : State) (b : Start) (code detail : Nat), code ≠ 11 →
      let stop : Stop := .fault code detail
      (∀ v m l, b.env.readOp b.lane b.o1 = .ok (v, m, l) →
        let a := l.regs.wacc.toNat
        (binary32.add a v.toNat = .error stop → startOf 0xA0 x w 0 s = some b → exec (.opFadd x w) s = .next (b.faults w code detail))
        ∧ (binary32.sub a v.toNat = .error stop → startOf 0xA1 x w 0 s = some b → exec (.opFsub x w) s = .next (b.faults w code detail))
        ∧ (binary32.mul a v.toNat = .error stop → startOf 0xA2 x w 0 s = some b → exec (.opFmul x w) s = .next (b.faults w code detail))
        ∧ (binary32.div a v.toNat = .error stop → startOf 0xA3 x w 0 s = some b → exec (.opFdiv x w) s = .next (b.faults w code detail))
        ∧ (binary32.lt a v.toNat = .error stop → startOf 0xA5 x w 0 s = some b → exec (.opFlt x w) s = .next (b.faults w code detail))
        ∧ (binary32.eq a v.toNat = .error stop → startOf 0xA6 x w 0 s = some b → exec (.opFeq x w) s = .next (b.faults w code detail)))
      ∧ (binary32.sqrt b.lane.regs.wacc.toNat = .error stop → startOf 0xA4 x w 0 s = some b →
        exec (.opFsqrt x w) s = .next (b.faults w code detail))
      ∧ (binary32.toInt b.lane.regs.wacc.toNat = .error stop → startOf 0xA8 x w 0 s = some b →
        exec (.opFtoi x w) s = .next (b.faults w code detail))
      ∧ (∀ a c m n l1 l2, b.env.readWide b.lane b.o1 = .ok (a, m, l1) → b.env.readWide l1 b.o2 = .ok (c, n, l2) →
        (binary64.add a c = .error stop → startOf 0xA9 x w e s = some b → exec (.opDadd x w e) s = .next (b.faults w code detail))
        ∧ (binary64.sub a c = .error stop → startOf 0xAA x w e s = some b → exec (.opDsub x w e) s = .next (b.faults w code detail))
        ∧ (binary64.mul a c = .error stop → startOf 0xAB x w e s = some b → exec (.opDmul x w e) s = .next (b.faults w code detail))
        ∧ (binary64.div a c = .error stop → startOf 0xAC x w e s = some b → exec (.opDdiv x w e) s = .next (b.faults w code detail))
        ∧ (binary64.lt a c = .error stop → startOf 0xAE x w e s = some b → exec (.opDlt x w e) s = .next (b.faults w code detail)))
      ∧ (∀ d k l, b.env.readWide b.lane b.o2 = .ok (d, k, l) →
        (binary64.sqrt d = .error stop → startOf 0xAD x w e s = some b → exec (.opDsqrt x w e) s = .next (b.faults w code detail))
        ∧ (binary64.convert binary32 d = .error stop → startOf 0xB0 x w e s = some b → exec (.opDtof x w e) s = .next (b.faults w code detail)))
      ∧ (∀ (f : Fmt) (a c : Nat), f.decode a = none →
        f.add a c = .error (.fault 10 1) ∧ f.sub a c = .error (.fault 10 1) ∧ f.mul a c = .error (.fault 10 1) ∧ f.div a c = .error (.fault 10 1)
        ∧ f.lt a c = .error (.fault 10 1) ∧ f.eq a c = .error (.fault 10 1) ∧ f.sqrt a = .error (.fault 10 1) ∧ f.toInt a = .error (.fault 10 1))
      ∧ (∀ (f : Fmt) (a c : Nat) (p q : Dy), f.decode a = some p → f.decode c = some q → q.m = 0 →
        (p.m = 0 → f.div a c = .error (.fault 10 2)) ∧ (p.m ≠ 0 → f.div a c = .error (.fault 8 0)))
      ∧ (∀ (f : Fmt) (a : Nat) (p : Dy), f.decode a = some p → p.neg = true → p.m ≠ 0 → f.sqrt a = .error (.fault 10 2)))

/-- PID, LAG and RLIM, R163 and R165: the block's words are read, the procedure computes in binary64 with the sample time of R161, and OUT, and for PID
X_PREV, I_STATE and D_STATE, are stored as one unit; WACC becomes OUT, and for PID and RLIM ACC says whether a limit acted. -/
def Obligations.ControlBlockInstructions : Prop :=
  ∀ (x : Exec) (w : BitVec 24) (s : State) (b : Start) (vs : List Word) (m : Bool) (l k : Lane) (dt : Nat),
    b.env.readWords b.lane b.o1 = .ok (vs, m, l) → b.env.dt = .ok dt →
    (∀ p, pidStep dt vs = .ok p →
      let at_ (n : Nat) (v : Word) : WriteRec := ⟨b.env.addr b.o1.area (b.o1.word + n), 0xFFFFFFFF, v, m⟩
      b.env.store l [at_ 8 p.out, at_ 11 p.xPrev, at_ 12 (BitVec.ofNat 32 p.iState), at_ 13 (BitVec.ofNat 32 (p.iState / 2 ^ 32)),
        at_ 14 p.dState] = .ok k →
      startOf 0xB1 x w 0 s = some b → exec (.opPid x w) s = .next (b.ends ((k.setAcc p.limited m).setWacc p.out m)))
    ∧ (∀ r, lagStep dt vs = .ok r → b.env.store l [⟨b.env.addr b.o1.area (b.o1.word + 2), 0xFFFFFFFF, r, m⟩] = .ok k →
      startOf 0xB2 x w 0 s = some b → exec (.opLag x w) s = .next (b.ends (k.setWacc r m)))
    ∧ (∀ r p, rlimStep dt vs = .ok (r, p) → b.env.store l [⟨b.env.addr b.o1.area (b.o1.word + 3), 0xFFFFFFFF, r, m⟩] = .ok k →
      startOf 0xB3 x w 0 s = some b → exec (.opRlim x w) s = .next (b.ends ((k.setAcc p m).setWacc r m)))

/-- The timer instructions, R143 to R147: IN is ACC, the block is read and its ET limited to PT, the row's rule acts on it with the timestamp of R142,
IN_PREV takes IN last of all, words 1 to 3 are stored as one unit, and ACC becomes Q. TRST with ACC = 1 clears ET, REM, Q and RUNNING and keeps
IN_PREV; with ACC = 0 it writes nothing. What the rules of R144 to R147 make of a timer block as it is read, for every timestamp, input, ET and PT:
the execution limits ET to PT, and it never leaves ET above PT; TON and TONR have Q = 1 exactly as the rule says, with a PT of 0 at the first
execution with IN = 1; a block that times has the RUNNING bit that the rule gives it. -/
def Obligations.TimerInstructions : Prop :=
  (∀ (x : Exec) (w : BitVec 24) (s : State) (b : Start),
      (∀ vs m l (f : Word → Bool → TimerBlock → TimerBlock) k, b.env.readWords b.lane b.o1 = .ok (vs, m, l) →
        let blk := { f b.env.now l.regs.acc (limitEt (timerOf vs)) with inPrev := l.regs.acc }
        let mark := m || l.regs.accMark
        b.env.store l (b.env.wordWrites b.o1.area (b.o1.word + 1) (timerWords blk) mark) = .ok k →
        (f = tonStep → startOf 0x80 x w 0 s = some b → exec (.opTon x w) s = .next (b.ends (k.setAcc blk.q mark)))
        ∧ (f = tofStep → startOf 0x81 x w 0 s = some b → exec (.opTof x w) s = .next (b.ends (k.setAcc blk.q mark)))
        ∧ (f = tpStep → startOf 0x82 x w 0 s = some b → exec (.opTp x w) s = .next (b.ends (k.setAcc blk.q mark)))
        ∧ (f = tonrStep → startOf 0x83 x w 0 s = some b → exec (.opTonr x w) s = .next (b.ends (k.setAcc blk.q mark))))
      ∧ (∀ vs m l k, b.env.readWords b.lane b.o1 = .ok (vs, m, l) → b.lane.regs.acc = true →
        b.env.store l (b.env.wordWrites b.o1.area (b.o1.word + 1)
          (timerWords { timerOf vs with et := 0, rem := 0, q := false, running := false }) (m || l.regs.accMark)) = .ok k →
        startOf 0x84 x w 0 s = some b → exec (.opTrst x w) s = .next (b.ends k))
      ∧ (b.lane.regs.acc = false → startOf 0x84 x w 0 s = some b → exec (.opTrst x w) s = .next (b.ends b.lane)))
  ∧
  (∀ (now : Word) (inp : Bool) (u : TimerBlock),
      let t := limitEt u
      (tonStep now inp t).et ≤ u.pt ∧ (tofStep now inp t).et ≤ u.pt ∧ (tpStep now inp t).et ≤ u.pt ∧ (tonrStep now inp t).et ≤ u.pt
      ∧ (tonStep now inp t).running = inp
      ∧ (tonStep now inp t).q = (inp && decide (u.pt ≤ (tonStep now inp t).et))
      ∧ (tonrStep now inp t).q = decide (u.pt ≤ (tonrStep now inp t).et)
      ∧ (tonrStep now inp t).running = inp
      ∧ (u.pt = 0 → inp = true → (tonStep now inp t).q = true ∧ (tonrStep now inp t).q = true)
      ∧ (inp = true → (tofStep now inp t).q = true ∧ (tofStep now inp t).et = 0 ∧ (tofStep now inp t).running = false)
      ∧ (u.running = false → inp = true → u.inPrev = false → 0 < u.pt →
          (tpStep now inp t).q = true ∧ (tpStep now inp t).running = true ∧ (tpStep now inp t).et = 0 ∧ (tpStep now inp t).stamp = now)
      ∧ (u.running = true → (tpStep now inp t).q = true → u.q = true))

/-- The counter instructions, R148 and R149: a count on a rising edge of the input saturates and never faults, the PREV bit takes the input, words 1 and 2
are stored as one unit, and ACC becomes the row's test of CV. -/
def Obligations.CounterInstructions : Prop :=
  ∀ (x : Exec) (w : BitVec 24) (s : State) (b : Start),
    let sat (i : Int) : Int := max (-2147483648) (min 2147483647 i)
    let words (cv : Int) (cu cd : Bool) : List Word :=
      [BitVec.ofInt 32 cv, BitVec.ofNat 32 ((if cu then 1 else 0) + (if cd then 2 else 0))]
    (∀ pv cv c r m l, b.env.readWords b.lane b.o1 = .ok ([pv, cv, c, r], m, l) →
      let a := l.regs.acc
      let mark := m || l.regs.accMark
      let up := a && !c.getLsbD 0
      let down := a && !c.getLsbD 1
      let cvUp : Int := if up then sat (cv.toInt + 1) else cv.toInt
      let cvDown : Int := if down then sat (cv.toInt - 1) else cv.toInt
      (∀ k, b.env.store l (b.env.wordWrites b.o1.area (b.o1.word + 1) (words cvUp a (c.getLsbD 1)) mark) = .ok k →
        startOf 0x85 x w 0 s = some b → exec (.opCtu x w) s = .next (b.ends (k.setAcc (decide (pv.toInt ≤ cvUp)) mark)))
      ∧ (∀ k, b.env.store l (b.env.wordWrites b.o1.area (b.o1.word + 1) (words cvDown (c.getLsbD 0) a) mark) = .ok k →
        startOf 0x86 x w 0 s = some b → exec (.opCtd x w) s = .next (b.ends (k.setAcc (decide (cvDown ≤ 0)) mark)))
      ∧ (let d := l.regs.wacc.getLsbD 0
        let both := m || l.regs.accMark || l.regs.waccMark
        let n : Int := if up then (if d && !c.getLsbD 1 then 0 else 1) else if d && !c.getLsbD 1 then -1 else 0
        let v := sat (cv.toInt + n)
        ∀ k, b.env.store l (b.env.wordWrites b.o1.area (b.o1.word + 1) (words v a d) both) = .ok k →
        startOf 0x87 x w 0 s = some b →
        exec (.opCtud x w) s = .next (b.ends ((k.setAcc (decide (pv.toInt ≤ v)) both).setWacc
          (overlay k.regs.wacc 1 (if v ≤ 0 then 1 else 0)) both))))
    ∧ (∀ k, b.env.store b.lane [⟨b.env.addr b.o1.area (b.o1.word + 1), 0xFFFFFFFF, 0, b.lane.regs.accMark⟩] = .ok k →
      b.lane.regs.acc = true → startOf 0x88 x w 0 s = some b → exec (.opCrst x w) s = .next (b.ends k))
    ∧ (b.lane.regs.acc = false → startOf 0x88 x w 0 s = some b → exec (.opCrst x w) s = .next (b.ends b.lane))
    ∧ (∀ v m l k, b.env.readOp b.lane b.o1 = .ok (v, m, l) → b.lane.regs.acc = true →
      b.env.store l [⟨b.env.addr b.o1.area (b.o1.word + 1), 0xFFFFFFFF, v, m || l.regs.accMark⟩] = .ok k →
      startOf 0x89 x w 0 s = some b → exec (.opCldv x w) s = .next (b.ends k))
    ∧ (b.lane.regs.acc = false → startOf 0x89 x w 0 s = some b → exec (.opCldv x w) s = .next (b.ends b.lane))

/-- EDGEP and EDGEN, R150 to R152: ACC is compared with the committed bit of the edge number, and ACC as it was is recorded, to be written at transit.
SHFB and SHFW, R153 and R154: the register shifts one place towards LEN − 1, the end that opens takes ACC or WACC, ACC or WACC takes what falls out,
bits above the register stay, and the words are stored as one unit. -/
def Obligations.EdgeAndShiftInstructions : Prop :=
  ∀ (x : Exec) (w : BitVec 24) (e : Word) (s : State) (b : Start),
    (let no := (w.extractLsb' 0 16).toNat
      let at_ := b.env.win.edge + no / 8
      let prev := (Cells.read b.base.image.base at_).getLsbD (no % 8)
      let a := b.lane.regs.acc
      let held := b.lane.hold (.edge no a b.lane.regs.accMark)
      (b.env.dbg = none → b.env.gate at_ 0 = none) →
      (startOf 0x8A x w 0 s = some b → exec (.opEdgep x w) s = .next (b.ends (held.setAcc (a && !prev) b.lane.regs.accMark)))
      ∧ (startOf 0x8B x w 0 s = some b → exec (.opEdgen x w) s = .next (b.ends (held.setAcc (prev && !a) b.lane.regs.accMark))))
    ∧ (∀ vs m l k, b.env.readWords b.lane b.o1 = .ok (vs, m, l) →
      let len := (e.extractLsb' 0 13).toNat + 1
      let v := wordsNat vs
      let mark := m || l.regs.accMark
      b.env.store l (b.env.wordWrites b.o1.area b.o1.word (natWords b.o1.words
        ((2 * (v % 2 ^ len) + (if l.regs.acc then 1 else 0)) % 2 ^ len + v / 2 ^ len * 2 ^ len)) mark) = .ok k →
      startOf 0x8C x w e s = some b →
      exec (.opShfb x w e) s = .next (b.ends (k.setAcc ((v % 2 ^ len).testBit (len - 1)) mark)))
    ∧ (∀ vs last m l k, b.env.readWords b.lane b.o1 = .ok (vs ++ [last], m, l) →
      let mark := m || l.regs.waccMark
      b.env.store l (b.env.wordWrites b.o1.area b.o1.word (l.regs.wacc :: vs) mark) = .ok k →
      startOf 0x8D x w e s = some b → exec (.opShfw x w e) s = .next (b.ends (k.setWacc last mark)))

/-- JMP, JMPC, JMPCN, CALL, CALLC, CALLCN, RET, RETC, RETCN, R111 to R114: PC takes the target, or a frame with the offset of the next instruction and the
depths of both stacks is pushed, while fewer than 16 stand; a return takes PC from the innermost frame, and without a frame ends the cycle at its own
offset. A condition that carries a mark sets the path mark (R218). FOR, FORW, NEXT, LEAVE, LIDX, R115 and R116: a count of zero goes to EXIT and opens
no frame; otherwise a frame with REMAINING, INDEX 0, BODY and EXIT is pushed, while fewer than 8 stand; FORW takes at most MAX and then sets
LOOP_CLAMPED; NEXT counts, and returns to BODY or drops the frame; LEAVE drops it and goes to EXIT; LIDX gives INDEX. -/
def Obligations.FlowInstructions : Prop :=
  (∀ (x : Exec) (w : BitVec 24) (s : State) (b : Start),
      let r := b.lane.regs
      let on := b.lane.pathOn r.accMark
      let jump (l : Lane) : Lane := l.setPc (w.setWidth 22)
      let call (l : Lane) : Lane :=
        { l with regs := { l.regs with calls := ⟨l.regs.pc, l.regs.branch.length, l.regs.loops.length⟩ :: l.regs.calls, pc := w.setWidth 22 } }
      (startOf 0xC1 x w 0 s = some b → exec (.opJmp x w) s = .next (b.ends (jump b.lane)))
      ∧ (startOf 0xC2 x w 0 s = some b → exec (.opJmpc x w) s = .next (b.ends (if r.acc then jump on else on)))
      ∧ (startOf 0xC3 x w 0 s = some b → exec (.opJmpcn x w) s = .next (b.ends (if r.acc then on else jump on)))
      ∧ (r.calls.length < 16 →
        (startOf 0xC4 x w 0 s = some b → exec (.opCall x w) s = .next (b.ends (call b.lane)))
        ∧ (startOf 0xC5 x w 0 s = some b → exec (.opCallc x w) s = .next (b.ends (if r.acc then call on else on)))
        ∧ (startOf 0xC6 x w 0 s = some b → exec (.opCallcn x w) s = .next (b.ends (if r.acc then on else call on))))
      ∧ (∀ f rest, r.calls = f :: rest → r.branch.length ≤ f.branchDepth → r.loops.length ≤ f.loopDepth →
        let back (l : Lane) : Lane := { l with regs := { l.regs with calls := rest, pc := f.ret } }
        (startOf 0xC7 x w 0 s = some b → exec (.opRet x w) s = .next (b.ends (back b.lane)))
        ∧ (startOf 0xC8 x w 0 s = some b → exec (.opRetc x w) s = .next (b.ends (if r.acc then back on else on)))
        ∧ (startOf 0xC9 x w 0 s = some b → exec (.opRetcn x w) s = .next (b.ends (if r.acc then on else back on))))
      ∧ (r.calls = [] → r.branch = [] →
        let over_ (l : Lane) : Lane := { l with endAt := some (l.regs.pc - 1) }
        (startOf 0xC7 x w 0 s = some b → exec (.opRet x w) s = .next (b.ends (over_ b.lane)))
        ∧ (startOf 0xC8 x w 0 s = some b → exec (.opRetc x w) s = .next (b.ends (if r.acc then over_ on else on)))
        ∧ (startOf 0xC9 x w 0 s = some b → exec (.opRetcn x w) s = .next (b.ends (if r.acc then on else over_ on)))))
  ∧
  (∀ (x : Exec) (w : BitVec 24) (e : Word) (s : State) (b : Start),
      let r := b.lane.regs
      let max := (w.extractLsb' 0 16).toNat
      let opened (l : Lane) (n : Nat) : Lane :=
        { l with regs := { l.regs with loops := ⟨BitVec.ofNat 32 n, 0, l.regs.pc, e.setWidth 22⟩ :: l.regs.loops } }
      let on := b.lane.pathOn r.waccMark
      (r.loops.length < 8 → startOf 0xCA x w e s = some b → exec (.opFor x w e) s = .next (b.ends (opened b.lane max)))
      ∧ (r.wacc = 0 → startOf 0xCB x w e s = some b → exec (.opForw x w e) s = .next (b.ends (on.setPc (e.setWidth 22))))
      ∧ (r.loops.length < 8 → r.wacc ≠ 0 → startOf 0xCB x w e s = some b →
        (r.wacc.toNat ≤ max → exec (.opForw x w e) s = .next (b.ends (opened on r.wacc.toNat)))
        ∧ (max < r.wacc.toNat → exec (.opForw x w e) s = .next (b.ends { opened on max with flags := b.lane.flags ||| 2 })))
      ∧ (∀ f rest, r.loops = f :: rest → ((r.calls.head?.map (·.loopDepth)).getD 0) < r.loops.length →
        let dropped : Regs := { r with loops := rest }
        (f.remaining = 1 → startOf 0xCC x w 0 s = some b → exec (.opNext x w) s = .next (b.ends { b.lane with regs := dropped }))
        ∧ (f.remaining ≠ 1 → startOf 0xCC x w 0 s = some b →
            exec (.opNext x w) s = .next (b.ends { b.lane with regs := { r with
              loops := { f with index := f.index + 1, remaining := f.remaining - 1 } :: rest, pc := f.body } }))
        ∧ (startOf 0xCD x w 0 s = some b → exec (.opLeave x w) s = .next (b.ends { b.lane with regs := { dropped with pc := f.exit } }))
        ∧ (startOf 0xCE x w 0 s = some b → exec (.opLidx x w) s = .next (b.ends (b.lane.setWacc f.index false)))))

/-- SEGMENT, END, ENDC, R118 to R121 and R180: the next segment opens, and while the task speculates its restart state is recorded, where fewer than 256
records stand on the strand's lane; the cycle ends with an empty branch stack, and only where ENDC's ACC is 1. WDSERV, EVPOST, IMMIN, IMMINW, IMMOUT,
IMMOUTW, R122 to R130: the service and the post are recorded for transit; a native immediate read gives the input as it is now, marked, and enters the
log; an immediate write is stored as ST stores, and the value is queued for release while fewer than 32 stand, but not under debug. AGREE and agreed
immediates, R127 and R217: both lanes stand at the instruction, lane 0 executes it, and lane 1 then takes lane 0's ACC, WACC or both; lane 0's
registers do not change at AGREE, and no mark is cleared. SQUASHED_COPROC_COMPLETE, R195: the record of the squashed segment is restored. -/
def Obligations.TransitAndRendezvousInstructions : Prop :=
  (∀ (x : Exec) (w : BitVec 24) (s : State) (b : Start),
      let l := b.lane
      let ended (l : Lane) : Lane := { l with endAt := some (l.regs.pc - 1) }
      (l.spec ≠ .speculating → startOf 0xD4 x w 0 s = some b →
        exec (.opSegment x w) s = .next (b.ends { l with segNo := l.segNo + 1 }))
      ∧ (l.spec = .speculating → b.env.recordsOther + l.segs.length < 256 → startOf 0xD4 x w 0 s = some b →
        exec (.opSegment x w) s = .next (b.ends { l with
          segNo := l.segNo + 1, segs := l.segs ++ [⟨l.segNo + 1, l.regs, l.flags, [], none, [], false, l.immLog.length⟩] }))
      ∧ (l.regs.branch = [] → startOf 0xD5 x w 0 s = some b → exec (.opEnd x w) s = .next (b.ends (ended l)))
      ∧ (l.regs.branch = [] → startOf 0xD6 x w 0 s = some b →
        exec (.opEndc x w) s = .next (b.ends (if l.regs.acc then ended (l.pathOn l.regs.accMark) else l.pathOn l.regs.accMark))))
  ∧
  (∀ (x : Exec) (w : BitVec 24) (s : State) (b : Start),
      (startOf 0xD7 x w 0 s = some b → exec (.opWdserv x w) s = .next (b.ends (b.lane.hold .wdserv)))
      ∧ (startOf 0xDD x w 0 s = some b → exec (.opEvpost x w) s = .next (b.ends (b.lane.hold .evpost)))
      ∧ (agreedMode s x.task = false → b.env.ver.agreedImm ≠ 1 →
        let bit := (b.env.live b.o1.word).getLsbD (b.o1.index % 32)
        (startOf 0xD9 x w 0 s = some b →
          exec (.opImmin x w) s = .next (b.ends ((b.lane.setAcc bit true).logImm (if bit then 1 else 0))))
        ∧ (startOf 0xDA x w 0 s = some b →
          exec (.opImminw x w) s = .next (b.ends ((b.lane.setWacc (b.env.live b.o1.word) true).logImm (b.env.live b.o1.word)))))
      ∧ (∀ k, (b.env.agreed = true ∨ b.env.dbg.isSome) →
        let queued (mask v : Word) (mark : Bool) : Lane :=
          if b.env.dbg.isSome then k
          else if k.imms.length < 32 then
            { k with imms := k.imms ++ [⟨b.o1.word, mask, v &&& mask, mark || k.regs.pathMark⟩] }
          else { k with flags := k.flags ||| 4, immExcess := k.immExcess + 1 }
        (b.env.store b.lane [b.env.bitWrite b.lane b.o1 b.lane.regs.acc b.lane.regs.accMark] = .ok k →
          startOf 0xDB x w 0 s = some b →
          exec (.opImmout x w) s = .next (b.ends (queued (1#32 <<< (b.o1.index % 32))
            (if b.lane.regs.acc then 0xFFFFFFFF else 0) b.lane.regs.accMark)))
        ∧ (b.env.store b.lane [⟨b.env.addr b.o1.area b.o1.word, 0xFFFFFFFF, b.lane.regs.wacc, b.lane.regs.waccMark⟩] = .ok k →
          startOf 0xDC x w 0 s = some b →
          exec (.opImmoutw x w) s = .next (b.ends (queued 0xFFFFFFFF b.lane.regs.wacc b.lane.regs.waccMark)))))
  ∧
  (∀ (x : Exec) (w : BitVec 24) (s : State) (t u : Task) (b c : Start) (l0 l1 : Lane),
      s.task x.task = some t → s.debugFor t = none → samePlace t.lane0 t.lane1 = true → (s.env t 1).canRun = true →
      (b.ends l0).task x.task = some u →
      (startOf 0xD8 ⟨x.task, 0⟩ w 0 s = some b → l0 = b.lane → startOf 0xD8 ⟨x.task, 1⟩ w 0 (b.ends l0) = some c →
        l1 = { c.lane with regs := { c.lane.regs with
          acc := if w.getLsbD 0 then u.lane0.regs.acc else c.lane.regs.acc
          accMark := c.lane.regs.accMark || (w.getLsbD 0 && u.lane0.regs.accMark)
          wacc := if w.getLsbD 1 then u.lane0.regs.wacc else c.lane.regs.wacc
          waccMark := c.lane.regs.waccMark || (w.getLsbD 1 && u.lane0.regs.waccMark) } } →
        exec (.opAgree x w) s = .next (c.ends l1))
      ∧ (agreedMode s x.task = true → b.env.ver.agreedImm = 1 →
        (startOf 0xD9 ⟨x.task, 0⟩ w 0 s = some b → l0 = b.lane.setAcc ((b.env.live b.o1.word).getLsbD (b.o1.index % 32)) true →
          startOf 0xD9 ⟨x.task, 1⟩ w 0 (b.ends l0) = some c →
          exec (.opImmin x w) s = .next (c.ends (c.lane.setAcc u.lane0.regs.acc true)))
        ∧ (startOf 0xDA ⟨x.task, 0⟩ w 0 s = some b → l0 = b.lane.setWacc (b.env.live b.o1.word) true →
          startOf 0xDA ⟨x.task, 1⟩ w 0 (b.ends l0) = some c →
          exec (.opImminw x w) s = .next (c.ends (c.lane.setWacc u.lane0.regs.wacc true))))
      ∧ (∀ g, (t.lane x.lane).restore = some g →
        exec (.squashedCoprocComplete x) s = .next (s.modTask x.task (·.modLane x.lane fun l =>
          match l.restore with
          | some g => { l with regs := g.restart, flags := g.flags, immLog := l.immLog.take g.immLen, endAt := none, done := 0,
                               restore := none, lastOp := 0, inFlight := false }
          | none => l))))

/-- UNDEFINED_OPCODE completes, in every state in which its lane can execute: an opcode that is not defined, R131 and R166, and a reserved field that is
set, R98 and R100, fault the task before any effect: codes 1 and 2 of R222, held pending while the segment is unverified (R192) and raised otherwise,
with the offset and the opcode of the instruction; the lane keeps its registers and what it has written. Under a debug session a breakpoint halts
first (R232). -/
def Obligations.UndefinedAndReservedFault : Prop :=
  ∀ (x : Exec) (w : BitVec 24) (s : State) (t : Task),
    s.task x.task = some t → (s.env t x.lane).canRun = true →
    let e := s.env t x.lane
    let b := if e.dbg.isSome then s else s.takeStrand t.no t x.lane (e.ctx.spec == .notSpeculating)
    let faulted (op code : Nat) : Lane := e.ctx.fault (faultInfo e.ctx op w noOpnd code 0 (e.ctx.spec == .speculating))
    let after (op code : Nat) : State := if e.dbg.isSome then (b.putLane e (faulted op code)).debugRan else b.putLane e (faulted op code)
    ((e.dbg.map (·.atBreak)) ≠ some true →
      (∀ op : Byte, opInfo op.toNat = none → exec (.undefinedOpcode x op w) s = .next (after op.toNat 1))
      ∧ (w ≠ 0 → exec (.opNot x w) s = .next (after 0x12 2)))
    ∧ ((e.dbg.map (·.atBreak)) = some true →
      ∀ op : Byte, opInfo op.toNat = none → exec (.undefinedOpcode x op w) s = .next { s with dbg := s.dbg.map fun d => { d with halted := true } })
    ∧ (∀ op code, (faulted op code).regs = e.ctx.regs ∧ (faulted op code).shadow = e.ctx.shadow ∧ (faulted op code).drained = e.ctx.drained
      ∧ (e.ctx.spec = .speculating → (faulted op code).spec = .waitFault ∧ (faulted op code).raised = e.ctx.raised)
      ∧ (e.ctx.spec ≠ .speculating → (faulted op code).spec = e.ctx.spec
        ∧ ((faulted op code).raised.map fun f => (f.code, f.pc, f.instr)) = some (code, e.ctx.regs.pc, BitVec.ofNat 32 (op * 16777216 + w.toNat))))

/-- TICK, CYCLE_START and EVENT_TASK_START, R15, R67, R70, R71, R270, R271: a tick moves ring time to its next multiple of 50 µs and does what R271 lists,
in its order; a task that is due starts its cycle, an event task with the fire that was latched. No online change is under way. A cycle at its start
instant, R94, R96 and R97: both lanes stand at the task's entry with every register and stack cleared, and nothing is written, held or counted;
FIRST_CYCLE holds for the first one only. -/
def Obligations.CycleStarts : Prop :=
  ((∀ m s, s.up = false → exec (.tick m) s = .next s)
    ∧ (∀ m s, s.up = true →
        let a := ({ s with pair := { s.pair with handoverPulse := false } } : State).stepLantern
        let b := ((a.publishLocal.toNextTick).steerPlant.sampleLocal m).sampleCan
        exec (.tick m) s = .next ((((b.stepShare.refreshLocal).tickRings).stepTenants).settleCan.sendHeartbeat.stepJoin.stepHoldoff))
    ∧ (∀ s : State, s.toNextTick.clk.ring = (s.clk.ring / 50000 + 1) * 50000 ∧ s.toNextTick.clk.tick = s.clk.ring / 50000 + 1
        ∧ s.clk.local_ ≤ s.toNextTick.clk.local_ ∧ s.toNextTick = { s with clk := s.toNextTick.clk })
    ∧ (∀ (n : Nat) (s : State) (t : Task), s.task n = some t → s.change.state ≠ 3 → s.change.state ≠ 4 →
        s.computes = true → s.mode ≠ .joining → n ≠ lanternTask → t.inCycle = false →
        (t.attr.taskClass ≠ 3 → t.st = .armed → t.start0 ≤ s.clk.ring →
          exec (.cycleStart n) s = .next (s.startCycle n t.start0 0))
        ∧ (∀ k, t.attr.taskClass ≠ 3 → t.st = .running → 0 < t.attr.cycle → 0 < k →
            let p := t.attr.cycle * 1000
            (t.start0 ≤ t.startAt → t.startAt + k * p ≤ s.clk.ring → s.clk.ring < t.startAt + (k + 1) * p →
              exec (.cycleStart n) s = .next (s.startCycle n (t.startAt + k * p) (t.cycle + k)))
            ∧ (t.startAt < t.start0 → t.start0 + (k - 1) * p ≤ s.clk.ring → s.clk.ring < t.start0 + k * p →
              exec (.cycleStart n) s = .next (s.startCycle n (t.start0 + (k - 1) * p) (t.cycle + k))))
        ∧ (∀ f at_, t.attr.taskClass = 3 → t.latch = some f → t.nextStart = some at_ → at_ ≤ s.clk.ring →
            (t.st = .armed ∨ t.st = .running) →
            let c := if t.st = .armed then 0 else t.cycle + 1
            let next := t.behind.map fun b => eventStart (some at_) t.attr.minInterval b.time
            exec (.eventTaskStart n) s = .next (((s.modTask n fun u =>
              { u.begin at_ c s.clk.local_ .notSpeculating with
                fire := some f, latch := u.behind, behind := none, nextStart := u.behind.map fun b => eventStart (some at_) u.attr.minInterval b.time,
                prevStart := some at_, inputs := s.asyncInputs (s.versionOf t), snap := none, hist1 := none, hist2 := none }).yieldSpec
                  t.strand n).debugStart n)
            ∧ (next = none ∨ ∃ b m, t.behind = some b ∧ next = some m ∧ at_ + t.attr.minInterval * 1000 ≤ m ∧ b.time < m))))
  ∧
  (∀ (t : Task) (m n now : Nat) (spec : SpecState),
      let u := t.begin m n now spec
      u.cycle = n ∧ u.startAt = m ∧ u.inCycle = true ∧ u.transited = false ∧ u.st = .running ∧ u.first = (t.st == .armed)
      ∧ u.lane0 = u.lane1
      ∧ u.lane0.regs = { acc := false, wacc := 0, accMark := false, waccMark := false, branch := [], loops := [], calls := [],
                         pc := BitVec.ofNat 22 t.attr.entry, pathMark := false }
      ∧ u.lane0.shadow = [] ∧ u.lane0.drained = [] ∧ u.lane0.held = [] ∧ u.lane0.imms = [] ∧ u.lane0.flags = 0
      ∧ u.lane0.endAt = none ∧ u.lane0.raised = none ∧ u.lane0.done = 0 ∧ u.lane0.cost = 0
      ∧ u.lane0.spec = spec ∧ u.speculates = (spec != .notSpeculating) ∧ (u.lane0.segs.length = if spec = .speculating then 1 else 0))

/-- BUDGET_OVERRUN, R88; PUBLICATION_INSTANT, R72; INPUT_PUBLICATION, R74: a cycle that has not come to its transit in time gives up what it holds, each
lane at the end of its running segment, its outputs stand, and the partner is told; one that has, publishes at its instant; an agreed snapshot becomes
the published input image. -/
def Obligations.PublicationAndOverrun : Prop :=
  ∀ (n : Nat) (s : State) (t : Task), s.task n = some t →
    (t.inCycle = true → t.transited = false → t.atPub.overrun = false → t.atPub.parallax = none → n ≠ lanternTask →
      t.pubInstant ≤ s.clk.ring + 90000 →
      let a := (s.modTask n fun t =>
        { t.modLanes fun l =>
            { l with shadow := [], drained := [], held := [], imms := [], segs := [], restore := none, spec := .notSpeculating,
                     endAt := if l.spec = .notSpeculating ∧ ¬ l.atBoundary then l.endAt else some (l.endAt.getD l.regs.pc) } with
          atPub := { t.atPub with overrun := true } }).countN (0x0200 + t.strand) t.lane0.segs.length
      let b := (a.record 88 1 2 0xFFFF t.tenant [(4, n), (8, t.cycle)]).count (0x0600 + t.strand)
      exec (.budgetOverrun n) s = .next (if s.alone then b else b.send 3 (.overrunNotice n t.cycle)))
    ∧ (s.change.state ≠ 3 → t.inCycle = true → t.pubInstant ≤ s.clk.ring → n ≠ lanternTask →
      (t.transited = true ∨ t.atPub.overrun = true ∨ t.atPub.parallax.isSome ∨ t.atPub.fault.isSome) →
      exec (.publicationInstant n) s = .next (s.publish t))
    ∧ (∀ p, t.snap = some p → p.agreed = true → p.closeAt + 10000 ≤ s.clk.ring →
      exec (.inputPublication n) s =
        .next { s with image := { s.image with inputs := (s.published t p).foldl sigPut s.image.inputs } })

/-- Watchdogs, R583 to R593: an expiry is counted, its instant and the task's PC are kept, it is recorded, and the partner is told; a privileged watchdog
that is served before its window opens counts EARLY and expires, one that is served in its window starts again; the partner's notices are kept with
the task. -/
def Obligations.WatchdogEvents : Prop :=
  (∀ (n : Nat) (s : State) (t : Task), s.task n = some t → t.wd.period ≠ 0 → t.wd.origin + t.wd.period * 1000 ≤ s.clk.local_ →
    let rs := s.runState t
    let a := (s.modWd n fun w =>
      { w with
        expiries := satInc w.expiries, expired := true, lastExpiry := s.clk.local_, origin := s.clk.local_, runState := rs,
        pcValid := rs != 3, pc := if rs = 3 then 0 else t.lane0.regs.pc.toNat,
        expiredAt := if t.st = .running then some (w.expiredAt.getD s.clk.local_) else w.expiredAt }).count 0x7000
    let b := a.record 588 1 2 0xFFFF t.tenant [(4, n), (4, if rs = 3 then 0 else t.lane0.regs.pc.toNat), (4, rs), (8, t.wd.lastService)]
    exec (.watchdogExpiry n) s = .next (if s.alone then b else b.send 3 (.expiryNotice n)))
  ∧ (∀ (n : Nat) (s : State) (t : Task), s.task n = some t → t.wd.period = 0 → exec (.watchdogExpiry n) s = .next s)
  ∧ (∀ (u : Fin 8) (s : State) (ev : Nat) (valid : Bool), s.up = true →
      exec (.privilegedWatchdogExpiry u ev valid) s = .next (s.expirePrivileged u.val ev valid))
  ∧ (∀ (u : Fin 8) (t : Nat) (s : State) (w : PrivWd), (s.advanceTo t).up = true → (s.advanceTo t).privWds[u.val]? = some w →
      let a := s.advanceTo t
      (a.clk.local_ < w.lastService + a.windowNs (Config.privPeriod u.val / 1000) →
        exec (.privilegedWatchdogService u t) s =
          .next (({ a with privWds := modAt a.privWds u.val fun w => { w with early := satInc w.early } } : State).expirePrivileged u.val 0 false))
      ∧ (w.lastService + a.windowNs (Config.privPeriod u.val / 1000) ≤ a.clk.local_ →
        exec (.privilegedWatchdogService u t) s =
          .next { a with privWds := modAt a.privWds u.val fun w =>
            { w with lastService := a.clk.local_, lastGap := min ((a.clk.local_ - w.lastService) / 1000) 0xFFFFFFFF, expired := false } }))
  ∧ (∀ (n c : Nat) (s : State),
      exec (.earlyServiceNotice n c) s = .next (s.modTask n fun t => { t with wd := { t.wd with peerEarly := some c } })
      ∧ exec (.expiryNotice n) s = .next (s.modTask n fun t => { t with wd := { t.wd with peerExpiredAt := some s.clk.local_ } }))

/-- FIRE_REPORT and FIRE_MATCH_TIMEOUT complete in every state, R66, R69 to R71: a report of the partner is matched with this module's own fire of the
source, and the earlier of the two times is the agreed one; it waits where there is none; after the timeout either one stands alone. An agreed fire
reaches every event task that its source starts: the first one sets its next start instant, a later one waits for the start after it. INPUT_FRAME,
SNAPSHOT_CLOSE, STATION_DIGEST, COPY_REQUEST, STATION_COPY and AGREEMENT_TIMEOUT complete in every state, R16 to R19, R273, R294, R319 to R324: a
frame of a port that is off is not taken, a bad one is discarded and counted, one that finds no room is INGRESS-OVERRUN, and a good one is judged
against its window and its sections filed; a snapshot that closes lets the tags of missing blocks expire, and is agreed alone or reported to the
partner; a digest settles its section; a copy that is asked for is sent and used by both modules, one that arrives is taken where the section is not
agreed yet; and a snapshot that stays unagreed is counted, warned of once in a run, and agreed alone. -/
def Obligations.FiresAndSnapshots : Prop :=
  (∀ (src : Nat) (s : State),
      let reach (st : State) (time : Nat) : State :=
        { st with tasks := st.tasks.map fun e => if e.2.attr.taskClass = 3 ∧ src ∈ e.2.attr.sources then (e.1, e.2.takeFire src time) else e }
      (∀ f time, (s.fires.find? fun f => f.source == src) = some f →
        exec (.fireReport src time) s = .next (reach { s with fires := s.fires.erase f } (min time f.time))
        ∧ exec (.fireMatchTimeout src) s = .next (reach { s with fires := s.fires.erase f } f.time))
      ∧ ((s.fires.find? fun f => f.source == src) = none →
        (∀ time, exec (.fireReport src time) s = .next { s with peerFires := s.peerFires ++ [⟨src, time⟩] })
        ∧ (∀ f, (s.peerFires.find? fun f => f.source == src) = some f →
            exec (.fireMatchTimeout src) s = .next (reach { s with peerFires := s.peerFires.erase f } f.time))
        ∧ ((s.peerFires.find? fun f => f.source == src) = none → exec (.fireMatchTimeout src) s = .next s))
      ∧ (∀ (t : Task) (time : Nat), t.st = .armed ∨ t.st = .running →
        (t.latch = none → t.takeFire src time = { t with latch := some ⟨src, time, 0⟩, nextStart := some (eventStart t.prevStart t.attr.minInterval time) })
        ∧ (∀ l, t.latch = some l → t.nextStart = some (tickAtOrAfter l.time + 50000) → t.behind = none →
            t.takeFire src time = { t with behind := some ⟨src, time, 0⟩ })
        ∧ (∀ l, t.latch = some l → t.nextStart ≠ some (tickAtOrAfter l.time + 50000) →
            t.takeFire src time = { t with latch := some { l with merged := l.merged + 1 } })))
  ∧
  (∀ (n : Nat) (s : State),
      (∀ f : InputFrame, let port := f.hdr.port
        (s.portOn port = false ∨ s.computes = false → exec (.inputFrame f) s = .next s)
        ∧ (s.portOn port = true → s.computes = true →
          (f.hdr.good = false ∨ f.hdr.frameType ≠ 0x81 → exec (.inputFrame f) s =
            .next ((s.modPort port fun p => { p with discarded := satInc p.discarded }).count (0x2500 + port)))
          ∧ (f.hdr.good = true → f.hdr.frameType = 0x81 →
            (65536 < (s.port port).cyclicUsed + f.bytes → exec (.inputFrame f) s = .next (s.ingressOverrun port))
            ∧ ((s.port port).cyclicUsed + f.bytes ≤ 65536 →
              let ring := port / 2
              let seen := s.modStation ring f.hdr.sourcePos fun v => { v with seenA := s.front.side == .a, seenB := s.front.side == .b }
              (f.sections = [] → exec (.inputFrame f) s = .next seen)
              ∧ (∀ x xs, f.sections = x :: xs →
                let judgedFrame := match seen.task x.task with
                  | none => seen
                  | some t => seen.judged ring f.hdr.sourcePos port (judge (seen.windowOf port t (t.startOf x.cycleLo) f.hdr.sourcePos) f.start f.stop)
                let filed := (x :: xs).foldl (fun s x => s.fileSection port x) judgedFrame
                exec (.inputFrame f) s = .next (match (x :: xs).find? fun y => filed.isFiled ring y && !judgedFrame.isFiled ring y with
                  | some y => filed.modStation ring f.hdr.sourcePos fun v => { v with lastInSeq := some y.seq }
                  | none => filed))))))
      ∧ (∀ p, (s.task n).bind (·.snap) = some p →
          (p.closed = true → exec (.snapshotClose n) s = .next s)
          ∧ (p.closed = false →
            let shut := (s.modTask n fun t => { t with snap := t.snap.map fun p => { p with closed := true } }).staleResync n p
            let expired : State :=
              { shut with cyclicTags := shut.cyclicTags.map fun x => if x.task = n ∧ x.filed = none then { x with expired := true } else x }
            let onTime (s : State) (r : Nat) : State :=
              if r < 4 then s.modRing r fun g => if g.lateAt < ((s.task n).map (·.startAt)).getD 0 then { g with lateRun := false } else g else s
            let rings := ((p.sections.map (·.ring)).eraseDups).foldl onTime expired
            (s.alone = true → exec (.snapshotClose n) s = .next (rings.agreeAlone n))
            ∧ (s.alone = false → exec (.snapshotClose n) s =
              .next (((p.sections.filter fun x => !x.filed).foldl (fun s x => s.send 2 (.digest n p.cycle x.ring x.station none)) rings).settleAll n))))
      ∧ ((s.task n).bind (·.snap) = none → exec (.snapshotClose n) s = .next s ∧ (∀ c ring st crc, exec (.stationDigest n c ring st crc) s = .next s)
          ∧ (∀ c ring st, exec (.copyRequest n c ring st) s = .next s) ∧ exec (.agreementTimeout n) s = .next s)
      ∧ (∀ p ring st crc, (s.task n).bind (·.snap) = some p → p.agreed = false →
          let d : PeerDigest := match crc with | some c => .digest c | none => .noFrame
          exec (.stationDigest n p.cycle ring st crc) s = .next (((s.modTask n fun t =>
            { t with snap := t.snap.map fun p => { p with sections := p.sections.map fun x =>
                if x.ring = ring ∧ x.station = st then { x with peer := d, agreed := x.agreed && x.peer == d } else x } }).settle n ring st).tryAgree n))
      ∧ (∀ p x ring st, (s.task n).bind (·.snap) = some p → p.section ring st = some x → x.filed = true →
          exec (.copyRequest n p.cycle ring st) s = .next (((s.modTask n fun t =>
            { t with snap := t.snap.map fun p => { p with sections := p.sections.map fun x =>
                if x.ring = ring ∧ x.station = st then { x with agreed := true } else x } }).send 2 (.copy n p.cycle x)).tryAgree n))
      ∧ (∀ p sec, (s.task n).bind (·.snap) = some p → p.agreed = false →
          exec (.stationCopy n p.cycle sec) s = .next ((s.modTask n fun t =>
            { t with snap := t.snap.map fun p => { p with sections := p.sections.map fun x =>
                if x.ring = sec.ring ∧ x.station = sec.station then
                  (if x.agreed then x else { x with filed := true, blocks := sec.blocks, agreed := true }) else x } }).tryAgree n))
      ∧ (∀ p, (s.task n).bind (·.snap) = some p → p.closed = true → p.agreed = false →
          let a := (s.count 0x1000).modPair fun x => { x with unagreedAt := some s.clk.local_, unagreedRun := true }
          let b := if s.pair.unagreedRun then a else (a.record 19 1 1 911 0xFFFF [(4, n), (8, p.cycle)]).fire 911
          exec (.agreementTimeout n) s = .next ((b.modTask n fun t =>
            { t with snap := t.snap.map fun p => { p with unagreed := true } }).agreeAlone n))
      ∧ (∀ p c ring st, (s.task n).bind (·.snap) = some p → c ≠ p.cycle → (∀ crc, exec (.stationDigest n c ring st crc) s = .next s)
          ∧ exec (.copyRequest n c ring st) s = .next s ∧ (∀ sec, exec (.stationCopy n c sec) s = .next s))
      ∧ (∀ p, (s.task n).bind (·.snap) = some p → p.closed = true → (∀ x ∈ p.sections, x.agreed = true) → s.tryAgree n = s.agreeSnapshot n))

/-- Transit and the write sets of the pair, R88, R205 to R214, R228, R359 and R360: the transit of a task is judged at its instant, and after the release
margin of 40 µs the cycle has overrun; a lane that does not come to the checkpoint is a STALL; release digests that differ withhold the sections of
the strand; the partner's write set is kept and compared, or taken over while this module joins; a request for one is answered with the set of that
cycle; notices of the partner are kept with the task. -/
def Obligations.TransitAndWriteSets : Prop :=
  ∀ (n c : Nat) (s : State),
    (∀ at_ t, (s.advanceTo at_).task n = some t → (s.advanceTo at_).atTransit t = true →
      let a := s.advanceTo at_
      ((a.pastMargin t = true → exec (.transit n at_) s = .next (a.overrun n))
      ∧ (a.pastMargin t = false →
        (∀ k, a.debugFor t = none → parallaxKind t.lane0 t.lane1 = some k → n ≠ lanternTask → exec (.transit n at_) s = .next (a.transitParallax n t k))
        ∧ (a.debugFor t ≠ none ∨ parallaxKind t.lane0 t.lane1 = none →
          (t.lane0.raised = none → exec (.transit n at_) s = .next (a.transitOk n t))
          ∧ (∀ f, t.lane0.raised = some f → exec (.transit n at_) s = .next ((a.modTask n Task.closeSpec).faultCycle n f false))))))
    ∧ (∀ at_ t, (s.advanceTo at_).task n = some t → (s.advanceTo at_).atTransit t = false → exec (.transit n at_) s = .next (s.advanceTo at_))
    ∧ (∀ t, s.task n = some t → n ≠ lanternTask → t.no = n → (s.pastMargin t = true ↔ t.pubInstant < s.clk.ring + 40000))
    ∧ (∀ t, s.task n = some t → n ≠ lanternTask → t.inCycle = true → t.transited = false → t.atPub.overrun = false →
        t.atPub.parallax = none → s.debugFor t = none →
        (s.pastMargin t = false → exec (.laneStall n) s = .next (s.transitParallax n t .stall))
        ∧ (s.pastMargin t = true → exec (.laneStall n) s = .next (s.overrun n)))
    ∧ (∀ ws : WriteSet, ∀ t, s.task ws.task = some t →
        let a := s.modTask ws.task fun t => { t with peerSet := some ws }
        exec (.writeSet ws) s = .next (if (s.mode = .joining ∨ s.mode = .standby) ∧ t.following = true then a.follow ws
          else a.compareSets ws.task))
    ∧ (∀ ws, (s.task n).bind (·.ownSet) = some ws → exec (.writeSetRequest n ws.cycle) s = .next (s.send 3 (.writeSet ws)))
    ∧ exec (.overrunNotice n c) s = .next (s.modTask n fun t => { t with peerOverrun := some c })
    ∧ exec (.faultNotice n c) s = .next (s.modTask n fun t => { t with peerFault := some c })
    ∧ (∀ tn at_ x, NMap.get s.tenants tn = some x →
        let d := match x.displaceAt with | some d => min d at_ | none => at_
        let a := s.modTenant tn fun y => { y with displaceAt := some (match y.displaceAt with | some d => min d at_ | none => at_) }
        (s.clk.ring < d → exec (.frameDisplacedNotice ⟨tn, at_⟩) s = .next a)
        ∧ (d ≤ s.clk.ring → exec (.frameDisplacedNotice ⟨tn, at_⟩) s = .next (a.displaceTenant tn)))
    ∧ (∀ strand, let ts := (s.tasks.map (·.2)).filter fun t =>
          (t.strand == strand && t.inCycle && t.atPub.committed && t.attr.taskClass != 3 && t.no != lanternTask) && !t.released
        let compared := ts.filter fun t => (s.debugFor t).isNone
        (ts = [] → ∀ lane1, exec (.releaseCheckpoint strand lane1) s = .next s)
        ∧ (ts ≠ [] → ∀ lane1, lane1 = none ∨ lane1 = some (s.releaseDigest compared) →
            exec (.releaseCheckpoint strand lane1) s = .next (ts.foldl (fun s t => s.assemble t) s))
        ∧ (∀ t rest d, compared = t :: rest → d ≠ s.releaseDigest compared →
          let a := ((ts.filter fun t => (s.debugFor t).isSome).foldl (fun s t => s.assemble t) s).noteParallax t.no strand .release false 3
          let b := compared.foldl (fun s t => s.modTask t.no fun t => { t with released := true, laneParCycle := some t.cycle })
            (a.recordParallax t.no strand .release false 3)
          exec (.releaseCheckpoint strand (some d)) s = .next (if b.windowFull strand = true ∨
            (compared.any fun t => t.laneParCycle == some (t.cycle - 1) && decide (0 < t.cycle)) = true then b.persistent strand else b)))

/-- Frames sent, R291: an immediate frame leaves at the boundary of another frame, an acyclic one where no immediate frame waits, each stamped with the
tick, the ring time and the pair of the instant at which it leaves, where its wire time fits the gap; a port that does not transmit or whose gap is
too short keeps its frames. The background train, R283 and R287: at a multiple of BACKGROUND_CYCLE the stations of stopped tasks get safe values, each
with its next sequence number. -/
def Obligations.FramesAndBackground : Prop :=
  (∀ (port : Fin 8) (s : State) (f : OutFrame) (fs : List OutFrame),
      ((s.port port).immQueue = f :: fs →
        let g := { s.stamp f with sections := f.sections.map (s.forceSection (port / 2) s.clk.ring) }
        (s.transmits = true → s.portOn port = true → s.fitsGap port g = true →
          exec (.immediateFrameSend port) s = .next ((s.modPort port fun p => { p with immQueue := fs }).emit g))
        ∧ (s.fitsGap port g = false → exec (.immediateFrameSend port) s = .next s))
      ∧ ((s.port port).immQueue = [] → (s.port port).acycQueue = f :: fs →
        (s.transmits = true → s.portOn port = true → s.fitsGap port (s.stamp f) = true →
          exec (.acyclicFrameSend port) s =
            .next (((s.modPort port fun p => { p with acycQueue := fs }).awaitAnswers (port / 2) (s.stamp f)).emit (s.stamp f)))
        ∧ (s.fitsGap port (s.stamp f) = false → exec (.acyclicFrameSend port) s = .next s))
      ∧ (s.transmits = false ∨ s.portOn port = false → exec (.immediateFrameSend port) s = .next s ∧ exec (.acyclicFrameSend port) s = .next s)
      ∧ (let g := s.stamp f
        g.tick = s.clk.tick ∧ g.ringTime = s.clk.ring ∧ g.epoch = s.pair.epoch ∧ g.senderSide = s.front.side ∧ g.ownerSide = s.pair.ownerSide)
      ∧ ((s.crossing (0x10 + f.port)).passes = true → s.emit f = s.putSent [s.sealed f]))
  ∧
  (∀ (ring : Fin 4) (s : State),
      let period := s.settingNat (0x10 + 2 * ring) 4 0 * 1000
      let at_ := s.clk.tick * 50000
      s.computes = true → s.mode ≠ .lantern → period ≠ 0 → at_ % period = 0 → (s.ring ring).backgroundAt ≠ some at_ →
        let secs := s.backgroundSections ring
        let a := ((secs.map (·.station)).foldl (fun (s : State) k =>
          s.modStation ring k fun v => { v with outSeq := (v.outSeq + 1) % 65536 }) s).modRing ring fun r => { r with backgroundAt := some at_ }
        exec (.backgroundCycle ring) s = .next (if s.transmits && s.portOn (2 * ring) then
          ((packSections secs [] 0).map fun xs => s.frame (2 * ring) 2 xs []).foldl State.emit a else a))

/-- Discovery, R297, R299, R300 and R370: a DISCOVER leaves the port of the ring every 100 ms, the stations that did not answer the last one are gone, and
an isolated owner sends one from both of its ports whatever the instant; a response sees the owner's epoch, places the station by its hops, and a
station of another type or serial number is checked against the table. Stations and ports, R295, R298, R304 and R374: delays are measured on every
segment; a station that has not resynchronised in 200 ms is refused; a link that changes is recorded and told to event tasks; a loopback test that
fails is a PORT FAULT, and at bring-up only on a port in use. -/
def Obligations.DiscoveryAndStations : Prop :=
  (∀ (ring : Fin 4) (s : State),
      (∀ t, (s.ring ring).discovered = some t → t + 100000000 ≤ s.clk.ring → s.transmits = true →
        ring.val < Config.rings s.ident.variant → (s.mode ≠ .owner ∨ s.isolated = false) →
        let silent := (List.range (s.ring ring).table.length).filter fun k =>
          (s.station ring k).state != .absent && !(s.station ring k).answered
            && (s.reaches ring k || s.alone || (s.station ring k).missing)
        let a := (silent.foldl (fun (s : State) k => s.stationGone ring k) s).modRing ring fun r =>
          { r with discovered := some s.clk.ring, stations := r.stations.map fun v => { v with answered := false } }
        exec (.discoverSend ring) s =
          .next (if a.portOn (2 * ring) then a.emit (a.frame (2 * ring) 5 [] s.discoverBody) else a))
      ∧ (∀ t, (s.ring ring).discovered = some t → s.clk.ring < t + 100000000 → (s.mode ≠ .owner ∨ s.isolated = false) →
        exec (.discoverSend ring) s = .next s)
      ∧ (∀ f : DiscRsp, s.portOn f.hdr.port = true → s.up = true → (f.hdr.good = false ∨ f.hdr.frameType ≠ 0x83) →
        exec (.discoverResponse f) s = .next (s.discardFrame f.hdr.port))
      ∧ (∀ (f : DiscRsp) (pos : Nat), s.portOn f.hdr.port = true → s.up = true → f.hdr.good = true → f.hdr.frameType = 0x83 →
        let a := s.seePair f.hdr.epoch f.hdr.ownerSide
        let g := f.hdr.port / 2
        hopPosition (a.ring g).table.length f.hopA f.hopB = some (pos, false) →
        (a.station g pos).state = .absent →
        let path := match (a.ring g).discovered with | some t => (f.rxTime - t) / 8 | none => 0
        exec (.discoverResponse f) s = .next (((a.modStation g pos fun v =>
          { v with
            typeId := f.typeId, serial := f.serial, linkBits := f.link, answered := true
            delayA := if s.front.side = .a ∧ f.hopA ≠ 0xFFFF then path else v.delayA
            delayB := if s.front.side = .b ∧ f.hopB ≠ 0xFFFF then path else v.delayB }).setStation g pos .found).checkStation g pos)))
  ∧
  (∀ (s : State),
      (∀ (ring : Fin 4) (delays : List Nat), s.computes = true → s.owns = true ∨ s.solo = true →
          let n := (s.ring ring).table.length
          let told := fun (a : State) => if s.solo then a else a.send 3 (.mirror (.delays ring delays))
          exec (.segmentDelayMeasure ring delays) s = .next (told <| s.modRing ring fun r =>
            { r with
              delays := if r.delays.length = n + 1 then r.delays else delays
              stations := (r.stations ++ List.replicate (n - r.stations.length) StationView.reset).zipIdx.map fun p =>
                if p.2 < n then
                  { p.1 with
                    delayA := ((delays.take (p.2 + 1)).foldl (· + ·) 0) / 8
                    delayB := ((delays.drop (p.2 + 1)).foldl (· + ·) 0) / 8 }
                else p.1 }))
      ∧ (∀ (ring : Fin 4) (station t : Nat), (s.station ring station).state = .resync → (s.station ring station).resyncAt = some t →
          (t + 200000000 ≤ s.clk.local_ → exec (.resyncTimeout ring station) s = .next (s.refuseStation ring station 4))
          ∧ (s.clk.local_ + 50000 < t + 200000000 → exec (.resyncTimeout ring station) s = .next s))
      ∧ (∀ (port : Fin 8) (up : Bool), (s.port port).linkUp ≠ up →
          exec (.portLinkChange port up) s = .next (((s.modPort port fun p => { p with linkUp := up }).record 304 1
            (if up then sevInfo else sevWarning) (864 + 2 * port) noSource [(4, port), (4, if up then 1 else 0)]).fire (864 + 2 * port)))
      ∧ (∀ (port : Fin 8) (up : Bool), (s.port port).linkUp = up → exec (.portLinkChange port up) s = .next s)
      ∧ (∀ (port : Fin 8), s.up = true →
          let quiet := s.portOn port = false ∨ (port.val % 2 = 1 ∧ s.setting (0x10 + port) 3 0 = 0)
          (¬ quiet → exec (.portLoopbackTest port true) s = .next (s.modPort port fun p => { p with loopbackFail := p.loopbackFail }).selftestPass
            ∧ exec (.portLoopbackTest port false) s =
              .next (((s.modPort port fun p => { p with fault := true }).record 374 2 sevFault (865 + 2 * port) noSource [(4, port)]).fire
                (865 + 2 * port)))
          ∧ (quiet →
            exec (.portLoopbackTest port true) s = .next (s.modPort port fun p => { p with loopbackFail := false }).selftestPass
            ∧ exec (.portLoopbackTest port false) s =
              .next ((s.modPort port fun p => { p with loopbackFail := true }).fire (865 + 2 * port)).selftestFail)))

/-- Acyclic transfers, R311, R312 and R315: a response frame is read block by block, responses before statuses; a request without its answer is asked
again until three attempts, and then ends with TIMEOUT; what the owner takes up the standby holds too. -/
def Obligations.AcyclicTransfers : Prop :=
  ∀ (s : State),
    (∀ f : AcycFrame, s.portOn f.hdr.port = true → s.up = true → f.hdr.good = true → f.hdr.frameType = 0x82 →
      exec (.acycResponseFrame f) s = .next (f.statuses.foldl (fun s x => s.takeStatus (f.hdr.port / 2) x)
        (f.responses.foldl (fun s r => s.takeResponse (f.hdr.port / 2) r) s)))
    ∧ (∀ f : AcycFrame, s.portOn f.hdr.port = true → s.up = true → (f.hdr.good = false ∨ f.hdr.frameType ≠ 0x82) →
      exec (.acycResponseFrame f) s = .next (s.discardFrame f.hdr.port))
    ∧ (∀ tag x, NMap.get s.acyc tag = some x → x.purpose ≠ 2 → x.deadline ≤ s.clk.ring → s.unsent x = false →
      (3 ≤ x.attempts → exec (.acyclicRetry tag) s = .next (s.endAcyc x 1 []))
      ∧ (0 < x.attempts → x.attempts < 3 → exec (.acyclicRetry tag) s = .next (s.queueAcyc x)))
    ∧ (∀ tag x, NMap.get s.acyc tag = some x → (s.clk.ring < x.deadline ∨ s.unsent x = true) → exec (.acyclicRetry tag) s = .next s)
    ∧ (∀ ring r x, s.answered ring r = some x → 0 < x.attempts → s.takeResponse ring r =
      (if s.alone = true then s.endResponse ring x r else (s.endResponse ring x r).send 3 (.mirror (.acycDone ring r))))
    ∧ (∀ ring r, s.answered ring r = none → s.takeResponse ring r = s ∧ s.endMirrored ring r = s)
    ∧ (∀ tx : Acyc, s.mode = .standby ∨ s.mode = .joining →
        (s.acyc.map (·.2)).find? (fun x => x.purpose == 2 && x.req == tx.req) = none →
        let x : Acyc := { tx with mirrored := true, ticket := none, purpose := 0 }
        let a := s.modStation tx.req.ring tx.req.station fun v =>
          { v with acycSeq := (tx.seq + 1) % 65536, outstanding := (v.outstanding.filter (· != tx.tag)) ++ [tx.tag] }
        exec (.acyclicMirror tx) s = .next (if a.transmits then a.queueAcyc x else { a with acyc := NMap.set a.acyc x.tag x }))

/-- PACE_PROBE_RUN, RUN_PACE_WINDOW, MARGIN_CHECK_START, MARGIN_CHECK_END, VCORE_SUPPLY_FAULT and VCORE_REGULATOR_STEP complete in every running state,
R33, R34, R37, R42, R45 to R47: a probe run keeps the lower of the two lanes' paces; a run pace under 90 % of it three times in a row is a probe fault
that fixes VCORE at its maximum; the regulator steps VCORE; a margin check, due first and then every 3,600 s, holds code 40 for 10 ms and judges every
strand by its probe runs of the last 2 ms; a supply outside 685 to 915 mV is a module fault. That no check but the first begins in LANTERN, in TEST-
HOLD or while unit 16#00 is quiesced is the model's choice (log entry 96). ISLAND_WAKE, ISLAND_WAKE_FAIL, CROSSING_RESET_NOTICE, CROSSING_REOPEN and
LINK_RESET complete, R52 to R55 and R343: an island that wakes takes what waits; one that does not ends it with an error and its unit is reported as
faulted; a reset lets a transfer that was acknowledged stand, discards every other, and closes the crossing until both sides have reported their
flush, when what has waited since goes across; the partner link is reset with it. -/
def Obligations.PaceAndIslands : Prop :=
  (∀ (s : State), s.up = true →
      (∀ strand p0 p1, strand < Config.strands s.ident.variant →
        let p := min 4095 (min p0 p1)
        exec (.paceProbeRun strand p0 p1) s = .next ((s.modStrand strand fun x =>
          { x with probe := p, marginProbe := if s.marginReads then some (match x.marginProbe with | some y => min y p | none => p)
                                              else x.marginProbe }).judgePace strand))
      ∧ (∀ strand count busy, strand < Config.strands s.ident.variant → 10000 ≤ busy →
        let run := min 4095 (count * 1000 / busy)
        (9 * (s.strand strand).probe ≤ 10 * run →
          exec (.runPaceWindow strand count busy) s = .next (s.modStrand strand fun x => { x with run := run, lowRuns := 0 }))
        ∧ (10 * run < 9 * (s.strand strand).probe → (s.strand strand).lowRuns < 2 →
          exec (.runPaceWindow strand count busy) s =
            .next (s.modStrand strand fun x => { x with run := run, lowRuns := (s.strand strand).lowRuns + 1 }))
        ∧ (10 * run < 9 * (s.strand strand).probe → 2 ≤ (s.strand strand).lowRuns → (s.strand strand).probeFault = false →
          exec (.runPaceWindow strand count busy) s =
            .next (((((s.modStrand strand fun x => { x with run := run, lowRuns := (s.strand strand).lowRuns + 1 }).modStrand strand
              fun x => { x with probeFault := true }).modVcore fun v => { v with fixedMax := true }).record
                34 1 sevFault 962 noSource [(4, strand), (4, run), (4, (s.strand strand).probe)]).fire 962)))
      ∧ (s.vcore.marginRun = false → s.marginDue = true → exec .marginCheckStart s =
          .next (({ s with strands := s.strands.map fun x => { x with marginProbe := none } } : State).modVcore fun v =>
            { v with marginRun := true, marginCheck := v.code == 40, lastMargin := some s.clk.local_,
                     heldSince := if v.code = 40 then some s.clk.local_ else none }))
      ∧ (s.vcore.marginRun = true ∨ s.marginDue = false → exec .marginCheckStart s = .next s)
      ∧ (s.vcore.regOn = false → s.marginDue = true)
      ∧ (∀ t, s.vcore.regOn = true → s.vcore.lastMargin = some t → s.clk.local_ + 50000 < t + 3600000000000 → s.marginDue = false)
      ∧ (∀ t, s.vcore.regOn = true → s.vcore.lastMargin = some t → t + 3600000000000 ≤ s.clk.local_ →
          s.marginDue = (s.mode != .lantern && s.mode != .testHold && !s.isQuiesced 0))
      ∧ (∀ h, s.vcore.marginCheck = true → s.vcore.heldSince = some h → h + 10000000 ≤ s.clk.local_ →
        let a := (List.range (Config.strands s.ident.variant)).foldl State.judgeMargin s
        let stays := (s.fixedMax && s.mode != .lantern && s.mode != .testHold) || s.isQuiesced 0
        exec .marginCheckEnd s = .next ((a.setCode (if stays then a.vcore.code else 0)).modVcore fun v =>
            { v with marginCheck := false, marginRun := false, heldSince := none, regOn := true }))
      ∧ (∀ h, s.vcore.heldSince = some h → s.clk.local_ + 50000 < h + 10000000 → exec .marginCheckEnd s = .next s)
      ∧ (∀ h, s.vcore.marginCheck = true → s.vcore.heldSince = some h → (s.marginReads = true ↔ h + 8000000 ≤ s.clk.local_))
      ∧ (∀ mv, 685 ≤ mv → mv ≤ 915 → exec (.vcoreSupplyFault mv) s = .next s)
      ∧ (∀ mv, mv < 685 ∨ 915 < mv → exec (.vcoreSupplyFault mv) s =
          .next ((((s.modVcore fun v => { v with supplyFault := true }).record 42 1 sevFault 965 noSource [(4, mv)]).fire 965).moduleFault
            .supply (State.restartFor .supply)))
      ∧ (∀ t, (s.advanceTo t).up = true → (s.advanceTo t).vcore.marginRun = true →
          exec (.vcoreRegulatorStep t) s = .next (s.advanceTo t).raiseVcore)
      ∧ (∀ t, (s.advanceTo t).vcore.marginRun = false → (s.advanceTo t).regulates = true →
          exec (.vcoreRegulatorStep t) s = .next (s.advanceTo t).regulate))
  ∧
  (∀ (unit : Nat) (s : State), s.up = true → Config.unitFitted s.ident.variant unit = true →
      ((s.crossing unit).wakeFailed = false → (s.crossing unit).open_ = true →
        let b := s.modCrossing unit fun c => { c with stopped := false }
        exec (.islandWake unit) s = .next ((b.putSent ((s.crossing unit).pending.filterMap (·.frame))).modCrossing unit fun c =>
          { c with completed := c.completed + (s.crossing unit).pending.length, pending := [] }))
      ∧ ((s.crossing unit).stopped = true →
        let a := ((s.modCrossing unit fun c =>
          { c with wakeFailed := true, errors := c.errors + max 1 c.pending.length, pending := [] }).record 53 1 sevFault 968 noSource
            [(4, unit)]).fire 968
        exec (.islandWakeFail unit) s = .next (
          if 0x10 ≤ unit ∧ unit ≤ 0x17 then (a.modPort (unit - 0x10) fun p => { p with fault := true }).fire (865 + 2 * (unit - 0x10))
          else if 0x20 ≤ unit ∧ unit ≤ 0x23 then a.modCan (unit - 0x20) fun c => { c with state := 0 }
          else if islandOf unit = 0x32 then a.modIo fun io =>
            { io with ai := io.ai.map fun c => { c with converterFault := true }, ao := io.ao.map fun c => { c with stageFault := true } }
          else a))
      ∧ (let stood := (s.crossing unit).pending.filter (·.acked)
        let a := (s.putSent (stood.filterMap (·.frame))).modCrossing unit fun c =>
          { c with open_ := false, fabricDone := false, islandDone := false, pending := [], completed := c.completed + stood.length,
                   flushed := c.flushed + ((s.crossing unit).pending.filter (!·.acked)).length }
        exec (.crossingResetNotice unit) s = .next (if unit = 0x60 ∧ ¬ s.solo then a.resetLink else a))
      ∧ ((s.crossing unit).open_ = false →
        ((s.crossing unit).fabricDone = false → exec (.crossingReopen ⟨unit, true⟩) s = .next (s.modCrossing unit fun c => { c with islandDone := true }))
        ∧ ((s.crossing unit).islandDone = false → exec (.crossingReopen ⟨unit, false⟩) s = .next (s.modCrossing unit fun c => { c with fabricDone := true }))
        ∧ (∀ island, (if island then (s.crossing unit).fabricDone else (s.crossing unit).islandDone) = true →
          let b := s.modCrossing unit fun c => { c with open_ := true, fabricDone := false, islandDone := false }
          ((s.crossing unit).stopped = true → exec (.crossingReopen ⟨unit, island⟩) s = .next b)
          ∧ ((s.crossing unit).stopped = false → exec (.crossingReopen ⟨unit, island⟩) s =
            .next ((b.putSent ((s.crossing unit).pending.filterMap (·.frame))).modCrossing unit fun c =>
              { c with completed := c.completed + (s.crossing unit).pending.length, pending := [] }))))
      ∧ (s.solo = false → exec .linkReset s = .next s.resetLink)
      ∧ (s.solo = true → exec .linkReset s = .next s))

/-- Effects at an instant of ring time, R259, R262, R346, R463, R465, R471, R538, R548: every force, host write, settings change, station table, gate
entry and revocation whose instant has come takes effect, in the order in which they were accepted, and no other does. An online change and its
instant, R248 to R250, and a quiesced unit's lease, R470: the standby that has checked a change converts its tasks and confirms the instant that is
proposed; without that confirmation 5 ms before it the change is given up with result 0A; tasks whose switch is due run their new versions; a lease
that ends releases its unit. -/
def Obligations.EffectsAtInstants : Prop :=
  (∀ (s : State),
      exec .forceEffective s = .next ((s.forceReqs.filter fun q => decide (q.at_ ≤ s.clk.ring)).foldl State.applyForces
        { s with forceReqs := s.forceReqs.filter fun q => decide (s.clk.ring < q.at_) })
      ∧ (∀ req, s.solo = false → s.mode ≠ .owner → s.up = true →
        exec (.forceTableExchange req) s = .next { s with forceReqs := s.forceReqs ++ [req] })
      ∧ (let due := s.hostWrites.filter fun w => decide (w.at_ ≤ s.clk.ring)
        let a : State := { s with
          image := { s.image with
            log := due.foldl (fun l w => w.writes.foldl (fun l r => logInsert l ⟨r.addr, r.mask, r.value, hostRank, w.at_⟩) l) s.image.log }
          hostWrites := s.hostWrites.filter fun w => decide (s.clk.ring < w.at_) }
        exec .hostWriteEffective s = .next ((due.filter fun w => decide (s.change.state = 3 ∨ s.change.state = 4) && s.change.tenant == w.tenant).foldl
          (fun s w => s.convertPub hostRank w.at_ (w.writes.map (·.addr))) a))
      ∧ exec .pairSettingsApply s = .next ((s.settings.applies.filter fun a => decide (a.1 ≤ s.clk.ring)).foldl
          (fun s a => s.applyPair a.2.1 a.2.2)
          (s.modSettings fun c => { c with applies := c.applies.filter fun a => decide (s.clk.ring < a.1) }))
      ∧ (∀ (ring : Fin 4) at_ table, (s.ring ring).staged = some (at_, table) →
        (at_ ≤ s.clk.ring → exec (.stationTableApply ring) s = .next ((((s.ring ring).changedBy table).foldl
          (fun (s : State) k => s.setStation ring k .absent) s).modRing ring fun r => { r.setTable table with staged := none }))
        ∧ (s.clk.ring < at_ → exec (.stationTableApply ring) s = .next s))
      ∧ exec .gateEntryApply s = .next ((s.gateWrites.filter fun w => decide (w.at_ ≤ s.clk.ring)).foldl State.applyGate
          { s with gateWrites := s.gateWrites.filter fun w => decide (s.clk.ring < w.at_) })
      ∧ exec .revocationApply s = .next ((s.keys.revoking.filter fun x => decide (x.1 ≤ s.clk.ring)).foldl
          (fun s x => (s.applyRevoke x.2.1).finishOpt x.2.2 0 [])
          (s.modKeys fun k => { k with revoking := k.revoking.filter fun x => decide (s.clk.ring < x.1) })))
  ∧
  (∀ (s : State),
      exec .changeSwitch s = .next s.switchDue
      ∧ ((s.change.state ≠ 3 ∨ s.clk.ring < s.change.switchAt) → s.change.state ≠ 4 → s.switchDue = s)
      ∧ (∀ i, s.change.state = 2 → s.mode ≠ .owner → s.solo = false → exec (.switchAtProposal i) s =
          .next ((((s.modChange fun c => { c with state := 3, switchAt := i, confirmed := true }).convertAll).rebuildQueues i).send 3 (.switchConfirm i)))
      ∧ (∀ i, s.change.state ≠ 2 ∨ s.mode = .owner ∨ s.solo = true → exec (.switchAtProposal i) s = .next s)
      ∧ (s.change.state = 3 → exec (.switchAtConfirm s.change.switchAt) s = .next (s.modChange fun c => { c with confirmed := true }))
      ∧ (s.change.state = 3 → s.change.confirmed = false → s.change.switchAt ≤ s.clk.ring + 5000000 →
          exec .changeConfirmDeadline s = .next (((s.tellPartner (.changeAbort 0x0A)).releaseSlot 4).abortChange 0x0A))
      ∧ (s.change.confirmed = true → exec .changeConfirmDeadline s = .next s)
      ∧ (∀ unit q, s.quiesce unit = some q → (q.lease ≤ s.clk.local_ → exec (.quiesceLeaseExpiry unit) s = .next (s.loseQuiesce unit))
          ∧ (s.clk.local_ + 50000 < q.lease → exec (.quiesceLeaseExpiry unit) s = .next s)))

/-- What the partner mirrors, R346, R391, R432, R463, R465, R471, R473, R507, R538 and R548: each kind of mirrored command is kept for its instant, or
done at once, exactly as the module that accepted it has it. Requests forwarded by the partner, R300, R311 and R575: the owner takes an acyclic
request up, and assigns a station; it grants the one maintenance slot of the pair where it is free, and otherwise names its holder; the standby takes
the owner's holder over; a slot that is released is free, and what it was held for ends. -/
def Obligations.PartnerMessages : Prop :=
  (∀ (s : State), s.solo = false → s.up = true →
      (∀ at_ tenant writes, exec (.commandMirror (.hostWrite at_ tenant writes)) s =
        .next { s with hostWrites := s.hostWrites ++ [⟨at_, tenant, 0, writes⟩] })
      ∧ (∀ at_ unit values, unit < 256 → exec (.commandMirror (.settings at_ unit values)) s =
        .next (s.modSettings fun c => { c with applies := c.applies ++ [(at_, unit, values)] }))
      ∧ (∀ at_ unit values, 256 ≤ unit → exec (.commandMirror (.settings at_ unit values)) s =
        .next ((s.setValues unit values).canUnlike (unit - 288)))
      ∧ (∀ at_ gate index entry stored, exec (.commandMirror (.gateEntry at_ gate index entry stored)) s =
        .next { s with gateWrites := s.gateWrites ++ [⟨at_, gate, index, entry, stored, none⟩] })
      ∧ (∀ at_ serial, exec (.commandMirror (.revoke at_ serial)) s =
        .next (s.modKeys fun k => { k with revoking := k.revoking ++ [(at_, serial, none)] }))
      ∧ (∀ at_ ring table, exec (.commandMirror (.stationTable at_ ring table)) s =
        .next (s.modRing ring fun r => { r with staged := some (at_, table) }))
      ∧ (∀ no value, exec (.commandMirror (.alarm no value)) s = .next (s.modTime fun x =>
        { x with alarms := modAt x.alarms no fun _ => value, alarmDone := modAt x.alarmDone no fun _ => none,
                 alarmHeld := x.alarmHeld.filter (· != no) }))
      ∧ (∀ v, exec (.commandMirror (.lanternProgram v)) s = .next (s.modLantern fun l => { l with plantProgram := some v, plantCrcOk := true }))
      ∧ (∀ unit, exec (.commandMirror (.quiesce unit true)) s =
        .next (s.modPair fun p => { p with peerQuiesced := (p.peerQuiesced.filter (· != unit)) ++ [unit] }))
      ∧ (∀ unit, let a := s.modPair fun p => { p with peerQuiesced := p.peerQuiesced.filter (· != unit) }
        exec (.commandMirror (.quiesce unit false)) s = .next (if 0x20 ≤ unit ∧ unit ≤ 0x23 then
          a.canRestarted (unit - 0x20) else a))
      ∧ (∀ k, exec (.commandMirror (.canServe k)) s = .next (s.takeCan k))
      ∧ (∀ k f, exec (.commandMirror (.canLost k f)) s = .next (s.canLost k f))
      ∧ (∀ ring rsp, exec (.commandMirror (.acycDone ring rsp)) s = .next (s.endMirrored ring rsp))
      ∧ (∀ mask, exec (.commandMirror (.healthAck mask)) s = .next (s.ackHealth mask))
      ∧ (s.mode = .standby → s.update.state = 1 ∨ s.update.state = 2 → exec (.commandMirror .activate) s =
        .next (s.modUpdate fun u => { u with state := 3, scopePair := true, pairStep := 1, bytes := 0 }))
      ∧ (∀ result, exec (.commandMirror (.changeAbort result)) s = .next (s.abortChange result))
      ∧ (∀ ring station delayA delayB, exec (.commandMirror (.assign ring station delayA delayB)) s = .next (s.takeAssign ring station delayA delayB))
      ∧ (∀ ring delays, exec (.commandMirror (.delays ring delays)) s = .next (s.takeDelays ring delays))
      ∧ (∀ tenant mask start0, exec (.commandMirror (.start tenant mask start0)) s = .next (s.startTasks tenant mask start0))
      ∧ (∀ tenant mask, exec (.commandMirror (.stop tenant mask)) s = .next (s.stopTasks tenant mask))
      ∧ (∀ tenant, exec (.commandMirror (.unload tenant)) s = .next (s.unload tenant)))
  ∧
  (∀ (s : State), s.solo = false → s.up = true →
      (∀ q, s.mode = .owner → exec (.forwardedRequest (.acyclic q)) s = .next (s.offerAcyc q none 0))
      ∧ (∀ q, s.mode ≠ .owner → exec (.forwardedRequest (.acyclic q)) s = .next s)
      ∧ (∀ ring station, exec (.forwardedRequest (.assign ring station)) s = .next (if s.mode = .owner then s.sendAssign ring station else s))
      ∧ (∀ kind id, s.mode = .owner → s.slot = none →
        exec (.forwardedRequest (.slot kind id)) s = .next { s with slot := some ⟨kind, s.front.side.other, id⟩ })
      ∧ (∀ kind id x, s.mode = .owner → s.slot = some x →
        exec (.forwardedRequest (.slot kind id)) s = .next (s.send 3 (.forward (.slot x.holder x.id))))
      ∧ (∀ kind id, s.mode ≠ .owner → kind ≠ 2 → kind ≠ 4 →
        exec (.forwardedRequest (.slot kind id)) s = .next { s with slot := some ⟨kind, s.front.side.other, id⟩ })
      ∧ (∀ id, s.mode = .standby → s.pair.synchronised = true →
        exec (.forwardedRequest (.slot 2 id)) s = .next ({ s with slot := some ⟨2, s.front.side.other, id⟩ } : State).startProof)
      ∧ (∀ id, s.mode ≠ .owner → s.change.state = 0 ∨ 5 ≤ s.change.state →
        exec (.forwardedRequest (.slot 4 id)) s =
          .next { s with slot := some ⟨4, s.front.side.other, id⟩, change := { changeReset with state := 1, tenant := id } })
      ∧ (∀ kind, kind ≠ 1 → kind ≠ 4 → exec (.forwardedRequest (.release kind)) s =
        .next { s with slot := if (s.slot.map (·.holder)) = some kind then none else s.slot })
      ∧ (s.mode ≠ .owner → let a : State := { s with slot := if (s.slot.map (·.holder)) = some 4 then none else s.slot }
        exec (.forwardedRequest (.release 4)) s = .next (a.abortChange a.change.lastResult))
      ∧ (s.mode = .owner → let a : State := { s with slot := if (s.slot.map (·.holder)) = some 1 then none else s.slot }
        exec (.forwardedRequest (.release 1)) s = .next (if a.pairUpdate then a.endUpdate 7 7 else a))
      ∧ (s.mode ≠ .owner → let a : State := { s with slot := if (s.slot.map (·.holder)) = some 1 then none else s.slot }
        (s.update.session = none → s.update.state = 1 ∨ s.update.state = 2 → exec (.forwardedRequest (.release 1)) s = .next a.abortUpdate)
        ∧ (¬ (s.update.session = none ∧ (s.update.state = 1 ∨ s.update.state = 2)) →
          (s.pairUpdate = false → exec (.forwardedRequest (.release 1)) s = .next a)
          ∧ (s.pairUpdate = true → (s.pair.peerIdent.map (·.generation)) = some s.ident.generation →
            exec (.forwardedRequest (.release 1)) s = .next (a.modUpdate fun u => { u with state := 6, pairStep := 6, bridge := false, session := none })))))

/-- Ring time on the standby and the closure link, R349, R427 and R428: a good frame of the partner is heard and its pair seen, and one of a tick moves
ring time after it; a bad one is counted; the closure's delay is half the round trip; without a frame for a whole tick the standby holds over. -/
def Obligations.RingTimeFollowing : Prop :=
  ∀ (s : State), s.up = true →
    (∀ f : PartnerFrame, s.portOn f.hdr.port = true → (f.hdr.good = false ∨ 5 < f.hdr.frameType) →
      exec (.partnerRingFrame f) s = .next (s.discardFrame f.hdr.port))
    ∧ (∀ f : PartnerFrame, s.portOn f.hdr.port = true → f.hdr.good = true → f.hdr.frameType ≤ 5 → f.hdr.senderSide = s.front.side →
      exec (.partnerRingFrame f) s = .next s)
    ∧ (∀ f : PartnerFrame, s.portOn f.hdr.port = true → f.hdr.good = true → f.hdr.frameType = 1 → f.hdr.senderSide ≠ s.front.side →
      let a := s.seenOnRing.seePair f.hdr.epoch f.hdr.ownerSide
      (f.hdr.port % 2 = 1 ∨ (a.ring (f.hdr.port / 2)).closed a.clk.local_ = false) →
      ((a.mode = .standby ∨ a.mode = .joining ∨ a.mode = .standbyFaulted) →
        exec (.partnerRingFrame f) s = .next (
          let b := a.followFrame (f.ringTime + a.pathDelay f.hdr.port)
          if b.mode = .standby ∧ b.pair.synchronised = true then b.checkShifts (f.hdr.port / 2) f.hdr.tick f.shifts else b))
      ∧ (a.mode = .owner ∨ a.mode = .lantern → exec (.partnerRingFrame f) s = .next a))
    ∧ (∀ (hdr : RingHdr) health stored stamp, s.portOn hdr.port = true → hdr.port % 2 = 1 → hdr.good = true → hdr.frameType = 6 →
      exec (.closureHeartbeat hdr health stored stamp) s =
        .next (((s.seenOnRing.seePair hdr.epoch hdr.ownerSide).takeHealth health hdr.epoch).modRing (hdr.port / 2) fun r =>
          { r with closureAt := some stamp }))
    ∧ (∀ (health : BitVec 64) epoch, (health.extractLsb' 0 3).toNat ≠ 3 → s.takeHealth health epoch = s.modPair fun p =>
        { p with peerHealth := health, peerEpoch := epoch, divergence := p.divergence || (health.getLsbD 36 && !p.peerHealth.getLsbD 36) })
    ∧ (∀ (ring : Fin 4) (sent arrived peerSent peerArrived : Nat),
      let a := s.modRing ring fun r => { r with closureDelay := ((((arrived : Int) - sent) - ((peerSent : Int) - peerArrived)) / 2).toNat }
      exec (.closureDelayMeasure ring sent arrived peerSent peerArrived) s =
        .next (if s.solo then a else a.send 3 (.closureStamps ring sent arrived)))
    ∧ (∀ t, s.time.ringSeen = some t → s.mode = .standby → t + 50000 ≤ s.clk.local_ →
      exec .ringTimeHoldover s = .next (s.modTime fun x => { x with ringHoldover := true }))
    ∧ (s.mode ≠ .standby → exec .ringTimeHoldover s = .next s)

/-- Plant time from a domain's master, R412, R413 and R416: a one-step Sync, or the Follow_Up that belongs to a two-step one, sets the domain from the
master's time stamp and corrections; a delay response gives the mean path; a request for the delay is answered. Announce messages and a domain's own
messages, R412, R415, R417: the best master's properties are taken over and the domain becomes UNCALIBRATED until it follows it; a MASTER sends Sync
and Announce at their intervals, each with the next sequence number; delay requests go out while there is a master; a locked domain that hears no
Announce loses its lock and listens. -/
def Obligations.PtpDomains : Prop :=
  (∀ (d : Fin 2) (m : PtpMsg) (s : State),
      (∀ rate, s.ptpAt d m.port = true →
        let a := s.ptpForward d 0 m
        a.ptpSlave d m = true → (a.setting 0x50 1 0 ≠ 0 ∨ (a.domain d).activePort = m.port ∨ (a.domain d).portState ≠ 9) →
        (m.twoStep = false → exec (.ptpSync d m rate) s = .next (a.applySync d m.rxTime m.stamp m.correction rate m.port))
        ∧ (m.twoStep = true → exec (.ptpSync d m rate) s = .next (a.modDomain d fun x => { x with twoStep := some m })))
      ∧ (∀ rate y, s.ptpSlave d m = true → (s.domain d).twoStep = some y → y.seq = m.seq → y.source = m.source →
        exec (.ptpFollowUp d m rate) s = .next ((s.modDomain d fun x => { x with twoStep := none }).applySync d y.rxTime m.stamp
          (y.correction + m.correction) rate y.port))
      ∧ (s.ptpAt d m.port = true → exec (.ptpPdelayReq d m) s = .next (s.ptpSend ⟨d, m.port, 3, m.seq, 0, s.clk.local_ - m.rxTime⟩))
      ∧ (s.ptpAt d m.port = true → let a := s.ptpForward d 1 m
        (a.domain d).portState = 6 → a.ptp d 2 = 0 →
        exec (.ptpDelayReq d m) s = .next (a.ptpSend ⟨d, m.port, 9, m.seq, (a.domain d).base.valueAt m.rxTime, m.correction.toNat⟩))
      ∧ (∀ t, s.ptpSlave d m = true → (s.domain d).delaySent = some t → exec (.ptpDelayResp d m) s =
        .next (s.modDomain d fun x => { x with
          delaySent := none, meanPath := (x.offset + x.meanPath + (m.stamp - m.correction - x.base.valueAt t)) / 2 }))
      ∧ (∀ t, s.ptpAt d m.port = true → (s.domain d).delaySent = some t →
        (m.twoStep = false → exec (.ptpPdelayResp d m) s = .next (s.modDomain d fun x => { x with
          delaySent := none, meanPath := (((m.rxTime : Int) - (t : Int)) - m.correction) / 2 }))
        ∧ (m.twoStep = true → exec (.ptpPdelayResp d m) s = .next (s.modDomain d fun x => { x with twoStep := some m }))
        ∧ (∀ y, (s.domain d).twoStep = some y → y.seq = m.seq → y.source = m.source →
          exec (.ptpPdelayRespFollowUp d m) s = .next (s.modDomain d fun x => { x with
            delaySent := none, twoStep := none,
            meanPath := (((y.rxTime : Int) - (t : Int)) - (m.stamp - y.stamp) - y.correction - m.correction) / 2 }))))
  ∧
  (∀ (d : Fin 2) (s : State),
      (∀ m : PtpMsg, s.ptpAt d m.port = true → (s.domain d).foreign.contains (m.port, m.source) = true →
        let a := s.modDomain d fun x =>
          { x with foreign := (s.domain d).foreign }
        let b := a.modDomain d fun x =>
          { x with
            master := some m.source, lastAnnounce := some s.clk.local_, activePort := m.port
            portState := if x.master = some m.source ∧ x.portState = 9 then 9 else 8
            utcValid := m.utcValid, leap61 := m.leap61, leap59 := m.leap59, gmClass := m.gmClass, gmIdentity := m.gmIdentity
            utcOffset := m.utcOffset, stepsRemoved := m.stepsRemoved }
        exec (.ptpAnnounce d m true) s = .next (if b.time.selected = d then b.takeUtc else b))
      ∧ (∀ (m : PtpMsg) best, s.ptpAt d m.port = false → exec (.ptpAnnounce d m best) s = .next s)
      ∧ ((s.domain d).portState = 6 → s.ptpOn d = true →
        exec (.ptpSyncInterval d) s = .next (((s.ptpPorts d).foldl (fun u p =>
          u.ptpSend ⟨d, p, 0, (s.domain d).seqSync, (s.domain d).base.valueAt u.clk.local_, 0⟩) s).modDomain d fun y =>
            { y with seqSync := (y.seqSync + 1) % 65536 })
        ∧ exec (.ptpAnnounceInterval d) s = .next (((s.ptpPorts d).foldl (fun u p =>
          u.ptpSend ⟨d, p, 11, (s.domain d).seqAnnounce, 0, 0⟩) s).modDomain d fun y =>
            { y with seqAnnounce := (y.seqAnnounce + 1) % 65536 }))
      ∧ ((s.domain d).portState ≠ 6 → exec (.ptpSyncInterval d) s = .next s ∧ exec (.ptpAnnounceInterval d) s = .next s)
      ∧ (s.ptpOn d = true → s.ptp d 2 = 0 → (s.domain d).master ≠ none → exec (.ptpDelayInterval d) s =
        .next ((s.ptpSend ⟨d, (s.domain d).activePort, 1, (s.domain d).seqDelay, (s.domain d).base.valueAt s.clk.local_, 0⟩).modDomain d
          fun y => { y with seqDelay := (y.seqDelay + 1) % 65536, delaySent := some s.clk.local_ }))
      ∧ (s.ptpOn d = true → s.ptp d 2 = 0 → (s.domain d).master = none → exec (.ptpDelayInterval d) s = .next s)
      ∧ (∀ t, s.ptpOn d = true → (s.domain d).portState ≠ 6 → (s.domain d).locked = true → (s.domain d).lastAnnounce = some t →
        let interval := if s.ptp d 2 = 2 then 1000000000 else 1000000000 * 2 ^ (s.ptp d 9).toNat
        (t + (s.ptp d 10).toNat * interval ≤ s.clk.local_ → exec (.announceReceiptTimeout d) s =
          .next ((s.modDomain d fun x =>
            { x with locked := false, holdover := true, portState := 4, master := none, lastAnnounce := none, good := 0, bad := 0,
                     lockedSince := none, outSince := some s.clk.local_ }).ptpChange d 4))
        ∧ (s.clk.local_ + 50000 < t + (s.ptp d 10).toNat * interval → exec (.announceReceiptTimeout d) s = .next s)))

/-- Time inputs and outputs, R405, R406, R414, R421, R423 and R430 to R432: the 10 MHz reference, its lock and its loss; the plant ports' links; the
selected domain; leap seconds; the PPS output and input; time alarms; and the loss of the main reference. -/
def Obligations.TimeInputs : Prop :=
  ∀ (s : State),
    (s.up = true → s.ref10m = true → exec .ref10mValid s = .next (s.modTime fun x => { x with refValid := true })
      ∧ (s.time.refValid = true → s.time.refLocked = false →
        exec .ref10mLocked s = .next ((s.modTime fun x => { x with refLocked := true, refHoldover := false }).fire 966))
      ∧ (s.time.refValid = true ∨ s.time.refLocked = true → exec .ref10mLost s = .next (((s.modTime fun x =>
          { x with refValid := false, refLocked := false, refHoldover := true }).record 406 1 sevWarning 966 noSource []).fire 966)))
    ∧ exec .mainReferenceStop s = .next (s.modFront fun f => { f with refStopped := true })
    ∧ exec .ppsOutEdge s = .next (s.modTime fun x => { x with ppsOut := s.up && s.ppsValid && s.mode != .lantern && s.front.seated })
    ∧ exec .ppsOutFall s = .next (s.modTime fun x => { x with ppsOut := false })
    ∧ (∀ t l, (s.advanceTo t).up = true → (s.advanceTo t).time.ppsInLast = some l → exec (.ppsInEdge t) s =
      .next ((s.advanceTo t).modTime fun x => { x with
        ppsInPresent := decide (((t : Int) - l - 1000000000).natAbs ≤ 100000), ppsInLast := some t,
        ppsInOffset := if x.plantValid then secondOffset (x.plant.valueAt t) else 0 }))
    ∧ (∀ t, s.time.ppsInLast = some t →
      (t + 2000000000 ≤ s.clk.local_ → exec .ppsInLoss s = .next (s.modTime fun x => { x with ppsInPresent := false }))
      ∧ (s.clk.local_ + 50000 < t + 2000000000 → exec .ppsInLoss s = .next s))
    ∧ (∀ (port : Fin 2) (up : Bool), (s.time.plantLink[port.val]?).getD false ≠ up →
      let a := s.modTime fun x => { x with
        plantLink := modAt x.plantLink port fun _ => up
        domains := x.domains.map fun d =>
          if (up = false ∧ d.activePort = port.val) ∧ (x.plantLink[1 - port.val]?).getD false = true then { d with activePort := 1 - port.val } else d }
      exec (.plantPortLinkChange port up) s = .next ((a.record 414 1 (if up then sevInfo else sevWarning) 969 noSource
        [(4, port), (4, if up then 1 else 0)]).fire 969))
    ∧ (s.up = true → s.time.inLeap = true → ∀ ins, exec (.leapSecond ins) s =
      .next (s.modTime fun x => { x with inLeap := false, utcOffset := s.utcOffset + 1, utcKnown := true }))
    ∧ (s.up = true → s.time.inLeap = false → (s.domain s.time.selected).leap61 = true →
      exec (.leapSecond true) s = .next (s.modTime fun x => { x with inLeap := true }))
    ∧ (s.up = true → s.time.inLeap = false → (s.domain s.time.selected).leap59 = true →
      exec (.leapSecond false) s = .next (s.modTime fun x => { x with utcOffset := s.utcOffset - 1, utcKnown := true }))
    ∧ (s.setting 0x42 2 0 = 1 → s.ident.variant ≠ .nk920 → s.isQuiesced 0x42 = false → s.up = true →
      let home := s.settingNat 0x42 1 0
      ∀ t, s.time.selected ≠ home → (s.domain home).locked = true → (s.domain home).lockedSince = some t →
        t + s.settingNat 0x42 3 0 * 1000000000 ≤ s.clk.local_ → exec .selectDelayExpiry s = .next (s.selectDomain home))
    ∧ (∀ (no : Fin 16) a due, s.time.alarms[no.val]? = some a → s.up = true → a.enable = 1 → s.alarmDue no a = some due →
      (a.base ≠ 0 → due ≤ s.clk.ring → exec (.timeAlarm no) s = .next (s.fireAlarm no due due))
      ∧ (a.base = 0 → s.time.plantValid = true → let now := (s.time.plant.valueAt s.clk.local_).toNat
        due ≤ now → exec (.timeAlarm no) s = .next (s.fireAlarm no due (s.clk.ring + due - now))))

/-- The partner link and the supply, R335, R340 to R342, R348: a heartbeat is heard, returns credits and brings the partner's health; a frame is sent
again up to three times, and then its lane is lost, as a lane that loses lock is; a repair is counted, an uncorrectable error is a module fault; a
feed that is lost or restored is told, and with both lost the module keeps its state and stops. The partner lost and seen again, R349, R350, R356,
R366, R367: three paths that stay silent 3 ms leave the module alone, a standby then becomes owner with cause SILENCE-CLAIM; the HEALTHY signal and
the owner's claim are followed; a HANDOVER pulse makes a synchronised standby owner. -/
def Obligations.LinkAndPaths : Prop :=
  (∀ (s : State),
      (∀ (health : BitVec 64) epoch tick free credits, s.solo = false → s.up = true →
        let a : State :=
          { s with
            pair := { s.pair with
              lastLink := some s.clk.local_, linkSilent := false, peerFree := free }
            link := { s.link with
              lane0 := s.link.lane0 || (!s.link.lane0 && !s.link.lane1), lane1 := s.link.lane1 || (!s.link.lane0 && !s.link.lane1)
              classes := returnCredits s.link.classes credits } }
        ((a.takeHealth health epoch).mode = .standbyFaulted ∨ (a.takeHealth health epoch).mode = .lantern
          ∨ ((a.takeHealth health epoch).mode = .standby ∧ s.pair.linkSilent = false)) →
        exec (.linkHeartbeat health epoch tick free credits) s = .next (a.takeHealth health epoch))
      ∧ (∀ health epoch tick free credits, s.solo = true ∨ s.up = false →
        exec (.linkHeartbeat health epoch tick free credits) s = .next s)
      ∧ (∀ (lane : Fin 2) (cls : Fin 5) seq, s.solo = false → s.up = true →
        let n := (((s.link.classes[cls.val]?).bind fun c => NMap.get c.unacked seq)).getD 0
        (3 ≤ n → exec (.linkFrameResend lane cls seq) s = .next (s.loseLane lane))
        ∧ (n < 3 → exec (.linkFrameResend lane cls seq) s = .next ((s.modLink fun l =>
          { l with
            classes := modAt l.classes cls fun c => { c with unacked := NMap.set c.unacked seq (n + 1) }
            resends0 := if lane = 0 then satInc l.resends0 else l.resends0
            resends1 := if lane = 0 then l.resends1 else satInc l.resends1 }).count (0x4000 + lane)))
        ∧ exec (.linkLossOfLock lane) s = .next (s.loseLane lane))
      ∧ (∀ bank : Fin 8, exec (.scrubberRepair bank) s = .next ((s.count (0x3000 + bank)).modPair fun p => { p with corrected := p.corrected + 1 }))
      ∧ (s.up = true → exec .memoryUncorrectable s =
        .next (((s.modPair fun p => { p with memoryUncorrectable := true }).record 335 1 sevFault noSource noSource []).moduleFault .memory
          (State.restartFor .memory)))
      ∧ (∀ dram corrected, s.up = true → exec (.eccPatrolPass dram corrected) s = .next (s.modPair fun p =>
          { p with
            scrubCorrected := decide (0 < corrected) || (!dram && decide (0 < p.corrected))
            corrected := if dram then p.corrected else 0 }).selftestPass)
      ∧ (s.up = true → s.feeds.present1 = true → exec (.feedLost 0) s =
        .next (if (s.feedChange 0 false).feedsGone then (s.feedChange 0 false).failPower else s.feedChange 0 false))
      ∧ (s.up = true → s.feeds.present2 = true → exec (.feedLost 1) s =
        .next (if (s.feedChange 1 false).feedsGone then (s.feedChange 1 false).failPower else s.feedChange 1 false))
      ∧ (s.up = true → s.feeds.present1 = false → s.front.powerFail = false → (s.feedChange 0 true).front.powerFail = false →
          exec (.feedRestored 0) s = .next (s.feedChange 0 true))
      ∧ (s.up = true → s.feeds.present2 = false → (s.feedChange 1 true).front.powerFail = true → (s.feedChange 1 true).feedsGone = false →
          exec (.feedRestored 1) s = .next ((((s.feedChange 1 true).modFront fun f => { f with powerFail := false })).restart .powerFail)))
  ∧
  (∀ (s : State),
      (s.up = true → ∀ t, s.pair.lastLink = some t → t + 3000000 ≤ s.clk.local_ → s.pair.linkSilent = false →
        let elsewhere := s.pair.peerHealthy || (match s.pair.lastRing with | some r => decide (t + 100000 < r) | none => false)
        let a := s.modPair fun p =>
          { p with linkSilent := true, linkWasSilent := true, synchronised := p.synchronised && !(s.mode == .standby && elsewhere),
                   holdoffFrom := none, holdoffDue := false }
        (a.isolated = false → exec (.pathSilent 0) s = .next a)
        ∧ (a.isolated = true → a.solo = false →
          let b := ((a.record 349 1 sevWarning 898 noSource []).fire 898).modPair fun p => { p with peerHealth := 0, peerClaim := false }
          exec (.pathSilent 0) s = .next (if b.mode = .standby then b.takeOver .silenceClaim else if b.mode = .joining then b.ownerLost
            else if b.mode = .owner then b.updateOrphaned else b.tryOwn)))
      ∧ (s.pair.linkSilent = true → exec (.pathSilent 0) s = .next s)
      ∧ (s.pair.peerHealthy = true → s.mode ≠ .joining →
        let a := ((s.modPair fun p => { p with peerHealthy := false, lastDisc := some s.clk.local_ }).record 350 1 sevWarning 897 noSource []).fire 897
        let b := ((if a.io.half then a.fullShare else a).stopWaiting).checksAlone
        b.mode ≠ .joining → exec .healthyLost s = .next b)
      ∧ exec .healthyPresent s = .next (s.modPair fun p => { p with
          peerHealthy := true, discSilent := false, lastDisc := some s.clk.local_
          synchronised := p.synchronised && !(s.mode == .standby && p.linkSilent) })
      ∧ (∀ level, level = false ∨ s.pair.peerClaim = true ∨ s.mode ≠ .lantern →
        exec (.ownerClaimChange level) s = .next (s.modPair fun p => { p with peerClaim := level }))
      ∧ (s.mode = .standby → s.up = true → s.pair.handover = none → exec .handoverPulse s = .next (s.takeOver .none))
      ∧ (s.mode = .lantern → s.io.half = false → exec .handoverPulse s = .next s)
      ∧ (s.solo = false → s.up = true → exec .leavingNotice s =
        .next (((if s.io.half then s.fullShare else s).stopWaiting).checksAlone).updateLeft)
      ∧ (s.solo = false → s.up = true → exec .identityRequest s = .next (s.send 3 (.identity ⟨s.ident.variant, s.ident.fuse, s.ident.generation,
          s.front.side, s.solo, s.mode == .owner, s.update.bridge && (s.slot.map (·.holder)) == some 1, s.update.targetGen, s.update.bridgeList⟩)))
      ∧ (∀ id, s.solo = false → s.up = true → exec (.identityRead id) s =
        .next ((s.modPair fun p => { p with peerIdent := some id }).leaveLantern (some id))))

/-- A planned handover, R364 to R366, R369: the standby acknowledges the owner's proposal; at its tick an acknowledged one gives ownership, and the
standby becomes owner with the new epoch and its cause; both write the epoch before it is used; one that is not acknowledged 100 µs before its tick is
withdrawn. A join, R8, R353, R357, R358, R373 to R375: the owner accepts it and transfers its state, to a module of its own kind (that the request
names the joiner's identity is the model's choice, log entry 111); the joining module takes the state over; with static stores that agree it is
STANDBY and synchronised, and otherwise the join is given up, as it is after 10 s; a standby that fails a test is FAULTED, and may join again. -/
def Obligations.HandoverAndJoin : Prop :=
  (∀ (s : State),
      (∀ h epoch, s.mode = .standby → s.up = true → h ≠ 0 → s.front.leverOpen = false → exec (.handoverProposal h epoch) s =
        .next ((s.modPair fun p =>
          { p with stored := max p.stored epoch, handover := some ⟨h, epoch, true, if p.holdoffDue then .revert else .command, false, none⟩ }).send 3
            (.handoverAck epoch)))
      ∧ (∀ epoch, s.mode = .standby → s.up = true → exec (.handoverProposal 0 epoch) s =
        .next (s.modPair fun p => { p with handover := none, holdoffDue := false }))
      ∧ (∀ h epoch, s.mode ≠ .standby ∨ s.up = false → exec (.handoverProposal h epoch) s = .next s)
      ∧ (∀ h, s.pair.handover = some h →
        (s.mode = .owner → exec (.handoverAck h.epoch) s = .next (s.modPair fun p =>
          { p with stored := max p.stored h.epoch, handover := some { h with acked := true } }))
        ∧ (h.acked = true → h.h ≤ s.clk.ring →
          (s.mode = .owner → exec .handoverTick s = .next (s.giveOwnership h))
          ∧ (s.mode = .standby → exec .handoverTick s = .next (s.becomeOwner h.epoch h.cause true).updateSwapped))
        ∧ (h.acked = false ∨ s.clk.ring < h.h → exec .handoverTick s = .next s)
        ∧ (s.mode = .owner → h.acked = false → h.h ≤ s.clk.ring + 100000 →
          let a := ((s.modPair fun p => { p with handover := none }).finishOpt h.ticket 11 errorPlain).send 3 (.handover 0 h.epoch)
          exec .handoverCancel s = .next (if h.leave then a.leverRefuse else a)))
      ∧ (∀ t, s.pair.holdoffFrom = some t → s.mode = .standby → t + s.settingNat 0x60 4 0 * 1000000000 ≤ s.clk.local_ →
        s.pair.holdoffDue = false → s.slot.isSome = true →
        exec .revertHoldoffExpiry s = .next (s.modPair fun p => { p with holdoffDue := true })))
  ∧
  (∀ (s : State),
      (∀ stored id, s.mode = .owner → s.solo = false →
        (pairs s.identity id = true → exec (.joinRequest ⟨stored, id⟩) s = .next ((s.modPair fun p =>
          { p with
            join := some ⟨s.clk.local_, some s.clk.local_, true, none⟩
            raiseTo := if p.epoch ≤ stored then some stored else p.raiseTo }).send 4 .stateTransfer))
        ∧ (pairs s.identity id = false → exec (.joinRequest ⟨stored, id⟩) s = .next s))
      ∧ (∀ tr j, s.solo = false → s.up = true → s.mode = .joining → s.pair.join = some j →
        let j1 : Join := { j with acceptedAt := some (j.acceptedAt.getD s.clk.local_), static_ := true }
        (tr.tickJ = none → exec (.stateTransfer tr) s = .next (s.modPair fun p => { p with join := some j1 }))
        ∧ (∀ t, tr.tickJ = some t → exec (.stateTransfer tr) s =
          .next ((s.takeTransfer tr).modPair fun p => { p with join := some { j1 with tickJ := some t } })))
      ∧ (∀ j, s.mode = .joining → s.pair.join = some j → j.tickJ.isSome = true →
        (s.vcore.regOn = false → exec (.joinComplete true) s = .next s)
        ∧ (s.vcore.regOn = true →
          let a : State :=
            { s with
              mode := .standby, cause := .none, saved := none
              pair := { s.pair with
                join := none, joinAborts := 0, synchronised := true, standbySince := some s.clk.local_, linkWasSilent := false } }
          let b := (a.endProof.record 357 1 sevInfo 905 noSource [(4, a.pair.epoch)]).fire 905
          exec (.joinComplete true) s = .next (b.keys.revoked.foldl (fun (s : State) w => s.send 3 (.mirror (.revoke s.clk.ring w))) b))
        ∧ exec (.joinComplete false) s = .next (s.abortJoin fun s => s.toJoining .none))
      ∧ (∀ j a, s.pair.join = some j → s.mode = .joining → s.pair.proofTest = false → j.acceptedAt = some a →
        (a + 10000000000 ≤ s.clk.local_ → exec .joinTimeout s = .next (s.abortJoin fun s => s.toJoining .none))
        ∧ (s.clk.local_ + 50000 < a + 10000000000 → exec .joinTimeout s = .next s))
      ∧ (∀ t, s.mode = .standbyFaulted → s.up = true → s.pair.faultBudgetOrIngress = true → s.pair.faultAt = some t →
        t + 60000000000 ≤ s.clk.local_ → s.pair.autoRejoinAt = none → s.causePersists = false →
        exec (.autoRejoin true) s = .next (s.modPair fun p => { p with autoRejoinAt := some s.clk.local_ }).rejoin)
      ∧ (s.mode ≠ .standbyFaulted → ∀ pass, exec (.autoRejoin pass) s = .next s)
      ∧ (∀ strand, s.mode = .standby → s.up = true → s.sleeps strand = true →
        exec (.patternTest strand true) s = .next s.selftestPass
        ∧ exec (.patternTest strand false) s = .next (s.modPair fun p => { p with patternFail := true }).selftestFail)
      ∧ (s.mode = .joining → s.pair.proofTest = true →
        exec (.proofTestDone true) s = .next ((s.modPair fun p =>
          { p with proofTest := false, join := some ⟨s.clk.local_, none, false, none⟩ }).send 3 (.joinRequest ⟨s.storedEpoch, s.identity⟩))
        ∧ exec (.proofTestDone false) s =
          .next (((((s.modPair fun p => { p with laneTestFail := true }).endProof).record 374 1 sevFault 908 noSource []).fire 908).toFaulted .selftest)))

/-- Digital channels and shares, R482 to R489: an edge of an input is kept with its 100 ns stamp and fires where the channel selects it; a change of share
falls on the next tick; outputs go silent; a channel that is too hot is off until it has cooled; the fault of the output stage. Analogue channels and
HART, R494, R497 to R501: a channel's status follows its converter, and a change of OPEN or of the fault is told; a loop that falls low takes the full
share; a HART response answers its transaction, or fills a burst; an attempt that times out is repeated twice, and then ends. -/
def Obligations.LocalChannels : Prop :=
  (∀ (s : State),
      (s.drivesLocal = true → ∀ half, exec (.shareChange half) s = .next (s.modPair fun p => { p with shareTick := some (s.clk.tick + 1, half) }))
      ∧ (s.drivesLocal = false → ∀ half, exec (.shareChange half) s = .next s)
      ∧ (∀ (ch : Fin 32) (level : Bool) t, (s.advanceTo t).up = true → (s.advanceTo t).ident.variant ≠ .nk920 →
        (s.advanceTo t).io.di.getLsbD ch ≠ level →
        let a := (s.advanceTo t).modIo fun io => { io with di := putBit io.di ch level }
        exec (.diEdge ch level t) s = .next (if a.setting 0x30 3 ch = 3 ∨ a.setting 0x30 3 ch = (if level then 1 else 2) then
          a.fireAt ch (if a.mode = .lantern then t / 1000 * 1000 else a.ringAt (t / 100 * 100)) else a))
      ∧ (∀ (ch : Fin 32) (level : Bool) t, (s.advanceTo t).io.di.getLsbD ch = level → exec (.diEdge ch level t) s = .next (s.advanceTo t))
      ∧ exec .outputStageSilence s = .next s.silence
      ∧ (∀ ch : Fin 16, exec (.doThermalShutdown ch) s = .next (s.modIo fun io => { io with thermal := putBit io.thermal ch true }).settleDo
        ∧ exec (.doThermalRestart ch) s = .next (s.modIo fun io => { io with thermal := putBit io.thermal ch false }).settleDo)
      ∧ (s.up = true → exec .doFaultSet s = .next (s.setDoFault true))
      ∧ (s.up = true → s.io.thermal = 0 → s.io.lplusOk = true → exec .doFaultClear s = .next (s.setDoFault false))
      ∧ (s.io.thermal ≠ 0 ∨ s.io.lplusOk = false → exec .doFaultClear s = .next s))
  ∧
  (∀ (s : State),
      (∀ (ch : Fin 8) code fault, s.up = true → s.setting 0x32 1 ch = 1 →
        let c := min 48000 code
        let new : AiCh := ⟨c, decide (c < 2000), decide (c ≤ 7200), decide (42000 ≤ c), decide (c = 48000), fault⟩
        let a := s.modIo fun io => { io with ai := modAt io.ai ch fun _ => new }
        exec (.aiStatusChange ch code fault) s = .next (if (s.io.aiCh ch).open_ ≠ new.open_ ∨ (s.io.aiCh ch).converterFault ≠ fault then
          a.channelChange 0x32 ch else a))
      ∧ (∀ ch : Fin 4, s.up = true → s.io.half = true → (s.io.ao[ch.val]?).isSome = true → exec (.aoLoopLow ch) s = .next s.fullShare)
      ∧ (∀ (ch : Fin 4) (on : Bool), s.up = true →
        ((s.aoCh ch).openLoop ≠ on → exec (.openLoop ch on) s = .next ((s.modAo ch fun c => { c with openLoop := on }).channelChange 0x33 ch))
        ∧ ((s.aoCh ch).openLoop = on → exec (.openLoop ch on) s = .next s)
        ∧ ((s.aoCh ch).stageFault ≠ on → exec (.stageFault ch on) s = .next ((s.modAo ch fun c => { c with stageFault := on }).channelChange 0x33 ch)))
      ∧ (∀ (ch : Fin 12) code data x, (s.hartCh ch).active = some x →
        ((s.hartCh ch).uid = false → exec (.hartResponse ch code data) s = .next (s.modHart ch fun h => { h with uid := true }))
        ∧ ((s.hartCh ch).uid = true → ∀ k, x.ticket = some k → exec (.hartResponse ch code data) s =
          .next (((s.modHart ch fun h => { h with active := none, held := h.held }).finishOpt (some k) 0 (hartBody 0 code data)).hartNext ch))
        ∧ (∀ fe : Bool, let errs := x.frameErrors + (if fe then 1 else 0)
          (x.attempts < 3 → exec (.hartAttemptTimeout ch fe) s =
            .next (s.modHart ch fun h => { h with active := some { x with attempts := x.attempts + 1, frameErrors := errs } }))
          ∧ (3 ≤ x.attempts → let result := if errs = 3 then 2 else 1
            exec (.hartAttemptTimeout ch fe) s = .next (((s.modHart ch fun h =>
              { h with active := none, uid := if result = 1 then false else h.uid }).finishOpt x.ticket 0 (hartBody result 0 [])).hartNext ch))))
      ∧ (∀ (ch : Fin 12) code data, (s.hartCh ch).active = none → (s.hartCh ch).mirrors = [] →
        exec (.hartResponse ch code data) s = .next (s.modHart ch fun h => { h with bursts := h.bursts + 1 }))
      ∧ (∀ req, exec (.hartMirror req) s = .next (s.modHart req.ch fun h => { h with mirrors := [req] }))
      ∧ (∀ ch : Fin 12, exec (.hartReplyHoldExpiry ch) s =
        .next (s.modHart ch fun h => { h with held := h.held.filter fun x => decide (s.clk.local_ + 50000 < x.2.2.2) })))

/-- Seating and power, R365, R386 to R389, R400, R402, R404 and R612: a feed's switch closes while the module is seated and the feed is present; the
module restarts when it is seated while it is powered, and loses its part in the pair when it is not; the lever; the loss of power and the release of
reset. Bring-up, R387 to R392, R397, R399 and R568: the loader ends in LANTERN with the slot's identity, where a bad flash part is fetched; a bring-up
that ends leaves for the state that R397 names, or TEST-HOLD; an overrun restarts the module twice and then holds it; the lantern program runs a cycle
every 100 ms. -/
def Obligations.SeatingAndBringUp : Prop :=
  (∀ (s : State),
      (s.front.seated = true → s.feeds.present1 = true →
        exec (.feedSwitchClose 0) s = .next (s.modFeeds fun f => { f with switch1 := true }))
      ∧ (s.front.seated = true → s.feeds.present2 = true →
        exec (.feedSwitchClose 1) s = .next (s.modFeeds fun f => { f with switch2 := true }))
      ∧ (s.front.seated = false → ∀ feed, exec (.feedSwitchClose feed) s = .next s)
      ∧ (s.front.seated = false →
        (s.front.powered = true → exec .seatedMade s = .next ((s.modFront fun f => { f with seated := true }).restart .seatedLost))
        ∧ (s.front.powered = false → exec .seatedMade s = .next { s.modFront fun f => { f with seated := true } with mode := .seated }))
      ∧ (s.front.seated = true →
        let a : State := { s with front := { s.front with seated := false }, feeds := { s.feeds with switch1 := false, switch2 := false },
                                  lantern := { s.lantern with removedSince := true } }
        (a.up = false → exec .seatedLost s = .next { a with mode := .unseated })
        ∧ (a.up = true → exec .seatedLost s =
          let b := if s.mode = .owner ∧ ¬ a.solo then a.emergency else a.silencePorts.releaseLocal
          .next (({ b with mode := .unseated, cause := .seatedLost, time := { b.time with ppsOut := false } } : State).record 402 1 sevFault
            noSource noSource [])))
      ∧ exec .seatedOpening s = .next (s.modFront fun f => { f with openings := f.openings + 1 })
      ∧ (s.front.leverOpen = false →
        let a := s.modFront fun f => { f with leverOpen := true }
        (a.up = false → exec .leverOpen s = .next a)
        ∧ (a.up = true → s.mode = .standby ∨ s.mode = .joining ∨ s.mode = .standbyFaulted → exec .leverOpen s = .next (a.leverStops.leave .lever false))
        ∧ (a.up = true → s.mode = .testHold → exec .leverOpen s =
          .next (if a.reader.present.isSome then a.leverStops.leave .lever true else a.leverRefuse))
        ∧ (a.up = true → s.mode = .owner → a.solo = false → a.peerStandbySync = true → a.pair.handover = none →
          exec .leverOpen s = .next (a.leverStops.proposeHandover .lever true none)))
      ∧ (s.front.leverOpen = true → exec .leverOpen s = .next s
        ∧ (s.mode ≠ .lantern → exec .leverClose s =
          .next (s.modFront fun f => { f with leverOpen := false, leverRefused := false, safeToRemove := false })))
      ∧ exec .lossOfPower s = .next { s.silencePorts.releaseLocal with
          pair := { s.pair with handoverPulse := false }
          mode := if s.front.seated then .seated else .unseated
          front := { s.front with powered := false, lampTest := false, cmServed := false, safeToRemove := false, leverRefused := false }
          feeds := { s.feeds with switch1 := false, switch2 := false } }
      ∧ (s.front.powered = false → s.front.seated = true → s.feeds.switch1 = true ∨ s.feeds.switch2 = true →
        exec .resetReleased s = .next s.powerUp)
      ∧ (s.front.powered = true → exec .resetReleased s = .next s)
      ∧ (∀ id side parity, s.up = true → exec (.slotIdChange id side parity) s =
        .next (s.record 387 2 sevInfo noSource noSource [(4, id), (4, side.bit), (4, if parity then 1 else 0)]))
      ∧ exec .lampTestEnd s = .next (s.modFront fun f => { f with lampTest := false }))
  ∧
  (∀ (s : State), s.up = true →
      (∀ id side parity testHold badPart, s.mode = .seated →
        let a : State :=
          { s with
            mode := .lantern
            front := { s.front with slotId := id, side := side, parityOk := parity }
            lantern := { s.lantern with phase := .bringup, hold := .none, testHoldPin := testHold, enteredAt := s.clk.local_ } }
        let b := if parity then a else a.record 387 1 sevFault noSource noSource [(4, id)]
        exec (.loaderDone id side parity testHold badPart) s = .next (if badPart = 0 then b else b.beginFetch badPart).lanternStart)
      ∧ (s.mode = .lantern → s.lantern.bringupComplete = false → s.lantern.phase = .bringup →
        let a := (s.modLantern fun l => { l with bringupComplete := true, completeAt := s.clk.local_, overruns := 0 }).startUnits
        exec .bringupComplete s = .next (
          if a.lantern.testHoldPin = true ∧ a.front.parityOk = true then
            if a.pair.peerHealthy = true ∨ a.pair.peerClaim = true then a.modLantern fun l => { l with phase := .held, hold := .testHoldRefused }
            else a.enterTestHold
          else a.leaveLantern (if a.partnerSeen then a.pair.peerIdent else none)))
      ∧ (s.mode = .seated ∨ (s.mode = .lantern ∧ s.lantern.bringupComplete = false) →
        let n := s.lantern.overruns + 1
        let a := (s.modLantern fun l => { l with overruns := n }).record 389 1 sevWarning noSource noSource [(4, n)]
        (n < 3 → exec .bringupPhaseOverrun s = .next (a.restart a.cause))
        ∧ (3 ≤ n → exec .bringupPhaseOverrun s =
          .next { a with mode := .lantern, lantern := { a.lantern with phase := .held, hold := .bringupTimeout, overruns := 0 } }))
      ∧ (s.mode = .lantern → s.lantern.phase = .fetching →
        (∀ m : FetchedManifest, exec (.partFetchDone false m) s = .next s.partInvalid)
        ∧ (∀ g typeCode, typeCode ≠ Config.typeCode s.ident.variant → exec (.partFetchDone true ⟨g, typeCode⟩) s = .next s.partInvalid)
        ∧ (∀ g, exec (.partFetchDone true ⟨g, Config.typeCode s.ident.variant⟩) s = .next ((({ s with
            ident := { s.ident with generation := g }
            update := { s.update with state := 6, endCause := 6, part := 0, fetchFrom := none, recordSeq := s.update.recordSeq + 1,
                                      scopePair := false, bridge := false } } : State).record 568 1 sevWarning noSource noSource
              [(4, g)]).restart .none))
        ∧ (∀ t, s.update.fetchFrom = some t → t + 10000000000 ≤ s.clk.local_ → exec .partFetchTimeout s = .next s.partInvalid))
      ∧ (s.mode ≠ .lantern → exec .partFetchTimeout s = .next s ∧ exec .lanternCycle s = .next s ∧ exec .bringupComplete s = .next s)
      ∧ (s.mode = .lantern → ∀ t, s.takeLanternNext.task lanternTask = some t → s.takeLanternNext.lantern.running = true → t.st = .armed →
        t.inCycle = false →
        let a := s.takeLanternNext
        let m := a.lantern.enteredAt + (a.clk.local_ - a.lantern.enteredAt) / 100000000 * 100000000
        exec .lanternCycle s = .next ((a.modTask lanternTask fun u =>
          { u.begin m 0 a.clk.local_ .notSpeculating with inputs := ((a.versionOf t).inputs.map a.localNow).eraseDups, snap := none }).tryOwn))
      ∧ (s.solo = false → s.lantern.phase ≠ .fetching → s.pairUpdate = false →
        (s.send 5 (.parts s.ident.generation)).pairUpdate = false →
        exec .partFetchRequest s = .next (s.send 5 (.parts s.ident.generation))))

/-- CAN controllers, R502, R503, R508, R510, R512, R518 to R520: a received frame is detected, seen, timed and filtered; a transmission that ends is
acknowledged and lowers the error count, but one with bit-rate switching whose loop delay is above 400 ns waits to be sent again without it (R505);
one that fails is tried again up to the controller's limit; bus-off loses what waits; the mirrored frames and the rate detection. Time-triggered CAN,
R518, R522 to R524: a time master sends its reference at each basic cycle's start, and counts one that it cannot send; the watch of the reference
sends one too; a window and a period queue their objects; lost synchronism. -/
def Obligations.CanEvents : Prop :=
  (∀ (k : Fin 4) (s : State),
      (∀ f t, (s.advanceTo t).canRuns k = true → (s.advanceTo t).canSetting k 2 ≠ 2 →
        let a := (s.advanceTo t).canSeen k f
        exec (.canFrameReceived k f false false t) s = .next (
          (if (a.ctl k).isReference f then
            a.modCan k fun c =>
              c.takeReference ((s.advanceTo t).ringAt t) (((f.data[0]?).getD 0).toNat % max 1 ((c.sched.map (·.cycles)).getD 1)) (f.id % 8) false
           else a.canViolation k f ((s.advanceTo t).ringAt t)).canFilter k f ((s.advanceTo t).ringAt t)))
      ∧ (∀ f remote t, exec (.canFrameReceived k f remote true t) s = .next (s.advanceTo t))
      ∧ (∀ x seen loop, s.canDrives k = true → (s.ctl k).nextTx = some x → x.frame.brs = true → 400 < loop →
        exec (.canTxComplete k ⟨seen, loop⟩) s = .next (s.modCan k fun c =>
          { c with
            longLoops := satInc c.longLoops
            sending := c.sending.map fun y => if y = x then { y with frame := { y.frame with brs := false } } else y }))
      ∧ (∀ x (seen : Bool) loop, s.canDrives k = true → (s.ctl k).nextTx = some x → (x.frame.brs = false ∨ loop ≤ 400) →
        let a := (s.modCan k fun c =>
            { c with
              sending := c.sending.erase x, txOk := satInc c.txOk, failRun := 0, tec := c.tec - 1
              state := if c.tec - 1 < 128 ∧ c.rec_ < 128 then 1 else c.state
              matched := if seen then min 16 (c.matched + 1) else 0, missed := if seen then 0 else c.missed + 1 }).finishOpt x.ticket 0 []
        exec (.canTxComplete k ⟨seen, loop⟩) s = .next (if 16 ≤ (a.ctl k).matched ∧ a.canMatches k = true then a.setRedundant k true
          else if 3 ≤ (a.ctl k).missed then a.setRedundant k false else a))
      ∧ (∀ x peerSaw, s.canDrives k = true → (s.ctl k).nextTx = some x →
        let a := s.modCan k fun c =>
            { c with
              errorFrames := satInc c.errorFrames, failRun := c.failRun + 1, tec := min 255 (c.tec + 8)
              state := if 128 ≤ c.tec + 8 then 2 else c.state }
        let b := if x.timed = true ∨ s.canSetting k 7 ≤ x.attempts then a.canLose k x
          else a.modCan k fun c =>
              { c with
                retransmissions := satInc c.retransmissions
                sending := c.sending.map fun y => if y = x then { y with attempts := y.attempts + 1 } else y }
        exec (.canTxError k peerSaw) s = .next (if 16 ≤ (b.ctl k).failRun ∧ peerSaw = true then b.canFault k else b))
      ∧ (s.canRuns k = true →
        exec (.canBusOff k) s = .next (((s.canLoseAll k).modCan k fun c =>
          { c with state := 3, busOffs := satInc c.busOffs, tec := 255, failRun := 0 }).canFault k)
        ∧ exec (.dominantTimeout k) s = .next (s.canFault k)
        ∧ (∀ f, exec (.canMirror k f) s = .next (s.modCan k fun c =>
          if c.serving then { c with sending := c.sending ++ [⟨f, none, none, false, 0⟩] } else { c with mirrors := c.mirrors ++ [f] }))
        ∧ (s.canSetting k 2 = 2 → (s.ctl k).rateFound = false → exec (.rateDetectTimeout k) s = .next (s.modCan k fun c =>
          { c with rateFrames := 0, rateIndex := (c.rateIndex + 1) % (if c.dataPhase then canDataRates.length else canNominalRates.length) })))
      ∧ (s.canRuns k = false → exec (.canBusOff k) s = .next s ∧ exec (.dominantTimeout k) s = .next s ∧ exec (.rateDetectTimeout k) s = .next s)
      ∧ (s.up = true → (s.ctl k).state = 3 → s.isQuiesced (0x20 + k) = false →
        exec (.canBusOffRecovery k) s = .next (s.modCan k fun c => { c with state := 1, tec := 0, rec_ := 0 })))
  ∧
  (∀ (k : Fin 4) (s : State),
      (s.canMaster k = true → ((s.ctl k).ttSync = false ∨ (s.ctl k).timeMaster = true ∨ s.canSetting k 9 ≤ (s.ctl k).masterPriority) →
        exec (.basicCycleStart k true) s = .next (s.sendReference k)
        ∧ exec (.basicCycleStart k false) s = .next (s.modCan k fun c =>
          { c with refMissing := satInc c.refMissing, missedRefs := c.missedRefs + 1, errorFrames := satInc c.errorFrames }))
      ∧ (s.canMaster k = false → ∀ ok, exec (.basicCycleStart k ok) s = .next s)
      ∧ (s.canMaster k = true → ((s.ctl k).timeMaster = false ∨ (s.ctl k).missedRefs = 0) →
        exec (.referenceWatchTimeout k) s = .next (s.sendReference k))
      ∧ (s.canMaster k = false → exec (.referenceWatchTimeout k) s = .next s)
      ∧ (∀ x w o, (s.ctl k).sched = some x → s.canDrives k = true → (s.ctl k).ttSync = true → x.objectAt w (s.ctl k).cycleCount = some o →
        exec (.ttWindow k w) s = .next (s.queueObject k o true))
      ∧ (∀ x n o, (s.ctl k).sched = some x → s.canRuns k = true → s.computes = true →
        (x.objects.find? fun o => o.object == n && decide (0 < o.period)) = some o → exec (.periodMs k n) s = .next (s.queueObject k o false))
      ∧ ((s.ctl k).sched = none → ∀ n, exec (.ttWindow k n) s = .next s ∧ exec (.periodMs k n) s = .next s)
      ∧ exec (.ttSyncLoss k) s = .next (s.modCan k fun c => { c with ttSync := false, basicCycles := 0 }))

/-- Updates and the almanac, R561, R566, R569, R571, R573 and R577: an activation that has written its parts restarts the module, and one that has not
ends with result 7; a module that owns keeps its image for the restart first; the pair's handover is tried again; staged chunks reach the partner; the
almanac's records are copied. -/
def Obligations.UpdateEvents : Prop :=
  ∀ (s : State),
    (s.up = true → s.update.state = 3 → (s.update.scopePair = false ∨ s.mode = .standby) →
      exec (.activationDone false) s = .next (s.endUpdate 7 7)
      ∧ (s.manifestFits = false → exec (.activationDone true) s = .next (s.endUpdate 7 7))
      ∧ (s.manifestFits = true → s.writeRecord.update.scopePair = false →
        exec (.activationDone true) s = .next (if s.writeRecord.owns then s.writeRecord.modUpdate fun u => { u with state := 4 }
          else State.restartFor .command (s.writeRecord.endUpdate 6 0)))
      ∧ (s.manifestFits = true → s.writeRecord.update.scopePair = true →
        let a := s.writeRecord.modUpdate fun u => { u with pairStep := if u.pairStep ≤ 1 then 2 else 5, state := 4, bridge := true }
        exec (.activationDone true) s = .next (((a.silencePorts.releaseLocal.hartLeave false).send 3 .leaving).restart .command)))
    ∧ (s.update.state ≠ 3 → ∀ ok, exec (.activationDone ok) s = .next s)
    ∧ (∀ t, s.pairUpdate = true → s.mode = .owner → s.update.pairStep = 3 → s.pair.handover = none → s.update.retryFrom = some t →
      (t + 600000000000 ≤ s.clk.local_ → exec .updateHandoverRetry s = .next (s.endUpdate 7 4))
      ∧ (s.clk.local_ + 50000 < t + 600000000000 → exec .updateHandoverRetry s = .next s.updateHandover))
    ∧ (s.up = true → s.owns = true → s.update.state = 4 → s.update.scopePair = false →
      exec .retainImageWrite s = .next (State.restartFor .command (((s.modUpdate fun u =>
        { u with retain := some (s.image.fold s.clk.ring).base
                 retainTasks := (s.tasks.filter fun e => e.1 != lanternTask && e.2.st == .running).map (·.1) }).record
            573 1 sevInfo noSource noSource []).endUpdate 6 0)))
    ∧ (s.update.state ≠ 4 → exec .retainImageWrite s = .next s)
    ∧ (∀ select offset data last u, s.solo = false → s.mode = .standby → s.up = true → select ≤ 7 → s.update.state = 1 ∨ s.update.state = 2 →
      s.update.stage ⟨offset, select, last, data⟩ = .ok u → exec (.updateChunkForward select offset data last) s = .next { s with update := u })
    ∧ (∀ offset data last cs, s.solo = false → s.mode = .standby → s.up = true →
      (addChunk s.change.versionBytes s.change.versionLast ⟨offset, 0x100, last, data⟩ = .ok cs →
        exec (.updateChunkForward 0x100 offset data last) s = .next (s.modChange fun x => { x with versionBytes := cs, versionLast := last }))
      ∧ (addChunk s.change.mapBytes s.change.mapLast ⟨offset, 0x101, last, data⟩ = .ok cs →
        exec (.updateChunkForward 0x101 offset data last) s = .next (s.modChange fun x => { x with mapBytes := cs, mapLast := last })))
    ∧ (∀ count, let a : State := { s with almanac := { s.almanac with staged := s.almanac.staged - count, lost := 0 } }
      exec (.almanacFlashCopy count) s = .next (if s.almanac.lost = 0 then a
        else a.record 577 1 sevWarning noSource noSource [(4, s.almanac.lost)]))

/-- The key reader, R549 to R556: a challenge with a fresh nonce; tags answer in slots, of which one with two answers is a collision that ends the
challenge; the first identified tag is asked for its credential, which is verified; a flooded reader waits and tries again three times; holds and
lockouts end. The signature engine and sessions' timers, R436, R448, R449, R542 and R543: the oldest operation ends with its result and its time; a
session that is idle for its limit, and a half-open one after 5 s, are closed; a reassembly that times out leaves nothing. -/
def Obligations.KeysAndSignatures : Prop :=
  (∀ (s : State),
      (∀ nonce, s.up = true → s.reader.challenging = false → s.reader.selected = none → s.reader.flooded = false → s.reader.lockout = false →
        s.reader.waitQuiet = false → exec (.keyChallenge nonce) s = .next (s.modReader fun r =>
          { r with
            nonce := nonce, challenging := true, answers := [], collided := [], identified := [], received := none, verdicts := [],
            waitQuiet := false, quietFrom := none }))
      ∧ (∀ nonce, s.reader.lockout = true → exec (.keyChallenge nonce) s = .next s)
      ∧ (∀ (slot : Fin 16) serial crcOk, s.reader.waitQuiet = false → s.reader.challenging = true →
        exec (.tagSerialAnswer slot serial crcOk) s = .next (s.modReader fun r =>
          if crcOk = false ∨ r.collided.contains slot.val = true ∨ (r.answers.any fun a => a.1 == slot.val) = true then
            { r with
              answers := r.answers.filter fun a => a.1 != slot.val
              collided := if r.collided.contains slot.val then r.collided else r.collided ++ [slot.val] }
          else { r with answers := NMap.set r.answers slot serial }))
      ∧ (s.reader.challenging = true →
        (s.reader.collided ≠ [] → exec .keySlotsEnd s = .next (s.modReader fun r => { r with challenging := false, answers := [], collided := [] }))
        ∧ (s.reader.collided = [] → s.reader.answers = [] → exec .keySlotsEnd s = .next (s.modReader Reader.idle))
        ∧ (∀ a as, s.reader.collided = [] → s.reader.answers = a :: as → exec .keySlotsEnd s = .next (s.modReader fun r =>
          { r with challenging := false, identified := (a :: as).map (·.2), selected := some a.2 })))
      ∧ (∀ c : Credential, s.reader.selected = some c.serial → s.reader.received = none → c.crcOk = true → s.reader.flooded = false →
        exec (.credential c) s =
          .next ((s.modReader fun r => { r with received := some c }).submit [⟨if c.curve = 2 then 1 else 0, true⟩, ⟨0, true⟩]))
      ∧ (∀ c, s.reader.received = some c → s.reader.identified = [c.serial] →
        (s.credentialFault c = 0 → exec .keyVerifyDone s = .next ((((s.modReader fun r =>
            { r with received := none, selected := none, verdicts := r.verdicts ++ [(c.serial, true)] }).keyPresent c).modReader fun r =>
              { r.idle with waitQuiet := false, quietFrom := none })))
        ∧ (s.credentialFault c ≠ 0 → exec .keyVerifyDone s = .next (((s.failedAttempt c.serial (s.credentialFault c)).modReader fun r =>
            { r with received := none, selected := none, verdicts := r.verdicts ++ [(c.serial, false)] }).modReader fun r =>
              { r.idle with waitQuiet := false, quietFrom := none })))
      ∧ (s.reader.received = none → exec .keyVerifyDone s = .next s)
      ∧ (s.reader.challenging = true → exec .lightFlooding s = .next (s.modReader fun r => { r with
          challenging := false, answers := [], collided := [], identified := [], selected := none, received := none, verdicts := [],
          flooded := true, floods := r.floods + 1 }))
      ∧ (s.reader.flooded = true →
        (s.reader.retries < 3 → exec .floodQuiet s = .next (s.modReader fun r => { r with flooded := false, retries := r.retries + 1 }))
        ∧ (3 ≤ s.reader.retries → exec .floodQuiet s = .next ((s.record 554 1 sevInfo noSource noSource []).modReader Reader.idle)))
      ∧ exec .keyLockoutEnd s = .next (s.modReader fun r => { r with lockout := false })
      ∧ exec .keyHoldExpiry s = .next (s.modReader fun r => { r with present := r.present.filter fun p => decide (s.clk.local_ + 50000 < p.until_) }))
  ∧
  (∀ (s : State),
      (∀ p valid o rest, s.keys.ops = o :: rest → exec (.signatureOperationDone p valid) s = .next (s.modKeys fun k =>
        { k with ops := rest, lastResult := (o.result p valid).1, lastTimeNs := if (o.result p valid).2 then 12000 else o.time }))
      ∧ (s.keys.ops = [] → ∀ p valid, exec (.signatureOperationDone p valid) s = .next s)
      ∧ (∀ n x, s.session n = some x →
        (x.isOpen = true → x.lastAt + s.settingNat 0x50 5 0 * 1000000000 ≤ s.clk.local_ → exec (.sessionIdleExpiry n) s = .next (s.closeSession n))
        ∧ (x.isOpen = true → s.clk.local_ + 50000 < x.lastAt + s.settingNat 0x50 5 0 * 1000000000 → exec (.sessionIdleExpiry n) s = .next s)
        ∧ (x.isOpen = false → x.openedAt + 5000000000 ≤ s.clk.local_ → exec (.halfOpenExpiry n) s = .next (s.closeSession n))
        ∧ (x.isOpen = true → exec (.halfOpenExpiry n) s = .next s))
      ∧ (∀ src, exec (.reassemblyTimeout src) s = .next s))

/-- The test port, R619 to R622: each instruction of the table selects its register; outside TEST-HOLD one that would drive a contact acts as SAMPLE or
BYPASS and sets its flag, and in TEST-HOLD the first one takes the outputs; nothing happens without power. The carrier and the pair's checks, R84,
R240, R612 and R613: the carrier's writes change nothing; its block is made fresh while it is served; the standby judges what the owner checks and
answers with its figures; figures that agree take the check, and others end it on both modules. -/
def Obligations.TestPortAndChecks : Prop :=
  (∀ (s : State) (cells : List Bool),
      (s.front.powered = true →
        exec .tapReset s = .next ((s.modTap fun t =>
          { t with ioloop := 0, extestDenied := false, driveDenied := false, ioloopDenied := false, driveTaken := false }).tapSelect 3 3)
        ∧ exec .idcode s = .next (s.tapSelect 3 3) ∧ exec .scanguard s = .next (s.tapSelect 0x21 0x21) ∧ exec .bypass s = .next (s.tapSelect 0xFF 0xFF)
        ∧ exec (.sample cells) s = .next ((s.modTap fun t => { t with boundary := cells }).tapSelect 1 1)
        ∧ exec (.preload cells) s = .next ((s.modTap fun t => { t with preload := cells }).tapSelect 2 2)
        ∧ (s.mode ≠ .testHold → cells ≠ [] →
          let x := fun code => (s.modTap fun t => { t with extestDenied := true, boundary := cells }).tapSelect code 1
          exec (.extest cells) s = .next (x 0) ∧ exec (.extestPulse cells) s = .next (x 6) ∧ exec (.extestTrain cells) s = .next (x 7))
        ∧ (s.mode ≠ .testHold →
          exec .clamp s = .next ((s.modTap fun t => { t with driveDenied := true }).tapSelect 4 0xFF)
          ∧ exec .highz s = .next ((s.modTap fun t => { t with driveDenied := true }).tapSelect 5 0xFF)
          ∧ exec .ioloop s = .next ((s.modTap fun t => { t with ioloopDenied := true }).tapSelect 0x20 0xFF))
        ∧ (s.mode = .testHold → cells ≠ [] →
          let x := fun code => ((s.modTap fun t => { t with boundary := cells }).tapSelect code code).driveTake
          exec (.extest cells) s = .next (x 0) ∧ exec (.extestPulse cells) s = .next (x 6) ∧ exec (.extestTrain cells) s = .next (x 7))
        ∧ (s.mode = .testHold →
          exec .clamp s = .next ((s.modTap fun t => { t with boundary := t.boundary }).tapSelect 4 4).driveTake
          ∧ exec .highz s = .next ((s.modTap fun t => { t with boundary := t.boundary }).tapSelect 5 5).driveTake
          ∧ (s.ident.variant ≠ .nk920 → exec .ioloop s =
            .next ((s.modTap fun t => { t with ir := 0x20, selected := 0x20 }).driveTake).settleDo))
        ∧ (s.tap.selected = 0x20 →
          (∀ v, exec (.updateDr v) s =
            .next (s.modTap fun t => { t with ioloop := (t.ioloop &&& ~~~ 0xFFFF#49) ||| (v &&& 0xFFFF#49) }).settleDo)
          ∧ (∀ rb di lp, exec (.captureDr rb di lp) s = .next (s.modTap fun t => { t with captured := (BitVec.ofBool lp) ++ di ++ rb })))
        ∧ (s.tap.selected ≠ 0x20 → (∀ v, exec (.updateDr v) s = .next s) ∧ ∀ rb di lp, exec (.captureDr rb di lp) s = .next s))
      ∧ (s.front.powered = false → exec .tapReset s = .next s ∧ exec (.extest cells) s = .next s ∧ exec .ioloop s = .next s))
  ∧
  (∀ (s : State),
      (∀ offset data, exec (.cmWrite offset data) s = .next s)
      ∧ (∀ temp f1 f2, (s.front.cmServed = true → exec (.cmBlockRefresh temp f1 f2) s = .next { s with cmBlock := s.cmFresh temp f1 f2 })
        ∧ (s.front.cmServed = false → exec (.cmBlockRefresh temp f1 f2) s = .next s))
      ∧ (∀ tenant v ns a r, s.solo = false → s.mode = .standby → s.up = true → s.judgeLoad tenant v ns = .ok (a, r) →
        let f := figuresOf tenant 0 0 (some a) []
        exec (.recomputeRequest tenant 0 ⟨v, ns⟩) s =
          .next (({ s with checks := s.checks ++ [⟨tenant, 0, v, [], a, r, f, none, none⟩] } : State).send 3 (.recomputeResult f)))
      ∧ (∀ tenant v ns e, s.solo = false → s.mode = .standby → s.up = true → s.judgeLoad tenant v ns = .error e →
        exec (.recomputeRequest tenant 0 ⟨v, ns⟩) s = .next (s.send 3 (.recomputeResult (figuresOf tenant 0 (field e.2 1 1 + 256) none []))))
      ∧ (∀ (figures : CheckFigures) w, (s.checks.find? fun w => w.tenant == figures.tenant && w.kind == figures.kind) = some w →
        let a : State := { s with checks := s.checks.filter fun x => !(x.tenant == w.tenant && x.kind == w.kind) }
        (s.mode = .owner → exec (.recomputeResult figures) s = .next (if w.figures = figures ∨ w.fail.isSome = true then (a.send 3 (.recomputeResult w.figures)).takeCheck w
          else (a.send 3 (.recomputeResult w.figures)).disagree w))
        ∧ (s.mode ≠ .owner → w.figures = figures → exec (.recomputeResult figures) s = .next (a.takeCheck w)))
      ∧ (∀ figures : CheckFigures, (s.checks.find? fun w => w.tenant == figures.tenant && w.kind == figures.kind) = none → s.mode ≠ .standby →
        exec (.recomputeResult figures) s = .next s))

/-- Reception, R439 to R442, R448 to R450: for every Gelit command, the first check that its datagram fails decides, and the command then has no effect:
it is ignored, counted and dropped, answered with the stored reply, or refused; a request whose turn has not come waits in its session. -/
def Obligations.GelitChecks : Prop :=
  ∀ (i : Instr) (s : State) (c : Cmd) (r : Req), gelitOf s i = some (c, r) →
    (s.fate c r = .ignored → exec i s = .next s)
    ∧ (∀ n, s.fate c r = .drop n → exec i s = .next (s.count (0x5000 + n)))
    ∧ (s.fate c r = .noSession → let a := (s.count 0x5004).sendReply (r.reply c 6 false [])
      exec i s = .next { a with gelit := { a.gelit with
        noSession := (a.gelit.noSession.filter fun e => decide (s.clk.local_ < e.2 + 1000000000)) ++ [(r.source, s.clk.local_)] } })
    ∧ (s.fate c r = .halfOpen → exec i s = .next (s.sendReply (r.reply c 6 true [])))
    ∧ (∀ rep, s.fate c r = .again (some rep) → exec i s = .next (s.sendReply { rep with source := r.source }))
    ∧ (s.fate c r = .again none → exec i s = .next (s.sendReply (r.reply c 0x0E true [])))
    ∧ (s.fate c r = .replayed → exec i s = .next (s.sendReply (r.reply c 7 true errorPlain)))
    ∧ (∀ st b, s.fate c r = .refused st b → exec i s = .next (if c.op = 1 then s.sendReply (r.reply c st false b)
        else replied c r (s.accept r) st b))
    ∧ (s.fate c r = .waits → ∃ v, exec i s =
        .next ((s.accept r).modSession r.session fun x => { x with waiting := x.waiting ++ [⟨c.op, r, v⟩] }))

/-- Sessions and the module, R446, R448, R449, R451, R454 to R458: a session is opened, confirmed and closed; a code that no table names is refused with
UNKNOWN-OPCODE; the module's identity, capability and state; TEST-HOLD and a restart by command. -/
def Obligations.SessionAndModuleCommands : Prop :=
  ∀ (s : State) (r : Req),
    let a := s.accept r
    let p := r.payload
    (∀ g t, s.fate cmdSessionOpen r = .runs → a.openSession r cmdSessionOpen g = .ok t → exec (.sessionOpen r g) s = .next (t.closeLast r.session))
    ∧ (∀ ok x, s.fate cmdSessionConfirm r = .runs → a.session r.session = some x → x.isOpen = false → x.chainSent = false → p = [0, 0, 0, 0] → r.seq = 1 →
      exec (.sessionConfirm r ok) s = .next (replied cmdSessionConfirm r (a.modSession r.session fun x => { x with isOpen := true }) 0
        (be 1 x.priv ++ be 1 (if x.moduleWide then 1 else 0) ++ be 2 x.tenantFirst ++ be 2 x.tenantLast ++ [0, 0]
            ++ be 4 (a.settingNat 0x50 5 0))))
    ∧ (∀ op, s.fate ⟨op, false, 0, false, .EL, true⟩ r = .refused 1 errorPlain → op ≠ 1 →
      exec (.unknownOpcode r op) s = .next (replied ⟨op, false, 0, false, .EL, true⟩ r a 1 errorPlain))
    ∧ (p = [] →
      (let c : Cmd := ⟨0x0003, true, 1, false, .EL, true⟩
       s.fate c r = .runs → exec (.sessionClose r) s = .next (((a.finish (r.ticket c) 0 []).closeSession r.session).closeLast r.session))
      ∧ (let c : Cmd := ⟨0x0004, true, 1, false, .EL, true⟩
       s.fate c r = .runs → exec (.moduleIdentity r) s = .next (replied c r a 0
        (be 2 (Config.typeCode a.ident.variant) ++ be 1 a.ident.fuse ++ be 1 a.front.side.bit ++ be 8 a.ident.serial
          ++ be 4 a.ident.generation ++ be 1 a.front.slotId ++ be 1 2 ++ [0, 0])))
      ∧ (let c : Cmd := ⟨0x0005, true, 1, false, .EL, true⟩
       s.fate c r = .runs → let v := a.ident.variant
       exec (.moduleCapability r) s = .next (replied c r a 0
        (unitMap v ++ be 1 (Config.strands v) ++ be 1 (Config.rings v) ++ be 1 (Config.domains v) ++ be 1 (Config.cans v)
          ++ be 4 (Config.tags v) ++ be 2 (Config.stations v) ++ [0, 0] ++ be 4 (Config.signals v))))
      ∧ (let c : Cmd := ⟨0x0101, true, 1, false, .EL, true⟩
       s.fate c r = .runs → exec (.moduleState r) s = .next (replied c r a 0
        (be 1 a.mode.code ++ be 1 a.front.side.bit ++ be 2 a.forces.length ++ be 4 a.pair.epoch ++ be 4 a.lanternStatus
          ++ be 1 a.gelit.sessions.length ++ be 1 ((a.slot.map (·.holder)).getD 0) ++ be 1 ((a.slot.map (·.side.bit)).getD 0) ++ [0]
          ++ be 8 a.health.toNat ++ be 8 a.clk.local_)))
      ∧ (let c : Cmd := ⟨0x0102, true, 2, false, .solo, false⟩
       s.fate c r = .runs → (a.keyAt 2 = true → exec (.moduleTestHold r) s = .next (replied c r (a.useKey r.session).commandTestHold 0 []))
        ∧ (a.keyAt 2 = false → exec (.moduleTestHold r) s = .next (replied c r a (denied 3).1 (denied 3).2)))
      ∧ (let c : Cmd := ⟨0x0103, true, 2, false, .E, false⟩
       s.fate c r = .runs →
        (a.mode = .owner → a.solo = false → a.mayHandOver = true →
          exec (.moduleRestart r) s = .next ((a.proposeHandover .command false (some (r.ticket c))).closeLast r.session))
        ∧ (a.mode ≠ .owner → exec (.moduleRestart r) s =
          .next ((State.restartFor .command (a.finish (r.ticket c) 0 [])).closeLast r.session))))

/-- Functional units, R346 and R469 to R473: a unit is quiesced for a session, whose commands stage settings, discard them, or apply them at once or, for
a setting of the pair, at the agreed instant; settings and the state of a unit are read. -/
def Obligations.UnitCommands : Prop :=
  ∀ (s : State) (r : Req),
    let a := s.accept r
    let p := r.payload
    let u := field p 0 1
    Config.unitAbsent a.ident.variant u = false → Config.unitExists u = true →
    (let c : Cmd := ⟨0x0201, true, 2, false, .E, false⟩
     s.fate c r = .runs → p.length = 4 → field p 1 3 = 0 → (u ≠ 0x60 ∨ a.owns = true) → (0x10 ≤ u → u ≤ 0x33 → a.partnerCarries = true) →
      a.quiesceFree u r.session = .ok () →
      exec (.funcQuiesce r) s = .next (replied c r (a.quiesceUnit u r.session) 0 (be 2 60 ++ [0, 0])))
    ∧ (let c : Cmd := ⟨0x0202, true, 2, false, .E, false⟩
     ∀ q e v, s.fate c r = .runs → p.length = 12 → field p 2 2 = 1 → field p 1 1 = 0 → field p 6 2 = 0 → stageEntries p 1 = [(e, v)] →
      (a.owns = true ∨ pairScope u (e / 256) = false) → settingThere a.ident.variant u e = true → settingOk a.ident.variant u e v = true → u ≠ 0 →
      a.mine u r.session = .ok q → (NMap.set q.staged e v).length ≤ 64 →
      exec (.funcStage r) s = .next (replied c r (a.modSettings fun x =>
        { x with quiesced := x.quiesced.map fun y =>
          if y.unit = u then { y with staged := NMap.set q.staged e v, lease := a.clk.local_ + 60000000000 } else y }) 0
        (be 2 (NMap.set q.staged e v).length ++ [0, 0])))
    ∧ (let c : Cmd := ⟨0x0203, true, 2, false, .E, false⟩
     ∀ q, s.fate c r = .runs → p.length = 4 → field p 1 3 = 0 → a.mine u r.session = .ok q → a.limitsOk u q.staged = true → u ≠ 0x50 →
      a.gateCheck ⟨10, 0, 1, a.privOf r.session, if r.tenant < 512 then some r.tenant else none⟩ = none →
      exec (.funcRestart r) s = .next (replied c r (a.applyStaged u q.staged).1 0 (be 8 (a.applyStaged u q.staged).2)))
    ∧ (let c : Cmd := ⟨0x0204, true, 2, false, .E, false⟩
     s.fate c r = .runs → p.length = 4 → field p 1 3 = 0 → (a.mine u r.session).isOk = true →
      exec (.funcDiscard r) s = .next (replied c r (a.restartUnit u) 0 []))
    ∧ (let c : Cmd := ⟨0x0204, true, 2, false, .E, false⟩
     s.fate c r = .runs → p.length = 4 → field p 1 3 = 0 → a.quiesce u = none →
      exec (.funcDiscard r) s = .next (replied c r a 0x0D errorPlain))
    ∧ (let c : Cmd := ⟨0x0205, true, 1, false, .E, false⟩
     s.fate c r = .runs → p.length = 8 → field p 2 2 = 1 → field p 1 1 = 0 → field p 6 2 = 0 → settingThere a.ident.variant u (field p 4 2) = true →
      a.gateCheck ⟨10, 0, 0, a.privOf r.session, if r.tenant < 512 then some r.tenant else none⟩ = none →
      exec (.funcRead r) s = .next (replied c r a 0 (be 2 1 ++ [0, 0] ++ a.readEntry u (field p 4 2))))
    ∧ (let c : Cmd := ⟨0x0206, true, 1, false, .E, false⟩
     s.fate c r = .runs → p.length = 4 → field p 1 3 = 0 →
      (∀ q, a.quiesce u = some q → exec (.funcStatus r) s = .next (replied c r a 0
        (be 1 1 ++ be 1 a.front.side.bit ++ be 2 ((q.lease - a.clk.local_ + 999999999) / 1000000000) ++ be 4 q.session
          ++ be 2 q.staged.length ++ [0, 0])))
      ∧ (a.quiesce u = none → a.pair.peerQuiesced.contains u = false →
        exec (.funcStatus r) s = .next (replied c r a 0 (be 2 0 ++ be 2 0 ++ be 4 0 ++ be 2 0 ++ [0, 0]))))

/-- Programs, R61, R67, R84, R90, R101, R213, R233, R391 and R460: a version is loaded in chunks and checked by both modules; tasks start at an agreed
instant and stop; a tenant that does not run is unloaded; its status is read; the lantern program takes effect at its next cycle. -/
def Obligations.ProgramCommands : Prop :=
  ∀ (s : State) (r : Req),
    let a := s.accept r
    let p := r.payload
    (let c : Cmd := ⟨0x0301, true, 2, true, .O, false⟩
     s.fate c r = .runs → p = [] → (a.tenant r.tenant).state = .free → (a.tenant r.tenant).loading = none →
      exec (.progLoadBegin r) s = .next (replied c r
        { a with tenants := NMap.set a.tenants r.tenant { a.tenant r.tenant with loading := some ⟨r.session, [], false⟩ } } 0 []))
    ∧ (let c : Cmd := ⟨0x0302, true, 2, true, .O, false⟩
     ∀ k l l1, s.fate c r = .runs → chunkOf p = .ok k → k.select = 0 → a.loadingOf r.tenant r.session = .ok l → l.add k = .ok l1 →
      exec (.progLoadWrite r) s = .next (replied c r
        ((a.modTenant r.tenant fun x => { x with loading := some l1 }).forwardChunk (0x200 + r.tenant) k) 0 []))
    ∧ (let c : Cmd := ⟨0x0303, true, 2, true, .O, false⟩
     ∀ v l, s.fate c r = .runs → p = [] → a.loadingOf r.tenant r.session = .ok l → l.last = true → a.pairUpdate = false →
      (∀ x, a.judgeLoad r.tenant v [] = .ok x → exec (.progLoadCheck r v) s =
        .next ((a.askPartner ⟨r.tenant, 0, v, [], x.1, x.2, figuresOf r.tenant 0 0 (some x.1) [], none, some (r.ticket c)⟩).closeLast r.session))
      ∧ (∀ e, a.judgeLoad r.tenant v [] = .error e → exec (.progLoadCheck r v) s = .next (replied c r (a.failLoad r.tenant) e.1 e.2)))
    ∧ (let c : Cmd := ⟨0x0304, true, 2, true, .O, false⟩
     ∀ m, s.fate c r = .runs → a.maskOf r.tenant p = .ok m →
      ((a.maskTasks r.tenant m).all fun n => !(a.strand (((a.task n).map (·.strand)).getD 0)).retired) = true →
      (a.tenant r.tenant).state ≠ .frameDisplaced →
      exec (.progStart r) s = .next (replied c r ((a.startTasks r.tenant m a.newStart).tellPartner (.start r.tenant m a.newStart)) 0 []))
    ∧ (let c : Cmd := ⟨0x0305, true, 2, true, .O, false⟩
     ∀ m, s.fate c r = .runs → a.maskOf r.tenant p = .ok m →
      exec (.progStop r) s = .next (replied c r ((a.stopTasks r.tenant m).tellPartner (.stop r.tenant m)) 0 []))
    ∧ (let c : Cmd := ⟨0x0306, true, 2, true, .O, false⟩
     s.fate c r = .runs → p = [] → (a.tenant r.tenant).state = .loaded ∨ (a.tenant r.tenant).state = .stopped → a.slot = none →
      exec (.progUnload r) s = .next (replied c r ((a.unload r.tenant).tellPartner (.unload r.tenant)) 0 []))
    ∧ (let c : Cmd := ⟨0x0307, true, 1, true, .E, false⟩
     s.fate c r = .runs → p = [] →
      let t := a.tenant r.tenant
      let ts := byPosition ((a.tasks.map (·.2)).filter fun u => u.tenant == r.tenant)
      exec (.progTenantStatus r) s = .next (replied c r a 0 (be 1 t.state.code
        ++ be 1 ((if a.dbg.map (·.tenant) = some r.tenant then 1 else 0) + if t.state = .frameDisplaced then 2 else 0)
        ++ be 2 ((t.version.map a.forcedSignals).getD 0) ++ be 4 ((t.version.map (·.versionId.toNat)).getD 0)
        ++ be 1 ts.length ++ [0, 0, 0] ++ ts.flatMap Task.status)))
    ∧ (let c : Cmd := ⟨0x030E, true, 2, false, .OL, false⟩
     ∀ v k l1, s.fate c r = .runs → chunkOf p = .ok k → k.select = 0 → a.pairUpdate = false → a.lantern.loading = none →
      (⟨r.session, [], false⟩ : Loading).add k = .ok l1 →
      (k.last = false → exec (.progLanternLoad r v) s = .next (replied c r (a.modLantern fun x => { x with loading := some l1 }) 0 []))
      ∧ (∀ e, k.last = true → a.judgeLantern v = .error e →
        exec (.progLanternLoad r v) s = .next (replied c r (a.modLantern fun x => { x with loading := none }) e.1 e.2))
      ∧ (∀ x, k.last = true → a.judgeLantern v = .ok x →
        let b := (a.modLantern fun x => { x with loading := none }).modLantern fun x =>
          { x with plantProgram := some v, plantCrcOk := true, next := if a.mode = .lantern then some v else x.next }
        exec (.progLanternLoad r v) s = .next (replied c r (if a.mode = .owner then b.tellPartner (.lanternProgram v) else b) 0
          (loadReply (failPlain 0) lanternWindows.edge 0))))

/-- Online changes, R238 to R250: a change is begun in the pair's maintenance slot, written in chunks, checked by both modules, armed for an instant that
lies 20 ms to 10 min ahead, given up while 5 ms remain, and its state read. -/
def Obligations.ChangeCommands : Prop :=
  ∀ (s : State) (r : Req),
    let a := s.accept r
    let p := r.payload
    (let c : Cmd := ⟨0x0308, true, 2, true, .O, false⟩
     s.fate c r = .runs → p = [] → (a.change.state = 0 ∨ 5 ≤ a.change.state) →
      (a.slot = none → exec (.progChangeBegin r) s = .next (replied c r
        (({ a with change := { changeReset with state := 1, tenant := r.tenant, session := r.session } } : State).takeSlot 4 r.tenant) 0 []))
      ∧ (∀ x, a.slot = some x → exec (.progChangeBegin r) s =
        .next (replied c r a (busyMaint x.holder x.side x.id).1 (busyMaint x.holder x.side x.id).2)))
    ∧ (let c : Cmd := ⟨0x0309, true, 2, true, .O, false⟩
     ∀ k, s.fate c r = .runs → chunkOf p = .ok k → a.change.state = 1 → a.change.tenant = r.tenant → a.changeChecks = false →
      (∀ cs, k.select = 0 → addChunk a.change.versionBytes a.change.versionLast k = .ok cs → exec (.progChangeWrite r) s = .next (replied c r
        (({ a with change := { a.change with versionBytes := cs, versionLast := k.last } } : State).forwardChunk 0x100 k) 0 []))
      ∧ (∀ cs, k.select = 1 → addChunk a.change.mapBytes a.change.mapLast k = .ok cs → exec (.progChangeWrite r) s = .next (replied c r
        (({ a with change := { a.change with mapBytes := cs, mapLast := k.last } } : State).forwardChunk 0x101 k) 0 [])))
    ∧ (let c : Cmd := ⟨0x030A, true, 2, true, .O, false⟩
     ∀ v, s.fate c r = .runs → p = [] → a.change.state = 1 → a.change.tenant = r.tenant → a.changeChecks = false →
      (∀ f, a.judgeChange r.tenant v (wordsOf (assemble a.change.mapBytes)) [] = .error f →
        exec (.progChangeCheck r v) s = .next ((a.askPartner ⟨r.tenant, 1, v, [], Admitted.none, 0, figuresOf r.tenant 1 f.result none
          (assemble a.change.versionBytes ++ assemble a.change.mapBytes), some (f.result, f.detail, f.offset), some (r.ticket c)⟩).closeLast
            r.session))
      ∧ (∀ x, a.judgeChange r.tenant v (wordsOf (assemble a.change.mapBytes)) [] = .ok x →
        exec (.progChangeCheck r v) s = .next ((a.askPartner ⟨r.tenant, 1, v, x.2, x.1, 0,
          figuresOf r.tenant 1 0 (some x.1) (assemble a.change.versionBytes ++ assemble a.change.mapBytes), none, some (r.ticket c)⟩).closeLast
            r.session)))
    ∧ (let c : Cmd := ⟨0x030B, true, 2, true, .O, false⟩
     let at_ := field p 0 8
     s.fate c r = .runs → p.length = 8 → at_ = 0 ∨ (at_ % 50000 = 0 ∧ a.clk.ring + 20000000 ≤ at_ ∧ at_ ≤ a.clk.ring + 600000000000) →
      a.change.state = 2 → a.change.tenant = r.tenant →
      let i := if at_ = 0 then a.tickIn 20000000 else at_
      let b := ((a.modChange fun c => { c with state := 3, switchAt := i, confirmed := a.alone }).convertAll).rebuildQueues i
      let d := if a.solo then b else b.send 3 (.switchAt i)
      exec (.progChangeArm r) s = .next (replied c r d 0 d.change.words))
    ∧ (let c : Cmd := ⟨0x030C, true, 2, true, .O, false⟩
     s.fate c r = .runs → p = [] → a.change.state = 1 ∨ a.change.state = 2 ∨ a.change.state = 3 → a.change.tenant = r.tenant →
      (a.change.state = 3 → a.clk.ring + 5000000 ≤ a.change.switchAt) → a.checks = [] →
      exec (.progChangeAbort r) s = .next (replied c r ((a.releaseSlot 4).abortChange a.change.lastResult) 0 []))
    ∧ (let c : Cmd := ⟨0x030C, true, 2, true, .O, false⟩
     s.fate c r = .runs → p = [] → a.change.state = 3 → a.change.tenant = r.tenant → a.change.switchAt < a.clk.ring + 5000000 →
      exec (.progChangeAbort r) s = .next (replied c r a 0x0B errorPlain))
    ∧ (let c : Cmd := ⟨0x030D, true, 1, true, .E, false⟩
     s.fate c r = .runs → p = [] → exec (.progChangeStatus r) s = .next (replied c r a 0 a.change.words))

/-- Process data and forces, R199, R258 to R263, R462 and R463: published and provisional values are read; a host's write takes effect at the tick after 2
ms; forces are set, cleared and listed. -/
def Obligations.ProcessCommands : Prop :=
  ∀ (s : State) (r : Req),
    let a := s.accept r
    let p := r.payload
    (let c : Cmd := ⟨0x0401, true, 1, true, .E, false⟩
     ∀ is v, s.fate c r = .runs → itemsOf false p = .ok is → (a.tenant r.tenant).reaches is = .ok () → (a.tenant r.tenant).version = some v →
      a.firstDenial r.tenant (a.privOf r.session) 0 is = none →
      exec (.dataRead r) s = .next (replied c r a 0 (be 2 (is.map (·.words)).sum ++ [0, 0] ++ is.flatMap fun i => (List.range i.words).flatMap fun k =>
        a.valueEntry r.tenant v (a.tenant r.tenant).win false i.area (i.index + k))))
    ∧ (let c : Cmd := ⟨0x0402, true, 1, true, .E, false⟩
     ∀ is, s.fate c r = .runs → itemsOf false p = .ok is → (a.tenant r.tenant).reaches is = .ok () →
      (r.flags / 2 % 2 = 0 → exec (.dataReadProvisional r) s = .next (replied c r a 0x10 errorPlain))
      ∧ (∀ v, r.flags / 2 % 2 = 1 → (a.tenant r.tenant).version = some v → a.firstDenial r.tenant (a.privOf r.session) 0 is = none →
        exec (.dataReadProvisional r) s = .next (replied c r a 0 (be 2 (is.map (·.words)).sum ++ [0, 0] ++ is.flatMap fun i =>
          (List.range i.words).flatMap fun k => a.valueEntry r.tenant v (a.tenant r.tenant).win true i.area (i.index + k)))))
    ∧ (let c : Cmd := ⟨0x0403, true, 1, true, .O, false⟩
     ∀ is, s.fate c r = .runs → itemsOf true p = .ok is → (is.find? fun i => i.area != 2) = none → (a.tenant r.tenant).reaches is = .ok () →
      a.change.state = 0 →
      (∀ d, a.firstDenial r.tenant (a.privOf r.session) 1 is = some d → exec (.dataWrite r) s = .next (replied c r (a.deny d) 8 (denied 4).2))
      ∧ (a.firstDenial r.tenant (a.privOf r.session) 1 is = none →
        let at_ := a.tickIn 2000000
        let ws := is.flatMap fun i => i.values.zipIdx.map fun q =>
          (⟨(a.tenant r.tenant).win.m + 4 * (i.index + q.2), 0xFFFFFFFF, q.1, false⟩ : WriteRec)
        exec (.dataWrite r) s = .next (replied c r ((({ a with hostWrites := a.hostWrites ++ [⟨at_, r.tenant, r.session, ws⟩] } : State).tellPartner
          (.hostWrite at_ r.tenant ws)).record 463 1 sevInfo noSource r.tenant [(4, r.session), (4, r.tenant), (4, ws.length)]) 0 (be 8 at_))))
    ∧ (let c : Cmd := ⟨0x0404, true, 2, false, .O, false⟩
     s.fate c r = .runs → p.length = 16 → field p 0 2 = 1 → field p 2 2 = 0 → field p 13 3 = 0 → a.change.state = 0 →
      let g := BitVec.ofNat 32 (field p 4 4)
      let w := field p 12 1
      let rs := a.setResults a.forcedAfter [(g, w)]
      rs.all (· == 0) = true →
      exec (.forceSet r) s = .next (replied c r (a.takeForces ⟨a.tickIn 2000000,
        [⟨g, cutTo w (field p 8 4), w, ((a.signalKind g).map (·.1)).getD false, a.privOf r.session, 0⟩], [], r.session⟩) 0
          (forceReply (a.tickIn 2000000) rs)))
    ∧ (let c : Cmd := ⟨0x0405, true, 2, false, .O, false⟩
     s.fate c r = .runs → p.length = 8 → field p 0 2 = 1 → field p 2 2 = 0 → a.change.state = 0 →
      let g := BitVec.ofNat 32 (field p 4 4)
      a.signalAbsent g = false → (a.signalKind g).isSome = true →
      exec (.forceClear r) s = .next (replied c r (a.takeForces ⟨a.tickIn 2000000, [], [g], r.session⟩) 0 (forceReply (a.tickIn 2000000) [0])))
    ∧ (let c : Cmd := ⟨0x0406, true, 2, false, .O, false⟩
     s.fate c r = .runs → p = [] → a.change.state = 0 →
      exec (.forceClearAll r) s = .next (replied c r (a.takeForces ⟨a.tickIn 2000000, [], a.forcedAfter, r.session⟩) 0
        (be 8 (a.tickIn 2000000) ++ be 2 a.forcedAfter.length ++ [0, 0])))
    ∧ (let c : Cmd := ⟨0x0407, true, 1, false, .E, false⟩
     s.fate c r = .runs → p.length = 4 →
      let es := (a.forces.drop (field p 0 2)).take (min (field p 2 2) 1021)
      exec (.forceList r) s = .next (replied c r a 0 (be 2 a.forces.length ++ be 2 es.length ++ es.flatMap Force.bytes)))

/-- Rings and stations, R293, R296, R305, R311 to R315, R464 and R465: the figures of a ring, its table and the words of a station; an acyclic request is
taken up by the owner, forwarded by another module, answered at once where its station is not active, and given up by command. -/
def Obligations.RingCommands : Prop :=
  ∀ (s : State) (r : Req),
    let a := s.accept r
    let p := r.payload
    let k := field p 0 1
    let who : Option Nat := if r.tenant < 512 then some r.tenant else none
    (let c : Cmd := ⟨0x0501, true, 1, false, .E, false⟩
     s.fate c r = .runs → p.length = 4 → field p 1 3 = 0 → k < 4 → k < Config.rings a.ident.variant →
      a.gateCheck ⟨13, 0, 0, a.privOf r.session, who⟩ = none →
      let pl := a.plan k
      exec (.ringReadStatus r) s = .next (replied c r a 0
        (be 2 (a.ring k).table.length ++ be 2 ((a.ring k).stations.filter fun v => v.state == StationState.active).length
          ++ be 4 pl.outputSweep ++ be 2 pl.occupancy ++ be 2 ((a.ring k).cut.getD 0xFFFF)
          ++ be 1 ((if (a.port (2 * k)).linkUp then 1 else 0) + (if (a.port (2 * k + 1)).linkUp then 2 else 0)) ++ [0] ++ be 2 pl.sweeps.length
          ++ pl.sweeps.flatMap fun e => be 2 e.1 ++ [0, 0] ++ be 4 e.2)))
    ∧ (let c : Cmd := ⟨0x0502, true, 2, false, .O, false⟩
     ∀ x l1, s.fate c r = .runs → chunkOf p = .ok x → field p 6 1 = x.select → x.select < Config.rings a.ident.variant → x.select < 4 → a.pairUpdate = false →
      (a.ring x.select).loading = none → (⟨r.session, [], false⟩ : Loading).add x = .ok l1 →
      (x.last = false → exec (.ringLoadConfig r) s = .next (replied c r (a.modRing x.select fun y => { y with loading := some l1 }) 0 []))
      ∧ (∀ t, x.last = true → stationTable (assemble l1.chunks) = .ok t → t.length + a.stationsElsewhere x.select ≤ Config.stations a.ident.variant →
        a.tableKeeps x.select t = true →
        exec (.ringLoadConfig r) s = .next (replied c r ((a.modRing x.select fun y =>
          { y with loading := none, staged := some (a.tickIn 1000000, t) }).tellPartner (.stationTable (a.tickIn 1000000) x.select t)) 0 [])))
    ∧ (let c : Cmd := ⟨0x0503, true, 1, false, .E, false⟩
     s.fate c r = .runs → p.length = 4 → field p 2 2 = 0 → k < 4 → k < Config.rings a.ident.variant →
      exec (.ringReadStation r) s = .next (replied c r a 0 ((a.station k (field p 1 1)).words (field p 1 1))))
    ∧ (let op := field p 4 1
     let c : Cmd := ⟨0x0504, true, acyclicPriv op, false, .E, false⟩
     ∀ i, (i = .acyclicRead r ∧ op = 1) ∨ (i = .alarmFetch r ∧ op = 3) →
      s.fate c r = .runs → p.length = 12 → field p 2 2 = 0 → field p 10 2 = 0 → field p 8 2 ≤ 1024 → k < 4 → k < Config.rings a.ident.variant →
      let q : AcycReq := ⟨k, field p 1 1, op, field p 5 1, field p 6 2, field p 8 2, []⟩
      ((a.station k (field p 1 1)).state ≠ .active → exec i s = .next (replied c r ((a.count 0x2602).fire (836 + 8 * k)) 0 (acycReply 2 [])))
      ∧ ((a.station k (field p 1 1)).state = .active → a.owns = true → exec i s = .next ((a.offerAcyc q (some (r.ticket c)) 0).closeLast r.session))
      ∧ ((a.station k (field p 1 1)).state = .active → a.owns = false → exec i s = .next ((a.forwardAcyc q (r.ticket c)).closeLast r.session)))
    ∧ (let c : Cmd := ⟨0x0504, true, 2, false, .E, false⟩
     let len := field p 8 2
     field p 4 1 = 2 → s.fate c r = .runs → p.length = 12 + up4 len → field p 2 2 = 0 → field p 10 2 = 0 → len ≤ 1024 → k < 4 →
      k < Config.rings a.ident.variant → (p.drop (12 + len)).all (· == 0) = true → (a.station k (field p 1 1)).state = .active → a.owns = true →
      exec (.acyclicWrite r) s = .next ((a.offerAcyc ⟨k, field p 1 1, 2, field p 5 1, field p 6 2, len, (p.drop 12).take len⟩
        (some (r.ticket c)) 0).closeLast r.session))
    ∧ (∀ x, s.acyclicOf r.session (field p 0 4) = some x → a.acyclicOf r.session (field p 0 4) = some x → p.length = 4 →
      let c : Cmd := ⟨0x0505, true, acyclicPriv x.req.op, false, .E, false⟩
      s.fate c r = .runs → exec (.ringAcyclicAbort r) s = .next (replied c r (a.endAcyc x 4 []) 0 []))

/-- The pair and time, R355, R364, R373, R375, R376, R378, R398, R408, R420, R432, R434 and R466: the state of the pair; ownership assumed, handed over,
joined again and tested; time bases, domains, plant time and alarms. -/
def Obligations.PairAndTimeCommands : Prop :=
  ∀ (s : State) (r : Req),
    let a := s.accept r
    let p := r.payload
    (p = [] →
      (let c : Cmd := ⟨0x0601, true, 1, false, .E, false⟩
       s.fate c r = .runs → exec (.pairStatus r) s = .next (replied c r a 0
        (be 8 a.health.toNat ++ be 8 a.pair.peerHealth.toNat ++ be 4 a.pair.epoch ++ be 1 a.pair.ownerSide.bit ++ [0, 0, 0]
          ++ be 4 (if a.mode = .standby then a.holdoffLeft else 0))))
      ∧ (let c : Cmd := ⟨0x0602, true, 2, false, .OL, false⟩
       s.fate c r = .runs → a.mode = .lantern → a.lantern.bringupComplete = true → a.heldBack = false → a.ownerSeen = false → a.mayOwn = true →
        (a.keyNeeded = false → exec (.pairAssume r) s = .next (replied c r (a.ownFromLantern .assume) 0 (be 4 (a.ownFromLantern .assume).pair.epoch)))
        ∧ (a.keyNeeded = true → a.keyAt 2 = true → let b := (a.useKey r.session).ownFromLantern .assume
          exec (.pairAssume r) s = .next (replied c r b 0 (be 4 b.pair.epoch)))
        ∧ (a.keyNeeded = true → a.keyAt 2 = false → exec (.pairAssume r) s = .next (replied c r a 8 (denied 3).2)))
      ∧ (let c : Cmd := ⟨0x0603, true, 2, false, .O, false⟩
       s.fate c r = .runs → a.mode = .owner → a.mayHandOver = true → a.pair.handover = none →
        exec (.pairHandover r) s = .next ((a.proposeHandover .command false (some (r.ticket c))).closeLast r.session))
      ∧ (let c : Cmd := ⟨0x0604, true, 2, false, .E, false⟩
       s.fate c r = .runs →
        (a.mode = .standbyFaulted → a.causePersists = false → exec (.pairRejoin r true) s = .next (replied c r a.rejoin 0 []))
        ∧ exec (.pairRejoin r false) s = .next (replied c r a 0x0B errorPlain))
      ∧ (let c : Cmd := ⟨0x0606, true, 2, false, .E, false⟩
       s.fate c r = .runs → a.slot = none → a.settings.quiesced = [] → a.pair.peerQuiesced = [] →
        (a.mode = .standby → a.pair.synchronised = true → exec (.pairProofTest r) s = .next (replied c r (a.takeSlot 2 r.session).startProof 0 []))
        ∧ (a.mode = .owner → a.solo = false → a.peerStandbySync = true → exec (.pairProofTest r) s = .next (replied c r (a.takeSlot 2 r.session) 0 [])))
      ∧ (let c : Cmd := ⟨0x0701, true, 1, false, .E, false⟩
       s.fate c r = .runs → exec (.timeRead r) s = .next (replied c r a 0 (a.timeBases ++ a.timeStatus))))
    ∧ (let c : Cmd := ⟨0x0605, true, 2, false, .E, false⟩
     s.fate c r = .runs → p.length = 8 →
      let m := BitVec.ofNat 64 (field p 0 8)
      (m &&& ~~~ackBits = 0 → exec (.pairHealthAck r) s = .next (replied c r ((a.ackHealth m).tellPartner (.healthAck m)) 0 []))
      ∧ (m &&& ~~~ackBits ≠ 0 → exec (.pairHealthAck r) s = .next (replied c r a (badParam 0).1 (badParam 0).2)))
    ∧ (let c : Cmd := ⟨0x0702, true, 1, false, .E, false⟩
     s.fate c r = .runs → p.length = 4 → field p 1 3 = 0 → field p 0 1 < 2 → (field p 0 1 ≠ 1 ∨ a.ident.variant ≠ .nk920) →
      exec (.timeDomainStatus r) s = .next (replied c r a 0 (a.domain (field p 0 1)).status))
    ∧ (let c : Cmd := ⟨0x0703, true, 2, false, .E, false⟩
     s.fate c r = .runs → p.length = 8 →
      (a.time.plantValid = false → exec (.timeSetPlant r) s =
        .next (replied c r (a.initPlant (field p 0 8) (a.domain a.time.selected).base.rate) 0 []))
      ∧ (a.time.plantValid = true → exec (.timeSetPlant r) s = .next (replied c r a 0x0B errorPlain)))
    ∧ (let c : Cmd := ⟨0x0704, true, 2, false, .O, false⟩
     s.fate c r = .runs → p.length = 20 → field p 3 1 = 0 → field p 0 1 < 16 → field p 1 1 < 2 → field p 2 1 < 2 →
      (field p 12 8 = 0 ∨ (1000000 ≤ field p 12 8 ∧ field p 12 8 ≤ 86400000000000)) →
      let no := field p 0 1
      let al : Alarm := ⟨field p 1 1, field p 2 1, field p 4 8, field p 12 8⟩
      exec (.timeAlarmWrite r) s = .next (replied c r ((a.modTime fun x =>
        { x with alarms := modAt x.alarms no fun _ => al, alarmDone := modAt x.alarmDone no fun _ => none,
                 alarmHeld := x.alarmHeld.filter (· != no) }).tellPartner (.alarm no al)) 0 []))
    ∧ (let c : Cmd := ⟨0x0705, true, 1, false, .E, false⟩
     ∀ al, s.fate c r = .runs → p.length = 4 → field p 1 3 = 0 → field p 0 1 < 16 → a.time.alarms[field p 0 1]? = some al →
      exec (.timeAlarmRead r) s = .next (replied c r a 0
        (be 1 (field p 0 1) ++ be 1 al.enable ++ be 1 al.base ++ [0] ++ be 8 al.at_ ++ be 8 al.period)))

/-- Local channels, HART and CAN, R467, R500, R501, R511, R514, R518, R519, R521 and R526: the channels' values and states are read; a HART transaction is
queued, or answered from a held reply; a controller's state and filters are read and written, frames are sent and received, and its schedule is
written while it is quiesced. -/
def Obligations.LocalAndCanCommands : Prop :=
  ∀ (s : State) (r : Req),
    let a := s.accept r
    let p := r.payload
    let k := field p 0 1
    let may := fun kind => a.gateCheck ⟨13, 0, kind, a.privOf r.session, if r.tenant < 512 then some r.tenant else none⟩ = none
    (let c : Cmd := ⟨0x0801, true, 1, false, .E, false⟩
     s.fate c r = .runs → a.ident.variant = .nk960 → p = [] → may 0 →
      exec (.localRead r) s = .next (replied c r a 0 (be 4 a.io.di.toNat ++ be 2 a.io.doCmd.toNat ++ be 2 a.io.readback.toNat
        ++ be 1 (if a.io.doFault then 1 else 0) ++ [0, 0, 0]
        ++ ((List.range 8).flatMap fun k => be 2 (a.io.aiCh k).code ++ be 1 (a.aiStatus k) ++ [0])
        ++ (List.range 4).flatMap fun k => be 2 (a.aoCh k).code ++ be 1 (a.aoStatus k) ++ [0])))
    ∧ (let c : Cmd := ⟨0x0802, true, 2, false, .O, false⟩
     let len := field p 4 2
     let q : HartReq := ⟨k, field p 1 1, field p 2 2, (p.drop 8).take len⟩
     s.fate c r = .runs → a.ident.variant = .nk960 → p.length = 8 + up4 len → field p 6 2 = 0 → (∀ b ∈ p.drop (8 + len), b = 0) → k < 2 →
      field p 1 1 < (if k = 0 then 8 else 4) → len ≤ 255 → may 1 →
      (∀ x, ((a.hartCh q.ch).held.find? fun x => x.1 == q && decide (a.clk.local_ < x.2.2.2)) = some x →
        exec (.hartTransact r) s = .next (replied c r a 0 (hartBody 0 x.2.1 x.2.2.1)))
      ∧ (((a.hartCh q.ch).held.find? fun x => x.1 == q && decide (a.clk.local_ < x.2.2.2)) = none → a.hartOn q = true → a.hartFault q = false →
        ((a.hartCh q.ch).queue.length < 4 → exec (.hartTransact r) s =
          .next (((a.modHart q.ch fun h => { h with queue := h.queue ++ [⟨q, some (r.ticket c), 0, 0, 0⟩] }).hartNext q.ch).closeLast r.session))
        ∧ (4 ≤ (a.hartCh q.ch).queue.length → exec (.hartTransact r) s = .next (replied c r a 0 (hartBody 3 0 [])))))
    ∧ (k < 4 → a.canThere k = .ok () →
      (let c : Cmd := ⟨0x0901, true, 1, false, .E, false⟩
       s.fate c r = .runs → p.length = 4 → field p 1 3 = 0 → may 0 → exec (.canStatus r) s = .next (replied c r a 0 (a.canStatusWords k)))
      ∧ (let c : Cmd := ⟨0x0902, true, 2, false, .E, false⟩
       s.fate c r = .runs → p.length = 16 → field p 4 2 = 1 → field p 1 1 = 0 → field p 6 2 = 0 → field p 2 2 < 512 →
        filterBad (field p 8 4) (field p 12 4) = false → a.isQuiesced (0x20 + k) = true → may 1 →
        exec (.canFilterWrite r) s = .next (replied c r (a.modCan k fun x =>
          { x with filters := NMap.set x.filters (field p 2 2) (BitVec.ofNat 32 (field p 8 4), BitVec.ofNat 32 (field p 12 4)) }) 0 []))
      ∧ (let c : Cmd := ⟨0x0903, true, 1, false, .E, false⟩
       s.fate c r = .runs → p.length = 8 → field p 1 1 = 0 → field p 6 2 = 0 → field p 2 2 < 512 → field p 2 2 + field p 4 2 ≤ 512 → may 0 →
        exec (.canFilterRead r) s = .next (replied c r a 0 ((List.range (field p 4 2)).flatMap fun j =>
          let e := (NMap.get (a.ctl k).filters (field p 2 2 + j)).getD (0, 0)
          be 4 e.1.toNat ++ be 4 e.2.toNat)))
      ∧ (let c : Cmd := ⟨0x0904, true, 2, false, .O, false⟩
       let len := field p 8 1
       s.fate c r = .runs → field p 1 1 = 0 → field p 4 4 < 2048 → len ≤ 8 → canLength false len = true → p.length = 12 + up4 len →
        field p 2 2 = 0 → field p 9 3 = 0 → (∀ b ∈ p.drop (12 + len), b = 0) → ((a.ctl k).sending.filter fun x => x.ticket.isSome).length < 64 →
        may 1 →
        let f : CanFrame := ⟨field p 4 4, false, false, false, false, len, (p.drop 12).take len⟩
        let b := a.modCan k fun c' => { c' with sending := c'.sending ++ [⟨f, some (r.ticket c), none, false, 0⟩] }
        (a.canRuns k = true → a.canSetting k 2 = 0 →
          exec (.canSend r) s = .next ((if a.alone then b else b.send 3 (.canMirror k f)).closeLast r.session))
        ∧ (a.canRuns k = false → exec (.canSend r) s = .next (replied c r (a.canLostNow k) 0x0B errorPlain)))
      ∧ (let c : Cmd := ⟨0x0905, true, 1, false, .E, false⟩
       s.fate c r = .runs → p.length = 4 → field p 1 1 < 8 → may 0 →
        let rs := (((a.ctl k).queues[field p 1 1]?).getD []).take (field p 2 2)
        exec (.canReceive r) s = .next (replied c r (a.modCan k fun c => { c with queues := modAt c.queues (field p 1 1) fun l => l.drop rs.length }) 0
          (be 2 rs.length ++ [0, 0] ++ rs.flatMap CanRec.wire)))
      ∧ (let c : Cmd := ⟨0x0906, true, 2, false, .E, false⟩
       s.fate c r = .runs → p.length = 20 → field p 6 1 = 0 → field p 7 1 = 0 → field p 1 3 = 0 → field p 16 4 = 0 → field p 4 1 = 1 →
        powers64.contains (field p 5 1) = true → field p 8 4 = 0 → field p 12 4 % 8 = 0 → field p 12 4 < 2048 → a.isQuiesced (0x20 + k) = true → may 1 →
        exec (.canScheduleWrite r) s =
          .next (replied c r (a.modCan k fun c => { c with sched := some ⟨field p 5 1, 0, field p 12 4, false, [], []⟩ }) 0 [])))

/-- Gates, authorities, certificates, revocations and keys, R444, R537 to R539, R541, R543, R546 to R548 and R556: gate entries are read, and a write is
staged for both modules; an authority, a certificate and a revocation need a key at the module; the key's state is read. -/
def Obligations.SecurityCommands : Prop :=
  ∀ (s : State) (r : Req),
    let a := s.accept r
    let p := r.payload
    (let c : Cmd := ⟨0x0A01, true, 2, false, .E, false⟩
     s.fate c r = .runs → p.length = 4 → field p 3 1 = 0 → field p 0 1 < 16 → field p 1 1 ≤ 64 → field p 1 1 + field p 2 1 ≤ 65 →
      exec (.secGateRead r) s = .next (replied c r a 0 ((List.range (field p 2 1)).flatMap fun k =>
        if field p 1 1 + k = 64 then ((a.gates[field p 0 1]?).getD (Config.gate (field p 0 1))).statusBlock
        else (a.gateEntry (field p 0 1) (field p 1 1 + k)).bytes)))
    ∧ (let c : Cmd := ⟨0x0A02, true, 2, false, .O, false⟩
     let g := field p 0 1
     let i := field p 1 1
     let e : GateEnt := ⟨field p 4 4, field p 8 4, field p 12 4 % 512, field p 12 4 / 512, field p 16 4 % 4096,
                        field p 16 4 / 4096 % 2 == 1, field p 16 4 / 8192 == 1⟩
     s.fate c r = .runs → p.length = 20 → field p 2 2 = 0 → field p 4 4 < 16777216 → field p 8 4 < 16777216 → field p 12 4 < 2048 →
      field p 16 4 < 16384 → g < 16 → i < 64 → gateEntryBad g e = none → a.pairUpdate = false →
      (i < 32 → exec (.secGateWrite r) s = .next (replied c r a 8 (denied 6).2))
      ∧ (32 ≤ i → ((NMap.get (a.hostAfter g false) i).getD GateEnt.none).lock = false →
        ((a.hostAfter g false).any fun x => x.1 != i && x.2.meets e) = false →
        exec (.secGateWrite r) s = .next ((({ a with gateWrites := a.gateWrites ++ [⟨a.tickIn 1000000, g, i, e, false, some (r.ticket c)⟩] } : State).tellPartner
          (.gateEntry (a.tickIn 1000000) g i e false)).closeLast r.session)))
    ∧ (let c : Cmd := ⟨0x0A03, true, 2, false, .EL, true⟩
     s.fate c r = .runs → field p 0 1 = 1 ∨ field p 0 1 = 2 → p.length = 4 + curveBytes (field p 0 1) → field p 1 3 = 0 →
      (a.keyAt 2 = false → exec (.secAuthorityInstall r true) s = .next (replied c r a 8 (denied 3).2))
      ∧ (a.keyAt 2 = true →
        let b := (((a.useKey r.session).modKeys fun x =>
          { x with authority := some (field p 0 1, p.drop 4), moduleCert := none, revoked := [], revoking := [] }).record 547 1 sevInfo noSource noSource
            [(4, r.session), (4, field p 0 1)]).finish (r.ticket c) 0 []
        exec (.secAuthorityInstall r true) s =
          .next (((b.gelit.sessions.map (·.no)).foldl (fun (s : State) n => s.closeSession n) b).closeLast r.session)))
    ∧ (let c : Cmd := ⟨0x0A04, true, 2, false, .EL, true⟩
     ∀ x k, s.fate c r = .runs → 56 ≤ p.length → field p 1 1 = 1 → field p 21 1 = 1 ∨ field p 21 1 = 2 → takeCert p = some (x, []) → field p 20 1 < 2 →
      field p 22 2 = 0 → x.format = 1 → x.kind = 3 → x.privMax = 0 → x.subject = serialSubject a.ident.serial → x.key = a.keys.staticKey →
      a.keyAt 2 = true → a.keys.authority = some (x.issuerCurve, k) →
      exec (.secModuleCertInstall r true) s = .next (replied c r ((((a.useKey r.session).submit
        [⟨if x.issuerCurve = 2 then 1 else 0, false⟩]).modKeys fun y => { y with moduleCert := some p }).record 547 2 sevInfo noSource noSource
          [(4, r.session), (4, x.serial.toNat)]) 0 []))
    ∧ (let c : Cmd := ⟨0x0A05, true, 2, false, .O, false⟩
     let w := BitVec.ofNat 32 (field p 0 4)
     s.fate c r = .runs → p.length = 4 → a.keyAt 2 = true →
      (w ∈ a.keys.revoked → exec (.secRevoke r) s = .next (replied c r (a.useKey r.session) 0 []))
      ∧ (w ∉ a.keys.revoked → a.keys.revoked.length + a.keys.revoking.length < 1024 →
        let b := a.useKey r.session
        exec (.secRevoke r) s = .next (((b.modKeys fun x => { x with revoking := x.revoking ++ [(b.tickIn 1000000, w, some (r.ticket c))] }).tellPartner
          (.revoke (b.tickIn 1000000) w)).closeLast r.session)))
    ∧ (let c : Cmd := ⟨0x0A06, true, 1, false, .EL, true⟩
     s.fate c r = .runs → p = [] → a.gateCheck ⟨12, 0, 0, a.privOf r.session, if r.tenant < 512 then some r.tenant else none⟩ = none →
      (∀ x, a.reader.present = some x → a.clk.local_ < x.until_ → exec (.secKeyStatus r) s = .next (replied c r a 0
        (be 1 1 ++ be 1 x.priv ++ [0, 0] ++ be 4 (min ((a.cal + (x.until_ - a.clk.local_ : Nat)) / 1000000000).toNat x.expiry))))
      ∧ (a.reader.present = none → exec (.secKeyStatus r) s = .next (replied c r a 0 (be 8 0))))

/-- UPDATE.BEGIN, WRITE, VERIFY, ACTIVATE, ABORT and STATUS and ALMANAC.READ, CLEAR and STATUS complete where their request is accepted, R454, R561 to
R564, R566, R574, R575 and R578 to R581: an update takes the pair's slot, is written, verified, activated in one module or in the pair, and aborted;
its state is read; almanac records are read and cleared up to the newest with a key or a token. -/
def Obligations.UpdateAndAlmanacCommands : Prop :=
  ∀ (s : State) (r : Req),
    let a := s.accept r
    let p := r.payload
    let may := a.gateCheck ⟨11, 0, 0, a.privOf r.session, if r.tenant < 512 then some r.tenant else none⟩ = none
    (let c : Cmd := ⟨0x0B01, true, 2, false, .EL, false⟩
     s.fate c r = .runs → p = [] → a.updateFree = .ok () →
      let own := a.mode == .lantern || a.mode == .joining
      let b := a.modUpdate fun u =>
        { u with
          state := 1, pairStep := 0, part := 0, scopePair := false, endCause := 0, targetGen := 0, bytes := 0, session := some r.session
          manifest := [], manifestDone := false, parts := [], partsDone := [], retryFrom := none, ownSlot := own }
      exec (.updateBegin r) s = .next (replied c r (if own then b else b.takeSlot 1 r.session) 0 []))
    ∧ (let c : Cmd := ⟨0x0B02, true, 2, false, .EL, false⟩
     ∀ k u, s.fate c r = .runs → chunkOf p = .ok k → k.select ≤ 7 → a.updateMine r.session = .ok () → a.update.stage k = .ok u →
      exec (.updateWrite r) s = .next (replied c r
        (if a.mode = .owner then ({ a with update := u } : State).forwardChunk k.select k else { a with update := u }) 0 []))
    ∧ (let c : Cmd := ⟨0x0B03, true, 2, false, .EL, false⟩
     ∀ sig bad agrees, s.fate c r = .runs → p = [] → a.updateMine r.session = .ok () →
      let v := a.verifyResult sig bad (agrees || a.mode != .owner || a.solo)
      exec (.updateVerify r sig bad agrees) s = .next (replied c r
        ((a.submit [⟨1, false⟩]).modUpdate fun u => { u with state := if v.1 = 0 then 2 else 1, lastResult := v.1 }) (if v.1 = 0 then 0 else 5)
        (be 1 v.1 ++ be 1 v.2 ++ be 1 (if a.pairCapable then 1 else 0) ++ [0] ++ be 4 (manifestGen a.update.manifestBytes)
          ++ be 4 a.ident.generation)))
    ∧ (let c : Cmd := ⟨0x0B04, true, 2, false, .EL, false⟩
     s.fate c r = .runs → p.length = 4 → field p 1 3 = 0 → a.update.state = 2 → a.updateMine r.session = .ok () →
      a.settings.quiesced = [] → a.pair.peerQuiesced = [] →
      (field p 0 1 = 0 → a.soleMayUpdate = true → a.ident.generation ≤ a.update.targetGen → a.owns = false →
        exec (.updateActivateModule r) s = .next (replied c r (a.modUpdate fun u =>
          { u with state := 3, scopePair := false, pairStep := 0, bytes := 0, part := u.firstToWrite }) 0 []))
      ∧ (field p 0 1 = 1 → a.pairMayUpdate = true → a.ident.generation ≤ a.update.targetGen →
        exec (.updateActivatePair r) s = .next (replied c r ((a.modUpdate fun u =>
          { u with state := 3, scopePair := true, pairStep := 1, bytes := 0, part := u.firstToWrite }).tellPartner .activate) 0 [])))
    ∧ (let c : Cmd := ⟨0x0B05, true, 2, false, .EL, false⟩
     s.fate c r = .runs → p = [] → a.update.state = 1 ∨ a.update.state = 2 → exec (.updateAbort r) s = .next (replied c r a.abortUpdate 0 []))
    ∧ (let c : Cmd := ⟨0x0B06, true, 1, false, .EL, false⟩
     let u := a.update
     s.fate c r = .runs → p = [] → exec (.updateStatus r) s = .next (replied c r a 0
      (be 4 (u.state % 16 + 16 * (u.pairStep % 16) + 256 * (u.lastResult % 256) + 65536 * (u.part % 8)
          + (if u.scopePair then 524288 else 0) + 1048576 * (u.endCause % 256))
        ++ be 4 u.targetGen ++ be 4 a.ident.generation ++ be 4 a.partnerGen ++ be 4 (sat32 u.bytes) ++ be 4 u.loader)))
    ∧ (let c : Cmd := ⟨0x0C01, true, 1, false, .EL, false⟩
     s.fate c r = .runs → p.length = 12 → field p 10 2 = 0 → field p 8 2 ≤ 255 → may →
      let xs := (a.almanac.records.filter fun x => decide (field p 0 8 ≤ x.seq)).take (field p 8 2)
      exec (.almanacRead r) s = .next (replied c r a 0 (be 8 (((xs.head?).map (·.seq)).getD a.almanac.next)
        ++ be 8 (((xs.getLast?).map (·.seq + 1)).getD a.almanac.next) ++ be 2 xs.length ++ be 6 0 ++ xs.flatMap Rec.bytes)))
    ∧ (let c : Cmd := ⟨0x0C02, true, 2, false, .E, false⟩
     ∀ sig, s.fate c r = .runs → p = [0, 0, 0, 0] →
      (a.keyAt 2 = true → exec (.almanacClear r sig) s =
        .next (replied c r ((a.clearAlmanac (a.almanac.next - 1) a.keySerial r.session).useKey r.session) 0 []))
      ∧ (a.keyAt 2 = false → exec (.almanacClear r sig) s = .next (replied c r a 8 (denied 3).2)))
    ∧ (let c : Cmd := ⟨0x0C03, true, 1, false, .E, false⟩
     s.fate c r = .runs → p = [] → may → exec (.almanacStatus r) s = .next (replied c r a 0
      (be 8 (((a.almanac.records.head?).map (·.seq)).getD a.almanac.next)
        ++ be 8 (((a.almanac.records.getLast?).map (·.seq)).getD (a.almanac.next - 1)))))

/-- Diagnostics, R35, R200, R215, R226, R310, R468, R594, R597, R599 and R600: counters are read at one instant and bound to their sources; watchdogs,
strands, a task's speculation, a displaced fault frame and a tag are read. -/
def Obligations.DiagnosticsCommands : Prop :=
  ∀ (s : State) (r : Req),
    let a := s.accept r
    let p := r.payload
    (let c : Cmd := ⟨0x0D01, true, 1, false, .E, false⟩
     s.fate c r = .runs → p.length = 4 →
      (field p 0 2 + field p 2 2 ≤ 256 → exec (.diagCounterRead r) s = .next (replied c r a 0
        (((a.counters.drop (field p 0 2)).take (field p 2 2)).flatMap fun c => be 4 c.value ++ be 8 a.clk.local_)))
      ∧ (256 < field p 0 2 + field p 2 2 → exec (.diagCounterRead r) s = .next (replied c r a 5 (badParam 2).2)))
    ∧ (let c : Cmd := ⟨0x0D02, true, 2, false, .E, false⟩
     s.fate c r = .runs → p.length = 8 → field p 5 3 = 0 → field p 0 2 ≤ 255 → Config.counterSource a.ident.variant (field p 2 2) = true →
      (field p 4 1 = 0 ∨ (field p 4 1 = 1 ∧ field p 0 2 % 2 = 0)) →
      (chainedOdd a.counters (field p 0 2) = false → exec (.diagCounterSelect r) s = .next (replied c r
        { a with counters := selectCounter a.counters (field p 0 2) (field p 2 2) (field p 4 1 == 1) } 0 []))
      ∧ (chainedOdd a.counters (field p 0 2) = true → exec (.diagCounterSelect r) s = .next (replied c r a 0x0B errorPlain)))
    ∧ (let c : Cmd := ⟨0x0D03, true, 1, false, .E, false⟩
     let n := field p 0 2
     s.fate c r = .runs → p.length = 4 → field p 2 2 = 0 →
      (2048 ≤ n → n ≤ 2055 → exec (.diagWatchdogRead r) s = .next (replied c r a 0 (a.unitWatchdog (n - 2048))))
      ∧ (∀ t, n < 2048 → a.task n = some t → exec (.diagWatchdogRead r) s = .next (replied c r a 0 (a.taskWatchdog t)))
      ∧ (n < 2048 → a.task n = none → exec (.diagWatchdogRead r) s = .next (replied c r a 0 (be 48 0))))
    ∧ (let c : Cmd := ⟨0x0D04, true, 1, false, .E, false⟩
     s.fate c r = .runs → p.length = 4 → field p 1 3 = 0 → field p 0 1 ≤ 15 → exec (.diagStrandStatus r) s = .next (replied c r a 0
      (be 4 (a.paceStatus (field p 0 1)) ++ be 4 (a.parallaxStatus (field p 0 1)) ++ be 4 a.vcoreStatus)))
    ∧ (let c : Cmd := ⟨0x0D05, true, 1, true, .E, false⟩
     ∀ t, s.fate c r = .runs → p.length = 4 → field p 2 2 = 0 → a.task (field p 0 2) = some t →
      (t.tenant = r.tenant → exec (.diagTaskSpec r) s = .next (replied c r a 0 (be 4 t.specStatus)))
      ∧ (t.tenant ≠ r.tenant → exec (.diagTaskSpec r) s = .next (replied c r a 5 (badParam 0).2)))
    ∧ (let c : Cmd := ⟨0x0D06, true, 2, true, .E, false⟩
     s.fate c r = .runs → p = [] → (a.tenant r.tenant).slot = [] →
      a.gateCheck ⟨15, r.tenant / 4, 0, a.privOf r.session, if r.tenant < 512 then some r.tenant else none⟩ = none →
      exec (.diagDisplacedRead r) s = .next (replied c r a 0 (be 64 0)))
    ∧ (let c : Cmd := ⟨0x0D07, true, 1, false, .E, false⟩
     s.fate c r = .runs → p.length = 4 → field p 0 4 < Config.tags a.ident.variant →
      exec (.diagTagRead r) s = .next (replied c r a 0 (a.tagWords (field p 0 4))))

/-- Debugging, R91, R230 to R232, R234 and R468: a session takes the pair's slot with a key, halts, steps and runs lane 1 of the tenant's tasks on the
standby, sets and clears breakpoints, reads and writes the debug copy, and ends. -/
def Obligations.DebugCommands : Prop :=
  ∀ (s : State) (r : Req),
    let a := s.accept r
    let p := r.payload
    (let c : Cmd := ⟨0x0D08, true, 2, true, .SB, false⟩
     s.fate c r = .runs → p = [] → a.slot = none → a.dbg = none → (a.tenant r.tenant).version.isSome = true →
      (a.keyAt 2 = true → exec (.debugOpen r) s = .next (replied c r ((a.openDebug r.tenant r.session).useKey r.session) 0 []))
      ∧ (a.keyAt 2 = false → exec (.debugOpen r) s = .next (replied c r a 8 (denied 3).2)))
    ∧ (let c : Cmd := ⟨0x0D09, true, 2, true, .SB, false⟩
     let op := field p 0 1
     let left := fun (d : DebugSt) => replied c r { a with dbg := some d } 0 d.body
     ∀ d, s.fate c r = .runs → p.length = 8 → field p 1 1 = 0 → a.debugOf r = .ok d →
      (op = 1 → exec (.debugHalt r) s = .next (left { d with halted := true }))
      ∧ (op = 2 → d.inCycle = true → exec (.debugStep r) s =
        .next (({ a with dbg := some { d with halted := false, leaving := true, step := some (r.ticket c) } } : State).closeLast r.session))
      ∧ (op = 2 → d.inCycle = false → exec (.debugStep r) s = .next (left { d with halted := true }))
      ∧ (op = 3 → exec (.debugRun r) s = .next (left { d with halted := false, leaving := d.halted }))
      ∧ (∀ t v, a.task (field p 2 2) = some t → t.tenant = r.tenant → (a.tenant r.tenant).version = some v → field p 4 4 < v.code.length →
        let b := (field p 2 2, field p 4 4)
        (op = 4 → b ∈ d.breaks → exec (.debugSetBreak r) s = .next (left d))
        ∧ (op = 4 → b ∉ d.breaks → d.breaks.length < 16 → exec (.debugSetBreak r) s = .next (left { d with breaks := d.breaks ++ [b] }))
        ∧ (op = 4 → b ∉ d.breaks → 16 ≤ d.breaks.length → exec (.debugSetBreak r) s = .next (replied c r a 0x0B errorPlain))
        ∧ (op = 5 → exec (.debugClearBreak r) s = .next (left { d with breaks := d.breaks.filter fun x => x != b }))))
    ∧ (let c : Cmd := ⟨0x0D0A, true, 2, true, .SB, false⟩
     let t := a.tenant r.tenant
     ∀ d, s.fate c r = .runs → p.length = 8 → field p 1 1 = 0 → 36 + 4 * field p 2 2 ≤ 16384 → a.debugOf r = .ok d →
      (field p 0 1 = 0 → field p 4 4 + field p 2 2 ≤ 100 → exec (.debugRead r) s = .next (replied c r a 0
        (((d.lane.debugWords.drop (field p 4 4)).take (field p 2 2)).flatMap fun w => be 4 w.toNat)))
      ∧ (2 ≤ field p 0 1 → field p 0 1 ≤ 5 → field p 4 4 + field p 2 2 ≤ t.windowBytes (field p 0 1 - 1) / 4 →
        a.copyDenial r t 0 (field p 0 1 - 1) (field p 4 4) (field p 2 2) = none →
        exec (.debugRead r) s = .next (replied c r a 0 (((List.range (field p 2 2)).map fun k =>
          Cells.readWord d.copy (t.copyAddr (field p 0 1 - 1) (field p 4 4 + k))).flatMap fun w => be 4 w.toNat))))
    ∧ (let c : Cmd := ⟨0x0D0B, true, 2, true, .SB, false⟩
     let t := a.tenant r.tenant
     ∀ d, s.fate c r = .runs → p.length = 8 + 4 * field p 2 2 → field p 1 1 = 0 → 1 ≤ field p 0 1 → field p 0 1 ≤ 4 →
      4 * (field p 4 4 + field p 2 2) ≤ t.windowBytes (field p 0 1) → a.debugOf r = .ok d →
      a.copyDenial r t 1 (field p 0 1) (field p 4 4) (field p 2 2) = none →
      exec (.debugWrite r) s = .next (replied c r { a with dbg := some { d with copy := (List.range (field p 2 2)).foldl (fun m k =>
        Cells.writeWord m (t.copyAddr (field p 0 1) (field p 4 4 + k)) (BitVec.ofNat 32 (field p (8 + 4 * k) 4))) d.copy } } 0 []))
    ∧ (let c : Cmd := ⟨0x0D0C, true, 2, true, .SB, false⟩
     s.fate c r = .runs → p = [] → (∀ d, a.debugOf r = .ok d → exec (.debugClose r) s = .next (replied c r a.endDebug 0 []))
      ∧ (a.dbg = none → exec (.debugClose r) s = .next (replied c r a 0x0B errorPlain)))

/-- One step: the command at the front of the queue is taken off it and executed with the queue's rest. On an empty queue the next request that waits in a
session has its turn (R441), and otherwise the module idles (the model's choice, log entry 2). -/
def Obligations.StepTakesFront : Prop :=
  (∀ (c : Instr) (rest : List Instr) (s : State), s.pending = c :: rest → step s = exec c { s with pending := rest })
  ∧ (∀ s : State, s.pending = [] → s.nextWaiting = none → step s = .next s)
  ∧ (∀ (s : State) (w : Waiting) (t : State), s.pending = [] → s.nextWaiting = some (w, t) → step s = t.runWaiting w)

/-- Commands execute in the order of their arrival: a step takes the front of the queue and leaves the rest as it is, whatever the command does, a restart
of the module among it. No command puts another on the queue. -/
def Obligations.QueueInOrder : Prop :=
  ∀ (s t : State), step s = .next t → t.pending = s.pending.tail

/-- Every command completes: on every state and with every operand, exec of each command answers a next state, and so does a step of the module. Nothing
stops the model. -/
def Obligations.EveryCommandCompletes : Prop :=
  (∀ (c : Instr) (s : State), Safe (exec c s)) ∧ ∀ s : State, Safe (step s)

/-- The process image keeps its one canonical form in every step: its byte addresses strictly rise, and no byte is listed that reads as an unlisted one
does. Equal images are equal data. -/
def Obligations.ImageCanonicalKept : Prop :=
  ∀ (s t : State), Cells.wf s.image.base = true → step s = .next t → Cells.wf t.image.base = true

/-- R36: the set point of VCORE is 0.70 V and 5 mV for each VCORE_CODE; where it lies between 700 and 900 mV, which is VCORE_CODE 0 to 40, every step of
the module, whatever command runs, leaves it there; and a step of the regulator moves it by 5 mV at most. -/
def Obligations.VcoreRangeKept : Prop :=
  (∀ s : State, s.setPoint = 700 + s.vcore.code * 5 ∧ (s.vcore.code ≤ 40 ↔ 700 ≤ s.setPoint ∧ s.setPoint ≤ 900))
  ∧ (∀ (s t : State), 700 ≤ s.setPoint ∧ s.setPoint ≤ 900 → step s = .next t → 700 ≤ t.setPoint ∧ t.setPoint ≤ 900)
  ∧ (∀ (t : Nat) (s u : State), exec (.vcoreRegulatorStep t) s = .next u →
      u.setPoint = s.setPoint ∨ u.setPoint = s.setPoint + 5 ∨ u.setPoint + 5 = s.setPoint)

/-- The invariants hold right after reset, where the image lists nothing and VCORE_CODE is 0. -/
def Obligations.InvariantsAtReset : Prop :=
  Cells.wf (State.reset).image.base = true ∧ (State.reset).vcore.code ≤ 40 ∧ (State.reset).pending = []

/-- The module right after reset: it enters LANTERN, every base of time reads 0, no tenant is loaded, the process image lists nothing, VCORE is at 0.70 V
with the regulator off, every port is disabled, no ring has a station table, the change, the update and the almanac stand at their start, no session
is open, no key is read, every output is released and the module holds no certificate. The identity, the fuse and the closed feed switches are the
model's choice (log entries 3 and 4). -/
def Obligations.ResetState : Prop :=
  let s := State.reset
  s.mode = .lantern ∧ s.cause = .none ∧ s.clk = ⟨0, 0, 0⟩ ∧ s.ident.variant = .nk960 ∧ s.ident.fuse = 2
  ∧ s.tenants = [] ∧ s.tasks = [] ∧ s.image = ⟨[], [], []⟩ ∧ s.forces = [] ∧ s.dbg = none
  ∧ s.vcore.code = 0 ∧ s.vcore.regOn = false ∧ s.strands.length = 16
  ∧ s.rings = List.replicate 4 ringReset ∧ s.ports = List.replicate 8 Port.reset ∧ s.acyc = [] ∧ s.cyclicTags = []
  ∧ s.pair.epoch = 0 ∧ s.pair.peerHealthy = false ∧ s.pair.synchronised = false ∧ s.lantern.phase = .bringup ∧ s.lantern.bringupComplete = false
  ∧ s.change.state = 0 ∧ s.update.state = 0 ∧ s.gelit.sessions = [] ∧ s.slot = none
  ∧ s.time.plantValid = false ∧ s.time.domains.length = 2 ∧ s.time.alarms = List.replicate 16 ⟨0, 0, 0, 0⟩
  ∧ s.io.doReleased = 0xFFFF ∧ s.io.doOn = 0 ∧ (∀ c ∈ s.io.ao, c.released = true)
  ∧ s.can = List.replicate 4 canReset ∧ (s.gates.map (·.host)) = (List.range 16).map (fun k => (Config.gate k).host)
  ∧ s.keys.authority = none ∧ s.keys.moduleCert = none ∧ s.reader.present = none ∧ s.almanac.records = [] ∧ s.tap.taken = false
  ∧ s.feeds = ⟨false, false, true, true⟩ ∧ s.pending = []

/-- The frame of the engine's instructions: whatever opcode executes, on whatever state, it changes nothing but tasks, strands, counters, and, by a denied
access or under a debug session, the gates' records, the almanac, fires, messages of the partner link, the debug session and the reply of a single
step. The published process image, its COMMITTED writes, the settings, the rings, the pair, the time, the local channels and every other register
stand. -/
def Obligations.EngineFrame : Prop :=
  (∀ (i : Instr) (x : Exec) (s t : State), engineOf i = some x → exec i s = .next t →
    t = { s with
      tasks := t.tasks, strands := t.strands, counters := t.counters, gates := t.gates, almanac := t.almanac, fires := t.fires,
      peerFires := t.peerFires, link := t.link, dbg := t.dbg, gelit := t.gelit })
  ∧ (∀ (i : Instr) (s t : State), leavesImage i = true → exec i s = .next t →
      t.image.base = s.image.base ∧ ∀ a, Cells.read t.image.base a = Cells.read s.image.base a)

/-- Sequence numbers, R450: with H the highest sequence accepted, s is accepted if s > H, or if H − 64 < s ≤ H and s was not accepted before; the 16 most
recently accepted requests are stored with their replies; a repeat with its tag gets its stored reply, or PENDING while it has none; any other request
at or below H is REPLAYED; and no sequence is ever accepted twice, whatever is accepted after it. -/
def Obligations.SequenceRule : Prop :=
  (∀ (x : Session) (r : Req), x.ready ≠ some r.seq →
    (x.judge r = none ↔ x.highest < r.seq ∨ (x.highest < r.seq + 64 ∧ r.seq ∉ x.accepted))
    ∧ (x.judge r ≠ none → ∀ d, (x.stored.find? fun d => d.seq == r.seq && d.tag == r.tag) = some d → x.judge r = some (.again d.reply))
    ∧ (x.judge r ≠ none → (∀ d ∈ x.stored, ¬ (d.seq = r.seq ∧ d.tag = r.tag)) → x.judge r = some .replayed))
  ∧ (∀ (x : Session) (r : Req) (now : Nat), x.ready ≠ some r.seq →
      let y := x.take r now
      y.highest = max x.highest r.seq ∧ y.stored = (⟨r.seq, r.tag, none⟩ :: x.stored).take 16
      ∧ ∀ n, n ∈ y.accepted ↔ (n = r.seq ∨ n ∈ x.accepted) ∧ max x.highest r.seq < n + 64)
  ∧ (∀ (x : Session) (r q : Req) (now : Nat), x.ready = none → q.seq = r.seq → q.tag = r.tag →
      (x.take r now).judge q = some (.again none))
  ∧ (∀ (x : Session) (r q : Req) (now : Nat) (more : List (Req × Nat)), x.ready = none → q.seq = r.seq →
      (more.foldl (fun x p => x.take p.1 p.2) (x.take r now)).judge q ≠ none)
  ∧ (∀ (s : State) (k : Ticket) (status : Nat) (body : List Byte) (x : Session), s.session k.session = some x →
      ∃ y, (s.finish k status body).session k.session = some y
        ∧ y.stored = x.stored.map fun d =>
            if d.seq = k.seq then { d with reply := some ⟨k.source, k.session, k.seq, k.tenant, k.opcode, status, true, body⟩ } else d)
  ∧ (∀ (s : State) (c : Cmd) (r : Req) (x : Session) (f : Fate),
      s.up = true → s.mode ≠ .seated → s.mode ≠ .unseated → 36 ≤ r.udpLen → r.udpLen ≤ 16384 → r.udpLen = r.length →
      r.version = 2 → r.flags % 2 = 0 → r.session ≠ 0 → c.op ≠ 1 → s.session r.session = some x → r.tagOk = true →
      x.isOpen = true → x.judge r = some f → s.fate c r = f)

/-- The three stacks of a lane, R110, R111, R114 to R116: a push on a full branch stack and RET, END or ENDC with entries left over fault with BRANCH-
STACK-OVERFLOW (code 4), a pop below the frame's depth with BRANCH-STACK-UNDERFLOW (5), the 17th call with CALL-STACK-OVERFLOW (6), a ninth loop and
NEXT, LEAVE or LIDX without a visible frame with LOOP-STACK (7): before the instruction has any effect, PC naming it. -/
def Obligations.StackFaults : Prop :=
  ∀ (x : Exec) (w : BitVec 24) (ext : Word) (s : State) (b : Start),
    let r := b.lane.regs
    let left := ((r.calls.head?.map (·.branchDepth)).getD 0) < r.branch.length
    let seen := ((r.calls.head?.map (·.loopDepth)).getD 0) < r.loops.length
    (left →
      (startOf 0xC7 x w 0 s = some b → exec (.opRet x w) s = .next (b.faults w 4 0))
      ∧ (r.acc = true → startOf 0xC8 x w 0 s = some b → exec (.opRetc x w) s = .next (b.faults w 4 0))
      ∧ (r.acc = false → startOf 0xC9 x w 0 s = some b → exec (.opRetcn x w) s = .next (b.faults w 4 0)))
    ∧ (r.branch ≠ [] →
      (startOf 0xD5 x w 0 s = some b → exec (.opEnd x w) s = .next (b.faults w 4 0))
      ∧ (r.acc = true → startOf 0xD6 x w 0 s = some b → exec (.opEndc x w) s = .next (b.faults w 4 0)))
    ∧ (32 ≤ r.branch.length →
      (startOf 0xD0 x w 0 s = some b → exec (.opBpush x w) s = .next (b.faults w 4 0))
      ∧ (startOf 0x0C x w 0 s = some b → exec (.opAndp x w) s = .next (b.faults w 4 0))
      ∧ (startOf 0x0D x w 0 s = some b → exec (.opAndnp x w) s = .next (b.faults w 4 0))
      ∧ (startOf 0x0E x w 0 s = some b → exec (.opOrp x w) s = .next (b.faults w 4 0))
      ∧ (startOf 0x0F x w 0 s = some b → exec (.opOrnp x w) s = .next (b.faults w 4 0))
      ∧ (startOf 0x10 x w 0 s = some b → exec (.opXorp x w) s = .next (b.faults w 4 0))
      ∧ (startOf 0x11 x w 0 s = some b → exec (.opXornp x w) s = .next (b.faults w 4 0)))
    ∧ (¬ left →
      (startOf 0xD1 x w 0 s = some b → exec (.opBpeek x w) s = .next (b.faults w 5 0))
      ∧ (startOf 0xD2 x w 0 s = some b → exec (.opBpop x w) s = .next (b.faults w 5 0))
      ∧ (startOf 0xD3 x w 0 s = some b → exec (.opClose x w) s = .next (b.faults w 5 0)))
    ∧ (16 ≤ r.calls.length →
      (startOf 0xC4 x w 0 s = some b → exec (.opCall x w) s = .next (b.faults w 6 0))
      ∧ (r.acc = true → startOf 0xC5 x w 0 s = some b → exec (.opCallc x w) s = .next (b.faults w 6 0))
      ∧ (r.acc = false → startOf 0xC6 x w 0 s = some b → exec (.opCallcn x w) s = .next (b.faults w 6 0)))
    ∧ (8 ≤ r.loops.length → w.extractLsb' 0 16 ≠ 0 → startOf 0xCA x w ext s = some b →
      exec (.opFor x w ext) s = .next (b.faults w 7 0))
    ∧ (8 ≤ r.loops.length → w.extractLsb' 0 16 ≠ 0 → r.wacc ≠ 0 → startOf 0xCB x w ext s = some b →
      exec (.opForw x w ext) s = .next (b.faults w 7 0))
    ∧ (¬ seen →
      (startOf 0xCC x w 0 s = some b → exec (.opNext x w) s = .next (b.faults w 7 0))
      ∧ (startOf 0xCD x w 0 s = some b → exec (.opLeave x w) s = .next (b.faults w 7 0))
      ∧ (startOf 0xCE x w 0 s = some b → exec (.opLidx x w) s = .next (b.faults w 7 0)))
end

