-- ==== Sys2Proof/Laws/Answers.lean ====
section
/-! SUPPORT. Laws of Gelit answers: a request that runs is answered by its body, and a property of every state that an answer can leave holds after it. -/
namespace Sys2Proof.Machine

/-- A fold whose steps keep a value keeps it. -/
theorem foldl_keep {α β γ : Type} (g : β → γ) (f : β → α → β) (h : ∀ b x, g (f b x) = g b) (xs : List α) (b : β) :
    g (xs.foldl f b) = g b := by
  induction xs generalizing b with
  | nil => rfl
  | cons x xs ih => rw [List.foldl_cons, ih, h]

/-- What both branches keep, a choice between them keeps. -/
theorem ite_keep {β : Type} (g : State → β) {c : Prop} [Decidable c] {a b : State} {v : β} (ha : g a = v) (hb : g b = v) :
    g (if c then a else b) = v := by
  split <;> assumption

/-- What holds of the state that an answer leaves. -/
def Answer.All (p : State → Prop) : Answer → Prop
  | .error _ => True
  | .ok (.reply t _ _) => p t
  | .ok (.later t) => p t

/-- An answer after a check: what holds of every way on. -/
theorem Answer.all_bind {α : Type} (p : State → Prop) (x : Except Refused α) (f : α → Answer) (h : ∀ v, x = .ok v → (f v).All p) :
    Answer.All p (x >>= f) := by
  cases x with
  | error e => exact trivial
  | ok v => exact h v rfl

/-- The same, said of `Except.bind`. -/
theorem Answer.all_bind' {α : Type} (p : State → Prop) (x : Except Refused α) (f : α → Answer) (h : ∀ v, x = .ok v → (f v).All p) :
    Answer.All p (x.bind f) := Answer.all_bind p x f h
@[simp] theorem Answer.all_ok (p : State → Prop) (s : State) (b : List Byte) : Answer.All p (ok s b) = p s := rfl
@[simp] theorem Answer.all_reply (p : State → Prop) (s : State) (n : Nat) (b : List Byte) : Answer.All p (.ok (.reply s n b)) = p s := rfl
@[simp] theorem Answer.all_later (p : State → Prop) (s : State) : Answer.All p (.ok (.later s)) = p s := rfl
@[simp] theorem Answer.all_error (p : State → Prop) (e : Refused) : Answer.All p (.error e) = True := rfl

/-- A request that passes its checks is accepted, answered by the command's body, and ends its session if it was the last. -/
theorem State.receive_runs {s : State} {c : Cmd} {v : Brought} {r : Req} {body : State → Ticket → Answer} (h : s.fate c r = .runs) :
    s.receive c v r body = (((s.accept r).answer (r.ticket c) (body (s.accept r) (r.ticket c))).closeLast r.session) := by
  unfold State.receive; rw [h]

/-- A check that passes goes on. -/
theorem except_ok_bind {α β ε : Type} (x : α) (f : α → Except ε β) : (Except.ok x : Except ε α) >>= f = f x := rfl

/-- A check that fails decides. -/
theorem except_error_bind {α β ε : Type} (x : ε) (f : α → Except ε β) : (Except.error x : Except ε α) >>= f = .error x := rfl

/-- A result that is not a refusal has a value. -/
theorem except_isOk {α ε : Type} {x : Except ε α} (h : x.isOk = true) : ∃ a, x = .ok a := by
  cases x <;> simp_all [Except.isOk, Except.toBool]

end Sys2Proof.Machine
end

