-- ==== Sys2Proof/Laws/Cells.lean ====
section
/-! SUPPORT. Laws of the process image's bytes: what a read gives after a write, and that every operation keeps the canonical form. -/
namespace Sys2Proof.Machine

/-! ### Maps by number -/

/-- A number that is set reads as what it was set to. -/
theorem NMap.get_set {α : Type} (m : List (Nat × α)) (k : Nat) (v : α) : NMap.get (NMap.set m k v) k = some v := by
  induction m with
  | nil => simp [NMap.set, NMap.get]
  | cons e m ih =>
    unfold NMap.set
    split
    · simp [NMap.get]
    · split
      · simp [NMap.get]
      · have : (e.1 == k) = false := by simp; omega
        simpa [NMap.get, List.find?_cons, this] using ih

/-- Another number reads as before. -/
theorem NMap.get_set_ne {α : Type} (m : List (Nat × α)) (k j : Nat) (v : α) (h : j ≠ k) :
    NMap.get (NMap.set m k v) j = NMap.get m j := by
  have hk : (k == j) = false := by simp; omega
  induction m with
  | nil => simp [NMap.set, NMap.get, hk]
  | cons e m ih =>
    unfold NMap.set
    split
    · simp [NMap.get, List.find?_cons, hk]
    · split
      · next h1 =>
        have : (e.1 == j) = false := by simp; omega
        simp [NMap.get, hk, this]
      · by_cases he : e.1 = j
        · simp [NMap.get, he]
        · have : (e.1 == j) = false := by simpa using he
          simpa [NMap.get, List.find?_cons, this] using ih

/-- A number that is removed is not listed. -/
theorem NMap.get_del {α : Type} (m : List (Nat × α)) (k : Nat) : NMap.get (NMap.del m k) k = none := by
  simp [NMap.get, NMap.del, List.find?_eq_none]

/-- Another number is listed as before. -/
theorem NMap.get_del_ne {α : Type} (m : List (Nat × α)) (k j : Nat) (h : j ≠ k) :
    NMap.get (NMap.del m k) j = NMap.get m j := by
  induction m with
  | nil => rfl
  | cons e m ih =>
    by_cases hk : e.1 = k
    · have h1 : (e.1 != k) = false := by simpa using hk
      have h2 : (e.1 == j) = false := by simp; omega
      simpa [NMap.get, NMap.del, List.filter_cons, h1, List.find?_cons, h2] using ih
    · have h1 : (e.1 != k) = true := by simpa using hk
      by_cases hj : e.1 = j
      · simp [NMap.get, NMap.del, hj, h]
      · have h2 : (e.1 == j) = false := by simpa using hj
        simpa [NMap.get, NMap.del, List.filter_cons, h1, List.find?_cons, h2] using ih

/-! ### Reads and writes -/

/-- A byte reads as it was written. -/
@[simp] theorem Cells.read_write (m : List Host.Cell) (a : Nat) (b : Byte) : Cells.read (Cells.write m a b) a = b := by
  unfold Cells.read Cells.write
  split
  · simp [NMap.get_del, *]
  · simp [NMap.get_set]

/-- Every other byte reads as before. -/
theorem Cells.read_write_ne (m : List Host.Cell) (a c : Nat) (b : Byte) (h : c ≠ a) :
    Cells.read (Cells.write m a b) c = Cells.read m c := by
  unfold Cells.read Cells.write
  split
  · rw [NMap.get_del_ne _ _ _ h]
  · rw [NMap.get_set_ne _ _ _ _ h]

/-- A word written as its four bytes. -/
theorem Cells.writeWord_eq (m : List Host.Cell) (a : Nat) (w : Word) :
    Cells.writeWord m a w =
      Cells.write (Cells.write (Cells.write (Cells.write m (a + 0) (BitVec.ofNat 8 (w.toNat / 256 ^ 0)))
        (a + 1) (BitVec.ofNat 8 (w.toNat / 256 ^ 1))) (a + 2) (BitVec.ofNat 8 (w.toNat / 256 ^ 2)))
        (a + 3) (BitVec.ofNat 8 (w.toNat / 256 ^ 3)) := rfl

/-- A word changes no byte outside its four. -/
theorem Cells.read_writeWord_ne (m : List Host.Cell) (a c : Nat) (w : Word) (h : c < a ∨ a + 4 ≤ c) :
    Cells.read (Cells.writeWord m a w) c = Cells.read m c := by
  rw [Cells.writeWord_eq]
  repeat rw [Cells.read_write_ne _ _ _ _ (by omega)]

/-- Byte `k` of a word written. -/
theorem Cells.read_writeWord (m : List Host.Cell) (a k : Nat) (w : Word) (h : k < 4) :
    Cells.read (Cells.writeWord m a w) (a + k) = BitVec.ofNat 8 (w.toNat / 256 ^ k) := by
  rw [Cells.writeWord_eq]
  match k, h with
  | 0, _ =>
    rw [Cells.read_write_ne _ _ _ _ (by omega), Cells.read_write_ne _ _ _ _ (by omega), Cells.read_write_ne _ _ _ _ (by omega),
      Cells.read_write]
  | 1, _ => rw [Cells.read_write_ne _ _ _ _ (by omega), Cells.read_write_ne _ _ _ _ (by omega), Cells.read_write]
  | 2, _ => rw [Cells.read_write_ne _ _ _ _ (by omega), Cells.read_write]
  | 3, _ => rw [Cells.read_write]

/-- A word reads as it was written. -/
theorem Cells.readWord_writeWord (m : List Host.Cell) (a : Nat) (w : Word) :
    Cells.readWord (Cells.writeWord m a w) a = w := by
  have e : (List.range 4).map (fun k => Cells.read (Cells.writeWord m a w) (a + k))
      = [BitVec.ofNat 8 (w.toNat / 256 ^ 0), BitVec.ofNat 8 (w.toNat / 256 ^ 1), BitVec.ofNat 8 (w.toNat / 256 ^ 2),
          BitVec.ofNat 8 (w.toNat / 256 ^ 3)] := by
    show [Cells.read _ (a + 0), Cells.read _ (a + 1), Cells.read _ (a + 2), Cells.read _ (a + 3)] = _
    rw [Cells.read_writeWord _ _ 0 _ (by omega), Cells.read_writeWord _ _ 1 _ (by omega), Cells.read_writeWord _ _ 2 _ (by omega),
      Cells.read_writeWord _ _ 3 _ (by omega)]
  unfold Cells.readWord
  rw [e]
  apply BitVec.eq_of_toNat_eq
  have := w.isLt
  simp only [ofLe, List.foldr_cons, List.foldr_nil, BitVec.toNat_ofNat]
  omega

/-! ### The canonical form -/

/-- The canonical form, said of the list as a whole. -/
theorem Cells.wf_iff (m : List Host.Cell) :
    Cells.wf m = true ↔ m.Pairwise (fun e f => e.1 < f.1) ∧ ∀ e ∈ m, e.2 ≠ cellDefault := by
  induction m with
  | nil => simp [Cells.wf]
  | cons e m ih =>
    cases m with
    | nil => simp [Cells.wf]
    | cons f m =>
      simp only [Cells.wf, Bool.and_eq_true, decide_eq_true_eq]
      rw [ih]
      constructor
      · rintro ⟨⟨h1, h2⟩, h3, h4⟩
        refine ⟨List.pairwise_cons.mpr ⟨?_, h3⟩, ?_⟩
        · intro g hg
          rcases List.mem_cons.mp hg with rfl | hg
          · exact h2
          · exact Nat.lt_trans h2 ((List.pairwise_cons.mp h3).1 g hg)
        · intro g hg
          rcases List.mem_cons.mp hg with rfl | hg
          · exact h1
          · exact h4 g hg
      · rintro ⟨h1, h2⟩
        have h3 := List.pairwise_cons.mp h1
        exact ⟨⟨h2 e (by simp), h3.1 f (by simp)⟩, h3.2, fun g hg => h2 g (by simp [hg])⟩

/-- A listed number of a map after a set. -/
theorem NMap.mem_set {α : Type} (m : List (Nat × α)) (k : Nat) (v : α) (e : Nat × α) (h : e ∈ NMap.set m k v) :
    e = (k, v) ∨ e ∈ m := by
  induction m with
  | nil => simpa [NMap.set] using h
  | cons f m ih =>
    unfold NMap.set at h
    split at h
    · exact List.mem_cons.mp h
    · split at h
      · rcases List.mem_cons.mp h with h | h
        · exact .inl h
        · exact .inr (List.mem_cons_of_mem _ h)
      · rcases List.mem_cons.mp h with h | h
        · exact .inr (h ▸ List.mem_cons_self ..)
        · exact (ih h).imp id (List.mem_cons_of_mem _)

/-- A set keeps the numbers rising. -/
theorem NMap.set_rising {α : Type} (m : List (Nat × α)) (k : Nat) (v : α) (h : m.Pairwise (fun e f => e.1 < f.1)) :
    (NMap.set m k v).Pairwise (fun e f => e.1 < f.1) := by
  induction m with
  | nil => simp [NMap.set]
  | cons f m ih =>
    have h1 := List.pairwise_cons.mp h
    unfold NMap.set
    split
    · next hk => exact List.pairwise_cons.mpr ⟨fun g hg => by
        rcases List.mem_cons.mp hg with rfl | hg
        · exact hk
        · exact Nat.lt_trans hk (h1.1 g hg), h⟩
    · split
      · next hk => exact List.pairwise_cons.mpr ⟨fun g hg => by have := h1.1 g hg; simp only; omega, h1.2⟩
      · refine List.pairwise_cons.mpr ⟨fun g hg => ?_, ih h1.2⟩
        rcases NMap.mem_set _ _ _ _ hg with rfl | hg
        · simp only; omega
        · exact h1.1 g hg

/-- A write keeps the canonical form. -/
theorem Cells.write_wf (m : List Host.Cell) (a : Nat) (b : Byte) (h : Cells.wf m = true) :
    Cells.wf (Cells.write m a b) = true := by
  rw [Cells.wf_iff] at h ⊢
  unfold Cells.write
  split
  · exact ⟨h.1.filter _, fun e he => h.2 e (List.mem_filter.mp he).1⟩
  · refine ⟨NMap.set_rising _ _ _ h.1, fun e he => ?_⟩
    rcases NMap.mem_set _ _ _ _ he with rfl | he
    · assumption
    · exact h.2 e he

/-- A word written keeps the canonical form. -/
theorem Cells.writeWord_wf (m : List Host.Cell) (a : Nat) (w : Word) (h : Cells.wf m = true) :
    Cells.wf (Cells.writeWord m a w) = true := by
  rw [Cells.writeWord_eq]
  exact Cells.write_wf _ _ _ (Cells.write_wf _ _ _ (Cells.write_wf _ _ _ (Cells.write_wf _ _ _ h)))

/-- Memory folded through writes keeps the canonical form. -/
theorem Cells.foldl_wf {α : Type} (f : List Host.Cell → α → List Host.Cell)
    (h : ∀ m x, Cells.wf m = true → Cells.wf (f m x) = true) (xs : List α) (m : List Host.Cell) (hm : Cells.wf m = true) :
    Cells.wf (xs.foldl f m) = true := by
  induction xs generalizing m with
  | nil => exact hm
  | cons x xs ih => exact ih _ (h _ _ hm)

/-- Bytes cleared keep the canonical form. -/
@[simp] theorem Cells.clear_wf (m : List Host.Cell) (a n : Nat) (h : Cells.wf m = true) : Cells.wf (Cells.clear m a n) = true := by
  rw [Cells.wf_iff] at h ⊢
  exact ⟨h.1.filter _, fun e he => h.2 e (List.mem_filter.mp he).1⟩

/-- A list of bytes becomes memory in canonical form. -/
@[simp] theorem Cells.ofList_wf (m : List (Nat × Byte)) : Cells.wf (Cells.ofList m) = true :=
  Cells.foldl_wf _ (fun _ _ h => Cells.write_wf _ _ _ h) _ _ rfl

/-- Writes laid over memory keep the canonical form. -/
@[simp] theorem Cells.lay_wf (m : List Host.Cell) (ws : List WriteRec) (h : Cells.wf m = true) : Cells.wf (Cells.lay m ws) = true :=
  Cells.foldl_wf _ (fun _ _ h => Cells.writeWord_wf _ _ _ h) _ _ h

/-- A log entry folded into the baseline keeps the canonical form. -/
theorem foldEntry_wf (b : List Host.Cell) (e : LogEnt) (h : Cells.wf b = true) : Cells.wf (foldEntry b e) = true :=
  Cells.writeWord_wf _ _ _ h

/-- The fold of the publication log keeps the canonical form. -/
@[simp] theorem Image.fold_wf (m : Image) (t : Nat) (h : Cells.wf m.base = true) : Cells.wf (m.fold t).base = true :=
  Cells.foldl_wf _ (fun _ _ h => foldEntry_wf _ _ h) _ _ h

/-- Windows laid out afresh keep the canonical form. -/
@[simp] theorem initWindows_wf (m : List Host.Cell) (w : Windows) (v : Version) (h : Cells.wf m = true) :
    Cells.wf (initWindows m w v) = true :=
  Cells.foldl_wf _ (fun _ _ h => by split <;> first | exact Cells.writeWord_wf _ _ _ h | exact h) _ _
    (Cells.foldl_wf _ (fun _ _ h => Cells.clear_wf _ _ _ h) _ _ h)

/-- Windows as the loader leaves them keep the canonical form. -/
@[simp] theorem loadWindows_wf (m : List Host.Cell) (w : Windows) (v : Version) (h : Cells.wf m = true) :
    Cells.wf (loadWindows m w v) = true := Cells.clear_wf _ _ _ (initWindows_wf _ _ _ h)

/-- Edge bits carried keep the canonical form. -/
@[simp] theorem carryEdges_wf (o n : Windows) (m : List Host.Cell) (h : Cells.wf m = true) : Cells.wf (carryEdges o n m) = true :=
  Cells.foldl_wf _ (fun _ _ h => Cells.write_wf _ _ _ h) _ _ h

end Sys2Proof.Machine
end

