-- ==== Sys2Proof/Laws/Engine.lean ====
section
/-! SUPPORT. Laws of the engine: an instruction that passes the checks before its body ends as its body says. -/
namespace Sys2Proof.Machine
open Sys2Proof.Claims

/-- What a start (`Claims.startOf`) says: the instruction reaches its body on the lane, and the body decides. -/
theorem run_split {op : Nat} {x : Exec} {w : BitVec 24} {ext : Word} {s : State} {b : Start}
    (h : startOf op x w ext s = some b) :
    ∃ r t, opInfo op = some r ∧ s.task x.task = some t ∧ b.row = r ∧
      b.env = { s.env t x.lane with s := b.base } ∧
      b.before = (s.env t x.lane).ctx ∧
      (∀ body : Body, ∀ l, body b.env b.o1 b.o2 b.lane = .ok l → runEngine op body x w ext s = b.ends l) ∧
      (∀ body : Body, ∀ c d, c ≠ 11 → body b.env b.o1 b.o2 b.lane = .error (.fault c d) → runEngine op body x w ext s = b.faults w c d) := by
  unfold startOf at h
  split at h
  · rename_i r t hr ht
    refine ⟨r, t, hr, ht, ?_⟩
    dsimp only at h
    split at h
    · rename_i o1 o2 h1 h2
      split at h
      · rename_i hc
        simp only [Bool.and_eq_true] at hc
        obtain ⟨⟨⟨⟨⟨⟨⟨⟨hcan, hbr⟩, hok⟩, ha1⟩, ha2⟩, hp1⟩, hp2⟩, hl1⟩, hl2⟩ := hc
        have e := Option.some.inj h
        subst e
        have P : ∀ c : Except Stop Unit, passes c = true → c = .ok () := by
          intro c hh; cases c with
          | ok u => rfl
          | error _ => simp [passes] at hh
        have q1 := P _ hp1
        have q2 := P _ hp2
        have q3 := P _ hl1
        have q4 := P _ hl2
        have hb : ((s.env t x.lane).dbg.map (·.atBreak) == some true) = false := by
          revert hbr; cases ((s.env t x.lane).dbg.map (·.atBreak)) with
          | none => simp
          | some v => cases v <;> simp
        have key : ∀ body : Body, ∀ res, body { s.env t x.lane with s := begun s t (s.env t x.lane) } o1 o2 ((s.env t x.lane).ctx.setPc ((s.env t x.lane).ctx.regs.pc + BitVec.ofNat 22 r.fmt.words)) = res → checkAndRun r (formOf r w ext) r.fmt.words body { s.env t x.lane with s := (begun s t (s.env t x.lane)) } (s.env t x.lane).ctx = res := by
          intro body res hres
          unfold checkAndRun
          simp only [h1, h2, hok, ha1, ha2, q1, q2, q3, q4, Bool.and_self, Bool.not_true, Bool.false_eq_true, if_false, bind, Except.bind]
          exact hres
        refine ⟨rfl, rfl, rfl, ?_, ?_⟩
        · intro body l hl
          have hrun := key body _ hl
          unfold runEngine
          simp only [hr, ht]
          unfold runOn
          simp only [hcan, hb, Bool.and_false, Bool.false_eq_true, if_false, if_true]
          have : ∀ n, retryShadow (fun s' => checkAndRun r (formOf r w ext) r.fmt.words body { s.env t x.lane with s := s' } (s.env t x.lane).ctx) t n (begun s t (s.env t x.lane)) = ((begun s t (s.env t x.lane)), .ok l) := by
            intro n; cases n with
            | zero => simp only [retryShadow]; rw [hrun]
            | succ n => simp only [retryShadow]; rw [hrun]
          erw [this]
          rfl
        · intro body c d h11 hl
          have hrun := key body _ hl
          unfold runEngine
          simp only [hr, ht]
          unfold runOn
          simp only [hcan, hb, Bool.and_false, Bool.false_eq_true, if_false, if_true]
          have : ∀ n, retryShadow (fun s' => checkAndRun r (formOf r w ext) r.fmt.words body { s.env t x.lane with s := s' } (s.env t x.lane).ctx) t n (begun s t (s.env t x.lane)) = ((begun s t (s.env t x.lane)), .error (.fault c d)) := by
            intro n; cases n with
            | zero => simp only [retryShadow]; rw [hrun]
            | succ n => simp only [retryShadow]; rw [hrun]
          erw [this]
          simp only [State.stopLane, Form.named, Lane.formed, hok, ha1, ha2, h1, h2, Bool.and_self, if_true, Start.faults]
          have h12 : (c == 11) = false := by simp [h11]
          simp [h12]
          rfl
      · cases h
    · cases h
  · cases h

/-- An engine instruction whose body completes ends with the lane that it gives. -/
theorem run_ok {op : Nat} {body : Body} {x : Exec} {w : BitVec 24} {ext : Word} {s : State} {b : Start} {l : Lane}
    (h : startOf op x w ext s = some b) (hb : body b.env b.o1 b.o2 b.lane = .ok l) : runEngine op body x w ext s = b.ends l := by
  obtain ⟨_, _, _, _, _, _, _, h1, _⟩ := run_split h
  exact h1 _ _ hb

/-- An engine instruction whose body faults, but for a denied access, stops its task with the code and the detail. -/
theorem run_fault {op : Nat} {body : Body} {x : Exec} {w : BitVec 24} {ext : Word} {s : State} {b : Start} {c d : Nat}
    (h : startOf op x w ext s = some b) (hc : c ≠ 11) (hb : body b.env b.o1 b.o2 b.lane = .error (.fault c d)) : runEngine op body x w ext s = b.faults w c d := by
  obtain ⟨_, _, _, _, _, _, _, _, h2⟩ := run_split h
  exact h2 _ _ _ hc hb

end Sys2Proof.Machine
end

