-- ==== Sys2Proof/Laws/EngineKept.lean ====
section
/-! SUPPORT. Laws of what the engine leaves as it is: everything but tasks, strands, counters, gates, the almanac, fires, link messages, the debug session and replies: one lemma per operation, in the order of the modules. -/
namespace Sys2Proof.Machine

/-- The state without what an engine instruction may change. -/
def State.frozen (s : State) : State := 
  { s with
    tasks := [], strands := [], counters := [], gates := [], almanac := ⟨[], 0, 0, 0, 0⟩, fires := [], peerFires := [], link := ⟨false, false, [], [], 0, 0⟩, dbg := none
    gelit := ⟨[], [], []⟩ }
/-- The same of a fold over states. -/
theorem foldl_frozen {α : Type} (f : State → α → State) (h : ∀ s x, (f s x).frozen = s.frozen) (xs : List α) (s : State) :
    (xs.foldl f s).frozen = s.frozen := by
  induction xs generalizing s with
  | nil => rfl
  | cons x xs ih => rw [List.foldl_cons, ih, h]

/-! ### Ops -/

@[simp] theorem State.modTask_frozen (s : State) (n : Nat) (f : Task → Task) : (State.modTask s n f).frozen = s.frozen := by
  unfold State.modTask; rfl

@[simp] theorem State.modStrand_frozen (s : State) (n : Nat) (f : StrandSt → StrandSt) : (State.modStrand s n f).frozen = s.frozen := by
  unfold State.modStrand; rfl

@[simp] theorem State.modLink_frozen (s : State) (f : Link → Link) : (State.modLink s f).frozen = s.frozen := by
  unfold State.modLink; rfl

@[simp] theorem State.record_frozen (s : State) (rule ordinal severity source tenant : Nat) (data : List (Nat × Nat)) : (State.record s rule ordinal severity source tenant data).frozen = s.frozen := by
  unfold State.record; rfl

@[simp] theorem State.count_frozen (s : State) (source : Nat) : (State.count s source).frozen = s.frozen := by
  unfold State.count; rfl

@[simp] theorem State.countN_frozen (s : State) (source k : Nat) : (State.countN s source k).frozen = s.frozen := by
  unfold State.countN
  repeat' (first | rfl | split | simp)

@[simp] theorem State.send_frozen (s : State) (cls : Nat) (m : LinkMsg) : (State.send s cls m).frozen = s.frozen := by
  unfold State.send; rfl

@[simp] theorem State.tellPartner_frozen (s : State) (m : Mirror) : (State.tellPartner s m).frozen = s.frozen := by
  unfold State.tellPartner
  repeat' (first | rfl | split | simp)

@[simp] theorem State.agreedFire_frozen (s : State) (source time : Nat) : (State.agreedFire s source time).frozen = s.frozen := by
  unfold State.agreedFire; rfl

@[simp] theorem State.fireAt_frozen (s : State) (source time : Nat) : (State.fireAt s source time).frozen = s.frozen := by
  unfold State.fireAt
  repeat' (first | rfl | split | simp)

@[simp] theorem State.fire_frozen (s : State) (source : Nat) : (State.fire s source).frozen = s.frozen := by
  unfold State.fire; simp

@[simp] theorem State.sendReply_frozen (s : State) (r : Reply) : (State.sendReply s r).frozen = s.frozen := by
  unfold State.sendReply
  repeat' (first | rfl | split | simp)

@[simp] theorem State.modSession_frozen (s : State) (no : Nat) (f : Session → Session) : (State.modSession s no f).frozen = s.frozen := by
  unfold State.modSession; rfl

@[simp] theorem State.finish_frozen (s : State) (k : Ticket) (status : Nat) (body : List Byte) : (State.finish s k status body).frozen = s.frozen := by
  unfold State.finish
  repeat' (first | rfl | split | simp)

@[simp] theorem State.finishOpt_frozen (s : State) (k : Option Ticket) (status : Nat) (body : List Byte) : (State.finishOpt s k status body).frozen = s.frozen := by
  unfold State.finishOpt
  repeat' (first | rfl | split | simp)

/-! ### Gates -/

@[simp] theorem State.deny_frozen (s : State) (d : Denial) : (State.deny s d).frozen = s.frozen := by
  unfold State.deny
  repeat' (first | rfl | split | simp)

/-! ### Engine -/

@[simp] theorem State.abandon_frozen (s : State) (n k : Nat) : (State.abandon s n k).frozen = s.frozen := by
  unfold State.abandon
  repeat' (first | rfl | split | simp)

@[simp] theorem State.yieldSpec_frozen (s : State) (strand n : Nat) : (State.yieldSpec s strand n).frozen = s.frozen := by
  unfold State.yieldSpec
  repeat' (first | rfl | split | simp)

@[simp] theorem State.takeStrand_frozen (s : State) (n : Nat) (t : Task) (lane : Fin 2) (admitted : Bool) : (State.takeStrand s n t lane admitted).frozen = s.frozen := by
  unfold State.takeStrand
  repeat' (first | rfl | split | simp)

@[simp] theorem State.putLane_frozen (s : State) (e : Env) (l : Lane) : (State.putLane s e l).frozen = s.frozen := by
  unfold State.putLane
  repeat' (first | rfl | split | simp)

@[simp] theorem State.stopLane_frozen (s : State) (e : Env) (op : Nat) (w : BitVec 24) (f : Form) (st : Stop) : (State.stopLane s e op w f st).frozen = s.frozen := by
  unfold State.stopLane
  repeat' (first | rfl | split | simp)

@[simp] theorem retryShadow_frozen (run : State → Except Stop Lane) (t : Task) (k : Nat) (s : State) :
    (retryShadow run t k s).1.frozen = s.frozen := by
  induction k generalizing s with
  | zero => rfl
  | succ k ih =>
    unfold retryShadow
    repeat' (first | rfl | split | simp [ih])

@[simp] theorem State.countWide_frozen (s : State) (e : Env) (l : Lane) : (State.countWide s e l).frozen = s.frozen := by
  unfold State.countWide
  repeat' (first | rfl | split | simp)

@[simp] theorem State.debugRan_frozen (s : State) : (State.debugRan s).frozen = s.frozen := by
  unfold State.debugRan
  repeat' (first | rfl | split | simp)

@[simp] theorem runOn_frozen (r : OpInfo) (body : Body) (w : BitVec 24) (ext : Word) (s : State) (t : Task) (lane : Fin 2) : (runOn r body w ext s t lane).frozen = s.frozen := by
  unfold runOn
  dsimp only
  split
  · rfl
  · split
    · have h := retryShadow_frozen (fun x => checkAndRun r (formOf r w ext) r.fmt.words body { s.env t lane with s := x } (s.env t lane).ctx) t
        s.tasks.length (if (s.env t lane).dbg.isSome then s else s.takeStrand t.no t lane ((s.env t lane).ctx.spec == .notSpeculating))
      split
      all_goals
        next heq =>
        rw [heq] at h
        repeat' (first | rfl | split | simp_all)
    · rfl

@[simp] theorem runEngine_frozen (op : Nat) (body : Body) (x : Exec) (w : BitVec 24) (ext : Word) (s : State) : (runEngine op body x w ext s).frozen = s.frozen := by
  unfold runEngine
  repeat' (first | rfl | split | simp)

@[simp] theorem runUndefined_frozen (op : Nat) (x : Exec) (w : BitVec 24) (s : State) : (runUndefined op x w s).frozen = s.frozen := by
  unfold runUndefined
  repeat' (first | rfl | split | simp)

@[simp] theorem runTogether_frozen (op : Nat) (first : Body) (second : Lane → Body) (x : Exec) (w : BitVec 24) (s : State) : (runTogether op first second x w s).frozen = s.frozen := by
  unfold runTogether
  repeat' (first | rfl | split | simp)

@[simp] theorem State.specAgreed_frozen (s : State) (n : Nat) (inputs : List SigVal) : (State.specAgreed s n inputs).frozen = s.frozen := by
  unfold State.specAgreed
  split
  · rfl
  · extract_lets v misses k hits lost s1 s2 s3
    have h3 : s3.frozen = s.frozen := by
      change s2.frozen = s.frozen
      simp only [s2, s1, State.modTask_frozen, State.countN_frozen]
    split
    · rw [State.yieldSpec_frozen]; exact h3
    · exact h3

/-- What stands after it stands: two states that agree but for what an engine instruction may change. -/
theorem State.frozen_eq {s t : State} (h : t.frozen = s.frozen) :
    t = { s with
      tasks := t.tasks, strands := t.strands, counters := t.counters, gates := t.gates, almanac := t.almanac, fires := t.fires,
      peerFires := t.peerFires, link := t.link, dbg := t.dbg, gelit := t.gelit } := by
  cases s; cases t
  simp only [State.frozen, State.mk.injEq] at h ⊢
  simp_all

end Sys2Proof.Machine
end

