-- ==== Sys2Proof/Laws/ImageKept.lean ====
section
/-! SUPPORT. Laws of the process image: what leaves it as it is, and what keeps its canonical form: one lemma per operation, in the order of the modules. -/
namespace Sys2Proof.Machine

/-- The same of a fold over states. -/
theorem foldl_base {α : Type} (f : State → α → State) (h : ∀ s x, (f s x).image.base = s.image.base) (xs : List α) (s : State) :
    (xs.foldl f s).image.base = s.image.base := by
  induction xs generalizing s with
  | nil => rfl
  | cons x xs ih => rw [List.foldl_cons, ih, h]
/-- The same of a fold over states. -/
theorem foldl_wf {α : Type} (f : State → α → State) (xs : List α) (s : State) (hs : Cells.wf s.image.base = true)
    (h : ∀ s x, Cells.wf s.image.base = true → Cells.wf (f s x).image.base = true) :
    Cells.wf (xs.foldl f s).image.base = true := by
  induction xs generalizing s with
  | nil => exact hs
  | cons x xs ih => rw [List.foldl_cons]; exact ih _ (h _ _ hs)

/-! ### Ops -/

@[simp] theorem State.modTask_base (s : State) (n : Nat) (f : Task → Task) : (State.modTask s n f).image.base = s.image.base := by
  unfold State.modTask; rfl

@[simp] theorem State.modTenant_base (s : State) (n : Nat) (f : Tenant → Tenant) : (State.modTenant s n f).image.base = s.image.base := by
  unfold State.modTenant; rfl

@[simp] theorem State.modStrand_base (s : State) (n : Nat) (f : StrandSt → StrandSt) : (State.modStrand s n f).image.base = s.image.base := by
  unfold State.modStrand; rfl

@[simp] theorem State.modRing_base (s : State) (n : Nat) (f : Ring → Ring) : (State.modRing s n f).image.base = s.image.base := by
  unfold State.modRing; rfl

@[simp] theorem State.modPort_base (s : State) (n : Nat) (f : Port → Port) : (State.modPort s n f).image.base = s.image.base := by
  unfold State.modPort; rfl

@[simp] theorem State.modStation_base (s : State) (ring pos : Nat) (f : StationView → StationView) : (State.modStation s ring pos f).image.base = s.image.base := by
  unfold State.modStation; rfl

@[simp] theorem State.modCan_base (s : State) (k : Nat) (f : CanCtl → CanCtl) : (State.modCan s k f).image.base = s.image.base := by
  unfold State.modCan; rfl

@[simp] theorem State.modDomain_base (s : State) (d : Nat) (f : Domain → Domain) : (State.modDomain s d f).image.base = s.image.base := by
  unfold State.modDomain; rfl

@[simp] theorem State.modPair_base (s : State) (f : Pair → Pair) : (State.modPair s f).image.base = s.image.base := by
  unfold State.modPair; rfl

@[simp] theorem State.modIo_base (s : State) (f : LocalIo → LocalIo) : (State.modIo s f).image.base = s.image.base := by
  unfold State.modIo; rfl

@[simp] theorem State.modFront_base (s : State) (f : Front → Front) : (State.modFront s f).image.base = s.image.base := by
  unfold State.modFront; rfl

@[simp] theorem State.modLantern_base (s : State) (f : Lantern → Lantern) : (State.modLantern s f).image.base = s.image.base := by
  unfold State.modLantern; rfl

@[simp] theorem State.modTime_base (s : State) (f : TimeUnit → TimeUnit) : (State.modTime s f).image.base = s.image.base := by
  unfold State.modTime; rfl

@[simp] theorem State.modUpdate_base (s : State) (f : Update → Update) : (State.modUpdate s f).image.base = s.image.base := by
  unfold State.modUpdate; rfl

@[simp] theorem State.modReader_base (s : State) (f : Reader → Reader) : (State.modReader s f).image.base = s.image.base := by
  unfold State.modReader; rfl

@[simp] theorem State.modKeys_base (s : State) (f : KeyUnit → KeyUnit) : (State.modKeys s f).image.base = s.image.base := by
  unfold State.modKeys; rfl

@[simp] theorem State.modVcore_base (s : State) (f : Vcore → Vcore) : (State.modVcore s f).image.base = s.image.base := by
  unfold State.modVcore; rfl

@[simp] theorem State.setCode_base (s : State) (n : Nat) : (State.setCode s n).image.base = s.image.base := by
  unfold State.setCode; rfl

@[simp] theorem State.restVcore_base (s : State) : (State.restVcore s).image.base = s.image.base := by
  unfold State.restVcore
  repeat' (first | rfl | split | simp)

@[simp] theorem State.modLink_base (s : State) (f : Link → Link) : (State.modLink s f).image.base = s.image.base := by
  unfold State.modLink; rfl

@[simp] theorem State.modChange_base (s : State) (f : Change → Change) : (State.modChange s f).image.base = s.image.base := by
  unfold State.modChange; rfl

@[simp] theorem State.modTap_base (s : State) (f : Tap → Tap) : (State.modTap s f).image.base = s.image.base := by
  unfold State.modTap; rfl

@[simp] theorem State.modFeeds_base (s : State) (f : Feeds → Feeds) : (State.modFeeds s f).image.base = s.image.base := by
  unfold State.modFeeds; rfl

@[simp] theorem State.modSettings_base (s : State) (f : Settings → Settings) : (State.modSettings s f).image.base = s.image.base := by
  unfold State.modSettings; rfl

@[simp] theorem State.advanceTo_base (s : State) (t : Nat) : (State.advanceTo s t).image.base = s.image.base := by
  unfold State.advanceTo
  repeat' (first | rfl | split | simp)

@[simp] theorem State.record_base (s : State) (rule ordinal severity source tenant : Nat) (data : List (Nat × Nat)) : (State.record s rule ordinal severity source tenant data).image.base = s.image.base := by
  unfold State.record; rfl

@[simp] theorem State.count_base (s : State) (source : Nat) : (State.count s source).image.base = s.image.base := by
  unfold State.count; rfl

@[simp] theorem State.countN_base (s : State) (source k : Nat) : (State.countN s source k).image.base = s.image.base := by
  unfold State.countN
  repeat' (first | rfl | split | simp)

@[simp] theorem State.send_base (s : State) (cls : Nat) (m : LinkMsg) : (State.send s cls m).image.base = s.image.base := by
  unfold State.send; rfl

@[simp] theorem State.tellPartner_base (s : State) (m : Mirror) : (State.tellPartner s m).image.base = s.image.base := by
  unfold State.tellPartner
  repeat' (first | rfl | split | simp)

@[simp] theorem State.agreedFire_base (s : State) (source time : Nat) : (State.agreedFire s source time).image.base = s.image.base := by
  unfold State.agreedFire; rfl

@[simp] theorem State.fireAt_base (s : State) (source time : Nat) : (State.fireAt s source time).image.base = s.image.base := by
  unfold State.fireAt
  repeat' (first | rfl | split | simp)

@[simp] theorem State.fire_base (s : State) (source : Nat) : (State.fire s source).image.base = s.image.base := by
  unfold State.fire; simp

@[simp] theorem State.sendReply_base (s : State) (r : Reply) : (State.sendReply s r).image.base = s.image.base := by
  unfold State.sendReply
  repeat' (first | rfl | split | simp)

@[simp] theorem State.modSession_base (s : State) (no : Nat) (f : Session → Session) : (State.modSession s no f).image.base = s.image.base := by
  unfold State.modSession; rfl

@[simp] theorem State.finish_base (s : State) (k : Ticket) (status : Nat) (body : List Byte) : (State.finish s k status body).image.base = s.image.base := by
  unfold State.finish
  repeat' (first | rfl | split | simp)

@[simp] theorem State.finishOpt_base (s : State) (k : Option Ticket) (status : Nat) (body : List Byte) : (State.finishOpt s k status body).image.base = s.image.base := by
  unfold State.finishOpt
  repeat' (first | rfl | split | simp)

/-! ### Gates -/

@[simp] theorem State.deny_base (s : State) (d : Denial) : (State.deny s d).image.base = s.image.base := by
  unfold State.deny
  repeat' (first | rfl | split | simp)

/-! ### Engine -/

@[simp] theorem State.abandon_base (s : State) (n k : Nat) : (State.abandon s n k).image.base = s.image.base := by
  unfold State.abandon
  repeat' (first | rfl | split | simp)

@[simp] theorem State.yieldSpec_base (s : State) (strand n : Nat) : (State.yieldSpec s strand n).image.base = s.image.base := by
  unfold State.yieldSpec
  repeat' (first | rfl | split | simp)

@[simp] theorem State.takeStrand_base (s : State) (n : Nat) (t : Task) (lane : Fin 2) (admitted : Bool) : (State.takeStrand s n t lane admitted).image.base = s.image.base := by
  unfold State.takeStrand
  repeat' (first | rfl | split | simp)

@[simp] theorem State.putLane_base (s : State) (e : Env) (l : Lane) : (State.putLane s e l).image.base = s.image.base := by
  unfold State.putLane
  repeat' (first | rfl | split | simp)

@[simp] theorem State.stopLane_base (s : State) (e : Env) (op : Nat) (w : BitVec 24) (f : Form) (st : Stop) : (State.stopLane s e op w f st).image.base = s.image.base := by
  unfold State.stopLane
  repeat' (first | rfl | split | simp)

@[simp] theorem retryShadow_base (run : State → Except Stop Lane) (t : Task) (k : Nat) (s : State) :
    (retryShadow run t k s).1.image.base = s.image.base := by
  induction k generalizing s with
  | zero => rfl
  | succ k ih =>
    unfold retryShadow
    repeat' (first | rfl | split | simp [ih])

@[simp] theorem State.countWide_base (s : State) (e : Env) (l : Lane) : (State.countWide s e l).image.base = s.image.base := by
  unfold State.countWide
  repeat' (first | rfl | split | simp)

@[simp] theorem State.debugRan_base (s : State) : (State.debugRan s).image.base = s.image.base := by
  unfold State.debugRan
  repeat' (first | rfl | split | simp)

@[simp] theorem runOn_base (r : OpInfo) (body : Body) (w : BitVec 24) (ext : Word) (s : State) (t : Task) (lane : Fin 2) : (runOn r body w ext s t lane).image.base = s.image.base := by
  unfold runOn
  dsimp only
  split
  · rfl
  · split
    · have h := retryShadow_base (fun x => checkAndRun r (formOf r w ext) r.fmt.words body { s.env t lane with s := x } (s.env t lane).ctx) t
        s.tasks.length (if (s.env t lane).dbg.isSome then s else s.takeStrand t.no t lane ((s.env t lane).ctx.spec == .notSpeculating))
      split
      all_goals
        next heq =>
        rw [heq] at h
        repeat' (first | rfl | split | simp_all)
    · rfl

@[simp] theorem runEngine_base (op : Nat) (body : Body) (x : Exec) (w : BitVec 24) (ext : Word) (s : State) : (runEngine op body x w ext s).image.base = s.image.base := by
  unfold runEngine
  repeat' (first | rfl | split | simp)

@[simp] theorem runUndefined_base (op : Nat) (x : Exec) (w : BitVec 24) (s : State) : (runUndefined op x w s).image.base = s.image.base := by
  unfold runUndefined
  repeat' (first | rfl | split | simp)

@[simp] theorem runTogether_base (op : Nat) (first : Body) (second : Lane → Body) (x : Exec) (w : BitVec 24) (s : State) : (runTogether op first second x w s).image.base = s.image.base := by
  unfold runTogether
  repeat' (first | rfl | split | simp)

@[simp] theorem State.specAgreed_base (s : State) (n : Nat) (inputs : List SigVal) : (State.specAgreed s n inputs).image.base = s.image.base := by
  unfold State.specAgreed
  repeat' (first | rfl | split | simp)

/-! ### Frames -/

@[simp] theorem State.modCrossing_base (s : State) (unit : Nat) (f : Crossing → Crossing) : (State.modCrossing s unit f).image.base = s.image.base := by
  unfold State.modCrossing; rfl

@[simp] theorem State.putSent_base (s : State) (fs : List OutFrame) : (State.putSent s fs).image.base = s.image.base := by
  unfold State.putSent
  try dsimp only
  repeat' (first | rfl | split | intro _ | simp | rw [foldl_base])

@[simp] theorem State.takePending_base (s : State) (unit : Nat) : (State.takePending s unit).image.base = s.image.base := by
  unfold State.takePending; simp

@[simp] theorem State.offerTransfer_base (s : State) (unit : Nat) (x : CrossTransfer) : (State.offerTransfer s unit x).image.base = s.image.base := by
  unfold State.offerTransfer; rfl

@[simp] theorem State.emit_base (s : State) (f : OutFrame) : (State.emit s f).image.base = s.image.base := by
  unfold State.emit
  repeat' (first | rfl | split | simp)

/-! ### Stages -/

@[simp] theorem State.settleDo_base (s : State) : (State.settleDo s).image.base = s.image.base := by
  unfold State.settleDo; rfl

@[simp] theorem State.releaseLocal_base (s : State) : (State.releaseLocal s).image.base = s.image.base := by
  unfold State.releaseLocal; rfl

@[simp] theorem State.engageLocal_base (s : State) : (State.engageLocal s).image.base = s.image.base := by
  unfold State.engageLocal; rfl

@[simp] theorem State.channelChange_base (s : State) (unit ch : Nat) : (State.channelChange s unit ch).image.base = s.image.base := by
  unfold State.channelChange; simp

@[simp] theorem State.refreshLocal_base (s : State) : (State.refreshLocal s).image.base = s.image.base := by
  unfold State.refreshLocal
  repeat' (first | rfl | split | simp)

@[simp] theorem State.silenceNow_base (s : State) : (State.silenceNow s).image.base = s.image.base := by
  unfold State.silenceNow; rfl

@[simp] theorem State.fullShare_base (s : State) : (State.fullShare s).image.base = s.image.base := by
  unfold State.fullShare; rfl

@[simp] theorem State.silence_base (s : State) : (State.silence s).image.base = s.image.base := by
  unfold State.silence; rfl

/-! ### PairOps -/

@[simp] theorem State.endDebug_base (s : State) : (State.endDebug s).image.base = s.image.base := by
  unfold State.endDebug
  repeat' (first | rfl | split | simp)

@[simp] theorem State.leaveClosing_base (s : State) (n : Nat) : (State.leaveClosing s n).image.base = s.image.base := by
  unfold State.leaveClosing
  repeat' (first | rfl | split | simp)

@[simp] theorem State.dropQuiesce_base (s : State) (unit : Nat) : (State.dropQuiesce s unit).image.base = s.image.base := by
  unfold State.dropQuiesce; rfl

@[simp] theorem State.endSession_base (s : State) (no : Nat) : (State.endSession s no).image.base = s.image.base := by
  unfold State.endSession
  try dsimp only
  repeat' (first | rfl | split | intro _ | simp | rw [foldl_base])

@[simp] theorem State.endSessions_base (s : State) : (State.endSessions s).image.base = s.image.base := by
  unfold State.endSessions
  try dsimp only
  repeat' (first | rfl | split | intro _ | simp | rw [foldl_base])

@[simp] theorem State.recordParallax_base (s : State) (n strand : Nat) (k : ParKind) (imm : Bool) (outcome : Nat) : (State.recordParallax s n strand k imm outcome).image.base = s.image.base := by
  unfold State.recordParallax; rfl

@[simp] theorem State.dropParallax_base (s : State) (n : Nat) : (State.dropParallax s n).image.base = s.image.base := by
  unfold State.dropParallax
  repeat' (first | rfl | split | simp)

@[simp] theorem State.dropCycles_base (s : State) : (State.dropCycles s).image.base = s.image.base := by
  unfold State.dropCycles
  try dsimp only
  repeat' (first | rfl | split | intro _ | simp | rw [foldl_base])

@[simp] theorem State.silencePorts_base (s : State) : (State.silencePorts s).image.base = s.image.base := by
  unfold State.silencePorts; rfl

@[simp] theorem State.queueAcyc_base (s : State) (x : Acyc) : (State.queueAcyc s x).image.base = s.image.base := by
  unfold State.queueAcyc; rfl

@[simp] theorem State.resumeAcyc_base (s : State) : (State.resumeAcyc s).image.base = s.image.base := by
  unfold State.resumeAcyc
  try dsimp only
  repeat' (first | rfl | split | intro _ | simp | rw [foldl_base])

@[simp] theorem State.hartResult_base (s : State) (x : HartTx) (result : Nat) : (State.hartResult s x result).image.base = s.image.base := by
  unfold State.hartResult; simp

@[simp] theorem State.hartLeave_base (s : State) (planned : Bool) : (State.hartLeave s planned).image.base = s.image.base := by
  unfold State.hartLeave
  try dsimp only
  repeat' (first | rfl | split | intro _ | simp | rw [foldl_base])

@[simp] theorem State.hartTake_base (s : State) (planned : Bool) : (State.hartTake s planned).image.base = s.image.base := by
  unfold State.hartTake; rfl

@[simp] theorem State.takeCan_base (s : State) (k : Nat) : (State.takeCan s k).image.base = s.image.base := by
  unfold State.takeCan; rfl

@[simp] theorem State.giveCan_base (s : State) (k : Nat) : (State.giveCan s k).image.base = s.image.base := by
  unfold State.giveCan
  repeat' (first | rfl | split | simp)

@[simp] theorem State.settleCan_base (s : State) : (State.settleCan s).image.base = s.image.base := by
  unfold State.settleCan
  try dsimp only
  repeat' (first | rfl | split | intro _ | simp | rw [foldl_base])

@[simp] theorem State.canServe_base (s : State) (serve moved : Bool) : (State.canServe s serve moved).image.base = s.image.base := by
  unfold State.canServe
  try dsimp only
  repeat' (first | rfl | split | intro _ | simp | rw [foldl_base])

@[simp] theorem State.rebaseRing_base (s : State) : (State.rebaseRing s).image.base = s.image.base := by
  unfold State.rebaseRing; rfl

@[simp] theorem State.takeRing_base (s : State) : (State.takeRing s).image.base = s.image.base := by
  unfold State.takeRing; rfl

@[simp] theorem State.followRing_base (s : State) : (State.followRing s).image.base = s.image.base := by
  unfold State.followRing; rfl

@[simp] theorem State.becomeOwner_base (s : State) (epoch : Nat) (c : Cause) (planned : Bool) : (State.becomeOwner s epoch c planned).image.base = s.image.base := by
  unfold State.becomeOwner; simp

@[simp] theorem State.startImages_wf (s : State) : Cells.wf (State.startImages s).image.base = true := by
  unfold State.startImages
  simp only [State.engageLocal_base]
  split
  · exact Cells.ofList_wf _
  · exact Cells.foldl_wf _ (fun m x h => by split <;> simp_all) _ _ rfl

@[simp] theorem State.resumeRetained_base (s : State) : (State.resumeRetained s).image.base = s.image.base := by
  unfold State.resumeRetained
  repeat' (first | rfl | split | simp)

@[simp] theorem State.ownFromLantern_wf (s : State) (c : Cause) : Cells.wf (State.ownFromLantern s c).image.base = true := by
  simp [State.ownFromLantern]

@[simp] theorem State.enterTestHold_wf (s : State) : Cells.wf (State.enterTestHold s).image.base = true := by
  simp [State.enterTestHold]

@[simp] theorem State.enterJoining_base (s : State) (c : Cause) (j : Join) : (State.enterJoining s c j).image.base = s.image.base := by
  unfold State.enterJoining; simp

@[simp] theorem State.toJoining_base (s : State) (c : Cause) : (State.toJoining s c).image.base = s.image.base := by
  unfold State.toJoining; simp

@[simp] theorem State.toFaulted_base (s : State) (c : Cause) : (State.toFaulted s c).image.base = s.image.base := by
  unfold State.toFaulted; simp

@[simp] theorem State.loseOwner_base (s : State) : (State.loseOwner s).image.base = s.image.base := by
  unfold State.loseOwner
  try dsimp only
  repeat' (first | rfl | split | intro _ | simp | rw [foldl_base])

@[simp] theorem State.ownerToStandby_base (s : State) (c : Cause) (side : Side) : (State.ownerToStandby s c side).image.base = s.image.base := by
  unfold State.ownerToStandby; simp

@[simp] theorem State.emergency_base (s : State) : (State.emergency s).image.base = s.image.base := by
  unfold State.emergency; simp

@[simp] theorem State.lanternStart_wf (s : State) (h : Cells.wf s.image.base = true) : Cells.wf (State.lanternStart s).image.base = true := by
  unfold State.lanternStart
  try dsimp only
  repeat' (first | assumption | split | intro _ | simp_all | apply foldl_wf)

@[simp] theorem State.restoreStores_base (s : State) : (State.restoreStores s).image.base = s.image.base := by
  unfold State.restoreStores
  repeat' (first | rfl | split | simp)

@[simp] theorem State.fresh_wf (s : State) : Cells.wf (State.fresh s).image.base = true := rfl

@[simp] theorem State.restart_wf (s : State) (c : Cause) : Cells.wf (State.restart s c).image.base = true := by
  simp [State.restart]

@[simp] theorem State.enterLantern_wf (s : State) (c : Cause) (p : Phase) (h : Hold) :
    Cells.wf (State.enterLantern s c p h).image.base = true := by
  unfold State.enterLantern
  exact State.lanternStart_wf _ (by simp)

@[simp] theorem State.leave_wf (s : State) (c : Cause) (silent : Bool) : Cells.wf (State.leave s c silent).image.base = true := by
  unfold State.leave; dsimp only; split <;> simp

@[simp] theorem State.moduleFault_wf (s : State) (c : Cause) (solo : State → State) (h : Cells.wf s.image.base = true)
    (k : ∀ t, Cells.wf t.image.base = true → Cells.wf (solo t).image.base = true) :
    Cells.wf (State.moduleFault s c solo).image.base = true := by
  unfold State.moduleFault; repeat' (first | split | simp_all)

@[simp] theorem State.restartFor_wf (c : Cause) (s : State) : Cells.wf (State.restartFor c s).image.base = true := by
  simp [State.restartFor]

@[simp] theorem State.leverRefuse_base (s : State) : (State.leverRefuse s).image.base = s.image.base := by
  unfold State.leverRefuse; rfl

@[simp] theorem State.proposeHandover_base (s : State) (c : Cause) (leave : Bool) (k : Option Ticket) : (State.proposeHandover s c leave k).image.base = s.image.base := by
  unfold State.proposeHandover; rfl

/-! ### Stations -/

@[simp] theorem State.setStation_base (s : State) (ring pos : Nat) (st : StationState) : (State.setStation s ring pos st).image.base = s.image.base := by
  unfold State.setStation
  repeat' (first | rfl | split | simp)

@[simp] theorem State.endAcyc_base (s : State) (x : Acyc) (result : Nat) (payload : List Byte) : (State.endAcyc s x result payload).image.base = s.image.base := by
  unfold State.endAcyc
  repeat' (first | rfl | split | simp)

@[simp] theorem State.stationGone_base (s : State) (ring pos : Nat) : (State.stationGone s ring pos).image.base = s.image.base := by
  unfold State.stationGone
  try dsimp only
  repeat' (first | rfl | split | intro _ | simp | rw [foldl_base])

@[simp] theorem State.dropIsolated_base (s : State) (ring pos : Nat) : (State.dropIsolated s ring pos).image.base = s.image.base := by
  unfold State.dropIsolated
  repeat' (first | rfl | split | simp)

/-! ### Collect -/

@[simp] theorem State.publishLocal_base (s : State) : (State.publishLocal s).image.base = s.image.base := by
  unfold State.publishLocal; rfl

@[simp] theorem State.setSweeps_base (s : State) (sweeps : List (Nat × Nat)) : (State.setSweeps s sweeps).image.base = s.image.base := by
  unfold State.setSweeps; rfl

@[simp] theorem State.resweep_base (s : State) : (State.resweep s).image.base = s.image.base := by
  unfold State.resweep
  repeat' (first | rfl | split | simp)

@[simp] theorem State.openTags_base (s : State) (t : Task) (p : Snapshot) : (State.openTags s t p).image.base = s.image.base := by
  unfold State.openTags
  try dsimp only
  repeat' (first | rfl | split | intro _ | simp | rw [foldl_base])

@[simp] theorem State.freeTags_base (s : State) (n : Nat) : (State.freeTags s n).image.base = s.image.base := by
  unfold State.freeTags; rfl

@[simp] theorem State.noteMissing_base (s : State) (p : Snapshot) : (State.noteMissing s p).image.base = s.image.base := by
  unfold State.noteMissing
  try dsimp only
  repeat' (first | rfl | split | intro _ | simp | rw [foldl_base])

@[simp] theorem State.agreeSnapshot_base (s : State) (n : Nat) : (State.agreeSnapshot s n).image.base = s.image.base := by
  unfold State.agreeSnapshot
  repeat' (first | rfl | split | simp)

@[simp] theorem State.tryAgree_base (s : State) (n : Nat) : (State.tryAgree s n).image.base = s.image.base := by
  unfold State.tryAgree
  repeat' (first | rfl | split | simp)

@[simp] theorem State.settle_base (s : State) (n ring station : Nat) : (State.settle s n ring station).image.base = s.image.base := by
  unfold State.settle
  repeat' (first | rfl | split | simp)

@[simp] theorem State.settleAll_base (s : State) (n : Nat) : (State.settleAll s n).image.base = s.image.base := by
  unfold State.settleAll
  try dsimp only
  repeat' (first | rfl | split | intro _ | simp | rw [foldl_base])

@[simp] theorem State.agreeAlone_base (s : State) (n : Nat) : (State.agreeAlone s n).image.base = s.image.base := by
  unfold State.agreeAlone; simp

@[simp] theorem State.stopWaiting_base (s : State) : (State.stopWaiting s).image.base = s.image.base := by
  unfold State.stopWaiting
  try dsimp only
  repeat' (first | rfl | split | intro _ | simp | rw [foldl_base])

@[simp] theorem State.staleResync_base (s : State) (n : Nat) (p : Snapshot) : (State.staleResync s n p).image.base = s.image.base := by
  unfold State.staleResync
  try dsimp only
  repeat' (first | rfl | split | intro _ | simp | rw [foldl_base])

@[simp] theorem State.closeSnapshot_base (s : State) (n : Nat) : (State.closeSnapshot s n).image.base = s.image.base := by
  unfold State.closeSnapshot
  try dsimp only
  repeat' (first | rfl | split | intro _ | simp | rw [foldl_base])

@[simp] theorem State.queueAssign_base (s : State) (ring pos : Nat) : (State.queueAssign s ring pos).image.base = s.image.base := by
  unfold State.queueAssign; rfl

@[simp] theorem State.sendAssign_base (s : State) (ring pos : Nat) : (State.sendAssign s ring pos).image.base = s.image.base := by
  unfold State.sendAssign
  repeat' (first | rfl | split | simp)

@[simp] theorem State.takeAssign_base (s : State) (ring pos delayA delayB : Nat) : (State.takeAssign s ring pos delayA delayB).image.base = s.image.base := by
  unfold State.takeAssign
  repeat' (first | rfl | split | simp)

@[simp] theorem State.enterResync_base (s : State) (ring pos : Nat) : (State.enterResync s ring pos).image.base = s.image.base := by
  unfold State.enterResync; simp

@[simp] theorem State.lateFrame_base (s : State) (ring : Nat) : (State.lateFrame s ring).image.base = s.image.base := by
  unfold State.lateFrame
  repeat' (first | rfl | split | simp)

@[simp] theorem State.judged_base (s : State) (ring pos port verdict : Nat) : (State.judged s ring pos port verdict).image.base = s.image.base := by
  unfold State.judged
  repeat' (first | rfl | split | simp)

@[simp] theorem State.lateSection_base (s : State) (ring station port : Nat) : (State.lateSection s ring station port).image.base = s.image.base := by
  unfold State.lateSection; simp

@[simp] theorem State.fileBlocks_base (s : State) (port cycle : Nat) (x : InSection) : (State.fileBlocks s port cycle x).image.base = s.image.base := by
  unfold State.fileBlocks
  repeat' (first | rfl | split | simp)

@[simp] theorem State.fileSection_base (s : State) (port : Nat) (x : InSection) : (State.fileSection s port x).image.base = s.image.base := by
  unfold State.fileSection
  repeat' (first | rfl | split | simp)

@[simp] theorem State.discardFrame_base (s : State) (port : Nat) : (State.discardFrame s port).image.base = s.image.base := by
  unfold State.discardFrame; rfl

@[simp] theorem State.ingressOverrun_wf (s : State) (port : Nat) (h : Cells.wf s.image.base = true) : Cells.wf (State.ingressOverrun s port).image.base = true := by
  unfold State.ingressOverrun
  try dsimp only
  repeat' (first | assumption | split | intro _ | simp_all | apply foldl_wf)

@[simp] theorem State.inputFrame_wf (s : State) (f : InputFrame) (h : Cells.wf s.image.base = true) : Cells.wf (State.inputFrame s f).image.base = true := by
  unfold State.inputFrame
  try dsimp only
  repeat' (first | assumption | split | intro _ | simp_all | apply foldl_wf)

@[simp] theorem State.takeDigest_base (s : State) (n cycle ring station : Nat) (crc : Option Word) : (State.takeDigest s n cycle ring station crc).image.base = s.image.base := by
  unfold State.takeDigest
  repeat' (first | rfl | split | simp)

/-! ### ChangeOps -/

@[simp] theorem State.clampNote_base (s : State) (index k : Nat) : (State.clampNote s index k).image.base = s.image.base := by
  unfold State.clampNote
  repeat' (first | rfl | split | simp)

@[simp] theorem State.freeWindows_wf (s : State) (w : Windows) (v : Version) (h : Cells.wf s.image.base = true) :
    Cells.wf (State.freeWindows s w v).image.base = true := by
  unfold State.freeWindows
  exact Cells.foldl_wf _ (fun _ _ h => Cells.clear_wf _ _ _ h) _ _ h

@[simp] theorem State.convertBase_wf (s : State) (h : Cells.wf s.image.base = true) : Cells.wf (State.convertBase s).image.base = true := by
  unfold State.convertBase
  split
  · exact h
  · exact carryEdges_wf _ _ _ (foldl_wf _ _ _ (initWindows_wf _ _ _ h) fun s x h => Cells.lay_wf _ _ h)

@[simp] theorem State.convertUnit_base (s : State) (c : ConvEnv) (task at_ index : Nat) (m : MapEnt) (written : List (Nat × Nat)) (i : Nat) : (State.convertUnit s c task at_ index m written i).image.base = s.image.base := by
  unfold State.convertUnit
  repeat' (first | rfl | split | simp)

@[simp] theorem State.convertPub_base (s : State) (task at_ : Nat) (addrs : List Nat) : (State.convertPub s task at_ addrs).image.base = s.image.base := by
  unfold State.convertPub
  try dsimp only
  repeat' (first | rfl | split | intro _ | simp | rw [foldl_base])

@[simp] theorem State.convertAll_wf (s : State) (h : Cells.wf s.image.base = true) : Cells.wf (State.convertAll s).image.base = true := by
  unfold State.convertAll
  try dsimp only
  repeat' (first | assumption | split | intro _ | simp_all | apply foldl_wf)

@[simp] theorem State.unpublishQ_base (s : State) (task at_ : Nat) (old : Windows) (sizeQ : Nat) : (State.unpublishQ s task at_ old sizeQ).image.base = s.image.base := by
  unfold State.unpublishQ; simp

/-! ### Faults -/

@[simp] theorem State.displaceFrame_base (s : State) (t : Task) (f : FaultInfo) (cause at_ : Nat) : (State.displaceFrame s t f cause at_).image.base = s.image.base := by
  unfold State.displaceFrame; rfl

@[simp] theorem State.publishEntries_base (s : State) (t : Task) (es : List LogEnt) : (State.publishEntries s t es).image.base = s.image.base := by
  unfold State.publishEntries
  repeat' (first | rfl | split | simp)

@[simp] theorem State.raiseFault_base (s : State) (n : Nat) (f : FaultInfo) (at_ : Nat) (second : Bool) : (State.raiseFault s n f at_ second).image.base = s.image.base := by
  unfold State.raiseFault
  repeat' (first | rfl | split | simp)

@[simp] theorem State.applyPolicy_base (s : State) (n at_ : Nat) : (State.applyPolicy s n at_).image.base = s.image.base := by
  unfold State.applyPolicy
  repeat' (first | rfl | split | simp)

@[simp] theorem State.endTask_base (s : State) (n : Nat) (st : TaskState) (at_ : Nat) : (State.endTask s n st at_).image.base = s.image.base := by
  unfold State.endTask
  repeat' (first | rfl | split | simp)

@[simp] theorem State.settleTenant_base (s : State) (tenant : Nat) : (State.settleTenant s tenant).image.base = s.image.base := by
  unfold State.settleTenant
  repeat' (first | rfl | split | simp)

@[simp] theorem State.becomeFaulted_base (s : State) (n at_ : Nat) : (State.becomeFaulted s n at_).image.base = s.image.base := by
  unfold State.becomeFaulted
  repeat' (first | rfl | split | simp)

@[simp] theorem State.displaceTenant_base (s : State) (tenant : Nat) : (State.displaceTenant s tenant).image.base = s.image.base := by
  unfold State.displaceTenant
  try dsimp only
  repeat' (first | rfl | split | intro _ | simp | rw [foldl_base])

@[simp] theorem State.displaceDue_base (s : State) (tenant at_ : Nat) : (State.displaceDue s tenant at_).image.base = s.image.base := by
  unfold State.displaceDue
  repeat' (first | rfl | split | simp)

@[simp] theorem State.faultNow_base (s : State) (n : Nat) (f : FaultInfo) (second : Bool) : (State.faultNow s n f second).image.base = s.image.base := by
  unfold State.faultNow
  repeat' (first | rfl | split | simp)

/-! ### Transit -/

@[simp] theorem State.noteParallax_base (s : State) (n strand : Nat) (k : ParKind) (imm : Bool) (outcome : Nat) : (State.noteParallax s n strand k imm outcome).image.base = s.image.base := by
  unfold State.noteParallax; simp

@[simp] theorem State.faultCycle_base (s0 : State) (n : Nat) (f : FaultInfo) (second : Bool) : (State.faultCycle s0 n f second).image.base = s0.image.base := by
  unfold State.faultCycle
  repeat' (first | rfl | split | simp)

@[simp] theorem faultEach_base (f : FaultInfo) (l : List Nat) (s : State) : (faultEach f l s).image.base = s.image.base := by
  induction l generalizing s with
  | nil => rfl
  | cons n ns ih => unfold faultEach; rw [ih]; repeat' (first | rfl | split | simp)

@[simp] theorem State.retireStrand_base (strand : Nat) (s : State) : (State.retireStrand strand s).image.base = s.image.base := by
  unfold State.retireStrand
  try dsimp only
  repeat' (first | rfl | split | intro _ | simp | rw [foldl_base])

@[simp] theorem State.persistent_wf (s : State) (strand : Nat) (h : Cells.wf s.image.base = true) : Cells.wf (State.persistent s strand).image.base = true := by
  unfold State.persistent
  try dsimp only
  repeat' (first | assumption | split | intro _ | simp_all | apply foldl_wf)

@[simp] theorem State.transitParallax_wf (s : State) (n : Nat) (t : Task) (k : ParKind) (h : Cells.wf s.image.base = true) : Cells.wf (State.transitParallax s n t k).image.base = true := by
  unfold State.transitParallax
  try dsimp only
  repeat' (first | assumption | split | intro _ | simp_all | apply foldl_wf)

@[simp] theorem State.lanternParallax_base (s : State) (n : Nat) (t : Task) (k : ParKind) : (State.lanternParallax s n t k).image.base = s.image.base := by
  unfold State.lanternParallax; simp

@[simp] theorem State.commit_wf (s : State) (n : Nat) (w : Windows) (at_ : Nat) (ws : List WriteRec) (h : Cells.wf s.image.base = true) : Cells.wf (State.commit s n w at_ ws).image.base = true := by
  unfold State.commit
  try dsimp only
  repeat' (first | assumption | split | intro _ | simp_all | apply foldl_wf)

@[simp] theorem State.modWd_base (s : State) (n : Nat) (f : Watchdog → Watchdog) : (State.modWd s n f).image.base = s.image.base := by
  unfold State.modWd; rfl

@[simp] theorem State.serviceWd_base (s : State) (n : Nat) : (State.serviceWd s n).image.base = s.image.base := by
  unfold State.serviceWd
  repeat' (first | rfl | split | simp)

@[simp] theorem ImmRun.deliver_base (r : ImmRun) (t : Task) (v : Version) (win : Windows) (sends : Bool) (x : ImmRel) :
    (ImmRun.deliver r t v win sends x).s.image.base = r.s.image.base := by
  unfold ImmRun.deliver
  dsimp only
  refine (foldl_base _ (fun s b => ?_) _ _).trans ?_
  · repeat' (first | rfl | split | simp)
  · refine (foldl_keep (fun r : ImmRun => r.s.image.base) _ (fun r m => ?_) _ _).trans rfl
    dsimp only
    split <;> simp

@[simp] theorem ImmRun.release_base (r : ImmRun) (t : Task) (sends : Bool) (x : ImmRel) :
    (ImmRun.release r t sends x).s.image.base = r.s.image.base := by
  unfold ImmRun.release
  dsimp only
  split
  · rfl
  · exact (foldl_keep (fun r : ImmRun => r.s.image.base) _ (fun r m => ImmRun.deliver_base ..) _ _).trans rfl

@[simp] theorem State.releaseImms_base (s : State) (n : Nat) (t : Task) :
    (State.releaseImms s n t).1.image.base = s.image.base := by
  unfold State.releaseImms
  simp only [State.modTask_base, State.countN_base]
  exact foldl_keep (fun r : ImmRun => r.s.image.base) _ (fun r x => ImmRun.release_base ..) _ _

@[simp] theorem State.diverge_base (s : State) (n cycle addr : Nat) (own peer : Word) : (State.diverge s n cycle addr own peer).image.base = s.image.base := by
  unfold State.diverge
  repeat' (first | rfl | split | simp)

@[simp] theorem State.compareSets_wf (s : State) (n : Nat) (h : Cells.wf s.image.base = true) : Cells.wf (State.compareSets s n).image.base = true := by
  unfold State.compareSets
  try dsimp only
  repeat' (first | assumption | split | intro _ | simp_all | apply foldl_wf)

@[simp] theorem State.takeSet_wf (s : State) (t : Task) (at_ : Nat) (ws : WriteSet) (h : Cells.wf s.image.base = true) : Cells.wf (State.takeSet s t at_ ws).image.base = true := by
  unfold State.takeSet
  try dsimp only
  repeat' (first | assumption | split | intro _ | simp_all | apply foldl_wf)

@[simp] theorem State.overrun_base (s : State) (n : Nat) : (State.overrun s n).image.base = s.image.base := by
  unfold State.overrun
  repeat' (first | rfl | split | simp)

@[simp] theorem State.transitOk_wf (s : State) (n : Nat) (t : Task) (h : Cells.wf s.image.base = true) : Cells.wf (State.transitOk s n t).image.base = true := by
  unfold State.transitOk
  dsimp only
  repeat' (first | assumption | split | intro _ | simp_all)

@[simp] theorem State.transit_wf (s : State) (n : Nat) (h : Cells.wf s.image.base = true) : Cells.wf (State.transit s n).image.base = true := by
  unfold State.transit
  split
  · exact h
  · next t _ =>
    split
    · exact h
    · generalize (if (s.debugFor t).isSome = true then none else parallaxKind t.lane0 t.lane1) = k
      repeat' (first | assumption | split | dsimp only | simp_all)

@[simp] theorem State.queueSections_base (s : State) (t : Task) : (State.queueSections s t).image.base = s.image.base := by
  unfold State.queueSections
  try dsimp only
  repeat' (first | rfl | split | intro _ | simp | rw [foldl_base])

@[simp] theorem State.unqueue_base (s : State) (t : Task) : (State.unqueue s t).image.base = s.image.base := by
  unfold State.unqueue; rfl

@[simp] theorem State.assemble_base (s : State) (t : Task) : (State.assemble s t).image.base = s.image.base := by
  unfold State.assemble
  try dsimp only
  repeat' (first | rfl | split | intro _ | simp | rw [foldl_base])

@[simp] theorem State.rebuildQueues_base (s : State) (from_ : Nat) : (State.rebuildQueues s from_).image.base = s.image.base := by
  unfold State.rebuildQueues
  try dsimp only
  repeat' (first | rfl | split | intro _ | simp | rw [foldl_base])

@[simp] theorem State.follow_wf (s : State) (ws : WriteSet) (h : Cells.wf s.image.base = true) : Cells.wf (State.follow s ws).image.base = true := by
  unfold State.follow
  try dsimp only
  repeat' (first | assumption | split | intro _ | simp_all | apply foldl_wf)

/-! ### Cycle -/

@[simp] theorem State.switchTask_base (s : State) (n m : Nat) : (State.switchTask s n m).image.base = s.image.base := by
  unfold State.switchTask
  repeat' (first | rfl | split | simp)

@[simp] theorem State.tryComplete_base (s : State) : (State.tryComplete s).image.base = s.image.base := by
  unfold State.tryComplete
  try dsimp only
  repeat' (first | rfl | split | intro _ | simp | rw [foldl_base])

@[simp] theorem State.beginSwitch_base (s : State) : (State.beginSwitch s).image.base = s.image.base := by
  unfold State.beginSwitch
  try dsimp only
  repeat' (first | rfl | split | intro _ | simp | rw [foldl_base])

@[simp] theorem State.switchDue_base (s : State) : (State.switchDue s).image.base = s.image.base := by
  unfold State.switchDue
  repeat' (first | rfl | split | simp)

@[simp] theorem State.switchAtPub_base (s : State) (n m : Nat) : (State.switchAtPub s n m).image.base = s.image.base := by
  unfold State.switchAtPub
  repeat' (first | rfl | split | simp)

@[simp] theorem State.debugStart_base (s : State) (n : Nat) : (State.debugStart s n).image.base = s.image.base := by
  unfold State.debugStart
  repeat' (first | rfl | split | simp)

@[simp] theorem State.openSnapshot_base (s : State) (n : Nat) : (State.openSnapshot s n).image.base = s.image.base := by
  unfold State.openSnapshot
  try dsimp only
  repeat' (first | rfl | split | intro _ | simp | rw [foldl_base])

@[simp] theorem State.sendPort_base (due : Nat) (s : State) (port : Nat) : (State.sendPort due s port).image.base = s.image.base := by
  unfold State.sendPort
  try dsimp only
  repeat' (first | rfl | split | intro _ | simp | rw [foldl_base])

@[simp] theorem State.sendDue_base (s : State) (due : Nat) : (State.sendDue s due).image.base = s.image.base := by
  unfold State.sendDue
  try dsimp only
  repeat' (first | rfl | split | intro _ | simp | rw [foldl_base])

@[simp] theorem State.activateStations_base (s : State) (m : Nat) (ks : List (Nat × Nat)) : (State.activateStations s m ks).image.base = s.image.base := by
  unfold State.activateStations
  try dsimp only
  repeat' (first | rfl | split | intro _ | simp | rw [foldl_base])

@[simp] theorem State.startCycle_base (s : State) (no m n : Nat) : (State.startCycle s no m n).image.base = s.image.base := by
  unfold State.startCycle
  repeat' (first | rfl | split | simp)

@[simp] theorem State.dropQ_base (s : State) (t : Task) (at_ : Nat) : (State.dropQ s t at_).image.base = s.image.base := by
  unfold State.dropQ
  repeat' (first | rfl | split | simp)

@[simp] theorem State.faultAtPub_base (s : State) (t : Task) (f : FaultInfo) : (State.faultAtPub s t f).image.base = s.image.base := by
  unfold State.faultAtPub; simp

@[simp] theorem State.decideOverrun_wf (s : State) (t : Task) (h : Cells.wf s.image.base = true) : Cells.wf (State.decideOverrun s t).image.base = true := by
  unfold State.decideOverrun
  try dsimp only
  repeat' (first | assumption | split | intro _ | simp_all | apply foldl_wf)

@[simp] theorem State.decideParallax_wf (s : State) (t : Task) (p : ParPending) (h : Cells.wf s.image.base = true) : Cells.wf (State.decideParallax s t p).image.base = true := by
  unfold State.decideParallax
  try dsimp only
  repeat' (first | assumption | split | intro _ | simp_all | apply foldl_wf)

@[simp] theorem State.decideWd_wf (s : State) (t : Task) (h : Cells.wf s.image.base = true) : Cells.wf (State.decideWd s t).image.base = true := by
  unfold State.decideWd
  extract_lets s0 s1 clear f fault period
  have hf : ∀ u : State, Cells.wf u.image.base = true → Cells.wf (fault u).image.base = true := fun u hu => by
    simp only [fault, clear]; simpa using hu
  have h1 : Cells.wf s1.image.base = true := by
    simp only [s1, s0]; repeat' (first | assumption | split | simp_all)
  repeat' (first | assumption | split | exact hf _ h1)
  exact State.moduleFault_wf _ _ _ (by simp only [clear]; simpa using h1) hf

@[simp] theorem State.dropWd_base (s : State) (t : Task) : (State.dropWd s t).image.base = s.image.base := by
  unfold State.dropWd
  repeat' (first | rfl | split | simp)

@[simp] theorem State.publish_wf (s : State) (t : Task) (_h : Cells.wf s.image.base = true) : Cells.wf (State.publish s t).image.base = true := by
  unfold State.publish
  extract_lets n at_ s1 clean late s2 s3 s4 s5 displace s6 s7 s8 s9
  have h1 : Cells.wf s1.image.base = true := by
    simp only [s1]; repeat' (first | assumption | split | simp_all)
  have h2 : Cells.wf s2.image.base = true := by
    simp only [s2]; split <;> simp_all
  have h3 : Cells.wf s3.image.base = true := by
    simp only [s3]; split <;> simp_all
  have h4 : Cells.wf s4.image.base = true := by
    simp only [s4]; repeat' (first | assumption | split | exact State.decideWd_wf _ _ h3 | simp_all)
  have h5 : Cells.wf s5.image.base = true := by
    simp only [s5]; repeat' (first | assumption | split | simp_all)
  have h6 : Cells.wf s6.image.base = true := by
    simp only [s6]; repeat' (first | assumption | split | simp_all)
  have h7 : Cells.wf s7.image.base = true := by
    simp only [s7]; repeat' (first | assumption | split | simp_all)
  have h8 : Cells.wf s8.image.base = true := by
    simp only [s8]; repeat' (first | assumption | split | simp_all)
  have h9 : Cells.wf s9.image.base = true := by
    simp only [s9]; simp_all
  exact Image.fold_wf _ _ h9

@[simp] theorem State.expirePrivileged_wf (s : State) (unit : Nat) (evidence : Nat) (valid : Bool) (h : Cells.wf s.image.base = true) : Cells.wf (State.expirePrivileged s unit evidence valid).image.base = true := by
  unfold State.expirePrivileged
  try dsimp only
  repeat' (first | assumption | split | intro _ | simp_all | apply foldl_wf)

/-! ### Tick -/

@[simp] theorem State.toNextTick_base (s : State) : (State.toNextTick s).image.base = s.image.base := by
  unfold State.toNextTick; rfl

@[simp] theorem State.steerPlant_base (s : State) : (State.steerPlant s).image.base = s.image.base := by
  unfold State.steerPlant
  repeat' (first | rfl | split | simp)

@[simp] theorem State.sampleLocal_base (s : State) (m : LocalSample) : (State.sampleLocal s m).image.base = s.image.base := by
  unfold State.sampleLocal
  try dsimp only
  repeat' (first | rfl | split | intro _ | simp | rw [foldl_base])

@[simp] theorem State.sampleCan_base (s : State) : (State.sampleCan s).image.base = s.image.base := by
  unfold State.sampleCan; rfl

@[simp] theorem State.stepShare_base (s : State) : (State.stepShare s).image.base = s.image.base := by
  unfold State.stepShare
  repeat' (first | rfl | split | simp)

@[simp] theorem State.stepShifts_base (s : State) (ring : Nat) : (State.stepShifts s ring).image.base = s.image.base := by
  unfold State.stepShifts
  try dsimp only
  repeat' (first | rfl | split | intro _ | simp | rw [foldl_base])

@[simp] theorem State.sendRingTime_base (s : State) (ring : Nat) : (State.sendRingTime s ring).image.base = s.image.base := by
  unfold State.sendRingTime
  repeat' (first | rfl | split | simp)

@[simp] theorem State.sendClosure_base (s : State) (ring : Nat) : (State.sendClosure s ring).image.base = s.image.base := by
  unfold State.sendClosure
  repeat' (first | rfl | split | simp)

@[simp] theorem State.sendHeartbeat_base (s : State) : (State.sendHeartbeat s).image.base = s.image.base := by
  unfold State.sendHeartbeat
  repeat' (first | rfl | split | simp)

@[simp] theorem State.numberTrain_base (s : State) (m : Nat) : (State.numberTrain s m).image.base = s.image.base := by
  unfold State.numberTrain
  try dsimp only
  repeat' (first | rfl | split | intro _ | simp | rw [foldl_base])

@[simp] theorem State.serveStation_base (ring pos k : Nat) (s : State) : (State.serveStation ring pos k s).image.base = s.image.base := by
  induction k generalizing s with
  | zero => rfl
  | succ k ih =>
    unfold State.serveStation
    dsimp only
    repeat' (first | rfl | split | simp [ih])

@[simp] theorem State.serveAcyc_base (s : State) (ring : Nat) : (State.serveAcyc s ring).image.base = s.image.base := by
  unfold State.serveAcyc
  dsimp only
  split
  · rw [State.modRing_base]; exact foldl_base _ (fun s x => State.serveStation_base ..) _ _
  · exact foldl_base _ (fun s x => State.serveStation_base ..) _ _

@[simp] theorem State.activateLone_base (s : State) (ring : Nat) : (State.activateLone s ring).image.base = s.image.base := by
  unfold State.activateLone; simp

@[simp] theorem State.stepTenants_base (s : State) : (State.stepTenants s).image.base = s.image.base := by
  unfold State.stepTenants
  try dsimp only
  repeat' (first | rfl | split | intro _ | simp | rw [foldl_base])

@[simp] theorem State.tickRings_base (s : State) : (State.tickRings s).image.base = s.image.base := by
  unfold State.tickRings
  extract_lets s1 s2 s3 s4 s5
  have h1 : s1.image.base = s.image.base := by
    simp only [s1]; repeat' (first | rfl | split | simp_all | rw [foldl_base])
  have h2 : s2.image.base = s.image.base := by
    simp only [s2]; repeat' (first | rfl | split | simp_all | rw [foldl_base])
  have h3 : s3.image.base = s.image.base := by
    simp only [s3]; repeat' (first | rfl | split | simp_all | rw [foldl_base])
  have h4 : s4.image.base = s.image.base := by
    simp only [s4]; repeat' (first | rfl | split | simp_all | rw [foldl_base])
  have h5 : s5.image.base = s.image.base := by
    simp only [s5]; repeat' (first | rfl | split | simp_all | rw [foldl_base])
  repeat' (first | rfl | split | simp_all | rw [foldl_base])

@[simp] theorem State.stepJoin_base (s0 : State) : (State.stepJoin s0).image.base = s0.image.base := by
  unfold State.stepJoin
  repeat' (first | rfl | split | simp)

@[simp] theorem State.stepHoldoff_base (s : State) : (State.stepHoldoff s).image.base = s.image.base := by
  unfold State.stepHoldoff
  repeat' (first | rfl | split | simp)

@[simp] theorem State.undrive_base (s : State) : (State.undrive s).image.base = s.image.base := by
  unfold State.undrive
  repeat' (first | rfl | split | simp)

@[simp] theorem State.stepLantern_base (s : State) : (State.stepLantern s).image.base = s.image.base := by
  unfold State.stepLantern
  repeat' (first | rfl | split | simp)

/-! ### Rings -/

@[simp] theorem State.offerAcyc_base (s : State) (req : AcycReq) (ticket : Option Ticket) (purpose : Nat) : (State.offerAcyc s req ticket purpose).image.base = s.image.base := by
  unfold State.offerAcyc
  repeat' (first | rfl | split | simp)

@[simp] theorem State.forwardAcyc_base (s : State) (req : AcycReq) (ticket : Ticket) : (State.forwardAcyc s req ticket).image.base = s.image.base := by
  unfold State.forwardAcyc; rfl

@[simp] theorem State.awaitAnswers_base (s : State) (ring : Nat) (f : OutFrame) : (State.awaitAnswers s ring f).image.base = s.image.base := by
  unfold State.awaitAnswers; rfl

@[simp] theorem State.refuseStation_base (s : State) (ring pos cause : Nat) : (State.refuseStation s ring pos cause).image.base = s.image.base := by
  unfold State.refuseStation; simp

@[simp] theorem State.checkStation_base (s : State) (ring pos : Nat) : (State.checkStation s ring pos).image.base = s.image.base := by
  unfold State.checkStation
  repeat' (first | rfl | split | simp)

@[simp] theorem State.updateCut_base (s : State) (ring : Nat) : (State.updateCut s ring).image.base = s.image.base := by
  unfold State.updateCut
  repeat' (first | rfl | split | simp)

@[simp] theorem State.seePair_base (s : State) (epoch : Nat) (side : Side) : (State.seePair s epoch side).image.base = s.image.base := by
  unfold State.seePair
  repeat' (first | rfl | split | simp)

@[simp] theorem State.takeDelays_base (s : State) (ring : Nat) (delays : List Nat) : (State.takeDelays s ring delays).image.base = s.image.base := by
  unfold State.takeDelays; rfl

@[simp] theorem State.mismatchReport_base (s : State) (ring pos : Nat) (m : Mismatch) : (State.mismatchReport s ring pos m).image.base = s.image.base := by
  unfold State.mismatchReport
  repeat' (first | rfl | split | simp)

@[simp] theorem State.takeStatus_base (s : State) (ring : Nat) (x : StatusSec) : (State.takeStatus s ring x).image.base = s.image.base := by
  unfold State.takeStatus
  try dsimp only
  repeat' (first | rfl | split | intro _ | simp | rw [foldl_base])

@[simp] theorem State.endResponse_base (s : State) (ring : Nat) (x : Acyc) (r : AcycRsp) : (State.endResponse s ring x r).image.base = s.image.base := by
  unfold State.endResponse
  repeat' (first | rfl | split | simp)

@[simp] theorem State.endMirrored_base (s : State) (ring : Nat) (r : AcycRsp) : (State.endMirrored s ring r).image.base = s.image.base := by
  unfold State.endMirrored
  repeat' (first | rfl | split | simp)

@[simp] theorem State.takeResponse_base (s : State) (ring : Nat) (r : AcycRsp) : (State.takeResponse s ring r).image.base = s.image.base := by
  unfold State.takeResponse
  repeat' (first | rfl | split | simp)

@[simp] theorem State.selftestFail_base (s : State) : (State.selftestFail s).image.base = s.image.base := by
  unfold State.selftestFail
  repeat' (first | rfl | split | simp)

@[simp] theorem State.selftestPass_base (s : State) : (State.selftestPass s).image.base = s.image.base := by
  unfold State.selftestPass; rfl

/-! ### Time -/

@[simp] theorem State.fireAlarm_base (s : State) (no : Nat) (done at_ : Nat) : (State.fireAlarm s no done at_).image.base = s.image.base := by
  unfold State.fireAlarm; simp

@[simp] theorem State.fireHeld_base (s : State) (v : Nat) : (State.fireHeld s v).image.base = s.image.base := by
  unfold State.fireHeld
  try dsimp only
  repeat' (first | rfl | split | intro _ | simp | rw [foldl_base])

@[simp] theorem State.initPlant_base (s : State) (v rate : Int) : (State.initPlant s v rate).image.base = s.image.base := by
  unfold State.initPlant
  repeat' (first | rfl | split | simp)

@[simp] theorem State.takeUtc_base (s : State) : (State.takeUtc s).image.base = s.image.base := by
  unfold State.takeUtc
  repeat' (first | rfl | split | simp)

@[simp] theorem State.selectDomain_base (s : State) (d : Nat) : (State.selectDomain s d).image.base = s.image.base := by
  unfold State.selectDomain
  repeat' (first | rfl | split | simp)

@[simp] theorem State.restartDomain_base (s : State) (d : Nat) : (State.restartDomain s d).image.base = s.image.base := by
  unfold State.restartDomain; rfl

@[simp] theorem State.ptpChange_base (s : State) (d state : Nat) : (State.ptpChange s d state).image.base = s.image.base := by
  unfold State.ptpChange; simp

@[simp] theorem State.applySync_base (s : State) (d : Nat) (rx : Nat) (stamp correction rate : Int) (port : Nat) : (State.applySync s d rx stamp correction rate port).image.base = s.image.base := by
  unfold State.applySync
  refine ite_keep (·.image.base) ?_ ?_
  · exact State.record_base ..
  · refine ite_keep (·.image.base) ((State.initPlant_base ..).trans ?_) ?_ <;> exact ite_keep (·.image.base) (State.ptpChange_base ..) rfl

@[simp] theorem State.ptpSend_base (s : State) (m : PtpOut) : (State.ptpSend s m).image.base = s.image.base := by
  unfold State.ptpSend
  repeat' (first | rfl | split | simp)

@[simp] theorem State.ptpForward_base (s : State) (d : Nat) (kind : Nat) (m : PtpMsg) : (State.ptpForward s d kind m).image.base = s.image.base := by
  unfold State.ptpForward
  repeat' (first | rfl | split | simp)

@[simp] theorem State.linkAlone_base (s : State) : (State.linkAlone s).image.base = s.image.base := by
  unfold State.linkAlone
  repeat' (first | rfl | split | simp)

@[simp] theorem State.seenOnRing_base (s : State) : (State.seenOnRing s).image.base = s.image.base := by
  unfold State.seenOnRing; simp

@[simp] theorem State.followFrame_base (s : State) (theirs : Nat) : (State.followFrame s theirs).image.base = s.image.base := by
  unfold State.followFrame
  repeat' (first | rfl | split | simp)

@[simp] theorem State.checkShifts_base (s : State) (ring tick : Nat) (shifts : List (Nat × Nat)) : (State.checkShifts s ring tick shifts).image.base = s.image.base := by
  unfold State.checkShifts
  repeat' (first | rfl | split | simp)

@[simp] theorem State.takeHealth_base (s : State) (health : BitVec 64) (epoch : Nat) : (State.takeHealth s health epoch).image.base = s.image.base := by
  unfold State.takeHealth
  repeat' (first | rfl | split | simp)

/-! ### LocalChannels -/

@[simp] theorem State.setDoFault_base (s : State) (on : Bool) : (State.setDoFault s on).image.base = s.image.base := by
  unfold State.setDoFault
  repeat' (first | rfl | split | simp)

@[simp] theorem State.modAo_base (s : State) (ch : Nat) (f : AoCh → AoCh) : (State.modAo s ch f).image.base = s.image.base := by
  unfold State.modAo; rfl

@[simp] theorem State.modHart_base (s : State) (ch : Nat) (f : HartCh → HartCh) : (State.modHart s ch f).image.base = s.image.base := by
  unfold State.modHart; rfl

@[simp] theorem State.hartNext_base (s : State) (ch : Nat) : (State.hartNext s ch).image.base = s.image.base := by
  unfold State.hartNext
  repeat' (first | rfl | split | simp)

/-! ### Can -/

@[simp] theorem State.canFilter_base (s : State) (k : Nat) (f : CanFrame) (rx : Nat) : (State.canFilter s k f rx).image.base = s.image.base := by
  unfold State.canFilter
  repeat' (first | rfl | split | simp)

@[simp] theorem State.canViolation_base (s : State) (k : Nat) (f : CanFrame) (t : Nat) : (State.canViolation s k f t).image.base = s.image.base := by
  unfold State.canViolation
  repeat' (first | rfl | split | simp)

@[simp] theorem State.canGone_base (s : State) (k : Nat) (f : CanFrame) (status : Nat) (body : List Byte) : (State.canGone s k f status body).image.base = s.image.base := by
  unfold State.canGone
  repeat' (first | rfl | split | simp)

@[simp] theorem State.canSeen_base (s : State) (k : Nat) (f : CanFrame) : (State.canSeen s k f).image.base = s.image.base := by
  unfold State.canSeen
  repeat' (first | rfl | split | simp)

@[simp] theorem State.canLost_base (s : State) (k : Nat) (f : CanFrame) : (State.canLost s k f).image.base = s.image.base := by
  unfold State.canLost; simp

@[simp] theorem State.canLose_base (s : State) (k : Nat) (x : CanTx) : (State.canLose s k x).image.base = s.image.base := by
  unfold State.canLose
  repeat' (first | rfl | split | simp)

@[simp] theorem State.setRedundant_base (s : State) (k : Nat) (on : Bool) : (State.setRedundant s k on).image.base = s.image.base := by
  unfold State.setRedundant
  repeat' (first | rfl | split | simp)

@[simp] theorem State.canFault_base (s : State) (k : Nat) : (State.canFault s k).image.base = s.image.base := by
  unfold State.canFault
  repeat' (first | rfl | split | simp)

@[simp] theorem State.canLoseAll_base (s : State) (k : Nat) : (State.canLoseAll s k).image.base = s.image.base := by
  unfold State.canLoseAll
  try dsimp only
  repeat' (first | rfl | split | intro _ | simp | rw [foldl_base])

@[simp] theorem State.sendReference_base (s : State) (k : Nat) : (State.sendReference s k).image.base = s.image.base := by
  unfold State.sendReference; rfl

@[simp] theorem State.queueObject_base (s : State) (k : Nat) (o : CanObject) (timed : Bool) : (State.queueObject s k o timed).image.base = s.image.base := by
  unfold State.queueObject; rfl

@[simp] theorem State.restartCan_base (s : State) (k : Nat) : (State.restartCan s k).image.base = s.image.base := by
  unfold State.restartCan; simp

/-! ### Pace -/

@[simp] theorem State.raiseVcore_base (s : State) : (State.raiseVcore s).image.base = s.image.base := by
  unfold State.raiseVcore
  repeat' (first | rfl | split | simp)

@[simp] theorem State.lowerVcore_base (s : State) : (State.lowerVcore s).image.base = s.image.base := by
  unfold State.lowerVcore
  repeat' (first | rfl | split | simp)

@[simp] theorem State.regulate_base (s : State) : (State.regulate s).image.base = s.image.base := by
  unfold State.regulate
  repeat' (first | rfl | split | simp)

@[simp] theorem State.judgePace_wf (s : State) (strand : Nat) (h : Cells.wf s.image.base = true) : Cells.wf (State.judgePace s strand).image.base = true := by
  unfold State.judgePace
  try dsimp only
  repeat' (first | assumption | split | intro _ | simp_all | apply foldl_wf)

@[simp] theorem State.judgeMargin_wf (s : State) (strand : Nat) (h : Cells.wf s.image.base = true) : Cells.wf (State.judgeMargin s strand).image.base = true := by
  unfold State.judgeMargin
  try dsimp only
  repeat' (first | assumption | split | intro _ | simp_all | apply foldl_wf)

@[simp] theorem State.faultUnit_base (s : State) (unit : Nat) : (State.faultUnit s unit).image.base = s.image.base := by
  unfold State.faultUnit
  repeat' (first | rfl | split | simp)

@[simp] theorem State.resetLink_base (s : State) : (State.resetLink s).image.base = s.image.base := by
  unfold State.resetLink
  repeat' (first | rfl | split | simp)

@[simp] theorem State.flushCrossing_base (s : State) (unit : Nat) : (State.flushCrossing s unit).image.base = s.image.base := by
  unfold State.flushCrossing; simp

/-! ### Units -/

@[simp] theorem State.setValues_base (s : State) (unit : Nat) (vs : List (Nat × Int)) : (State.setValues s unit vs).image.base = s.image.base := by
  unfold State.setValues
  repeat' (first | rfl | split | simp)

@[simp] theorem State.reclock_base (s : State) (unit : Nat) : (State.reclock s unit).image.base = s.image.base := by
  unfold State.reclock
  repeat' (first | rfl | split | simp)

@[simp] theorem State.applyPair_wf (s : State) (unit : Nat) (vs : List (Nat × Int)) (h : Cells.wf s.image.base = true) : Cells.wf (State.applyPair s unit vs).image.base = true := by
  unfold State.applyPair
  try dsimp only
  repeat' (first | assumption | split | intro _ | simp_all | apply foldl_wf)

@[simp] theorem State.restartSelection_base (s : State) : (State.restartSelection s).image.base = s.image.base := by
  unfold State.restartSelection
  repeat' (first | rfl | split | simp)

@[simp] theorem State.startUnit_base (s : State) (unit : Nat) : (State.startUnit s unit).image.base = s.image.base := by
  unfold State.startUnit
  repeat' (first | rfl | split | simp)

@[simp] theorem State.restartUnit_base (s : State) (unit : Nat) : (State.restartUnit s unit).image.base = s.image.base := by
  unfold State.restartUnit
  repeat' (first | rfl | split | simp)

@[simp] theorem State.loseQuiesce_base (s : State) (unit : Nat) : (State.loseQuiesce s unit).image.base = s.image.base := by
  unfold State.loseQuiesce; simp

@[simp] theorem State.abortChange_wf (s : State) (result : Nat) (h : Cells.wf s.image.base = true) : Cells.wf (State.abortChange s result).image.base = true := by
  unfold State.abortChange
  try dsimp only
  repeat' (first | assumption | split | intro _ | simp_all | apply foldl_wf)

@[simp] theorem State.releaseSlot_base (s : State) (holder : Nat) : (State.releaseSlot s holder).image.base = s.image.base := by
  unfold State.releaseSlot
  repeat' (first | rfl | split | simp)

@[simp] theorem State.takeSlot_base (s : State) (holder id : Nat) : (State.takeSlot s holder id).image.base = s.image.base := by
  unfold State.takeSlot
  repeat' (first | rfl | split | simp)

@[simp] theorem State.abortUpdate_base (s : State) : (State.abortUpdate s).image.base = s.image.base := by
  unfold State.abortUpdate
  repeat' (first | rfl | split | simp)

@[simp] theorem State.closeSession_wf (s : State) (no : Nat) (h : Cells.wf s.image.base = true) :
    Cells.wf (State.closeSession s no).image.base = true := by
  unfold State.closeSession
  extract_lets held s1 s2 s3
  have h1 : Cells.wf s1.image.base = true := by
    simp only [s1]; rw [foldl_base (h := fun s n => by simp)]; exact h
  have h2 : Cells.wf s2.image.base = true := by simp only [s2]; split <;> simp_all
  have h3 : Cells.wf s3.image.base = true := by simp only [s3]; split <;> simp_all
  simpa using h3

@[simp] theorem State.endUpdate_base (s : State) (result cause : Nat) : (State.endUpdate s result cause).image.base = s.image.base := by
  unfold State.endUpdate; simp

@[simp] theorem State.updateLeft_base (s : State) : (State.updateLeft s).image.base = s.image.base := by
  unfold State.updateLeft
  repeat' (first | rfl | split | simp)

@[simp] theorem State.updateHandover_base (s : State) : (State.updateHandover s).image.base = s.image.base := by
  unfold State.updateHandover
  repeat' (first | rfl | split | simp)

@[simp] theorem State.updateJoined_base (s : State) : (State.updateJoined s).image.base = s.image.base := by
  unfold State.updateJoined
  repeat' (first | rfl | split | simp)

@[simp] theorem State.updateSwapped_base (s : State) : (State.updateSwapped s).image.base = s.image.base := by
  unfold State.updateSwapped
  repeat' (first | rfl | split | simp)

@[simp] theorem State.updateOrphaned_base (s : State) : (State.updateOrphaned s).image.base = s.image.base := by
  unfold State.updateOrphaned
  repeat' (first | rfl | split | simp)

@[simp] theorem State.startProof_base (s : State) : (State.startProof s).image.base = s.image.base := by
  unfold State.startProof; simp

@[simp] theorem State.forceRecord_base (s : State) (ordinal : Nat) (f : Force) (session : Nat) : (State.forceRecord s ordinal f session).image.base = s.image.base := by
  unfold State.forceRecord; rfl

@[simp] theorem State.applyForces_base (s : State) (q : ForceReq) : (State.applyForces s q).image.base = s.image.base := by
  unfold State.applyForces
  try dsimp only
  repeat' (first | rfl | split | intro _ | simp | rw [foldl_base])

@[simp] theorem State.applyGate_base (s : State) (w : GateWrite) : (State.applyGate s w).image.base = s.image.base := by
  unfold State.applyGate; simp

@[simp] theorem State.applyRevoke_wf (s : State) (serial : Word) (h : Cells.wf s.image.base = true) :
    Cells.wf (State.applyRevoke s serial).image.base = true := by
  unfold State.applyRevoke
  dsimp only
  rw [State.modReader_base]
  exact foldl_wf _ _ _ h fun s n hs => State.closeSession_wf _ _ hs

@[simp] theorem State.startTasks_base (s : State) (tenant mask start0 : Nat) : (State.startTasks s tenant mask start0).image.base = s.image.base := by
  unfold State.startTasks
  try dsimp only
  repeat' (first | rfl | split | intro _ | simp | rw [foldl_base])

@[simp] theorem State.stopTasks_base (s : State) (tenant mask : Nat) : (State.stopTasks s tenant mask).image.base = s.image.base := by
  unfold State.stopTasks
  try dsimp only
  repeat' (first | rfl | split | intro _ | simp | rw [foldl_base])

@[simp] theorem State.unload_wf (s : State) (tenant : Nat) (h : Cells.wf s.image.base = true) :
    Cells.wf (State.unload s tenant).image.base = true := by
  unfold State.unload
  extract_lets u t s1 s2
  have h0 : Cells.wf u.image.base = true := by
    rw [foldl_base (h := fun s n => by simp)]; exact h
  rw [State.resweep_base]
  change Cells.wf s1.image.base = true
  simp only [s1]
  split
  · exact State.freeWindows_wf _ _ _ h0
  · exact h0

@[simp] theorem State.ackHealth_base (s : State) (mask : BitVec 64) : (State.ackHealth s mask).image.base = s.image.base := by
  unfold State.ackHealth; rfl

@[simp] theorem State.canRestarted_base (s : State) (k : Nat) : (State.canRestarted s k).image.base = s.image.base := by
  unfold State.canRestarted
  repeat' (first | rfl | split | simp)

@[simp] theorem State.canUnlike_base (s : State) (k : Nat) : (State.canUnlike s k).image.base = s.image.base := by
  unfold State.canUnlike
  repeat' (first | rfl | split | simp)

/-! ### Gelit -/

@[simp] theorem State.useKey_base (s : State) (session : Nat) : (State.useKey s session).image.base = s.image.base := by
  unfold State.useKey; rfl

@[simp] theorem State.throughGate_wf (s : State) (r : Req) (gate granule kind : Nat) (run : Answer) (h : Cells.wf s.image.base = true)
    (hr : run.All fun t => Cells.wf t.image.base = true) : (State.throughGate s r gate granule kind run).All fun t => Cells.wf t.image.base = true := by
  unfold State.throughGate
  split
  · simp_all
  · exact hr

@[simp] theorem State.accept_base (s : State) (r : Req) : (State.accept s r).image.base = s.image.base := by
  unfold State.accept; rfl

@[simp] theorem State.answer_wf (s : State) (k : Ticket) (a : Answer) (h : Cells.wf s.image.base = true)
    (ha : a.All fun t => Cells.wf t.image.base = true) : Cells.wf (State.answer s k a).image.base = true := by
  unfold State.answer
  split
  · simp_all
  · simp_all
  · simp_all

@[simp] theorem State.closeLast_wf (s : State) (no : Nat) (h : Cells.wf s.image.base = true) : Cells.wf (State.closeLast s no).image.base = true := by
  unfold State.closeLast
  try dsimp only
  repeat' (first | assumption | split | intro _ | simp_all | apply foldl_wf)

@[simp] theorem State.receive_wf (s : State) (c : Cmd) (v : Brought) (r : Req) (body : State → Ticket → Answer) (h : Cells.wf s.image.base = true)
    (hb : ∀ t k, Cells.wf t.image.base = true → (body t k).All fun t => Cells.wf t.image.base = true) :
    Cells.wf (State.receive s c v r body).image.base = true := by
  unfold State.receive
  split
  all_goals first | (simp_all; done) | skip
  · split <;> simp_all
  · dsimp only
    exact State.closeLast_wf _ _ (State.answer_wf _ _ _ (by simpa using h) (hb _ _ (by simpa using h)))

/-! ### Chunks -/

@[simp] theorem State.forwardChunk_base (s : State) (select : Nat) (c : Chunk) : (State.forwardChunk s select c).image.base = s.image.base := by
  unfold State.forwardChunk
  repeat' (first | rfl | split | simp)

/-! ### Loader -/

@[simp] theorem State.install_wf (s : State) (tenant : Nat) (v : Version) (a : Admitted) (h : Cells.wf s.image.base = true) : Cells.wf (State.install s tenant v a).image.base = true := by
  unfold State.install
  try dsimp only
  repeat' (first | assumption | split | intro _ | simp_all | apply foldl_wf)

/-! ### Checks -/

@[simp] theorem State.takeLoad_wf (s : State) (w : CheckWait) (h : Cells.wf s.image.base = true) : Cells.wf (State.takeLoad s w).image.base = true := by
  unfold State.takeLoad
  try dsimp only
  repeat' (first | assumption | split | intro _ | simp_all | apply foldl_wf)

@[simp] theorem State.takeChange_base (s : State) (w : CheckWait) : (State.takeChange s w).image.base = s.image.base := by
  unfold State.takeChange; simp

@[simp] theorem State.failChange_wf (s : State) (f : ChangeFail) (h : Cells.wf s.image.base = true) : Cells.wf (State.failChange s f).image.base = true := by
  unfold State.failChange
  try dsimp only
  repeat' (first | assumption | split | intro _ | simp_all | apply foldl_wf)

@[simp] theorem State.takeCheck_wf (s : State) (w : CheckWait) (h : Cells.wf s.image.base = true) : Cells.wf (State.takeCheck s w).image.base = true := by
  unfold State.takeCheck
  try dsimp only
  repeat' (first | assumption | split | intro _ | simp_all | apply foldl_wf)

@[simp] theorem State.failLoad_base (s : State) (tenant : Nat) : (State.failLoad s tenant).image.base = s.image.base := by
  unfold State.failLoad; rfl

@[simp] theorem State.disagree_wf (s : State) (w : CheckWait) (h : Cells.wf s.image.base = true) : Cells.wf (State.disagree s w).image.base = true := by
  unfold State.disagree
  try dsimp only
  repeat' (first | assumption | split | intro _ | simp_all | apply foldl_wf)

@[simp] theorem State.askPartner_wf (s : State) (w : CheckWait) (h : Cells.wf s.image.base = true) : Cells.wf (State.askPartner s w).image.base = true := by
  unfold State.askPartner
  try dsimp only
  repeat' (first | assumption | split | intro _ | simp_all | apply foldl_wf)

@[simp] theorem State.checksAlone_wf (s : State) (h : Cells.wf s.image.base = true) : Cells.wf (State.checksAlone s).image.base = true := by
  unfold State.checksAlone
  try dsimp only
  repeat' (first | assumption | split | intro _ | simp_all | apply foldl_wf)

/-! ### PairEvents -/

@[simp] theorem State.tryOwn_wf (s : State) (h : Cells.wf s.image.base = true) : Cells.wf (State.tryOwn s).image.base = true := by
  unfold State.tryOwn
  try dsimp only
  repeat' (first | assumption | split | intro _ | simp_all | apply foldl_wf)

@[simp] theorem State.showMismatch_base (s : State) (h : Hold) : (State.showMismatch s h).image.base = s.image.base := by
  unfold State.showMismatch; simp

@[simp] theorem State.leaveLantern_wf (s : State) (peer : Option PeerIdent) (h : Cells.wf s.image.base = true) : Cells.wf (State.leaveLantern s peer).image.base = true := by
  unfold State.leaveLantern
  try dsimp only
  repeat' (first | assumption | split | intro _ | simp_all | apply foldl_wf)

@[simp] theorem State.startUnits_base (s : State) : (State.startUnits s).image.base = s.image.base := by
  unfold State.startUnits
  try dsimp only
  repeat' (first | rfl | split | intro _ | simp | rw [foldl_base])

@[simp] theorem State.takeTransfer_wf (s : State) (x : Transfer) (_h : Cells.wf s.image.base = true) : Cells.wf (State.takeTransfer s x).image.base = true := by
  unfold State.takeTransfer
  try dsimp only
  repeat' (first | assumption | split | intro _ | simp_all | apply foldl_wf)

@[simp] theorem State.abortJoin_wf (s : State) (next : State → State) (h : Cells.wf s.image.base = true)
    (hn : ∀ t, Cells.wf t.image.base = true → Cells.wf (next t).image.base = true) :
    Cells.wf (State.abortJoin s next).image.base = true := by
  unfold State.abortJoin
  dsimp only
  split <;> simp_all

@[simp] theorem State.ownerLost_wf (s : State) (h : Cells.wf s.image.base = true) : Cells.wf (State.ownerLost s).image.base = true := by
  unfold State.ownerLost
  exact State.abortJoin_wf _ _ h fun _ _ => State.enterLantern_wf ..

@[simp] theorem State.endProof_base (s : State) : (State.endProof s).image.base = s.image.base := by
  unfold State.endProof; simp

@[simp] theorem State.loseLane_base (s : State) (lane : Nat) : (State.loseLane s lane).image.base = s.image.base := by
  unfold State.loseLane
  repeat' (first | rfl | split | simp)

@[simp] theorem State.failPower_base (s : State) : (State.failPower s).image.base = s.image.base := by
  unfold State.failPower
  repeat' (first | rfl | split | simp)

@[simp] theorem State.feedChange_base (s : State) (feed : Nat) (on : Bool) : (State.feedChange s feed on).image.base = s.image.base := by
  unfold State.feedChange
  repeat' (first | rfl | split | simp)

@[simp] theorem State.takeOver_base (s : State) (c : Cause) : (State.takeOver s c).image.base = s.image.base := by
  unfold State.takeOver; simp

@[simp] theorem State.giveOwnership_wf (s : State) (x : Handover) (h : Cells.wf s.image.base = true) : Cells.wf (State.giveOwnership s x).image.base = true := by
  unfold State.giveOwnership
  extract_lets s1 restart s2
  have h2 : Cells.wf s2.image.base = true := by
    simp only [s2, s1, State.finishOpt_base, State.ownerToStandby_base, State.modPair_base, State.hartLeave_base]; exact h
  repeat' (first | assumption | split | simp_all)

@[simp] theorem State.rejoin_base (s : State) : (State.rejoin s).image.base = s.image.base := by
  unfold State.rejoin; simp

/-! ### Bringup -/

@[simp] theorem State.powerUp_wf (s : State) (h : Cells.wf s.image.base = true) : Cells.wf (State.powerUp s).image.base = true := by
  unfold State.powerUp
  try dsimp only
  repeat' (first | assumption | split | intro _ | simp_all | apply foldl_wf)

@[simp] theorem State.beginFetch_base (s : State) (part : Nat) : (State.beginFetch s part).image.base = s.image.base := by
  unfold State.beginFetch
  repeat' (first | rfl | split | simp)

@[simp] theorem State.partInvalid_base (s : State) : (State.partInvalid s).image.base = s.image.base := by
  unfold State.partInvalid; rfl

@[simp] theorem State.takeLanternNext_wf (s : State) (h : Cells.wf s.image.base = true) : Cells.wf (State.takeLanternNext s).image.base = true := by
  unfold State.takeLanternNext
  try dsimp only
  repeat' (first | assumption | split | intro _ | simp_all | apply foldl_wf)

@[simp] theorem State.leverStops_base (s : State) : (State.leverStops s).image.base = s.image.base := by
  unfold State.leverStops
  repeat' (first | rfl | split | simp)

@[simp] theorem State.keyAtLever_wf (s : State) (h : Cells.wf s.image.base = true) : Cells.wf (State.keyAtLever s).image.base = true := by
  unfold State.keyAtLever
  try dsimp only
  repeat' (first | assumption | split | intro _ | simp_all | apply foldl_wf)

/-! ### Keys -/

@[simp] theorem State.submit_base (s : State) (ops : List SigOp) : (State.submit s ops).image.base = s.image.base := by
  unfold State.submit; rfl

@[simp] theorem State.failedAttempt_base (s : State) (serial : Word) (reason : Nat) : (State.failedAttempt s serial reason).image.base = s.image.base := by
  unfold State.failedAttempt
  repeat' (first | rfl | split | simp)

@[simp] theorem State.keyPresent_wf (s : State) (c : Credential) (h : Cells.wf s.image.base = true) : Cells.wf (State.keyPresent s c).image.base = true := by
  unfold State.keyPresent
  try dsimp only
  repeat' (first | assumption | split | intro _ | simp_all | apply foldl_wf)

/-! ### Sessions -/

@[simp] theorem State.commandTestHold_base (s : State) : (State.commandTestHold s).image.base = s.image.base := by
  unfold State.commandTestHold; simp

/-! ### FuncUnits -/

@[simp] theorem State.quiesceUnit_base (s : State) (unit session : Nat) : (State.quiesceUnit s unit session).image.base = s.image.base := by
  unfold State.quiesceUnit
  repeat' (first | rfl | split | simp)

/-! ### RingCommands -/

@[simp] theorem State.ringAcyclic_wf (s : State) (r : Req) (h : Cells.wf s.image.base = true) : Cells.wf (State.ringAcyclic s r).image.base = true := by
  unfold State.ringAcyclic
  apply State.receive_wf _ _ _ _ _ h
  intro t k ht
  repeat' (first | exact trivial | assumption | (apply Answer.all_bind; intro _ _) | (rw [Answer.all_ok]; repeat' (first | assumption | split | simp_all)) | split | simp_all)

/-! ### LocalCommands -/

@[simp] theorem State.canLostNow_base (s : State) (k : Nat) : (State.canLostNow s k).image.base = s.image.base := by
  unfold State.canLostNow; rfl

/-! ### Updates -/

@[simp] theorem State.activate_wf (s : State) (r : Req) (h : Cells.wf s.image.base = true) : Cells.wf (State.activate s r).image.base = true := by
  unfold State.activate
  apply State.receive_wf _ _ _ _ _ h
  intro t k ht
  repeat' (first | exact trivial | assumption | (apply Answer.all_bind; intro _ _) | (rw [Answer.all_ok]; repeat' (first | assumption | split | simp_all)) | split | simp_all)

@[simp] theorem State.writeRecord_base (s : State) : (State.writeRecord s).image.base = s.image.base := by
  unfold State.writeRecord; rfl

/-! ### AlmanacCommands -/

@[simp] theorem State.clearAlmanac_base (s : State) (bound serial session : Nat) : (State.clearAlmanac s bound serial session).image.base = s.image.base := by
  unfold State.clearAlmanac; rfl

/-! ### Process -/

@[simp] theorem State.readData_wf (s : State) (r : Req) (prov : Bool) (h : Cells.wf s.image.base = true) :
    (State.readData s r prov).All fun t => Cells.wf t.image.base = true := by
  unfold State.readData
  repeat' (first | exact trivial | assumption | (apply Answer.all_bind; intro _ _) | (rw [Answer.all_ok]; repeat' (first | assumption | split | simp_all)) | split | simp_all)

@[simp] theorem State.takeForces_base (s : State) (q : ForceReq) : (State.takeForces s q).image.base = s.image.base := by
  unfold State.takeForces
  repeat' (first | rfl | split | simp)

/-! ### Debug -/

@[simp] theorem State.openDebug_base (s : State) (tenant session : Nat) : (State.openDebug s tenant session).image.base = s.image.base := by
  unfold State.openDebug; simp

@[simp] theorem State.debugDo_wf (s : State) (k : Ticket) (d : DebugSt) (op task offset : Nat) (h : Cells.wf s.image.base = true) :
    (State.debugDo s k d op task offset).All fun t => Cells.wf t.image.base = true := by
  unfold State.debugDo
  dsimp only
  repeat' (first | exact trivial | assumption | split | simp_all)

@[simp] theorem State.debugControl_wf (s : State) (r : Req) (h : Cells.wf s.image.base = true) : Cells.wf (State.debugControl s r).image.base = true := by
  unfold State.debugControl
  apply State.receive_wf _ _ _ _ _ h
  intro t k ht
  repeat' (first | exact trivial | assumption | (apply Answer.all_bind; intro _ _) | (rw [Answer.all_ok]; repeat' (first | assumption | split | simp_all)) | split | simp_all)

/-! ### TestPort -/

@[simp] theorem State.tapSelect_base (s : State) (code acts : Nat) : (State.tapSelect s code acts).image.base = s.image.base := by
  unfold State.tapSelect; rfl

@[simp] theorem State.driveTake_base (s : State) : (State.driveTake s).image.base = s.image.base := by
  unfold State.driveTake
  try dsimp only
  repeat' (first | rfl | split | intro _ | simp | rw [foldl_base])

@[simp] theorem State.drive_base (s : State) (code otherwise_ : Nat) (cells : List Bool) (deny : Tap → Tap) : (State.drive s code otherwise_ cells deny).image.base = s.image.base := by
  unfold State.drive
  repeat' (first | rfl | split | simp)

@[simp] theorem State.tapOn_wf (s t : State) (h : Cells.wf s.image.base = true) (ht : Cells.wf t.image.base = true) :
    Cells.wf (State.tapOn s t).image.base = true := by
  unfold State.tapOn; split <;> assumption

end Sys2Proof.Machine
end

