-- ==== Sys2Proof/Laws/QueueKept.lean ====
section
/-! SUPPORT. Laws of the queue of commands: no operation touches it: one lemma per operation, in the order of the modules. -/
namespace Sys2Proof.Machine

/-- The same of a fold over states. -/
theorem foldl_pending {α : Type} (f : State → α → State) (h : ∀ s x, (f s x).pending = s.pending) (xs : List α) (s : State) :
    (xs.foldl f s).pending = s.pending := by
  induction xs generalizing s with
  | nil => rfl
  | cons x xs ih => rw [List.foldl_cons, ih, h]

/-! ### Ops -/

@[simp] theorem State.modTask_pending (s : State) (n : Nat) (f : Task → Task) : (State.modTask s n f).pending = s.pending := by
  unfold State.modTask; rfl

@[simp] theorem State.modTenant_pending (s : State) (n : Nat) (f : Tenant → Tenant) : (State.modTenant s n f).pending = s.pending := by
  unfold State.modTenant; rfl

@[simp] theorem State.modStrand_pending (s : State) (n : Nat) (f : StrandSt → StrandSt) : (State.modStrand s n f).pending = s.pending := by
  unfold State.modStrand; rfl

@[simp] theorem State.modRing_pending (s : State) (n : Nat) (f : Ring → Ring) : (State.modRing s n f).pending = s.pending := by
  unfold State.modRing; rfl

@[simp] theorem State.modPort_pending (s : State) (n : Nat) (f : Port → Port) : (State.modPort s n f).pending = s.pending := by
  unfold State.modPort; rfl

@[simp] theorem State.modStation_pending (s : State) (ring pos : Nat) (f : StationView → StationView) : (State.modStation s ring pos f).pending = s.pending := by
  unfold State.modStation; rfl

@[simp] theorem State.modCan_pending (s : State) (k : Nat) (f : CanCtl → CanCtl) : (State.modCan s k f).pending = s.pending := by
  unfold State.modCan; rfl

@[simp] theorem State.modDomain_pending (s : State) (d : Nat) (f : Domain → Domain) : (State.modDomain s d f).pending = s.pending := by
  unfold State.modDomain; rfl

@[simp] theorem State.modPair_pending (s : State) (f : Pair → Pair) : (State.modPair s f).pending = s.pending := by
  unfold State.modPair; rfl

@[simp] theorem State.modIo_pending (s : State) (f : LocalIo → LocalIo) : (State.modIo s f).pending = s.pending := by
  unfold State.modIo; rfl

@[simp] theorem State.modFront_pending (s : State) (f : Front → Front) : (State.modFront s f).pending = s.pending := by
  unfold State.modFront; rfl

@[simp] theorem State.modLantern_pending (s : State) (f : Lantern → Lantern) : (State.modLantern s f).pending = s.pending := by
  unfold State.modLantern; rfl

@[simp] theorem State.modTime_pending (s : State) (f : TimeUnit → TimeUnit) : (State.modTime s f).pending = s.pending := by
  unfold State.modTime; rfl

@[simp] theorem State.modUpdate_pending (s : State) (f : Update → Update) : (State.modUpdate s f).pending = s.pending := by
  unfold State.modUpdate; rfl

@[simp] theorem State.modReader_pending (s : State) (f : Reader → Reader) : (State.modReader s f).pending = s.pending := by
  unfold State.modReader; rfl

@[simp] theorem State.modKeys_pending (s : State) (f : KeyUnit → KeyUnit) : (State.modKeys s f).pending = s.pending := by
  unfold State.modKeys; rfl

@[simp] theorem State.modVcore_pending (s : State) (f : Vcore → Vcore) : (State.modVcore s f).pending = s.pending := by
  unfold State.modVcore; rfl

@[simp] theorem State.setCode_pending (s : State) (n : Nat) : (State.setCode s n).pending = s.pending := by
  unfold State.setCode; rfl

@[simp] theorem State.restVcore_pending (s : State) : (State.restVcore s).pending = s.pending := by
  unfold State.restVcore
  repeat' (first | rfl | split | simp)

@[simp] theorem State.modLink_pending (s : State) (f : Link → Link) : (State.modLink s f).pending = s.pending := by
  unfold State.modLink; rfl

@[simp] theorem State.modChange_pending (s : State) (f : Change → Change) : (State.modChange s f).pending = s.pending := by
  unfold State.modChange; rfl

@[simp] theorem State.modTap_pending (s : State) (f : Tap → Tap) : (State.modTap s f).pending = s.pending := by
  unfold State.modTap; rfl

@[simp] theorem State.modFeeds_pending (s : State) (f : Feeds → Feeds) : (State.modFeeds s f).pending = s.pending := by
  unfold State.modFeeds; rfl

@[simp] theorem State.modSettings_pending (s : State) (f : Settings → Settings) : (State.modSettings s f).pending = s.pending := by
  unfold State.modSettings; rfl

@[simp] theorem State.advanceTo_pending (s : State) (t : Nat) : (State.advanceTo s t).pending = s.pending := by
  unfold State.advanceTo
  repeat' (first | rfl | split | simp)

@[simp] theorem State.record_pending (s : State) (rule ordinal severity source tenant : Nat) (data : List (Nat × Nat)) : (State.record s rule ordinal severity source tenant data).pending = s.pending := by
  unfold State.record; rfl

@[simp] theorem State.count_pending (s : State) (source : Nat) : (State.count s source).pending = s.pending := by
  unfold State.count; rfl

@[simp] theorem State.countN_pending (s : State) (source k : Nat) : (State.countN s source k).pending = s.pending := by
  unfold State.countN
  repeat' (first | rfl | split | simp)

@[simp] theorem State.send_pending (s : State) (cls : Nat) (m : LinkMsg) : (State.send s cls m).pending = s.pending := by
  unfold State.send; rfl

@[simp] theorem State.tellPartner_pending (s : State) (m : Mirror) : (State.tellPartner s m).pending = s.pending := by
  unfold State.tellPartner
  repeat' (first | rfl | split | simp)

@[simp] theorem State.agreedFire_pending (s : State) (source time : Nat) : (State.agreedFire s source time).pending = s.pending := by
  unfold State.agreedFire; rfl

@[simp] theorem State.fireAt_pending (s : State) (source time : Nat) : (State.fireAt s source time).pending = s.pending := by
  unfold State.fireAt
  repeat' (first | rfl | split | simp)

@[simp] theorem State.fire_pending (s : State) (source : Nat) : (State.fire s source).pending = s.pending := by
  unfold State.fire; simp

@[simp] theorem State.sendReply_pending (s : State) (r : Reply) : (State.sendReply s r).pending = s.pending := by
  unfold State.sendReply
  repeat' (first | rfl | split | simp)

@[simp] theorem State.modSession_pending (s : State) (no : Nat) (f : Session → Session) : (State.modSession s no f).pending = s.pending := by
  unfold State.modSession; rfl

@[simp] theorem State.finish_pending (s : State) (k : Ticket) (status : Nat) (body : List Byte) : (State.finish s k status body).pending = s.pending := by
  unfold State.finish
  repeat' (first | rfl | split | simp)

@[simp] theorem State.finishOpt_pending (s : State) (k : Option Ticket) (status : Nat) (body : List Byte) : (State.finishOpt s k status body).pending = s.pending := by
  unfold State.finishOpt
  repeat' (first | rfl | split | simp)

/-! ### Gates -/

@[simp] theorem State.deny_pending (s : State) (d : Denial) : (State.deny s d).pending = s.pending := by
  unfold State.deny
  repeat' (first | rfl | split | simp)

/-! ### Engine -/

@[simp] theorem State.abandon_pending (s : State) (n k : Nat) : (State.abandon s n k).pending = s.pending := by
  unfold State.abandon
  repeat' (first | rfl | split | simp)

@[simp] theorem State.yieldSpec_pending (s : State) (strand n : Nat) : (State.yieldSpec s strand n).pending = s.pending := by
  unfold State.yieldSpec
  repeat' (first | rfl | split | simp)

@[simp] theorem State.takeStrand_pending (s : State) (n : Nat) (t : Task) (lane : Fin 2) (admitted : Bool) : (State.takeStrand s n t lane admitted).pending = s.pending := by
  unfold State.takeStrand
  repeat' (first | rfl | split | simp)

@[simp] theorem State.putLane_pending (s : State) (e : Env) (l : Lane) : (State.putLane s e l).pending = s.pending := by
  unfold State.putLane
  repeat' (first | rfl | split | simp)

@[simp] theorem State.stopLane_pending (s : State) (e : Env) (op : Nat) (w : BitVec 24) (f : Form) (st : Stop) : (State.stopLane s e op w f st).pending = s.pending := by
  unfold State.stopLane
  repeat' (first | rfl | split | simp)

@[simp] theorem retryShadow_pending (run : State → Except Stop Lane) (t : Task) (k : Nat) (s : State) :
    (retryShadow run t k s).1.pending = s.pending := by
  induction k generalizing s with
  | zero => rfl
  | succ k ih =>
    unfold retryShadow
    repeat' (first | rfl | split | simp [ih])

@[simp] theorem State.countWide_pending (s : State) (e : Env) (l : Lane) : (State.countWide s e l).pending = s.pending := by
  unfold State.countWide
  repeat' (first | rfl | split | simp)

@[simp] theorem State.debugRan_pending (s : State) : (State.debugRan s).pending = s.pending := by
  unfold State.debugRan
  repeat' (first | rfl | split | simp)

@[simp] theorem runOn_pending (r : OpInfo) (body : Body) (w : BitVec 24) (ext : Word) (s : State) (t : Task) (lane : Fin 2) : (runOn r body w ext s t lane).pending = s.pending := by
  unfold runOn
  dsimp only
  split
  · rfl
  · split
    · have h := retryShadow_pending (fun x => checkAndRun r (formOf r w ext) r.fmt.words body { s.env t lane with s := x } (s.env t lane).ctx) t
        s.tasks.length (if (s.env t lane).dbg.isSome then s else s.takeStrand t.no t lane ((s.env t lane).ctx.spec == .notSpeculating))
      split
      all_goals
        next heq =>
        rw [heq] at h
        repeat' (first | rfl | split | simp_all)
    · rfl

@[simp] theorem runEngine_pending (op : Nat) (body : Body) (x : Exec) (w : BitVec 24) (ext : Word) (s : State) : (runEngine op body x w ext s).pending = s.pending := by
  unfold runEngine
  repeat' (first | rfl | split | simp)

@[simp] theorem runUndefined_pending (op : Nat) (x : Exec) (w : BitVec 24) (s : State) : (runUndefined op x w s).pending = s.pending := by
  unfold runUndefined
  repeat' (first | rfl | split | simp)

@[simp] theorem runTogether_pending (op : Nat) (first : Body) (second : Lane → Body) (x : Exec) (w : BitVec 24) (s : State) : (runTogether op first second x w s).pending = s.pending := by
  unfold runTogether
  repeat' (first | rfl | split | simp)

@[simp] theorem State.specAgreed_pending (s : State) (n : Nat) (inputs : List SigVal) : (State.specAgreed s n inputs).pending = s.pending := by
  unfold State.specAgreed
  repeat' (first | rfl | split | simp)

/-! ### Frames -/

@[simp] theorem State.modCrossing_pending (s : State) (unit : Nat) (f : Crossing → Crossing) : (State.modCrossing s unit f).pending = s.pending := by
  unfold State.modCrossing; rfl

@[simp] theorem State.putSent_pending (s : State) (fs : List OutFrame) : (State.putSent s fs).pending = s.pending := by
  unfold State.putSent
  try dsimp only
  repeat' (first | rfl | split | intro _ | simp | rw [foldl_pending])

@[simp] theorem State.takePending_pending (s : State) (unit : Nat) : (State.takePending s unit).pending = s.pending := by
  unfold State.takePending; simp

@[simp] theorem State.offerTransfer_pending (s : State) (unit : Nat) (x : CrossTransfer) : (State.offerTransfer s unit x).pending = s.pending := by
  unfold State.offerTransfer; rfl

@[simp] theorem State.emit_pending (s : State) (f : OutFrame) : (State.emit s f).pending = s.pending := by
  unfold State.emit
  repeat' (first | rfl | split | simp)

/-! ### Stages -/

@[simp] theorem State.settleDo_pending (s : State) : (State.settleDo s).pending = s.pending := by
  unfold State.settleDo; rfl

@[simp] theorem State.releaseLocal_pending (s : State) : (State.releaseLocal s).pending = s.pending := by
  unfold State.releaseLocal; rfl

@[simp] theorem State.engageLocal_pending (s : State) : (State.engageLocal s).pending = s.pending := by
  unfold State.engageLocal; rfl

@[simp] theorem State.channelChange_pending (s : State) (unit ch : Nat) : (State.channelChange s unit ch).pending = s.pending := by
  unfold State.channelChange; simp

@[simp] theorem State.refreshLocal_pending (s : State) : (State.refreshLocal s).pending = s.pending := by
  unfold State.refreshLocal
  repeat' (first | rfl | split | simp)

@[simp] theorem State.silenceNow_pending (s : State) : (State.silenceNow s).pending = s.pending := by
  unfold State.silenceNow; rfl

@[simp] theorem State.fullShare_pending (s : State) : (State.fullShare s).pending = s.pending := by
  unfold State.fullShare; rfl

@[simp] theorem State.silence_pending (s : State) : (State.silence s).pending = s.pending := by
  unfold State.silence; rfl

/-! ### PairOps -/

@[simp] theorem State.endDebug_pending (s : State) : (State.endDebug s).pending = s.pending := by
  unfold State.endDebug
  repeat' (first | rfl | split | simp)

@[simp] theorem State.leaveClosing_pending (s : State) (n : Nat) : (State.leaveClosing s n).pending = s.pending := by
  unfold State.leaveClosing
  repeat' (first | rfl | split | simp)

@[simp] theorem State.dropQuiesce_pending (s : State) (unit : Nat) : (State.dropQuiesce s unit).pending = s.pending := by
  unfold State.dropQuiesce; rfl

@[simp] theorem State.endSession_pending (s : State) (no : Nat) : (State.endSession s no).pending = s.pending := by
  unfold State.endSession
  try dsimp only
  repeat' (first | rfl | split | intro _ | simp | rw [foldl_pending])

@[simp] theorem State.endSessions_pending (s : State) : (State.endSessions s).pending = s.pending := by
  unfold State.endSessions
  try dsimp only
  repeat' (first | rfl | split | intro _ | simp | rw [foldl_pending])

@[simp] theorem State.recordParallax_pending (s : State) (n strand : Nat) (k : ParKind) (imm : Bool) (outcome : Nat) : (State.recordParallax s n strand k imm outcome).pending = s.pending := by
  unfold State.recordParallax; rfl

@[simp] theorem State.dropParallax_pending (s : State) (n : Nat) : (State.dropParallax s n).pending = s.pending := by
  unfold State.dropParallax
  repeat' (first | rfl | split | simp)

@[simp] theorem State.dropCycles_pending (s : State) : (State.dropCycles s).pending = s.pending := by
  unfold State.dropCycles
  try dsimp only
  repeat' (first | rfl | split | intro _ | simp | rw [foldl_pending])

@[simp] theorem State.silencePorts_pending (s : State) : (State.silencePorts s).pending = s.pending := by
  unfold State.silencePorts; rfl

@[simp] theorem State.queueAcyc_pending (s : State) (x : Acyc) : (State.queueAcyc s x).pending = s.pending := by
  unfold State.queueAcyc; rfl

@[simp] theorem State.resumeAcyc_pending (s : State) : (State.resumeAcyc s).pending = s.pending := by
  unfold State.resumeAcyc
  try dsimp only
  repeat' (first | rfl | split | intro _ | simp | rw [foldl_pending])

@[simp] theorem State.hartResult_pending (s : State) (x : HartTx) (result : Nat) : (State.hartResult s x result).pending = s.pending := by
  unfold State.hartResult; simp

@[simp] theorem State.hartLeave_pending (s : State) (planned : Bool) : (State.hartLeave s planned).pending = s.pending := by
  unfold State.hartLeave
  try dsimp only
  repeat' (first | rfl | split | intro _ | simp | rw [foldl_pending])

@[simp] theorem State.hartTake_pending (s : State) (planned : Bool) : (State.hartTake s planned).pending = s.pending := by
  unfold State.hartTake; rfl

@[simp] theorem State.takeCan_pending (s : State) (k : Nat) : (State.takeCan s k).pending = s.pending := by
  unfold State.takeCan; rfl

@[simp] theorem State.giveCan_pending (s : State) (k : Nat) : (State.giveCan s k).pending = s.pending := by
  unfold State.giveCan
  repeat' (first | rfl | split | simp)

@[simp] theorem State.settleCan_pending (s : State) : (State.settleCan s).pending = s.pending := by
  unfold State.settleCan
  try dsimp only
  repeat' (first | rfl | split | intro _ | simp | rw [foldl_pending])

@[simp] theorem State.canServe_pending (s : State) (serve moved : Bool) : (State.canServe s serve moved).pending = s.pending := by
  unfold State.canServe
  try dsimp only
  repeat' (first | rfl | split | intro _ | simp | rw [foldl_pending])

@[simp] theorem State.rebaseRing_pending (s : State) : (State.rebaseRing s).pending = s.pending := by
  unfold State.rebaseRing; rfl

@[simp] theorem State.takeRing_pending (s : State) : (State.takeRing s).pending = s.pending := by
  unfold State.takeRing; rfl

@[simp] theorem State.followRing_pending (s : State) : (State.followRing s).pending = s.pending := by
  unfold State.followRing; rfl

@[simp] theorem State.becomeOwner_pending (s : State) (epoch : Nat) (c : Cause) (planned : Bool) : (State.becomeOwner s epoch c planned).pending = s.pending := by
  unfold State.becomeOwner; simp

@[simp] theorem State.startImages_pending (s : State) : (State.startImages s).pending = s.pending := by
  unfold State.startImages; rfl

@[simp] theorem State.resumeRetained_pending (s : State) : (State.resumeRetained s).pending = s.pending := by
  unfold State.resumeRetained
  repeat' (first | rfl | split | simp)

@[simp] theorem State.ownFromLantern_pending (s : State) (c : Cause) : (State.ownFromLantern s c).pending = s.pending := by
  unfold State.ownFromLantern; simp

@[simp] theorem State.enterTestHold_pending (s : State) : (State.enterTestHold s).pending = s.pending := by
  unfold State.enterTestHold; simp

@[simp] theorem State.enterJoining_pending (s : State) (c : Cause) (j : Join) : (State.enterJoining s c j).pending = s.pending := by
  unfold State.enterJoining; simp

@[simp] theorem State.toJoining_pending (s : State) (c : Cause) : (State.toJoining s c).pending = s.pending := by
  unfold State.toJoining; simp

@[simp] theorem State.toFaulted_pending (s : State) (c : Cause) : (State.toFaulted s c).pending = s.pending := by
  unfold State.toFaulted; simp

@[simp] theorem State.loseOwner_pending (s : State) : (State.loseOwner s).pending = s.pending := by
  unfold State.loseOwner
  try dsimp only
  repeat' (first | rfl | split | intro _ | simp | rw [foldl_pending])

@[simp] theorem State.ownerToStandby_pending (s : State) (c : Cause) (side : Side) : (State.ownerToStandby s c side).pending = s.pending := by
  unfold State.ownerToStandby; simp

@[simp] theorem State.emergency_pending (s : State) : (State.emergency s).pending = s.pending := by
  unfold State.emergency; simp

@[simp] theorem State.lanternStart_pending (s : State) : (State.lanternStart s).pending = s.pending := by
  unfold State.lanternStart
  repeat' (first | rfl | split | simp)

@[simp] theorem State.restoreStores_pending (s : State) : (State.restoreStores s).pending = s.pending := by
  unfold State.restoreStores
  repeat' (first | rfl | split | simp)

@[simp] theorem State.fresh_pending (present : State) : (State.fresh present).pending = present.pending := by
  unfold State.fresh; simp

@[simp] theorem State.restart_pending (s : State) (c : Cause) : (State.restart s c).pending = s.pending := by
  unfold State.restart; simp

@[simp] theorem State.enterLantern_pending (s : State) (c : Cause) (p : Phase) (h : Hold) : (State.enterLantern s c p h).pending = s.pending := by
  unfold State.enterLantern; simp

@[simp] theorem State.leave_pending (s : State) (c : Cause) (silent : Bool) : (State.leave s c silent).pending = s.pending := by
  unfold State.leave
  repeat' (first | rfl | split | simp)

@[simp] theorem State.moduleFault_pending (s : State) (c : Cause) (solo : State → State) (k : ∀ t, (solo t).pending = t.pending) :
    (State.moduleFault s c solo).pending = s.pending := by
  unfold State.moduleFault; repeat' (first | split | simp_all)

@[simp] theorem State.restartFor_pending (c : Cause) (s : State) : (State.restartFor c s).pending = s.pending := by
  unfold State.restartFor; simp

@[simp] theorem State.leverRefuse_pending (s : State) : (State.leverRefuse s).pending = s.pending := by
  unfold State.leverRefuse; rfl

@[simp] theorem State.proposeHandover_pending (s : State) (c : Cause) (leave : Bool) (k : Option Ticket) : (State.proposeHandover s c leave k).pending = s.pending := by
  unfold State.proposeHandover; rfl

/-! ### Stations -/

@[simp] theorem State.setStation_pending (s : State) (ring pos : Nat) (st : StationState) : (State.setStation s ring pos st).pending = s.pending := by
  unfold State.setStation
  repeat' (first | rfl | split | simp)

@[simp] theorem State.endAcyc_pending (s : State) (x : Acyc) (result : Nat) (payload : List Byte) : (State.endAcyc s x result payload).pending = s.pending := by
  unfold State.endAcyc
  repeat' (first | rfl | split | simp)

@[simp] theorem State.stationGone_pending (s : State) (ring pos : Nat) : (State.stationGone s ring pos).pending = s.pending := by
  unfold State.stationGone
  try dsimp only
  repeat' (first | rfl | split | intro _ | simp | rw [foldl_pending])

@[simp] theorem State.dropIsolated_pending (s : State) (ring pos : Nat) : (State.dropIsolated s ring pos).pending = s.pending := by
  unfold State.dropIsolated
  repeat' (first | rfl | split | simp)

/-! ### Collect -/

@[simp] theorem State.publishLocal_pending (s : State) : (State.publishLocal s).pending = s.pending := by
  unfold State.publishLocal; rfl

@[simp] theorem State.setSweeps_pending (s : State) (sweeps : List (Nat × Nat)) : (State.setSweeps s sweeps).pending = s.pending := by
  unfold State.setSweeps; rfl

@[simp] theorem State.resweep_pending (s : State) : (State.resweep s).pending = s.pending := by
  unfold State.resweep
  repeat' (first | rfl | split | simp)

@[simp] theorem State.openTags_pending (s : State) (t : Task) (p : Snapshot) : (State.openTags s t p).pending = s.pending := by
  unfold State.openTags
  try dsimp only
  repeat' (first | rfl | split | intro _ | simp | rw [foldl_pending])

@[simp] theorem State.freeTags_pending (s : State) (n : Nat) : (State.freeTags s n).pending = s.pending := by
  unfold State.freeTags; rfl

@[simp] theorem State.noteMissing_pending (s : State) (p : Snapshot) : (State.noteMissing s p).pending = s.pending := by
  unfold State.noteMissing
  try dsimp only
  repeat' (first | rfl | split | intro _ | simp | rw [foldl_pending])

@[simp] theorem State.agreeSnapshot_pending (s : State) (n : Nat) : (State.agreeSnapshot s n).pending = s.pending := by
  unfold State.agreeSnapshot
  repeat' (first | rfl | split | simp)

@[simp] theorem State.tryAgree_pending (s : State) (n : Nat) : (State.tryAgree s n).pending = s.pending := by
  unfold State.tryAgree
  repeat' (first | rfl | split | simp)

@[simp] theorem State.settle_pending (s : State) (n ring station : Nat) : (State.settle s n ring station).pending = s.pending := by
  unfold State.settle
  repeat' (first | rfl | split | simp)

@[simp] theorem State.settleAll_pending (s : State) (n : Nat) : (State.settleAll s n).pending = s.pending := by
  unfold State.settleAll
  try dsimp only
  repeat' (first | rfl | split | intro _ | simp | rw [foldl_pending])

@[simp] theorem State.agreeAlone_pending (s : State) (n : Nat) : (State.agreeAlone s n).pending = s.pending := by
  unfold State.agreeAlone; simp

@[simp] theorem State.stopWaiting_pending (s : State) : (State.stopWaiting s).pending = s.pending := by
  unfold State.stopWaiting
  try dsimp only
  repeat' (first | rfl | split | intro _ | simp | rw [foldl_pending])

@[simp] theorem State.staleResync_pending (s : State) (n : Nat) (p : Snapshot) : (State.staleResync s n p).pending = s.pending := by
  unfold State.staleResync
  try dsimp only
  repeat' (first | rfl | split | intro _ | simp | rw [foldl_pending])

@[simp] theorem State.closeSnapshot_pending (s : State) (n : Nat) : (State.closeSnapshot s n).pending = s.pending := by
  unfold State.closeSnapshot
  try dsimp only
  repeat' (first | rfl | split | intro _ | simp | rw [foldl_pending])

@[simp] theorem State.queueAssign_pending (s : State) (ring pos : Nat) : (State.queueAssign s ring pos).pending = s.pending := by
  unfold State.queueAssign; rfl

@[simp] theorem State.sendAssign_pending (s : State) (ring pos : Nat) : (State.sendAssign s ring pos).pending = s.pending := by
  unfold State.sendAssign
  repeat' (first | rfl | split | simp)

@[simp] theorem State.takeAssign_pending (s : State) (ring pos delayA delayB : Nat) : (State.takeAssign s ring pos delayA delayB).pending = s.pending := by
  unfold State.takeAssign
  repeat' (first | rfl | split | simp)

@[simp] theorem State.enterResync_pending (s : State) (ring pos : Nat) : (State.enterResync s ring pos).pending = s.pending := by
  unfold State.enterResync; simp

@[simp] theorem State.lateFrame_pending (s : State) (ring : Nat) : (State.lateFrame s ring).pending = s.pending := by
  unfold State.lateFrame
  repeat' (first | rfl | split | simp)

@[simp] theorem State.judged_pending (s : State) (ring pos port verdict : Nat) : (State.judged s ring pos port verdict).pending = s.pending := by
  unfold State.judged
  repeat' (first | rfl | split | simp)

@[simp] theorem State.lateSection_pending (s : State) (ring station port : Nat) : (State.lateSection s ring station port).pending = s.pending := by
  unfold State.lateSection; simp

@[simp] theorem State.fileBlocks_pending (s : State) (port cycle : Nat) (x : InSection) : (State.fileBlocks s port cycle x).pending = s.pending := by
  unfold State.fileBlocks
  repeat' (first | rfl | split | simp)

@[simp] theorem State.fileSection_pending (s : State) (port : Nat) (x : InSection) : (State.fileSection s port x).pending = s.pending := by
  unfold State.fileSection
  repeat' (first | rfl | split | simp)

@[simp] theorem State.discardFrame_pending (s : State) (port : Nat) : (State.discardFrame s port).pending = s.pending := by
  unfold State.discardFrame; rfl

@[simp] theorem State.ingressOverrun_pending (s : State) (port : Nat) : (State.ingressOverrun s port).pending = s.pending := by
  unfold State.ingressOverrun; simp

@[simp] theorem State.inputFrame_pending (s : State) (f : InputFrame) : (State.inputFrame s f).pending = s.pending := by
  unfold State.inputFrame
  try dsimp only
  repeat' (first | rfl | split | intro _ | simp | rw [foldl_pending])

@[simp] theorem State.takeDigest_pending (s : State) (n cycle ring station : Nat) (crc : Option Word) : (State.takeDigest s n cycle ring station crc).pending = s.pending := by
  unfold State.takeDigest
  repeat' (first | rfl | split | simp)

/-! ### ChangeOps -/

@[simp] theorem State.clampNote_pending (s : State) (index k : Nat) : (State.clampNote s index k).pending = s.pending := by
  unfold State.clampNote
  repeat' (first | rfl | split | simp)

@[simp] theorem State.freeWindows_pending (s : State) (w : Windows) (v : Version) : (State.freeWindows s w v).pending = s.pending := by
  unfold State.freeWindows; rfl

@[simp] theorem State.convertBase_pending (s : State) : (State.convertBase s).pending = s.pending := by
  unfold State.convertBase
  try dsimp only
  repeat' (first | rfl | split | intro _ | simp | rw [foldl_pending])

@[simp] theorem State.convertUnit_pending (s : State) (c : ConvEnv) (task at_ index : Nat) (m : MapEnt) (written : List (Nat × Nat)) (i : Nat) : (State.convertUnit s c task at_ index m written i).pending = s.pending := by
  unfold State.convertUnit
  repeat' (first | rfl | split | simp)

@[simp] theorem State.convertPub_pending (s : State) (task at_ : Nat) (addrs : List Nat) : (State.convertPub s task at_ addrs).pending = s.pending := by
  unfold State.convertPub
  try dsimp only
  repeat' (first | rfl | split | intro _ | simp | rw [foldl_pending])

@[simp] theorem State.convertAll_pending (s : State) : (State.convertAll s).pending = s.pending := by
  unfold State.convertAll
  try dsimp only
  repeat' (first | rfl | split | intro _ | simp | rw [foldl_pending])

@[simp] theorem State.unpublishQ_pending (s : State) (task at_ : Nat) (old : Windows) (sizeQ : Nat) : (State.unpublishQ s task at_ old sizeQ).pending = s.pending := by
  unfold State.unpublishQ; simp

/-! ### Faults -/

@[simp] theorem State.displaceFrame_pending (s : State) (t : Task) (f : FaultInfo) (cause at_ : Nat) : (State.displaceFrame s t f cause at_).pending = s.pending := by
  unfold State.displaceFrame; rfl

@[simp] theorem State.publishEntries_pending (s : State) (t : Task) (es : List LogEnt) : (State.publishEntries s t es).pending = s.pending := by
  unfold State.publishEntries
  repeat' (first | rfl | split | simp)

@[simp] theorem State.raiseFault_pending (s : State) (n : Nat) (f : FaultInfo) (at_ : Nat) (second : Bool) : (State.raiseFault s n f at_ second).pending = s.pending := by
  unfold State.raiseFault
  repeat' (first | rfl | split | simp)

@[simp] theorem State.applyPolicy_pending (s : State) (n at_ : Nat) : (State.applyPolicy s n at_).pending = s.pending := by
  unfold State.applyPolicy
  repeat' (first | rfl | split | simp)

@[simp] theorem State.endTask_pending (s : State) (n : Nat) (st : TaskState) (at_ : Nat) : (State.endTask s n st at_).pending = s.pending := by
  unfold State.endTask
  repeat' (first | rfl | split | simp)

@[simp] theorem State.settleTenant_pending (s : State) (tenant : Nat) : (State.settleTenant s tenant).pending = s.pending := by
  unfold State.settleTenant
  repeat' (first | rfl | split | simp)

@[simp] theorem State.becomeFaulted_pending (s : State) (n at_ : Nat) : (State.becomeFaulted s n at_).pending = s.pending := by
  unfold State.becomeFaulted
  repeat' (first | rfl | split | simp)

@[simp] theorem State.displaceTenant_pending (s : State) (tenant : Nat) : (State.displaceTenant s tenant).pending = s.pending := by
  unfold State.displaceTenant
  try dsimp only
  repeat' (first | rfl | split | intro _ | simp | rw [foldl_pending])

@[simp] theorem State.displaceDue_pending (s : State) (tenant at_ : Nat) : (State.displaceDue s tenant at_).pending = s.pending := by
  unfold State.displaceDue
  repeat' (first | rfl | split | simp)

@[simp] theorem State.faultNow_pending (s : State) (n : Nat) (f : FaultInfo) (second : Bool) : (State.faultNow s n f second).pending = s.pending := by
  unfold State.faultNow
  repeat' (first | rfl | split | simp)

/-! ### Transit -/

@[simp] theorem State.noteParallax_pending (s : State) (n strand : Nat) (k : ParKind) (imm : Bool) (outcome : Nat) : (State.noteParallax s n strand k imm outcome).pending = s.pending := by
  unfold State.noteParallax; simp

@[simp] theorem State.faultCycle_pending (s0 : State) (n : Nat) (f : FaultInfo) (second : Bool) : (State.faultCycle s0 n f second).pending = s0.pending := by
  unfold State.faultCycle
  repeat' (first | rfl | split | simp)

@[simp] theorem faultEach_pending (f : FaultInfo) (l : List Nat) (s : State) : (faultEach f l s).pending = s.pending := by
  induction l generalizing s with
  | nil => rfl
  | cons n ns ih => unfold faultEach; rw [ih]; repeat' (first | rfl | split | simp)

@[simp] theorem State.retireStrand_pending (strand : Nat) (s : State) : (State.retireStrand strand s).pending = s.pending := by
  unfold State.retireStrand; simp

@[simp] theorem State.persistent_pending (s : State) (strand : Nat) : (State.persistent s strand).pending = s.pending := by
  unfold State.persistent
  repeat' (first | rfl | split | simp)

@[simp] theorem State.transitParallax_pending (s : State) (n : Nat) (t : Task) (k : ParKind) : (State.transitParallax s n t k).pending = s.pending := by
  unfold State.transitParallax
  repeat' (first | rfl | split | simp)

@[simp] theorem State.lanternParallax_pending (s : State) (n : Nat) (t : Task) (k : ParKind) : (State.lanternParallax s n t k).pending = s.pending := by
  unfold State.lanternParallax; simp

@[simp] theorem State.commit_pending (s : State) (n : Nat) (w : Windows) (at_ : Nat) (ws : List WriteRec) : (State.commit s n w at_ ws).pending = s.pending := by
  unfold State.commit
  repeat' (first | rfl | split | simp)

@[simp] theorem State.modWd_pending (s : State) (n : Nat) (f : Watchdog → Watchdog) : (State.modWd s n f).pending = s.pending := by
  unfold State.modWd; rfl

@[simp] theorem State.serviceWd_pending (s : State) (n : Nat) : (State.serviceWd s n).pending = s.pending := by
  unfold State.serviceWd
  repeat' (first | rfl | split | simp)

@[simp] theorem ImmRun.deliver_pending (r : ImmRun) (t : Task) (v : Version) (win : Windows) (sends : Bool) (x : ImmRel) :
    (ImmRun.deliver r t v win sends x).s.pending = r.s.pending := by
  unfold ImmRun.deliver
  dsimp only
  refine (foldl_pending _ (fun s b => ?_) _ _).trans ?_
  · repeat' (first | rfl | split | simp)
  · refine (foldl_keep (fun r : ImmRun => r.s.pending) _ (fun r m => ?_) _ _).trans rfl
    dsimp only
    split <;> simp

@[simp] theorem ImmRun.release_pending (r : ImmRun) (t : Task) (sends : Bool) (x : ImmRel) :
    (ImmRun.release r t sends x).s.pending = r.s.pending := by
  unfold ImmRun.release
  dsimp only
  split
  · rfl
  · exact (foldl_keep (fun r : ImmRun => r.s.pending) _ (fun r m => ImmRun.deliver_pending ..) _ _).trans rfl

@[simp] theorem State.releaseImms_pending (s : State) (n : Nat) (t : Task) :
    (State.releaseImms s n t).1.pending = s.pending := by
  unfold State.releaseImms
  simp only [State.modTask_pending, State.countN_pending]
  exact foldl_keep (fun r : ImmRun => r.s.pending) _ (fun r x => ImmRun.release_pending ..) _ _

@[simp] theorem State.diverge_pending (s : State) (n cycle addr : Nat) (own peer : Word) : (State.diverge s n cycle addr own peer).pending = s.pending := by
  unfold State.diverge
  repeat' (first | rfl | split | simp)

@[simp] theorem State.compareSets_pending (s : State) (n : Nat) : (State.compareSets s n).pending = s.pending := by
  unfold State.compareSets
  repeat' (first | rfl | split | simp)

@[simp] theorem State.takeSet_pending (s : State) (t : Task) (at_ : Nat) (ws : WriteSet) : (State.takeSet s t at_ ws).pending = s.pending := by
  unfold State.takeSet
  repeat' (first | rfl | split | simp)

@[simp] theorem State.overrun_pending (s : State) (n : Nat) : (State.overrun s n).pending = s.pending := by
  unfold State.overrun
  repeat' (first | rfl | split | simp)

@[simp] theorem State.transitOk_pending (s : State) (n : Nat) (t : Task) : (State.transitOk s n t).pending = s.pending := by
  unfold State.transitOk
  repeat' (first | rfl | split | simp)

@[simp] theorem State.transit_pending (s : State) (n : Nat) : (State.transit s n).pending = s.pending := by
  unfold State.transit
  repeat' (first | rfl | split | simp)

@[simp] theorem State.queueSections_pending (s : State) (t : Task) : (State.queueSections s t).pending = s.pending := by
  unfold State.queueSections
  try dsimp only
  repeat' (first | rfl | split | intro _ | simp | rw [foldl_pending])

@[simp] theorem State.unqueue_pending (s : State) (t : Task) : (State.unqueue s t).pending = s.pending := by
  unfold State.unqueue; rfl

@[simp] theorem State.assemble_pending (s : State) (t : Task) : (State.assemble s t).pending = s.pending := by
  unfold State.assemble
  try dsimp only
  repeat' (first | rfl | split | intro _ | simp | rw [foldl_pending])

@[simp] theorem State.rebuildQueues_pending (s : State) (from_ : Nat) : (State.rebuildQueues s from_).pending = s.pending := by
  unfold State.rebuildQueues
  try dsimp only
  repeat' (first | rfl | split | intro _ | simp | rw [foldl_pending])

@[simp] theorem State.follow_pending (s : State) (ws : WriteSet) : (State.follow s ws).pending = s.pending := by
  unfold State.follow
  repeat' (first | rfl | split | simp)

/-! ### Cycle -/

@[simp] theorem State.switchTask_pending (s : State) (n m : Nat) : (State.switchTask s n m).pending = s.pending := by
  unfold State.switchTask
  repeat' (first | rfl | split | simp)

@[simp] theorem State.tryComplete_pending (s : State) : (State.tryComplete s).pending = s.pending := by
  unfold State.tryComplete
  try dsimp only
  repeat' (first | rfl | split | intro _ | simp | rw [foldl_pending])

@[simp] theorem State.beginSwitch_pending (s : State) : (State.beginSwitch s).pending = s.pending := by
  unfold State.beginSwitch
  try dsimp only
  repeat' (first | rfl | split | intro _ | simp | rw [foldl_pending])

@[simp] theorem State.switchDue_pending (s : State) : (State.switchDue s).pending = s.pending := by
  unfold State.switchDue
  repeat' (first | rfl | split | simp)

@[simp] theorem State.switchAtPub_pending (s : State) (n m : Nat) : (State.switchAtPub s n m).pending = s.pending := by
  unfold State.switchAtPub
  repeat' (first | rfl | split | simp)

@[simp] theorem State.debugStart_pending (s : State) (n : Nat) : (State.debugStart s n).pending = s.pending := by
  unfold State.debugStart
  repeat' (first | rfl | split | simp)

@[simp] theorem State.openSnapshot_pending (s : State) (n : Nat) : (State.openSnapshot s n).pending = s.pending := by
  unfold State.openSnapshot
  try dsimp only
  repeat' (first | rfl | split | intro _ | simp | rw [foldl_pending])

@[simp] theorem State.sendPort_pending (due : Nat) (s : State) (port : Nat) : (State.sendPort due s port).pending = s.pending := by
  unfold State.sendPort
  try dsimp only
  repeat' (first | rfl | split | intro _ | simp | rw [foldl_pending])

@[simp] theorem State.sendDue_pending (s : State) (due : Nat) : (State.sendDue s due).pending = s.pending := by
  unfold State.sendDue
  try dsimp only
  repeat' (first | rfl | split | intro _ | simp | rw [foldl_pending])

@[simp] theorem State.activateStations_pending (s : State) (m : Nat) (ks : List (Nat × Nat)) : (State.activateStations s m ks).pending = s.pending := by
  unfold State.activateStations
  try dsimp only
  repeat' (first | rfl | split | intro _ | simp | rw [foldl_pending])

@[simp] theorem State.startCycle_pending (s : State) (no m n : Nat) : (State.startCycle s no m n).pending = s.pending := by
  unfold State.startCycle
  repeat' (first | rfl | split | simp)

@[simp] theorem State.dropQ_pending (s : State) (t : Task) (at_ : Nat) : (State.dropQ s t at_).pending = s.pending := by
  unfold State.dropQ
  repeat' (first | rfl | split | simp)

@[simp] theorem State.faultAtPub_pending (s : State) (t : Task) (f : FaultInfo) : (State.faultAtPub s t f).pending = s.pending := by
  unfold State.faultAtPub; simp

@[simp] theorem State.decideOverrun_pending (s : State) (t : Task) : (State.decideOverrun s t).pending = s.pending := by
  unfold State.decideOverrun
  repeat' (first | rfl | split | simp)

@[simp] theorem State.decideParallax_pending (s : State) (t : Task) (p : ParPending) : (State.decideParallax s t p).pending = s.pending := by
  unfold State.decideParallax
  repeat' (first | rfl | split | simp)

@[simp] theorem State.decideWd_pending (s : State) (t : Task) : (State.decideWd s t).pending = s.pending := by
  unfold State.decideWd
  repeat' (first | rfl | split | simp)

@[simp] theorem State.dropWd_pending (s : State) (t : Task) : (State.dropWd s t).pending = s.pending := by
  unfold State.dropWd
  repeat' (first | rfl | split | simp)

@[simp] theorem State.publish_pending (s : State) (t : Task) : (State.publish s t).pending = s.pending := by
  unfold State.publish
  extract_lets n at_ s1 clean late s2 s3 s4 s5 displace s6 s7 s8 s9
  have h1 : s1.pending = s.pending := by
    simp only [s1]; repeat' (first | rfl | split | simp_all)
  have h2 : s2.pending = s1.pending := by
    simp only [s2]; repeat' (first | rfl | split | simp)
  have h3 : s3.pending = s2.pending := by
    simp only [s3]; repeat' (first | rfl | split | simp)
  have h4 : s4.pending = s3.pending := by
    simp only [s4]; repeat' (first | rfl | split | simp)
  have h5 : s5.pending = s4.pending := by
    simp only [s5]; repeat' (first | rfl | split | simp)
  have h6 : s6.pending = s5.pending := by
    simp only [s6]; repeat' (first | rfl | split | simp)
  have h7 : s7.pending = s6.pending := by
    simp only [s7]; repeat' (first | rfl | split | simp)
  have h8 : s8.pending = s7.pending := by
    simp only [s8]; repeat' (first | rfl | split | simp)
  have h9 : s9.pending = s8.pending := by
    simp only [s9]; repeat' (first | rfl | split | simp)
  exact h9.trans (h8.trans (h7.trans (h6.trans (h5.trans (h4.trans (h3.trans (h2.trans h1)))))))

@[simp] theorem State.expirePrivileged_pending (s : State) (unit : Nat) (evidence : Nat) (valid : Bool) : (State.expirePrivileged s unit evidence valid).pending = s.pending := by
  unfold State.expirePrivileged
  repeat' (first | rfl | split | simp)

/-! ### Tick -/

@[simp] theorem State.toNextTick_pending (s : State) : (State.toNextTick s).pending = s.pending := by
  unfold State.toNextTick; rfl

@[simp] theorem State.steerPlant_pending (s : State) : (State.steerPlant s).pending = s.pending := by
  unfold State.steerPlant
  repeat' (first | rfl | split | simp)

@[simp] theorem State.sampleLocal_pending (s : State) (m : LocalSample) : (State.sampleLocal s m).pending = s.pending := by
  unfold State.sampleLocal
  try dsimp only
  repeat' (first | rfl | split | intro _ | simp | rw [foldl_pending])

@[simp] theorem State.sampleCan_pending (s : State) : (State.sampleCan s).pending = s.pending := by
  unfold State.sampleCan; rfl

@[simp] theorem State.stepShare_pending (s : State) : (State.stepShare s).pending = s.pending := by
  unfold State.stepShare
  repeat' (first | rfl | split | simp)

@[simp] theorem State.stepShifts_pending (s : State) (ring : Nat) : (State.stepShifts s ring).pending = s.pending := by
  unfold State.stepShifts
  try dsimp only
  repeat' (first | rfl | split | intro _ | simp | rw [foldl_pending])

@[simp] theorem State.sendRingTime_pending (s : State) (ring : Nat) : (State.sendRingTime s ring).pending = s.pending := by
  unfold State.sendRingTime
  repeat' (first | rfl | split | simp)

@[simp] theorem State.sendClosure_pending (s : State) (ring : Nat) : (State.sendClosure s ring).pending = s.pending := by
  unfold State.sendClosure
  repeat' (first | rfl | split | simp)

@[simp] theorem State.sendHeartbeat_pending (s : State) : (State.sendHeartbeat s).pending = s.pending := by
  unfold State.sendHeartbeat
  repeat' (first | rfl | split | simp)

@[simp] theorem State.numberTrain_pending (s : State) (m : Nat) : (State.numberTrain s m).pending = s.pending := by
  unfold State.numberTrain
  try dsimp only
  repeat' (first | rfl | split | intro _ | simp | rw [foldl_pending])

@[simp] theorem State.serveStation_pending (ring pos k : Nat) (s : State) : (State.serveStation ring pos k s).pending = s.pending := by
  induction k generalizing s with
  | zero => rfl
  | succ k ih =>
    unfold State.serveStation
    dsimp only
    repeat' (first | rfl | split | simp [ih])

@[simp] theorem State.serveAcyc_pending (s : State) (ring : Nat) : (State.serveAcyc s ring).pending = s.pending := by
  unfold State.serveAcyc
  dsimp only
  split
  · rw [State.modRing_pending]; exact foldl_pending _ (fun s x => State.serveStation_pending ..) _ _
  · exact foldl_pending _ (fun s x => State.serveStation_pending ..) _ _

@[simp] theorem State.activateLone_pending (s : State) (ring : Nat) : (State.activateLone s ring).pending = s.pending := by
  unfold State.activateLone; simp

@[simp] theorem State.stepTenants_pending (s : State) : (State.stepTenants s).pending = s.pending := by
  unfold State.stepTenants
  try dsimp only
  repeat' (first | rfl | split | intro _ | simp | rw [foldl_pending])

@[simp] theorem State.tickRings_pending (s : State) : (State.tickRings s).pending = s.pending := by
  unfold State.tickRings
  extract_lets s1 s2 s3 s4 s5
  have h1 : s1.pending = s.pending := by
    simp only [s1]; repeat' (first | rfl | split | simp_all | rw [foldl_pending])
  have h2 : s2.pending = s.pending := by
    simp only [s2]; repeat' (first | rfl | split | simp_all | rw [foldl_pending])
  have h3 : s3.pending = s.pending := by
    simp only [s3]; repeat' (first | rfl | split | simp_all | rw [foldl_pending])
  have h4 : s4.pending = s.pending := by
    simp only [s4]; repeat' (first | rfl | split | simp_all | rw [foldl_pending])
  have h5 : s5.pending = s.pending := by
    simp only [s5]; repeat' (first | rfl | split | simp_all | rw [foldl_pending])
  repeat' (first | rfl | split | simp_all | rw [foldl_pending])

@[simp] theorem State.stepJoin_pending (s0 : State) : (State.stepJoin s0).pending = s0.pending := by
  unfold State.stepJoin
  repeat' (first | rfl | split | simp)

@[simp] theorem State.stepHoldoff_pending (s : State) : (State.stepHoldoff s).pending = s.pending := by
  unfold State.stepHoldoff
  repeat' (first | rfl | split | simp)

@[simp] theorem State.undrive_pending (s : State) : (State.undrive s).pending = s.pending := by
  unfold State.undrive
  repeat' (first | rfl | split | simp)

@[simp] theorem State.stepLantern_pending (s : State) : (State.stepLantern s).pending = s.pending := by
  unfold State.stepLantern
  repeat' (first | rfl | split | simp)

/-! ### Rings -/

@[simp] theorem State.offerAcyc_pending (s : State) (req : AcycReq) (ticket : Option Ticket) (purpose : Nat) : (State.offerAcyc s req ticket purpose).pending = s.pending := by
  unfold State.offerAcyc
  repeat' (first | rfl | split | simp)

@[simp] theorem State.forwardAcyc_pending (s : State) (req : AcycReq) (ticket : Ticket) : (State.forwardAcyc s req ticket).pending = s.pending := by
  unfold State.forwardAcyc; rfl

@[simp] theorem State.awaitAnswers_pending (s : State) (ring : Nat) (f : OutFrame) : (State.awaitAnswers s ring f).pending = s.pending := by
  unfold State.awaitAnswers; rfl

@[simp] theorem State.refuseStation_pending (s : State) (ring pos cause : Nat) : (State.refuseStation s ring pos cause).pending = s.pending := by
  unfold State.refuseStation; simp

@[simp] theorem State.checkStation_pending (s : State) (ring pos : Nat) : (State.checkStation s ring pos).pending = s.pending := by
  unfold State.checkStation
  repeat' (first | rfl | split | simp)

@[simp] theorem State.updateCut_pending (s : State) (ring : Nat) : (State.updateCut s ring).pending = s.pending := by
  unfold State.updateCut
  repeat' (first | rfl | split | simp)

@[simp] theorem State.seePair_pending (s : State) (epoch : Nat) (side : Side) : (State.seePair s epoch side).pending = s.pending := by
  unfold State.seePair
  repeat' (first | rfl | split | simp)

@[simp] theorem State.takeDelays_pending (s : State) (ring : Nat) (delays : List Nat) : (State.takeDelays s ring delays).pending = s.pending := by
  unfold State.takeDelays; rfl

@[simp] theorem State.mismatchReport_pending (s : State) (ring pos : Nat) (m : Mismatch) : (State.mismatchReport s ring pos m).pending = s.pending := by
  unfold State.mismatchReport
  repeat' (first | rfl | split | simp)

@[simp] theorem State.takeStatus_pending (s : State) (ring : Nat) (x : StatusSec) : (State.takeStatus s ring x).pending = s.pending := by
  unfold State.takeStatus
  try dsimp only
  repeat' (first | rfl | split | intro _ | simp | rw [foldl_pending])

@[simp] theorem State.endResponse_pending (s : State) (ring : Nat) (x : Acyc) (r : AcycRsp) : (State.endResponse s ring x r).pending = s.pending := by
  unfold State.endResponse
  repeat' (first | rfl | split | simp)

@[simp] theorem State.endMirrored_pending (s : State) (ring : Nat) (r : AcycRsp) : (State.endMirrored s ring r).pending = s.pending := by
  unfold State.endMirrored
  repeat' (first | rfl | split | simp)

@[simp] theorem State.takeResponse_pending (s : State) (ring : Nat) (r : AcycRsp) : (State.takeResponse s ring r).pending = s.pending := by
  unfold State.takeResponse
  repeat' (first | rfl | split | simp)

@[simp] theorem State.selftestFail_pending (s : State) : (State.selftestFail s).pending = s.pending := by
  unfold State.selftestFail
  repeat' (first | rfl | split | simp)

@[simp] theorem State.selftestPass_pending (s : State) : (State.selftestPass s).pending = s.pending := by
  unfold State.selftestPass; rfl

/-! ### Time -/

@[simp] theorem State.fireAlarm_pending (s : State) (no : Nat) (done at_ : Nat) : (State.fireAlarm s no done at_).pending = s.pending := by
  unfold State.fireAlarm; simp

@[simp] theorem State.fireHeld_pending (s : State) (v : Nat) : (State.fireHeld s v).pending = s.pending := by
  unfold State.fireHeld
  try dsimp only
  repeat' (first | rfl | split | intro _ | simp | rw [foldl_pending])

@[simp] theorem State.initPlant_pending (s : State) (v rate : Int) : (State.initPlant s v rate).pending = s.pending := by
  unfold State.initPlant
  repeat' (first | rfl | split | simp)

@[simp] theorem State.takeUtc_pending (s : State) : (State.takeUtc s).pending = s.pending := by
  unfold State.takeUtc
  repeat' (first | rfl | split | simp)

@[simp] theorem State.selectDomain_pending (s : State) (d : Nat) : (State.selectDomain s d).pending = s.pending := by
  unfold State.selectDomain
  repeat' (first | rfl | split | simp)

@[simp] theorem State.restartDomain_pending (s : State) (d : Nat) : (State.restartDomain s d).pending = s.pending := by
  unfold State.restartDomain; rfl

@[simp] theorem State.ptpChange_pending (s : State) (d state : Nat) : (State.ptpChange s d state).pending = s.pending := by
  unfold State.ptpChange; simp

@[simp] theorem State.applySync_pending (s : State) (d : Nat) (rx : Nat) (stamp correction rate : Int) (port : Nat) : (State.applySync s d rx stamp correction rate port).pending = s.pending := by
  unfold State.applySync
  refine ite_keep (·.pending) ?_ ?_
  · exact State.record_pending ..
  · refine ite_keep (·.pending) ((State.initPlant_pending ..).trans ?_) ?_ <;> exact ite_keep (·.pending) (State.ptpChange_pending ..) rfl

@[simp] theorem State.ptpSend_pending (s : State) (m : PtpOut) : (State.ptpSend s m).pending = s.pending := by
  unfold State.ptpSend
  repeat' (first | rfl | split | simp)

@[simp] theorem State.ptpForward_pending (s : State) (d : Nat) (kind : Nat) (m : PtpMsg) : (State.ptpForward s d kind m).pending = s.pending := by
  unfold State.ptpForward
  repeat' (first | rfl | split | simp)

@[simp] theorem State.linkAlone_pending (s : State) : (State.linkAlone s).pending = s.pending := by
  unfold State.linkAlone
  repeat' (first | rfl | split | simp)

@[simp] theorem State.seenOnRing_pending (s : State) : (State.seenOnRing s).pending = s.pending := by
  unfold State.seenOnRing; simp

@[simp] theorem State.followFrame_pending (s : State) (theirs : Nat) : (State.followFrame s theirs).pending = s.pending := by
  unfold State.followFrame
  repeat' (first | rfl | split | simp)

@[simp] theorem State.checkShifts_pending (s : State) (ring tick : Nat) (shifts : List (Nat × Nat)) : (State.checkShifts s ring tick shifts).pending = s.pending := by
  unfold State.checkShifts
  repeat' (first | rfl | split | simp)

@[simp] theorem State.takeHealth_pending (s : State) (health : BitVec 64) (epoch : Nat) : (State.takeHealth s health epoch).pending = s.pending := by
  unfold State.takeHealth
  repeat' (first | rfl | split | simp)

/-! ### LocalChannels -/

@[simp] theorem State.setDoFault_pending (s : State) (on : Bool) : (State.setDoFault s on).pending = s.pending := by
  unfold State.setDoFault
  repeat' (first | rfl | split | simp)

@[simp] theorem State.modAo_pending (s : State) (ch : Nat) (f : AoCh → AoCh) : (State.modAo s ch f).pending = s.pending := by
  unfold State.modAo; rfl

@[simp] theorem State.modHart_pending (s : State) (ch : Nat) (f : HartCh → HartCh) : (State.modHart s ch f).pending = s.pending := by
  unfold State.modHart; rfl

@[simp] theorem State.hartNext_pending (s : State) (ch : Nat) : (State.hartNext s ch).pending = s.pending := by
  unfold State.hartNext
  repeat' (first | rfl | split | simp)

/-! ### Can -/

@[simp] theorem State.canFilter_pending (s : State) (k : Nat) (f : CanFrame) (rx : Nat) : (State.canFilter s k f rx).pending = s.pending := by
  unfold State.canFilter
  repeat' (first | rfl | split | simp)

@[simp] theorem State.canViolation_pending (s : State) (k : Nat) (f : CanFrame) (t : Nat) : (State.canViolation s k f t).pending = s.pending := by
  unfold State.canViolation
  repeat' (first | rfl | split | simp)

@[simp] theorem State.canGone_pending (s : State) (k : Nat) (f : CanFrame) (status : Nat) (body : List Byte) : (State.canGone s k f status body).pending = s.pending := by
  unfold State.canGone
  repeat' (first | rfl | split | simp)

@[simp] theorem State.canSeen_pending (s : State) (k : Nat) (f : CanFrame) : (State.canSeen s k f).pending = s.pending := by
  unfold State.canSeen
  repeat' (first | rfl | split | simp)

@[simp] theorem State.canLost_pending (s : State) (k : Nat) (f : CanFrame) : (State.canLost s k f).pending = s.pending := by
  unfold State.canLost; simp

@[simp] theorem State.canLose_pending (s : State) (k : Nat) (x : CanTx) : (State.canLose s k x).pending = s.pending := by
  unfold State.canLose
  repeat' (first | rfl | split | simp)

@[simp] theorem State.setRedundant_pending (s : State) (k : Nat) (on : Bool) : (State.setRedundant s k on).pending = s.pending := by
  unfold State.setRedundant
  repeat' (first | rfl | split | simp)

@[simp] theorem State.canFault_pending (s : State) (k : Nat) : (State.canFault s k).pending = s.pending := by
  unfold State.canFault
  repeat' (first | rfl | split | simp)

@[simp] theorem State.canLoseAll_pending (s : State) (k : Nat) : (State.canLoseAll s k).pending = s.pending := by
  unfold State.canLoseAll
  try dsimp only
  repeat' (first | rfl | split | intro _ | simp | rw [foldl_pending])

@[simp] theorem State.sendReference_pending (s : State) (k : Nat) : (State.sendReference s k).pending = s.pending := by
  unfold State.sendReference; rfl

@[simp] theorem State.queueObject_pending (s : State) (k : Nat) (o : CanObject) (timed : Bool) : (State.queueObject s k o timed).pending = s.pending := by
  unfold State.queueObject; rfl

@[simp] theorem State.restartCan_pending (s : State) (k : Nat) : (State.restartCan s k).pending = s.pending := by
  unfold State.restartCan; simp

/-! ### Pace -/

@[simp] theorem State.raiseVcore_pending (s : State) : (State.raiseVcore s).pending = s.pending := by
  unfold State.raiseVcore
  repeat' (first | rfl | split | simp)

@[simp] theorem State.lowerVcore_pending (s : State) : (State.lowerVcore s).pending = s.pending := by
  unfold State.lowerVcore
  repeat' (first | rfl | split | simp)

@[simp] theorem State.regulate_pending (s : State) : (State.regulate s).pending = s.pending := by
  unfold State.regulate
  repeat' (first | rfl | split | simp)

@[simp] theorem State.judgePace_pending (s : State) (strand : Nat) : (State.judgePace s strand).pending = s.pending := by
  unfold State.judgePace
  repeat' (first | rfl | split | simp)

@[simp] theorem State.judgeMargin_pending (s : State) (strand : Nat) : (State.judgeMargin s strand).pending = s.pending := by
  unfold State.judgeMargin
  repeat' (first | rfl | split | simp)

@[simp] theorem State.faultUnit_pending (s : State) (unit : Nat) : (State.faultUnit s unit).pending = s.pending := by
  unfold State.faultUnit
  repeat' (first | rfl | split | simp)

@[simp] theorem State.resetLink_pending (s : State) : (State.resetLink s).pending = s.pending := by
  unfold State.resetLink
  repeat' (first | rfl | split | simp)

@[simp] theorem State.flushCrossing_pending (s : State) (unit : Nat) : (State.flushCrossing s unit).pending = s.pending := by
  unfold State.flushCrossing; simp

/-! ### Units -/

@[simp] theorem State.setValues_pending (s : State) (unit : Nat) (vs : List (Nat × Int)) : (State.setValues s unit vs).pending = s.pending := by
  unfold State.setValues
  repeat' (first | rfl | split | simp)

@[simp] theorem State.reclock_pending (s : State) (unit : Nat) : (State.reclock s unit).pending = s.pending := by
  unfold State.reclock
  repeat' (first | rfl | split | simp)

@[simp] theorem State.applyPair_pending (s : State) (unit : Nat) (vs : List (Nat × Int)) : (State.applyPair s unit vs).pending = s.pending := by
  unfold State.applyPair
  repeat' (first | rfl | split | simp)

@[simp] theorem State.restartSelection_pending (s : State) : (State.restartSelection s).pending = s.pending := by
  unfold State.restartSelection
  repeat' (first | rfl | split | simp)

@[simp] theorem State.startUnit_pending (s : State) (unit : Nat) : (State.startUnit s unit).pending = s.pending := by
  unfold State.startUnit
  repeat' (first | rfl | split | simp)

@[simp] theorem State.restartUnit_pending (s : State) (unit : Nat) : (State.restartUnit s unit).pending = s.pending := by
  unfold State.restartUnit
  repeat' (first | rfl | split | simp)

@[simp] theorem State.loseQuiesce_pending (s : State) (unit : Nat) : (State.loseQuiesce s unit).pending = s.pending := by
  unfold State.loseQuiesce; simp

@[simp] theorem State.abortChange_pending (s : State) (result : Nat) : (State.abortChange s result).pending = s.pending := by
  unfold State.abortChange
  repeat' (first | rfl | split | simp)

@[simp] theorem State.releaseSlot_pending (s : State) (holder : Nat) : (State.releaseSlot s holder).pending = s.pending := by
  unfold State.releaseSlot
  repeat' (first | rfl | split | simp)

@[simp] theorem State.takeSlot_pending (s : State) (holder id : Nat) : (State.takeSlot s holder id).pending = s.pending := by
  unfold State.takeSlot
  repeat' (first | rfl | split | simp)

@[simp] theorem State.abortUpdate_pending (s : State) : (State.abortUpdate s).pending = s.pending := by
  unfold State.abortUpdate
  repeat' (first | rfl | split | simp)

@[simp] theorem State.closeSession_pending (s : State) (no : Nat) : (State.closeSession s no).pending = s.pending := by
  unfold State.closeSession
  try dsimp only
  repeat' (first | rfl | split | intro _ | simp | rw [foldl_pending])

@[simp] theorem State.endUpdate_pending (s : State) (result cause : Nat) : (State.endUpdate s result cause).pending = s.pending := by
  unfold State.endUpdate; simp

@[simp] theorem State.updateLeft_pending (s : State) : (State.updateLeft s).pending = s.pending := by
  unfold State.updateLeft
  repeat' (first | rfl | split | simp)

@[simp] theorem State.updateHandover_pending (s : State) : (State.updateHandover s).pending = s.pending := by
  unfold State.updateHandover
  repeat' (first | rfl | split | simp)

@[simp] theorem State.updateJoined_pending (s : State) : (State.updateJoined s).pending = s.pending := by
  unfold State.updateJoined
  repeat' (first | rfl | split | simp)

@[simp] theorem State.updateSwapped_pending (s : State) : (State.updateSwapped s).pending = s.pending := by
  unfold State.updateSwapped
  repeat' (first | rfl | split | simp)

@[simp] theorem State.updateOrphaned_pending (s : State) : (State.updateOrphaned s).pending = s.pending := by
  unfold State.updateOrphaned
  repeat' (first | rfl | split | simp)

@[simp] theorem State.startProof_pending (s : State) : (State.startProof s).pending = s.pending := by
  unfold State.startProof; simp

@[simp] theorem State.forceRecord_pending (s : State) (ordinal : Nat) (f : Force) (session : Nat) : (State.forceRecord s ordinal f session).pending = s.pending := by
  unfold State.forceRecord; rfl

@[simp] theorem State.applyForces_pending (s : State) (q : ForceReq) : (State.applyForces s q).pending = s.pending := by
  unfold State.applyForces
  try dsimp only
  repeat' (first | rfl | split | intro _ | simp | rw [foldl_pending])

@[simp] theorem State.applyGate_pending (s : State) (w : GateWrite) : (State.applyGate s w).pending = s.pending := by
  unfold State.applyGate; simp

@[simp] theorem State.applyRevoke_pending (s : State) (serial : Word) : (State.applyRevoke s serial).pending = s.pending := by
  unfold State.applyRevoke
  try dsimp only
  repeat' (first | rfl | split | intro _ | simp | rw [foldl_pending])

@[simp] theorem State.startTasks_pending (s : State) (tenant mask start0 : Nat) : (State.startTasks s tenant mask start0).pending = s.pending := by
  unfold State.startTasks
  try dsimp only
  repeat' (first | rfl | split | intro _ | simp | rw [foldl_pending])

@[simp] theorem State.stopTasks_pending (s : State) (tenant mask : Nat) : (State.stopTasks s tenant mask).pending = s.pending := by
  unfold State.stopTasks
  try dsimp only
  repeat' (first | rfl | split | intro _ | simp | rw [foldl_pending])

@[simp] theorem State.unload_pending (s0 : State) (tenant : Nat) : (State.unload s0 tenant).pending = s0.pending := by
  unfold State.unload
  try dsimp only
  repeat' (first | rfl | split | intro _ | simp | rw [foldl_pending])

@[simp] theorem State.ackHealth_pending (s : State) (mask : BitVec 64) : (State.ackHealth s mask).pending = s.pending := by
  unfold State.ackHealth; rfl

@[simp] theorem State.canRestarted_pending (s : State) (k : Nat) : (State.canRestarted s k).pending = s.pending := by
  unfold State.canRestarted
  repeat' (first | rfl | split | simp)

@[simp] theorem State.canUnlike_pending (s : State) (k : Nat) : (State.canUnlike s k).pending = s.pending := by
  unfold State.canUnlike
  repeat' (first | rfl | split | simp)

/-! ### Gelit -/

@[simp] theorem State.useKey_pending (s : State) (session : Nat) : (State.useKey s session).pending = s.pending := by
  unfold State.useKey; rfl

theorem State.throughGate_pending (s : State) (r : Req) (gate granule kind : Nat) (run : Answer)
    (hr : run.All fun t => t.pending = s.pending) : (State.throughGate s r gate granule kind run).All fun t => t.pending = s.pending := by
  unfold State.throughGate
  split
  · simp_all
  · exact hr

@[simp] theorem State.accept_pending (s : State) (r : Req) : (State.accept s r).pending = s.pending := by
  unfold State.accept; rfl

@[simp] theorem State.answer_pending (s : State) (k : Ticket) (a : Answer) (n : List Instr) (h : s.pending = n)
    (ha : a.All fun t => t.pending = n) : (State.answer s k a).pending = n := by
  unfold State.answer
  split
  · simp_all
  · simp_all
  · simp_all

@[simp] theorem State.closeLast_pending (s : State) (no : Nat) : (State.closeLast s no).pending = s.pending := by
  unfold State.closeLast
  repeat' (first | rfl | split | simp)

theorem State.receive_pending (s : State) (c : Cmd) (v : Brought) (r : Req) (body : State → Ticket → Answer)
    (hb : ∀ t k, (body t k).All fun u => u.pending = t.pending) : (State.receive s c v r body).pending = s.pending := by
  unfold State.receive
  have h := hb (s.accept r) (r.ticket c)
  split
  all_goals first | (simp_all; done) | skip
  split <;> simp_all

/-! ### Chunks -/

@[simp] theorem State.forwardChunk_pending (s : State) (select : Nat) (c : Chunk) : (State.forwardChunk s select c).pending = s.pending := by
  unfold State.forwardChunk
  repeat' (first | rfl | split | simp)

/-! ### Loader -/

@[simp] theorem State.install_pending (s : State) (tenant : Nat) (v : Version) (a : Admitted) : (State.install s tenant v a).pending = s.pending := by
  unfold State.install; rfl

/-! ### Checks -/

@[simp] theorem State.takeLoad_pending (s : State) (w : CheckWait) : (State.takeLoad s w).pending = s.pending := by
  unfold State.takeLoad; simp

@[simp] theorem State.takeChange_pending (s : State) (w : CheckWait) : (State.takeChange s w).pending = s.pending := by
  unfold State.takeChange; simp

@[simp] theorem State.failChange_pending (s : State) (f : ChangeFail) : (State.failChange s f).pending = s.pending := by
  unfold State.failChange
  repeat' (first | rfl | split | simp)

@[simp] theorem State.takeCheck_pending (s : State) (w : CheckWait) : (State.takeCheck s w).pending = s.pending := by
  unfold State.takeCheck
  repeat' (first | rfl | split | simp)

@[simp] theorem State.failLoad_pending (s : State) (tenant : Nat) : (State.failLoad s tenant).pending = s.pending := by
  unfold State.failLoad; rfl

@[simp] theorem State.disagree_pending (s : State) (w : CheckWait) : (State.disagree s w).pending = s.pending := by
  unfold State.disagree
  repeat' (first | rfl | split | simp)

@[simp] theorem State.askPartner_pending (s : State) (w : CheckWait) : (State.askPartner s w).pending = s.pending := by
  unfold State.askPartner
  repeat' (first | rfl | split | simp)

@[simp] theorem State.checksAlone_pending (s : State) : (State.checksAlone s).pending = s.pending := by
  unfold State.checksAlone
  try dsimp only
  repeat' (first | rfl | split | intro _ | simp | rw [foldl_pending])

/-! ### PairEvents -/

@[simp] theorem State.tryOwn_pending (s : State) : (State.tryOwn s).pending = s.pending := by
  unfold State.tryOwn
  repeat' (first | rfl | split | simp)

@[simp] theorem State.showMismatch_pending (s : State) (h : Hold) : (State.showMismatch s h).pending = s.pending := by
  unfold State.showMismatch; simp

@[simp] theorem State.leaveLantern_pending (s : State) (peer : Option PeerIdent) : (State.leaveLantern s peer).pending = s.pending := by
  unfold State.leaveLantern
  repeat' (first | rfl | split | simp)

@[simp] theorem State.startUnits_pending (s : State) : (State.startUnits s).pending = s.pending := by
  unfold State.startUnits
  try dsimp only
  repeat' (first | rfl | split | intro _ | simp | rw [foldl_pending])

@[simp] theorem State.takeTransfer_pending (s : State) (x : Transfer) : (State.takeTransfer s x).pending = s.pending := by
  unfold State.takeTransfer; simp

@[simp] theorem State.abortJoin_pending (s : State) (next : State → State) (hn : ∀ t, (next t).pending = t.pending) :
    (State.abortJoin s next).pending = s.pending := by
  unfold State.abortJoin
  dsimp only
  split <;> simp_all

@[simp] theorem State.ownerLost_pending (s : State) : (State.ownerLost s).pending = s.pending := by
  unfold State.ownerLost; simp

@[simp] theorem State.endProof_pending (s : State) : (State.endProof s).pending = s.pending := by
  unfold State.endProof; simp

@[simp] theorem State.loseLane_pending (s : State) (lane : Nat) : (State.loseLane s lane).pending = s.pending := by
  unfold State.loseLane
  repeat' (first | rfl | split | simp)

@[simp] theorem State.failPower_pending (s : State) : (State.failPower s).pending = s.pending := by
  unfold State.failPower
  repeat' (first | rfl | split | simp)

@[simp] theorem State.feedChange_pending (s : State) (feed : Nat) (on : Bool) : (State.feedChange s feed on).pending = s.pending := by
  unfold State.feedChange
  repeat' (first | rfl | split | simp)

@[simp] theorem State.takeOver_pending (s : State) (c : Cause) : (State.takeOver s c).pending = s.pending := by
  unfold State.takeOver; simp

@[simp] theorem State.giveOwnership_pending (s : State) (x : Handover) : (State.giveOwnership s x).pending = s.pending := by
  unfold State.giveOwnership
  extract_lets s1 restart s2
  have h2 : s2.pending = s.pending := by
    simp only [s2, s1, State.finishOpt_pending, State.ownerToStandby_pending, State.modPair_pending, State.hartLeave_pending]
  repeat' (first | assumption | split | simp_all)

@[simp] theorem State.rejoin_pending (s : State) : (State.rejoin s).pending = s.pending := by
  unfold State.rejoin; simp

/-! ### Bringup -/

@[simp] theorem State.powerUp_pending (s : State) : (State.powerUp s).pending = s.pending := by
  unfold State.powerUp; simp

@[simp] theorem State.beginFetch_pending (s : State) (part : Nat) : (State.beginFetch s part).pending = s.pending := by
  unfold State.beginFetch
  repeat' (first | rfl | split | simp)

@[simp] theorem State.partInvalid_pending (s : State) : (State.partInvalid s).pending = s.pending := by
  unfold State.partInvalid; rfl

@[simp] theorem State.takeLanternNext_pending (s : State) : (State.takeLanternNext s).pending = s.pending := by
  unfold State.takeLanternNext
  repeat' (first | rfl | split | simp)

@[simp] theorem State.leverStops_pending (s : State) : (State.leverStops s).pending = s.pending := by
  unfold State.leverStops
  repeat' (first | rfl | split | simp)

@[simp] theorem State.keyAtLever_pending (s : State) : (State.keyAtLever s).pending = s.pending := by
  unfold State.keyAtLever
  repeat' (first | rfl | split | simp)

/-! ### Keys -/

@[simp] theorem State.submit_pending (s : State) (ops : List SigOp) : (State.submit s ops).pending = s.pending := by
  unfold State.submit; rfl

@[simp] theorem State.failedAttempt_pending (s : State) (serial : Word) (reason : Nat) : (State.failedAttempt s serial reason).pending = s.pending := by
  unfold State.failedAttempt
  repeat' (first | rfl | split | simp)

@[simp] theorem State.keyPresent_pending (s : State) (c : Credential) : (State.keyPresent s c).pending = s.pending := by
  unfold State.keyPresent; simp

/-! ### Sessions -/

@[simp] theorem State.commandTestHold_pending (s : State) : (State.commandTestHold s).pending = s.pending := by
  unfold State.commandTestHold; simp

/-! ### FuncUnits -/

@[simp] theorem State.quiesceUnit_pending (s : State) (unit session : Nat) : (State.quiesceUnit s unit session).pending = s.pending := by
  unfold State.quiesceUnit
  repeat' (first | rfl | split | simp)

/-! ### RingCommands -/

@[simp] theorem State.ringAcyclic_pending (s : State) (r : Req) : (State.ringAcyclic s r).pending = s.pending := by
  unfold State.ringAcyclic
  apply State.receive_pending
  intro t k
  repeat' (first | exact trivial | assumption | (apply Answer.all_bind; intro _ _) | (rw [Answer.all_ok]; repeat' (first | assumption | rfl | split | simp_all)) | rfl | split | simp_all)

/-! ### LocalCommands -/

@[simp] theorem State.canLostNow_pending (s : State) (k : Nat) : (State.canLostNow s k).pending = s.pending := by
  unfold State.canLostNow; rfl

/-! ### Updates -/

@[simp] theorem State.activate_pending (s : State) (r : Req) : (State.activate s r).pending = s.pending := by
  unfold State.activate
  apply State.receive_pending
  intro t k
  repeat' (first | exact trivial | assumption | (apply Answer.all_bind; intro _ _) | (rw [Answer.all_ok]; repeat' (first | assumption | rfl | split | simp_all)) | rfl | split | simp_all)

@[simp] theorem State.writeRecord_pending (s : State) : (State.writeRecord s).pending = s.pending := by
  unfold State.writeRecord; rfl

/-! ### AlmanacCommands -/

@[simp] theorem State.clearAlmanac_pending (s : State) (bound serial session : Nat) : (State.clearAlmanac s bound serial session).pending = s.pending := by
  unfold State.clearAlmanac; rfl

/-! ### Process -/

theorem State.readData_pending (s : State) (r : Req) (prov : Bool) : (State.readData s r prov).All fun t => t.pending = s.pending := by
  unfold State.readData
  repeat' (first | exact trivial | assumption | (apply Answer.all_bind; intro _ _) | (rw [Answer.all_ok]; repeat' (first | assumption | rfl | split | simp_all)) | rfl | split | simp_all)

@[simp] theorem State.takeForces_pending (s : State) (q : ForceReq) : (State.takeForces s q).pending = s.pending := by
  unfold State.takeForces
  repeat' (first | rfl | split | simp)

/-! ### Debug -/

@[simp] theorem State.openDebug_pending (s : State) (tenant session : Nat) : (State.openDebug s tenant session).pending = s.pending := by
  unfold State.openDebug; simp

theorem State.debugDo_pending (s : State) (k : Ticket) (d : DebugSt) (op task offset : Nat) :
    (State.debugDo s k d op task offset).All fun t => t.pending = s.pending := by
  unfold State.debugDo
  dsimp only
  repeat' (first | exact trivial | assumption | rfl | split | simp_all)

@[simp] theorem State.debugControl_pending (s : State) (r : Req) : (State.debugControl s r).pending = s.pending := by
  unfold State.debugControl
  apply State.receive_pending
  intro t k
  repeat' (first | exact trivial | assumption | apply State.debugDo_pending | (apply Answer.all_bind; intro _ _) | rfl | split | simp_all)

/-! ### TestPort -/

@[simp] theorem State.tapSelect_pending (s : State) (code acts : Nat) : (State.tapSelect s code acts).pending = s.pending := by
  unfold State.tapSelect; rfl

@[simp] theorem State.driveTake_pending (s : State) : (State.driveTake s).pending = s.pending := by
  unfold State.driveTake
  try dsimp only
  repeat' (first | rfl | split | intro _ | simp | rw [foldl_pending])

@[simp] theorem State.drive_pending (s : State) (code otherwise_ : Nat) (cells : List Bool) (deny : Tap → Tap) : (State.drive s code otherwise_ cells deny).pending = s.pending := by
  unfold State.drive
  repeat' (first | rfl | split | simp)

@[simp] theorem State.tapOn_pending (s t : State) (h : t.pending = s.pending) : (State.tapOn s t).pending = s.pending := by
  unfold State.tapOn; split <;> simp_all

end Sys2Proof.Machine
end

