-- ==== Sys2Proof/Laws/VcoreKept.lean ====
section
/-! SUPPORT. Laws of VCORE_CODE: what leaves it as it is, and what keeps it at 40 or less (R36): one lemma per operation, in the order of the modules. -/
namespace Sys2Proof.Machine

/-- The same of a fold over states. -/
theorem foldl_code {α : Type} (f : State → α → State) (h : ∀ s x, (f s x).vcore.code = s.vcore.code) (xs : List α) (s : State) :
    (xs.foldl f s).vcore.code = s.vcore.code := by
  induction xs generalizing s with
  | nil => rfl
  | cons x xs ih => rw [List.foldl_cons, ih, h]
/-- The same of a fold over states. -/
theorem foldl_le {α : Type} (f : State → α → State) (xs : List α) (s : State) (hs : s.vcore.code ≤ 40)
    (h : ∀ s x, s.vcore.code ≤ 40 → (f s x).vcore.code ≤ 40) :
    (xs.foldl f s).vcore.code ≤ 40 := by
  induction xs generalizing s with
  | nil => exact hs
  | cons x xs ih => rw [List.foldl_cons]; exact ih _ (h _ _ hs)

/-! ### Ops -/

@[simp] theorem State.modTask_code (s : State) (n : Nat) (f : Task → Task) : (State.modTask s n f).vcore.code = s.vcore.code := by
  unfold State.modTask; rfl

@[simp] theorem State.modTenant_code (s : State) (n : Nat) (f : Tenant → Tenant) : (State.modTenant s n f).vcore.code = s.vcore.code := by
  unfold State.modTenant; rfl

@[simp] theorem State.modStrand_code (s : State) (n : Nat) (f : StrandSt → StrandSt) : (State.modStrand s n f).vcore.code = s.vcore.code := by
  unfold State.modStrand; rfl

@[simp] theorem State.modRing_code (s : State) (n : Nat) (f : Ring → Ring) : (State.modRing s n f).vcore.code = s.vcore.code := by
  unfold State.modRing; rfl

@[simp] theorem State.modPort_code (s : State) (n : Nat) (f : Port → Port) : (State.modPort s n f).vcore.code = s.vcore.code := by
  unfold State.modPort; rfl

@[simp] theorem State.modStation_code (s : State) (ring pos : Nat) (f : StationView → StationView) : (State.modStation s ring pos f).vcore.code = s.vcore.code := by
  unfold State.modStation; rfl

@[simp] theorem State.modCan_code (s : State) (k : Nat) (f : CanCtl → CanCtl) : (State.modCan s k f).vcore.code = s.vcore.code := by
  unfold State.modCan; rfl

@[simp] theorem State.modDomain_code (s : State) (d : Nat) (f : Domain → Domain) : (State.modDomain s d f).vcore.code = s.vcore.code := by
  unfold State.modDomain; rfl

@[simp] theorem State.modPair_code (s : State) (f : Pair → Pair) : (State.modPair s f).vcore.code = s.vcore.code := by
  unfold State.modPair; rfl

@[simp] theorem State.modIo_code (s : State) (f : LocalIo → LocalIo) : (State.modIo s f).vcore.code = s.vcore.code := by
  unfold State.modIo; rfl

@[simp] theorem State.modFront_code (s : State) (f : Front → Front) : (State.modFront s f).vcore.code = s.vcore.code := by
  unfold State.modFront; rfl

@[simp] theorem State.modLantern_code (s : State) (f : Lantern → Lantern) : (State.modLantern s f).vcore.code = s.vcore.code := by
  unfold State.modLantern; rfl

@[simp] theorem State.modTime_code (s : State) (f : TimeUnit → TimeUnit) : (State.modTime s f).vcore.code = s.vcore.code := by
  unfold State.modTime; rfl

@[simp] theorem State.modUpdate_code (s : State) (f : Update → Update) : (State.modUpdate s f).vcore.code = s.vcore.code := by
  unfold State.modUpdate; rfl

@[simp] theorem State.modReader_code (s : State) (f : Reader → Reader) : (State.modReader s f).vcore.code = s.vcore.code := by
  unfold State.modReader; rfl

@[simp] theorem State.modKeys_code (s : State) (f : KeyUnit → KeyUnit) : (State.modKeys s f).vcore.code = s.vcore.code := by
  unfold State.modKeys; rfl

@[simp] theorem State.modVcore_code (s : State) (f : Vcore → Vcore) : (State.modVcore s f).vcore.code = (f s.vcore).code := rfl

@[simp] theorem State.setCode_code (s : State) (n : Nat) : (State.setCode s n).vcore.code = n := rfl

@[simp] theorem State.restVcore_le (s : State) (h : s.vcore.code ≤ 40) : (State.restVcore s).vcore.code ≤ 40 := by
  unfold State.restVcore
  split
  · exact h
  · exact Nat.zero_le 40

@[simp] theorem State.modLink_code (s : State) (f : Link → Link) : (State.modLink s f).vcore.code = s.vcore.code := by
  unfold State.modLink; rfl

@[simp] theorem State.modChange_code (s : State) (f : Change → Change) : (State.modChange s f).vcore.code = s.vcore.code := by
  unfold State.modChange; rfl

@[simp] theorem State.modTap_code (s : State) (f : Tap → Tap) : (State.modTap s f).vcore.code = s.vcore.code := by
  unfold State.modTap; rfl

@[simp] theorem State.modFeeds_code (s : State) (f : Feeds → Feeds) : (State.modFeeds s f).vcore.code = s.vcore.code := by
  unfold State.modFeeds; rfl

@[simp] theorem State.modSettings_code (s : State) (f : Settings → Settings) : (State.modSettings s f).vcore.code = s.vcore.code := by
  unfold State.modSettings; rfl

@[simp] theorem State.advanceTo_code (s : State) (t : Nat) : (State.advanceTo s t).vcore.code = s.vcore.code := by
  unfold State.advanceTo
  repeat' (first | rfl | split | simp)

@[simp] theorem State.record_code (s : State) (rule ordinal severity source tenant : Nat) (data : List (Nat × Nat)) : (State.record s rule ordinal severity source tenant data).vcore.code = s.vcore.code := by
  unfold State.record; rfl

@[simp] theorem State.count_code (s : State) (source : Nat) : (State.count s source).vcore.code = s.vcore.code := by
  unfold State.count; rfl

@[simp] theorem State.countN_code (s : State) (source k : Nat) : (State.countN s source k).vcore.code = s.vcore.code := by
  unfold State.countN
  repeat' (first | rfl | split | simp)

@[simp] theorem State.send_code (s : State) (cls : Nat) (m : LinkMsg) : (State.send s cls m).vcore.code = s.vcore.code := by
  unfold State.send; rfl

@[simp] theorem State.tellPartner_code (s : State) (m : Mirror) : (State.tellPartner s m).vcore.code = s.vcore.code := by
  unfold State.tellPartner
  repeat' (first | rfl | split | simp)

@[simp] theorem State.agreedFire_code (s : State) (source time : Nat) : (State.agreedFire s source time).vcore.code = s.vcore.code := by
  unfold State.agreedFire; rfl

@[simp] theorem State.fireAt_code (s : State) (source time : Nat) : (State.fireAt s source time).vcore.code = s.vcore.code := by
  unfold State.fireAt
  repeat' (first | rfl | split | simp)

@[simp] theorem State.fire_code (s : State) (source : Nat) : (State.fire s source).vcore.code = s.vcore.code := by
  unfold State.fire; simp

@[simp] theorem State.sendReply_code (s : State) (r : Reply) : (State.sendReply s r).vcore.code = s.vcore.code := by
  unfold State.sendReply
  repeat' (first | rfl | split | simp)

@[simp] theorem State.modSession_code (s : State) (no : Nat) (f : Session → Session) : (State.modSession s no f).vcore.code = s.vcore.code := by
  unfold State.modSession; rfl

@[simp] theorem State.finish_code (s : State) (k : Ticket) (status : Nat) (body : List Byte) : (State.finish s k status body).vcore.code = s.vcore.code := by
  unfold State.finish
  repeat' (first | rfl | split | simp)

@[simp] theorem State.finishOpt_code (s : State) (k : Option Ticket) (status : Nat) (body : List Byte) : (State.finishOpt s k status body).vcore.code = s.vcore.code := by
  unfold State.finishOpt
  repeat' (first | rfl | split | simp)

/-! ### Gates -/

@[simp] theorem State.deny_code (s : State) (d : Denial) : (State.deny s d).vcore.code = s.vcore.code := by
  unfold State.deny
  repeat' (first | rfl | split | simp)

/-! ### Engine -/

@[simp] theorem State.abandon_code (s : State) (n k : Nat) : (State.abandon s n k).vcore.code = s.vcore.code := by
  unfold State.abandon
  repeat' (first | rfl | split | simp)

@[simp] theorem State.yieldSpec_code (s : State) (strand n : Nat) : (State.yieldSpec s strand n).vcore.code = s.vcore.code := by
  unfold State.yieldSpec
  repeat' (first | rfl | split | simp)

@[simp] theorem State.takeStrand_code (s : State) (n : Nat) (t : Task) (lane : Fin 2) (admitted : Bool) : (State.takeStrand s n t lane admitted).vcore.code = s.vcore.code := by
  unfold State.takeStrand
  repeat' (first | rfl | split | simp)

@[simp] theorem State.putLane_code (s : State) (e : Env) (l : Lane) : (State.putLane s e l).vcore.code = s.vcore.code := by
  unfold State.putLane
  repeat' (first | rfl | split | simp)

@[simp] theorem State.stopLane_code (s : State) (e : Env) (op : Nat) (w : BitVec 24) (f : Form) (st : Stop) : (State.stopLane s e op w f st).vcore.code = s.vcore.code := by
  unfold State.stopLane
  repeat' (first | rfl | split | simp)

@[simp] theorem retryShadow_code (run : State → Except Stop Lane) (t : Task) (k : Nat) (s : State) :
    (retryShadow run t k s).1.vcore.code = s.vcore.code := by
  induction k generalizing s with
  | zero => rfl
  | succ k ih =>
    unfold retryShadow
    repeat' (first | rfl | split | simp [ih])

@[simp] theorem State.countWide_code (s : State) (e : Env) (l : Lane) : (State.countWide s e l).vcore.code = s.vcore.code := by
  unfold State.countWide
  repeat' (first | rfl | split | simp)

@[simp] theorem State.debugRan_code (s : State) : (State.debugRan s).vcore.code = s.vcore.code := by
  unfold State.debugRan
  repeat' (first | rfl | split | simp)

@[simp] theorem runOn_code (r : OpInfo) (body : Body) (w : BitVec 24) (ext : Word) (s : State) (t : Task) (lane : Fin 2) : (runOn r body w ext s t lane).vcore.code = s.vcore.code := by
  unfold runOn
  dsimp only
  split
  · rfl
  · split
    · have h := retryShadow_code (fun x => checkAndRun r (formOf r w ext) r.fmt.words body { s.env t lane with s := x } (s.env t lane).ctx) t
        s.tasks.length (if (s.env t lane).dbg.isSome then s else s.takeStrand t.no t lane ((s.env t lane).ctx.spec == .notSpeculating))
      split
      all_goals
        next heq =>
        rw [heq] at h
        repeat' (first | rfl | split | simp_all)
    · rfl

@[simp] theorem runEngine_code (op : Nat) (body : Body) (x : Exec) (w : BitVec 24) (ext : Word) (s : State) : (runEngine op body x w ext s).vcore.code = s.vcore.code := by
  unfold runEngine
  repeat' (first | rfl | split | simp)

@[simp] theorem runUndefined_code (op : Nat) (x : Exec) (w : BitVec 24) (s : State) : (runUndefined op x w s).vcore.code = s.vcore.code := by
  unfold runUndefined
  repeat' (first | rfl | split | simp)

@[simp] theorem runTogether_code (op : Nat) (first : Body) (second : Lane → Body) (x : Exec) (w : BitVec 24) (s : State) : (runTogether op first second x w s).vcore.code = s.vcore.code := by
  unfold runTogether
  repeat' (first | rfl | split | simp)

@[simp] theorem State.specAgreed_code (s : State) (n : Nat) (inputs : List SigVal) : (State.specAgreed s n inputs).vcore.code = s.vcore.code := by
  unfold State.specAgreed
  repeat' (first | rfl | split | simp)

/-! ### Frames -/

@[simp] theorem State.modCrossing_code (s : State) (unit : Nat) (f : Crossing → Crossing) : (State.modCrossing s unit f).vcore.code = s.vcore.code := by
  unfold State.modCrossing; rfl

@[simp] theorem State.putSent_code (s : State) (fs : List OutFrame) : (State.putSent s fs).vcore.code = s.vcore.code := by
  unfold State.putSent
  try dsimp only
  repeat' (first | rfl | split | intro _ | simp | rw [foldl_code])

@[simp] theorem State.takePending_code (s : State) (unit : Nat) : (State.takePending s unit).vcore.code = s.vcore.code := by
  unfold State.takePending; simp

@[simp] theorem State.offerTransfer_code (s : State) (unit : Nat) (x : CrossTransfer) : (State.offerTransfer s unit x).vcore.code = s.vcore.code := by
  unfold State.offerTransfer; rfl

@[simp] theorem State.emit_code (s : State) (f : OutFrame) : (State.emit s f).vcore.code = s.vcore.code := by
  unfold State.emit
  repeat' (first | rfl | split | simp)

/-! ### Stages -/

@[simp] theorem State.settleDo_code (s : State) : (State.settleDo s).vcore.code = s.vcore.code := by
  unfold State.settleDo; rfl

@[simp] theorem State.releaseLocal_code (s : State) : (State.releaseLocal s).vcore.code = s.vcore.code := by
  unfold State.releaseLocal; rfl

@[simp] theorem State.engageLocal_code (s : State) : (State.engageLocal s).vcore.code = s.vcore.code := by
  unfold State.engageLocal; rfl

@[simp] theorem State.channelChange_code (s : State) (unit ch : Nat) : (State.channelChange s unit ch).vcore.code = s.vcore.code := by
  unfold State.channelChange; simp

@[simp] theorem State.refreshLocal_code (s : State) : (State.refreshLocal s).vcore.code = s.vcore.code := by
  unfold State.refreshLocal
  repeat' (first | rfl | split | simp)

@[simp] theorem State.silenceNow_code (s : State) : (State.silenceNow s).vcore.code = s.vcore.code := by
  unfold State.silenceNow; rfl

@[simp] theorem State.fullShare_code (s : State) : (State.fullShare s).vcore.code = s.vcore.code := by
  unfold State.fullShare; rfl

@[simp] theorem State.silence_code (s : State) : (State.silence s).vcore.code = s.vcore.code := by
  unfold State.silence; rfl

/-! ### PairOps -/

@[simp] theorem State.endDebug_code (s : State) : (State.endDebug s).vcore.code = s.vcore.code := by
  unfold State.endDebug
  repeat' (first | rfl | split | simp)

@[simp] theorem State.leaveClosing_code (s : State) (n : Nat) : (State.leaveClosing s n).vcore.code = s.vcore.code := by
  unfold State.leaveClosing
  repeat' (first | rfl | split | simp)

@[simp] theorem State.dropQuiesce_code (s : State) (unit : Nat) : (State.dropQuiesce s unit).vcore.code = s.vcore.code := by
  unfold State.dropQuiesce; rfl

@[simp] theorem State.endSession_code (s : State) (no : Nat) : (State.endSession s no).vcore.code = s.vcore.code := by
  unfold State.endSession
  try dsimp only
  repeat' (first | rfl | split | intro _ | simp | rw [foldl_code])

@[simp] theorem State.endSessions_code (s : State) : (State.endSessions s).vcore.code = s.vcore.code := by
  unfold State.endSessions
  try dsimp only
  repeat' (first | rfl | split | intro _ | simp | rw [foldl_code])

@[simp] theorem State.recordParallax_code (s : State) (n strand : Nat) (k : ParKind) (imm : Bool) (outcome : Nat) : (State.recordParallax s n strand k imm outcome).vcore.code = s.vcore.code := by
  unfold State.recordParallax; rfl

@[simp] theorem State.dropParallax_code (s : State) (n : Nat) : (State.dropParallax s n).vcore.code = s.vcore.code := by
  unfold State.dropParallax
  repeat' (first | rfl | split | simp)

@[simp] theorem State.dropCycles_code (s : State) : (State.dropCycles s).vcore.code = s.vcore.code := by
  unfold State.dropCycles
  try dsimp only
  repeat' (first | rfl | split | intro _ | simp | rw [foldl_code])

@[simp] theorem State.silencePorts_code (s : State) : (State.silencePorts s).vcore.code = s.vcore.code := by
  unfold State.silencePorts; rfl

@[simp] theorem State.queueAcyc_code (s : State) (x : Acyc) : (State.queueAcyc s x).vcore.code = s.vcore.code := by
  unfold State.queueAcyc; rfl

@[simp] theorem State.resumeAcyc_code (s : State) : (State.resumeAcyc s).vcore.code = s.vcore.code := by
  unfold State.resumeAcyc
  try dsimp only
  repeat' (first | rfl | split | intro _ | simp | rw [foldl_code])

@[simp] theorem State.hartResult_code (s : State) (x : HartTx) (result : Nat) : (State.hartResult s x result).vcore.code = s.vcore.code := by
  unfold State.hartResult; simp

@[simp] theorem State.hartLeave_code (s : State) (planned : Bool) : (State.hartLeave s planned).vcore.code = s.vcore.code := by
  unfold State.hartLeave
  try dsimp only
  repeat' (first | rfl | split | intro _ | simp | rw [foldl_code])

@[simp] theorem State.hartTake_code (s : State) (planned : Bool) : (State.hartTake s planned).vcore.code = s.vcore.code := by
  unfold State.hartTake; rfl

@[simp] theorem State.takeCan_code (s : State) (k : Nat) : (State.takeCan s k).vcore.code = s.vcore.code := by
  unfold State.takeCan; rfl

@[simp] theorem State.giveCan_code (s : State) (k : Nat) : (State.giveCan s k).vcore.code = s.vcore.code := by
  unfold State.giveCan
  repeat' (first | rfl | split | simp)

@[simp] theorem State.settleCan_code (s : State) : (State.settleCan s).vcore.code = s.vcore.code := by
  unfold State.settleCan
  try dsimp only
  repeat' (first | rfl | split | intro _ | simp | rw [foldl_code])

@[simp] theorem State.canServe_code (s : State) (serve moved : Bool) : (State.canServe s serve moved).vcore.code = s.vcore.code := by
  unfold State.canServe
  try dsimp only
  repeat' (first | rfl | split | intro _ | simp | rw [foldl_code])

@[simp] theorem State.rebaseRing_code (s : State) : (State.rebaseRing s).vcore.code = s.vcore.code := by
  unfold State.rebaseRing; rfl

@[simp] theorem State.takeRing_code (s : State) : (State.takeRing s).vcore.code = s.vcore.code := by
  unfold State.takeRing; rfl

@[simp] theorem State.followRing_code (s : State) : (State.followRing s).vcore.code = s.vcore.code := by
  unfold State.followRing; rfl

@[simp] theorem State.becomeOwner_code (s : State) (epoch : Nat) (c : Cause) (planned : Bool) : (State.becomeOwner s epoch c planned).vcore.code = s.vcore.code := by
  unfold State.becomeOwner; simp

@[simp] theorem State.startImages_code (s : State) : (State.startImages s).vcore.code = s.vcore.code := by
  unfold State.startImages; rfl

@[simp] theorem State.resumeRetained_code (s : State) : (State.resumeRetained s).vcore.code = s.vcore.code := by
  unfold State.resumeRetained
  repeat' (first | rfl | split | simp)

@[simp] theorem State.ownFromLantern_code (s : State) (c : Cause) : (State.ownFromLantern s c).vcore.code = s.vcore.code := by
  unfold State.ownFromLantern; simp

@[simp] theorem State.enterTestHold_code (s : State) : (State.enterTestHold s).vcore.code = s.vcore.code := by
  unfold State.enterTestHold; simp

@[simp] theorem State.enterJoining_code (s : State) (c : Cause) (j : Join) : (State.enterJoining s c j).vcore.code = s.vcore.code := by
  unfold State.enterJoining; simp

@[simp] theorem State.toJoining_code (s : State) (c : Cause) : (State.toJoining s c).vcore.code = s.vcore.code := by
  unfold State.toJoining; simp

@[simp] theorem State.toFaulted_code (s : State) (c : Cause) : (State.toFaulted s c).vcore.code = s.vcore.code := by
  unfold State.toFaulted; simp

@[simp] theorem State.loseOwner_code (s : State) : (State.loseOwner s).vcore.code = s.vcore.code := by
  unfold State.loseOwner
  try dsimp only
  repeat' (first | rfl | split | intro _ | simp | rw [foldl_code])

@[simp] theorem State.ownerToStandby_code (s : State) (c : Cause) (side : Side) : (State.ownerToStandby s c side).vcore.code = s.vcore.code := by
  unfold State.ownerToStandby; simp

@[simp] theorem State.emergency_code (s : State) : (State.emergency s).vcore.code = s.vcore.code := by
  unfold State.emergency; simp

@[simp] theorem State.lanternStart_code (s : State) : (State.lanternStart s).vcore.code = s.vcore.code := by
  unfold State.lanternStart
  repeat' (first | rfl | split | simp)

@[simp] theorem State.restoreStores_code (s : State) : (State.restoreStores s).vcore.code = s.vcore.code := by
  unfold State.restoreStores
  repeat' (first | rfl | split | simp)

@[simp] theorem State.fresh_le (s : State) : (State.fresh s).vcore.code ≤ 40 := Nat.zero_le 40

@[simp] theorem State.restart_le (s : State) (c : Cause) : (State.restart s c).vcore.code ≤ 40 := Nat.zero_le 40

@[simp] theorem State.enterLantern_le (s : State) (c : Cause) (p : Phase) (h : Hold) (hs : s.vcore.code ≤ 40) :
    (State.enterLantern s c p h).vcore.code ≤ 40 := by
  unfold State.enterLantern
  rw [State.lanternStart_code]
  exact State.restVcore_le _ (by simpa using hs)

@[simp] theorem State.leave_le (s : State) (c : Cause) (silent : Bool) (h : s.vcore.code ≤ 40) : (State.leave s c silent).vcore.code ≤ 40 := by
  unfold State.leave; dsimp only; split <;> cases silent <;> simp_all

@[simp] theorem State.moduleFault_le (s : State) (c : Cause) (solo : State → State) (h : s.vcore.code ≤ 40)
    (k : ∀ t, t.vcore.code ≤ 40 → (solo t).vcore.code ≤ 40) :
    (State.moduleFault s c solo).vcore.code ≤ 40 := by
  unfold State.moduleFault; repeat' (first | split | simp_all)

@[simp] theorem State.restartFor_le (c : Cause) (s : State) : (State.restartFor c s).vcore.code ≤ 40 := by
  simp [State.restartFor]

@[simp] theorem State.leverRefuse_code (s : State) : (State.leverRefuse s).vcore.code = s.vcore.code := by
  unfold State.leverRefuse; rfl

@[simp] theorem State.proposeHandover_code (s : State) (c : Cause) (leave : Bool) (k : Option Ticket) : (State.proposeHandover s c leave k).vcore.code = s.vcore.code := by
  unfold State.proposeHandover; rfl

/-! ### Stations -/

@[simp] theorem State.setStation_code (s : State) (ring pos : Nat) (st : StationState) : (State.setStation s ring pos st).vcore.code = s.vcore.code := by
  unfold State.setStation
  repeat' (first | rfl | split | simp)

@[simp] theorem State.endAcyc_code (s : State) (x : Acyc) (result : Nat) (payload : List Byte) : (State.endAcyc s x result payload).vcore.code = s.vcore.code := by
  unfold State.endAcyc
  repeat' (first | rfl | split | simp)

@[simp] theorem State.stationGone_code (s : State) (ring pos : Nat) : (State.stationGone s ring pos).vcore.code = s.vcore.code := by
  unfold State.stationGone
  try dsimp only
  repeat' (first | rfl | split | intro _ | simp | rw [foldl_code])

@[simp] theorem State.dropIsolated_code (s : State) (ring pos : Nat) : (State.dropIsolated s ring pos).vcore.code = s.vcore.code := by
  unfold State.dropIsolated
  repeat' (first | rfl | split | simp)

/-! ### Collect -/

@[simp] theorem State.publishLocal_code (s : State) : (State.publishLocal s).vcore.code = s.vcore.code := by
  unfold State.publishLocal; rfl

@[simp] theorem State.setSweeps_code (s : State) (sweeps : List (Nat × Nat)) : (State.setSweeps s sweeps).vcore.code = s.vcore.code := by
  unfold State.setSweeps; rfl

@[simp] theorem State.resweep_code (s : State) : (State.resweep s).vcore.code = s.vcore.code := by
  unfold State.resweep
  repeat' (first | rfl | split | simp)

@[simp] theorem State.openTags_code (s : State) (t : Task) (p : Snapshot) : (State.openTags s t p).vcore.code = s.vcore.code := by
  unfold State.openTags
  try dsimp only
  repeat' (first | rfl | split | intro _ | simp | rw [foldl_code])

@[simp] theorem State.freeTags_code (s : State) (n : Nat) : (State.freeTags s n).vcore.code = s.vcore.code := by
  unfold State.freeTags; rfl

@[simp] theorem State.noteMissing_code (s : State) (p : Snapshot) : (State.noteMissing s p).vcore.code = s.vcore.code := by
  unfold State.noteMissing
  try dsimp only
  repeat' (first | rfl | split | intro _ | simp | rw [foldl_code])

@[simp] theorem State.agreeSnapshot_code (s : State) (n : Nat) : (State.agreeSnapshot s n).vcore.code = s.vcore.code := by
  unfold State.agreeSnapshot
  repeat' (first | rfl | split | simp)

@[simp] theorem State.tryAgree_code (s : State) (n : Nat) : (State.tryAgree s n).vcore.code = s.vcore.code := by
  unfold State.tryAgree
  repeat' (first | rfl | split | simp)

@[simp] theorem State.settle_code (s : State) (n ring station : Nat) : (State.settle s n ring station).vcore.code = s.vcore.code := by
  unfold State.settle
  repeat' (first | rfl | split | simp)

@[simp] theorem State.settleAll_code (s : State) (n : Nat) : (State.settleAll s n).vcore.code = s.vcore.code := by
  unfold State.settleAll
  try dsimp only
  repeat' (first | rfl | split | intro _ | simp | rw [foldl_code])

@[simp] theorem State.agreeAlone_code (s : State) (n : Nat) : (State.agreeAlone s n).vcore.code = s.vcore.code := by
  unfold State.agreeAlone; simp

@[simp] theorem State.stopWaiting_code (s : State) : (State.stopWaiting s).vcore.code = s.vcore.code := by
  unfold State.stopWaiting
  try dsimp only
  repeat' (first | rfl | split | intro _ | simp | rw [foldl_code])

@[simp] theorem State.staleResync_code (s : State) (n : Nat) (p : Snapshot) : (State.staleResync s n p).vcore.code = s.vcore.code := by
  unfold State.staleResync
  try dsimp only
  repeat' (first | rfl | split | intro _ | simp | rw [foldl_code])

@[simp] theorem State.closeSnapshot_code (s : State) (n : Nat) : (State.closeSnapshot s n).vcore.code = s.vcore.code := by
  unfold State.closeSnapshot
  try dsimp only
  repeat' (first | rfl | split | intro _ | simp | rw [foldl_code])

@[simp] theorem State.queueAssign_code (s : State) (ring pos : Nat) : (State.queueAssign s ring pos).vcore.code = s.vcore.code := by
  unfold State.queueAssign; rfl

@[simp] theorem State.sendAssign_code (s : State) (ring pos : Nat) : (State.sendAssign s ring pos).vcore.code = s.vcore.code := by
  unfold State.sendAssign
  repeat' (first | rfl | split | simp)

@[simp] theorem State.takeAssign_code (s : State) (ring pos delayA delayB : Nat) : (State.takeAssign s ring pos delayA delayB).vcore.code = s.vcore.code := by
  unfold State.takeAssign
  repeat' (first | rfl | split | simp)

@[simp] theorem State.enterResync_code (s : State) (ring pos : Nat) : (State.enterResync s ring pos).vcore.code = s.vcore.code := by
  unfold State.enterResync; simp

@[simp] theorem State.lateFrame_code (s : State) (ring : Nat) : (State.lateFrame s ring).vcore.code = s.vcore.code := by
  unfold State.lateFrame
  repeat' (first | rfl | split | simp)

@[simp] theorem State.judged_code (s : State) (ring pos port verdict : Nat) : (State.judged s ring pos port verdict).vcore.code = s.vcore.code := by
  unfold State.judged
  repeat' (first | rfl | split | simp)

@[simp] theorem State.lateSection_code (s : State) (ring station port : Nat) : (State.lateSection s ring station port).vcore.code = s.vcore.code := by
  unfold State.lateSection; simp

@[simp] theorem State.fileBlocks_code (s : State) (port cycle : Nat) (x : InSection) : (State.fileBlocks s port cycle x).vcore.code = s.vcore.code := by
  unfold State.fileBlocks
  repeat' (first | rfl | split | simp)

@[simp] theorem State.fileSection_code (s : State) (port : Nat) (x : InSection) : (State.fileSection s port x).vcore.code = s.vcore.code := by
  unfold State.fileSection
  repeat' (first | rfl | split | simp)

@[simp] theorem State.discardFrame_code (s : State) (port : Nat) : (State.discardFrame s port).vcore.code = s.vcore.code := by
  unfold State.discardFrame; rfl

@[simp] theorem State.ingressOverrun_le (s : State) (port : Nat) (h : s.vcore.code ≤ 40) : (State.ingressOverrun s port).vcore.code ≤ 40 := by
  unfold State.ingressOverrun
  try dsimp only
  repeat' (first | assumption | split | intro _ | omega | simp_all | apply foldl_le)

@[simp] theorem State.inputFrame_le (s : State) (f : InputFrame) (h : s.vcore.code ≤ 40) : (State.inputFrame s f).vcore.code ≤ 40 := by
  unfold State.inputFrame
  try dsimp only
  repeat' (first | assumption | split | intro _ | omega | simp_all | apply foldl_le)

@[simp] theorem State.takeDigest_code (s : State) (n cycle ring station : Nat) (crc : Option Word) : (State.takeDigest s n cycle ring station crc).vcore.code = s.vcore.code := by
  unfold State.takeDigest
  repeat' (first | rfl | split | simp)

/-! ### ChangeOps -/

@[simp] theorem State.clampNote_code (s : State) (index k : Nat) : (State.clampNote s index k).vcore.code = s.vcore.code := by
  unfold State.clampNote
  repeat' (first | rfl | split | simp)

@[simp] theorem State.freeWindows_code (s : State) (w : Windows) (v : Version) : (State.freeWindows s w v).vcore.code = s.vcore.code := by
  unfold State.freeWindows; rfl

@[simp] theorem State.convertBase_code (s : State) : (State.convertBase s).vcore.code = s.vcore.code := by
  unfold State.convertBase
  try dsimp only
  repeat' (first | rfl | split | intro _ | simp | rw [foldl_code])

@[simp] theorem State.convertUnit_code (s : State) (c : ConvEnv) (task at_ index : Nat) (m : MapEnt) (written : List (Nat × Nat)) (i : Nat) : (State.convertUnit s c task at_ index m written i).vcore.code = s.vcore.code := by
  unfold State.convertUnit
  repeat' (first | rfl | split | simp)

@[simp] theorem State.convertPub_code (s : State) (task at_ : Nat) (addrs : List Nat) : (State.convertPub s task at_ addrs).vcore.code = s.vcore.code := by
  unfold State.convertPub
  try dsimp only
  repeat' (first | rfl | split | intro _ | simp | rw [foldl_code])

@[simp] theorem State.convertAll_code (s : State) : (State.convertAll s).vcore.code = s.vcore.code := by
  unfold State.convertAll
  try dsimp only
  repeat' (first | rfl | split | intro _ | simp | rw [foldl_code])

@[simp] theorem State.unpublishQ_code (s : State) (task at_ : Nat) (old : Windows) (sizeQ : Nat) : (State.unpublishQ s task at_ old sizeQ).vcore.code = s.vcore.code := by
  unfold State.unpublishQ; simp

/-! ### Faults -/

@[simp] theorem State.displaceFrame_code (s : State) (t : Task) (f : FaultInfo) (cause at_ : Nat) : (State.displaceFrame s t f cause at_).vcore.code = s.vcore.code := by
  unfold State.displaceFrame; rfl

@[simp] theorem State.publishEntries_code (s : State) (t : Task) (es : List LogEnt) : (State.publishEntries s t es).vcore.code = s.vcore.code := by
  unfold State.publishEntries
  repeat' (first | rfl | split | simp)

@[simp] theorem State.raiseFault_code (s : State) (n : Nat) (f : FaultInfo) (at_ : Nat) (second : Bool) : (State.raiseFault s n f at_ second).vcore.code = s.vcore.code := by
  unfold State.raiseFault
  repeat' (first | rfl | split | simp)

@[simp] theorem State.applyPolicy_code (s : State) (n at_ : Nat) : (State.applyPolicy s n at_).vcore.code = s.vcore.code := by
  unfold State.applyPolicy
  repeat' (first | rfl | split | simp)

@[simp] theorem State.endTask_code (s : State) (n : Nat) (st : TaskState) (at_ : Nat) : (State.endTask s n st at_).vcore.code = s.vcore.code := by
  unfold State.endTask
  repeat' (first | rfl | split | simp)

@[simp] theorem State.settleTenant_code (s : State) (tenant : Nat) : (State.settleTenant s tenant).vcore.code = s.vcore.code := by
  unfold State.settleTenant
  repeat' (first | rfl | split | simp)

@[simp] theorem State.becomeFaulted_code (s : State) (n at_ : Nat) : (State.becomeFaulted s n at_).vcore.code = s.vcore.code := by
  unfold State.becomeFaulted
  repeat' (first | rfl | split | simp)

@[simp] theorem State.displaceTenant_code (s : State) (tenant : Nat) : (State.displaceTenant s tenant).vcore.code = s.vcore.code := by
  unfold State.displaceTenant
  try dsimp only
  repeat' (first | rfl | split | intro _ | simp | rw [foldl_code])

@[simp] theorem State.displaceDue_code (s : State) (tenant at_ : Nat) : (State.displaceDue s tenant at_).vcore.code = s.vcore.code := by
  unfold State.displaceDue
  repeat' (first | rfl | split | simp)

@[simp] theorem State.faultNow_code (s : State) (n : Nat) (f : FaultInfo) (second : Bool) : (State.faultNow s n f second).vcore.code = s.vcore.code := by
  unfold State.faultNow
  repeat' (first | rfl | split | simp)

/-! ### Transit -/

@[simp] theorem State.noteParallax_code (s : State) (n strand : Nat) (k : ParKind) (imm : Bool) (outcome : Nat) : (State.noteParallax s n strand k imm outcome).vcore.code = s.vcore.code := by
  unfold State.noteParallax; simp

@[simp] theorem State.faultCycle_code (s0 : State) (n : Nat) (f : FaultInfo) (second : Bool) : (State.faultCycle s0 n f second).vcore.code = s0.vcore.code := by
  unfold State.faultCycle
  repeat' (first | rfl | split | simp)

@[simp] theorem faultEach_code (f : FaultInfo) (l : List Nat) (s : State) : (faultEach f l s).vcore.code = s.vcore.code := by
  induction l generalizing s with
  | nil => rfl
  | cons n ns ih => unfold faultEach; rw [ih]; repeat' (first | rfl | split | simp)

@[simp] theorem State.retireStrand_code (strand : Nat) (s : State) : (State.retireStrand strand s).vcore.code = s.vcore.code := by
  unfold State.retireStrand
  try dsimp only
  repeat' (first | rfl | split | intro _ | simp | rw [foldl_code])

@[simp] theorem State.persistent_le (s : State) (strand : Nat) (h : s.vcore.code ≤ 40) : (State.persistent s strand).vcore.code ≤ 40 := by
  unfold State.persistent
  try dsimp only
  repeat' (first | assumption | split | intro _ | omega | simp_all | apply foldl_le)

@[simp] theorem State.transitParallax_le (s : State) (n : Nat) (t : Task) (k : ParKind) (h : s.vcore.code ≤ 40) : (State.transitParallax s n t k).vcore.code ≤ 40 := by
  unfold State.transitParallax
  try dsimp only
  repeat' (first | assumption | split | intro _ | omega | simp_all | apply foldl_le)

@[simp] theorem State.lanternParallax_code (s : State) (n : Nat) (t : Task) (k : ParKind) : (State.lanternParallax s n t k).vcore.code = s.vcore.code := by
  unfold State.lanternParallax; simp

@[simp] theorem State.commit_code (s : State) (n : Nat) (w : Windows) (at_ : Nat) (ws : List WriteRec) : (State.commit s n w at_ ws).vcore.code = s.vcore.code := by
  unfold State.commit
  repeat' (first | rfl | split | simp)

@[simp] theorem State.modWd_code (s : State) (n : Nat) (f : Watchdog → Watchdog) : (State.modWd s n f).vcore.code = s.vcore.code := by
  unfold State.modWd; rfl

@[simp] theorem State.serviceWd_code (s : State) (n : Nat) : (State.serviceWd s n).vcore.code = s.vcore.code := by
  unfold State.serviceWd
  repeat' (first | rfl | split | simp)

@[simp] theorem ImmRun.deliver_code (r : ImmRun) (t : Task) (v : Version) (win : Windows) (sends : Bool) (x : ImmRel) :
    (ImmRun.deliver r t v win sends x).s.vcore.code = r.s.vcore.code := by
  unfold ImmRun.deliver
  dsimp only
  refine (foldl_code _ (fun s b => ?_) _ _).trans ?_
  · repeat' (first | rfl | split | simp)
  · refine (foldl_keep (fun r : ImmRun => r.s.vcore.code) _ (fun r m => ?_) _ _).trans rfl
    dsimp only
    split <;> simp

@[simp] theorem ImmRun.release_code (r : ImmRun) (t : Task) (sends : Bool) (x : ImmRel) :
    (ImmRun.release r t sends x).s.vcore.code = r.s.vcore.code := by
  unfold ImmRun.release
  dsimp only
  split
  · rfl
  · exact (foldl_keep (fun r : ImmRun => r.s.vcore.code) _ (fun r m => ImmRun.deliver_code ..) _ _).trans rfl

@[simp] theorem State.releaseImms_code (s : State) (n : Nat) (t : Task) :
    (State.releaseImms s n t).1.vcore.code = s.vcore.code := by
  unfold State.releaseImms
  simp only [State.modTask_code, State.countN_code]
  exact foldl_keep (fun r : ImmRun => r.s.vcore.code) _ (fun r x => ImmRun.release_code ..) _ _

@[simp] theorem State.diverge_code (s : State) (n cycle addr : Nat) (own peer : Word) : (State.diverge s n cycle addr own peer).vcore.code = s.vcore.code := by
  unfold State.diverge
  repeat' (first | rfl | split | simp)

@[simp] theorem State.compareSets_code (s : State) (n : Nat) : (State.compareSets s n).vcore.code = s.vcore.code := by
  unfold State.compareSets
  repeat' (first | rfl | split | simp)

@[simp] theorem State.takeSet_code (s : State) (t : Task) (at_ : Nat) (ws : WriteSet) : (State.takeSet s t at_ ws).vcore.code = s.vcore.code := by
  unfold State.takeSet
  repeat' (first | rfl | split | simp)

@[simp] theorem State.overrun_code (s : State) (n : Nat) : (State.overrun s n).vcore.code = s.vcore.code := by
  unfold State.overrun
  repeat' (first | rfl | split | simp)

@[simp] theorem State.transitOk_code (s : State) (n : Nat) (t : Task) : (State.transitOk s n t).vcore.code = s.vcore.code := by
  unfold State.transitOk
  repeat' (first | rfl | split | simp)

@[simp] theorem State.transit_le (s : State) (n : Nat) (h : s.vcore.code ≤ 40) : (State.transit s n).vcore.code ≤ 40 := by
  unfold State.transit
  split
  · exact h
  · next t _ =>
    split
    · exact h
    · generalize (if (s.debugFor t).isSome = true then none else parallaxKind t.lane0 t.lane1) = k
      repeat' (first | assumption | split | dsimp only | simp_all)

@[simp] theorem State.queueSections_code (s : State) (t : Task) : (State.queueSections s t).vcore.code = s.vcore.code := by
  unfold State.queueSections
  try dsimp only
  repeat' (first | rfl | split | intro _ | simp | rw [foldl_code])

@[simp] theorem State.unqueue_code (s : State) (t : Task) : (State.unqueue s t).vcore.code = s.vcore.code := by
  unfold State.unqueue; rfl

@[simp] theorem State.assemble_code (s : State) (t : Task) : (State.assemble s t).vcore.code = s.vcore.code := by
  unfold State.assemble
  try dsimp only
  repeat' (first | rfl | split | intro _ | simp | rw [foldl_code])

@[simp] theorem State.rebuildQueues_code (s : State) (from_ : Nat) : (State.rebuildQueues s from_).vcore.code = s.vcore.code := by
  unfold State.rebuildQueues
  try dsimp only
  repeat' (first | rfl | split | intro _ | simp | rw [foldl_code])

@[simp] theorem State.follow_code (s : State) (ws : WriteSet) : (State.follow s ws).vcore.code = s.vcore.code := by
  unfold State.follow
  repeat' (first | rfl | split | simp)

/-! ### Cycle -/

@[simp] theorem State.switchTask_code (s : State) (n m : Nat) : (State.switchTask s n m).vcore.code = s.vcore.code := by
  unfold State.switchTask
  repeat' (first | rfl | split | simp)

@[simp] theorem State.tryComplete_code (s : State) : (State.tryComplete s).vcore.code = s.vcore.code := by
  unfold State.tryComplete
  try dsimp only
  repeat' (first | rfl | split | intro _ | simp | rw [foldl_code])

@[simp] theorem State.beginSwitch_code (s : State) : (State.beginSwitch s).vcore.code = s.vcore.code := by
  unfold State.beginSwitch
  try dsimp only
  repeat' (first | rfl | split | intro _ | simp | rw [foldl_code])

@[simp] theorem State.switchDue_code (s : State) : (State.switchDue s).vcore.code = s.vcore.code := by
  unfold State.switchDue
  repeat' (first | rfl | split | simp)

@[simp] theorem State.switchAtPub_code (s : State) (n m : Nat) : (State.switchAtPub s n m).vcore.code = s.vcore.code := by
  unfold State.switchAtPub
  repeat' (first | rfl | split | simp)

@[simp] theorem State.debugStart_code (s : State) (n : Nat) : (State.debugStart s n).vcore.code = s.vcore.code := by
  unfold State.debugStart
  repeat' (first | rfl | split | simp)

@[simp] theorem State.openSnapshot_code (s : State) (n : Nat) : (State.openSnapshot s n).vcore.code = s.vcore.code := by
  unfold State.openSnapshot
  try dsimp only
  repeat' (first | rfl | split | intro _ | simp | rw [foldl_code])

@[simp] theorem State.sendPort_code (due : Nat) (s : State) (port : Nat) : (State.sendPort due s port).vcore.code = s.vcore.code := by
  unfold State.sendPort
  try dsimp only
  repeat' (first | rfl | split | intro _ | simp | rw [foldl_code])

@[simp] theorem State.sendDue_code (s : State) (due : Nat) : (State.sendDue s due).vcore.code = s.vcore.code := by
  unfold State.sendDue
  try dsimp only
  repeat' (first | rfl | split | intro _ | simp | rw [foldl_code])

@[simp] theorem State.activateStations_code (s : State) (m : Nat) (ks : List (Nat × Nat)) : (State.activateStations s m ks).vcore.code = s.vcore.code := by
  unfold State.activateStations
  try dsimp only
  repeat' (first | rfl | split | intro _ | simp | rw [foldl_code])

@[simp] theorem State.startCycle_code (s : State) (no m n : Nat) : (State.startCycle s no m n).vcore.code = s.vcore.code := by
  unfold State.startCycle
  repeat' (first | rfl | split | simp)

@[simp] theorem State.dropQ_code (s : State) (t : Task) (at_ : Nat) : (State.dropQ s t at_).vcore.code = s.vcore.code := by
  unfold State.dropQ
  repeat' (first | rfl | split | simp)

@[simp] theorem State.faultAtPub_code (s : State) (t : Task) (f : FaultInfo) : (State.faultAtPub s t f).vcore.code = s.vcore.code := by
  unfold State.faultAtPub; simp

@[simp] theorem State.decideOverrun_le (s : State) (t : Task) (h : s.vcore.code ≤ 40) : (State.decideOverrun s t).vcore.code ≤ 40 := by
  unfold State.decideOverrun
  try dsimp only
  repeat' (first | assumption | split | intro _ | omega | simp_all | apply foldl_le)

@[simp] theorem State.decideParallax_code (s : State) (t : Task) (p : ParPending) : (State.decideParallax s t p).vcore.code = s.vcore.code := by
  unfold State.decideParallax
  repeat' (first | rfl | split | simp)

@[simp] theorem State.decideWd_le (s : State) (t : Task) (h : s.vcore.code ≤ 40) : (State.decideWd s t).vcore.code ≤ 40 := by
  unfold State.decideWd
  try dsimp only
  repeat' (first | assumption | split | intro _ | omega | simp_all | apply foldl_le)

@[simp] theorem State.dropWd_code (s : State) (t : Task) : (State.dropWd s t).vcore.code = s.vcore.code := by
  unfold State.dropWd
  repeat' (first | rfl | split | simp)

@[simp] theorem State.publish_le (s : State) (t : Task) (_h : s.vcore.code ≤ 40) : (State.publish s t).vcore.code ≤ 40 := by
  unfold State.publish
  extract_lets n at_ s1 clean late s2 s3 s4 s5 displace s6 s7 s8 s9
  have h1 : s1.vcore.code ≤ 40 := by
    simp only [s1]; repeat' (first | assumption | split | simp_all)
  have h2 : s2.vcore.code ≤ 40 := by
    simp only [s2]; split <;> simp_all
  have h3 : s3.vcore.code ≤ 40 := by
    simp only [s3]; split <;> simp_all
  have h4 : s4.vcore.code ≤ 40 := by
    simp only [s4]; repeat' (first | assumption | split | simp_all)
  have h5 : s5.vcore.code ≤ 40 := by
    simp only [s5]; repeat' (first | assumption | split | simp_all)
  have h6 : s6.vcore.code ≤ 40 := by
    simp only [s6]; repeat' (first | assumption | split | simp_all)
  have h7 : s7.vcore.code ≤ 40 := by
    simp only [s7]; repeat' (first | assumption | split | simp_all)
  have h8 : s8.vcore.code ≤ 40 := by
    simp only [s8]; repeat' (first | assumption | split | simp_all)
  have h9 : s9.vcore.code ≤ 40 := by
    simp only [s9]; simp_all
  exact h9

@[simp] theorem State.expirePrivileged_le (s : State) (unit : Nat) (evidence : Nat) (valid : Bool) (h : s.vcore.code ≤ 40) : (State.expirePrivileged s unit evidence valid).vcore.code ≤ 40 := by
  unfold State.expirePrivileged
  try dsimp only
  repeat' (first | assumption | split | intro _ | omega | simp_all | apply foldl_le)

/-! ### Tick -/

@[simp] theorem State.toNextTick_code (s : State) : (State.toNextTick s).vcore.code = s.vcore.code := by
  unfold State.toNextTick; rfl

@[simp] theorem State.steerPlant_code (s : State) : (State.steerPlant s).vcore.code = s.vcore.code := by
  unfold State.steerPlant
  repeat' (first | rfl | split | simp)

@[simp] theorem State.sampleLocal_code (s : State) (m : LocalSample) : (State.sampleLocal s m).vcore.code = s.vcore.code := by
  unfold State.sampleLocal
  try dsimp only
  repeat' (first | rfl | split | intro _ | simp | rw [foldl_code])

@[simp] theorem State.sampleCan_code (s : State) : (State.sampleCan s).vcore.code = s.vcore.code := by
  unfold State.sampleCan; rfl

@[simp] theorem State.stepShare_code (s : State) : (State.stepShare s).vcore.code = s.vcore.code := by
  unfold State.stepShare
  repeat' (first | rfl | split | simp)

@[simp] theorem State.stepShifts_code (s : State) (ring : Nat) : (State.stepShifts s ring).vcore.code = s.vcore.code := by
  unfold State.stepShifts
  try dsimp only
  repeat' (first | rfl | split | intro _ | simp | rw [foldl_code])

@[simp] theorem State.sendRingTime_code (s : State) (ring : Nat) : (State.sendRingTime s ring).vcore.code = s.vcore.code := by
  unfold State.sendRingTime
  repeat' (first | rfl | split | simp)

@[simp] theorem State.sendClosure_code (s : State) (ring : Nat) : (State.sendClosure s ring).vcore.code = s.vcore.code := by
  unfold State.sendClosure
  repeat' (first | rfl | split | simp)

@[simp] theorem State.sendHeartbeat_code (s : State) : (State.sendHeartbeat s).vcore.code = s.vcore.code := by
  unfold State.sendHeartbeat
  repeat' (first | rfl | split | simp)

@[simp] theorem State.numberTrain_code (s : State) (m : Nat) : (State.numberTrain s m).vcore.code = s.vcore.code := by
  unfold State.numberTrain
  try dsimp only
  repeat' (first | rfl | split | intro _ | simp | rw [foldl_code])

@[simp] theorem State.serveStation_code (ring pos k : Nat) (s : State) : (State.serveStation ring pos k s).vcore.code = s.vcore.code := by
  induction k generalizing s with
  | zero => rfl
  | succ k ih =>
    unfold State.serveStation
    dsimp only
    repeat' (first | rfl | split | simp [ih])

@[simp] theorem State.serveAcyc_code (s : State) (ring : Nat) : (State.serveAcyc s ring).vcore.code = s.vcore.code := by
  unfold State.serveAcyc
  dsimp only
  split
  · rw [State.modRing_code]; exact foldl_code _ (fun s x => State.serveStation_code ..) _ _
  · exact foldl_code _ (fun s x => State.serveStation_code ..) _ _

@[simp] theorem State.activateLone_code (s : State) (ring : Nat) : (State.activateLone s ring).vcore.code = s.vcore.code := by
  unfold State.activateLone; simp

@[simp] theorem State.stepTenants_code (s : State) : (State.stepTenants s).vcore.code = s.vcore.code := by
  unfold State.stepTenants
  try dsimp only
  repeat' (first | rfl | split | intro _ | simp | rw [foldl_code])

@[simp] theorem State.tickRings_code (s : State) : (State.tickRings s).vcore.code = s.vcore.code := by
  unfold State.tickRings
  extract_lets s1 s2 s3 s4 s5
  have h1 : s1.vcore.code = s.vcore.code := by
    simp only [s1]; repeat' (first | rfl | split | simp_all | rw [foldl_code])
  have h2 : s2.vcore.code = s.vcore.code := by
    simp only [s2]; repeat' (first | rfl | split | simp_all | rw [foldl_code])
  have h3 : s3.vcore.code = s.vcore.code := by
    simp only [s3]; repeat' (first | rfl | split | simp_all | rw [foldl_code])
  have h4 : s4.vcore.code = s.vcore.code := by
    simp only [s4]; repeat' (first | rfl | split | simp_all | rw [foldl_code])
  have h5 : s5.vcore.code = s.vcore.code := by
    simp only [s5]; repeat' (first | rfl | split | simp_all | rw [foldl_code])
  repeat' (first | rfl | split | simp_all | rw [foldl_code])

@[simp] theorem State.stepJoin_code (s0 : State) : (State.stepJoin s0).vcore.code = s0.vcore.code := by
  unfold State.stepJoin
  repeat' (first | rfl | split | simp)

@[simp] theorem State.stepHoldoff_code (s : State) : (State.stepHoldoff s).vcore.code = s.vcore.code := by
  unfold State.stepHoldoff
  repeat' (first | rfl | split | simp)

@[simp] theorem State.undrive_code (s : State) : (State.undrive s).vcore.code = s.vcore.code := by
  unfold State.undrive
  repeat' (first | rfl | split | simp)

@[simp] theorem State.stepLantern_code (s : State) : (State.stepLantern s).vcore.code = s.vcore.code := by
  unfold State.stepLantern
  repeat' (first | rfl | split | simp)

/-! ### Rings -/

@[simp] theorem State.offerAcyc_code (s : State) (req : AcycReq) (ticket : Option Ticket) (purpose : Nat) : (State.offerAcyc s req ticket purpose).vcore.code = s.vcore.code := by
  unfold State.offerAcyc
  repeat' (first | rfl | split | simp)

@[simp] theorem State.forwardAcyc_code (s : State) (req : AcycReq) (ticket : Ticket) : (State.forwardAcyc s req ticket).vcore.code = s.vcore.code := by
  unfold State.forwardAcyc; rfl

@[simp] theorem State.awaitAnswers_code (s : State) (ring : Nat) (f : OutFrame) : (State.awaitAnswers s ring f).vcore.code = s.vcore.code := by
  unfold State.awaitAnswers; rfl

@[simp] theorem State.refuseStation_code (s : State) (ring pos cause : Nat) : (State.refuseStation s ring pos cause).vcore.code = s.vcore.code := by
  unfold State.refuseStation; simp

@[simp] theorem State.checkStation_code (s : State) (ring pos : Nat) : (State.checkStation s ring pos).vcore.code = s.vcore.code := by
  unfold State.checkStation
  repeat' (first | rfl | split | simp)

@[simp] theorem State.updateCut_code (s : State) (ring : Nat) : (State.updateCut s ring).vcore.code = s.vcore.code := by
  unfold State.updateCut
  repeat' (first | rfl | split | simp)

@[simp] theorem State.seePair_code (s : State) (epoch : Nat) (side : Side) : (State.seePair s epoch side).vcore.code = s.vcore.code := by
  unfold State.seePair
  repeat' (first | rfl | split | simp)

@[simp] theorem State.takeDelays_code (s : State) (ring : Nat) (delays : List Nat) : (State.takeDelays s ring delays).vcore.code = s.vcore.code := by
  unfold State.takeDelays; rfl

@[simp] theorem State.mismatchReport_code (s : State) (ring pos : Nat) (m : Mismatch) : (State.mismatchReport s ring pos m).vcore.code = s.vcore.code := by
  unfold State.mismatchReport
  repeat' (first | rfl | split | simp)

@[simp] theorem State.takeStatus_code (s : State) (ring : Nat) (x : StatusSec) : (State.takeStatus s ring x).vcore.code = s.vcore.code := by
  unfold State.takeStatus
  try dsimp only
  repeat' (first | rfl | split | intro _ | simp | rw [foldl_code])

@[simp] theorem State.endResponse_code (s : State) (ring : Nat) (x : Acyc) (r : AcycRsp) : (State.endResponse s ring x r).vcore.code = s.vcore.code := by
  unfold State.endResponse
  repeat' (first | rfl | split | simp)

@[simp] theorem State.endMirrored_code (s : State) (ring : Nat) (r : AcycRsp) : (State.endMirrored s ring r).vcore.code = s.vcore.code := by
  unfold State.endMirrored
  repeat' (first | rfl | split | simp)

@[simp] theorem State.takeResponse_code (s : State) (ring : Nat) (r : AcycRsp) : (State.takeResponse s ring r).vcore.code = s.vcore.code := by
  unfold State.takeResponse
  repeat' (first | rfl | split | simp)

@[simp] theorem State.selftestFail_code (s : State) : (State.selftestFail s).vcore.code = s.vcore.code := by
  unfold State.selftestFail
  repeat' (first | rfl | split | simp)

@[simp] theorem State.selftestPass_code (s : State) : (State.selftestPass s).vcore.code = s.vcore.code := by
  unfold State.selftestPass; rfl

/-! ### Time -/

@[simp] theorem State.fireAlarm_code (s : State) (no : Nat) (done at_ : Nat) : (State.fireAlarm s no done at_).vcore.code = s.vcore.code := by
  unfold State.fireAlarm; simp

@[simp] theorem State.fireHeld_code (s : State) (v : Nat) : (State.fireHeld s v).vcore.code = s.vcore.code := by
  unfold State.fireHeld
  try dsimp only
  repeat' (first | rfl | split | intro _ | simp | rw [foldl_code])

@[simp] theorem State.initPlant_code (s : State) (v rate : Int) : (State.initPlant s v rate).vcore.code = s.vcore.code := by
  unfold State.initPlant
  repeat' (first | rfl | split | simp)

@[simp] theorem State.takeUtc_code (s : State) : (State.takeUtc s).vcore.code = s.vcore.code := by
  unfold State.takeUtc
  repeat' (first | rfl | split | simp)

@[simp] theorem State.selectDomain_code (s : State) (d : Nat) : (State.selectDomain s d).vcore.code = s.vcore.code := by
  unfold State.selectDomain
  repeat' (first | rfl | split | simp)

@[simp] theorem State.restartDomain_code (s : State) (d : Nat) : (State.restartDomain s d).vcore.code = s.vcore.code := by
  unfold State.restartDomain; rfl

@[simp] theorem State.ptpChange_code (s : State) (d state : Nat) : (State.ptpChange s d state).vcore.code = s.vcore.code := by
  unfold State.ptpChange; simp

@[simp] theorem State.applySync_code (s : State) (d : Nat) (rx : Nat) (stamp correction rate : Int) (port : Nat) : (State.applySync s d rx stamp correction rate port).vcore.code = s.vcore.code := by
  unfold State.applySync
  refine ite_keep (·.vcore.code) ?_ ?_
  · exact State.record_code ..
  · refine ite_keep (·.vcore.code) ((State.initPlant_code ..).trans ?_) ?_ <;> exact ite_keep (·.vcore.code) (State.ptpChange_code ..) rfl

@[simp] theorem State.ptpSend_code (s : State) (m : PtpOut) : (State.ptpSend s m).vcore.code = s.vcore.code := by
  unfold State.ptpSend
  repeat' (first | rfl | split | simp)

@[simp] theorem State.ptpForward_code (s : State) (d : Nat) (kind : Nat) (m : PtpMsg) : (State.ptpForward s d kind m).vcore.code = s.vcore.code := by
  unfold State.ptpForward
  repeat' (first | rfl | split | simp)

@[simp] theorem State.linkAlone_code (s : State) : (State.linkAlone s).vcore.code = s.vcore.code := by
  unfold State.linkAlone
  repeat' (first | rfl | split | simp)

@[simp] theorem State.seenOnRing_code (s : State) : (State.seenOnRing s).vcore.code = s.vcore.code := by
  unfold State.seenOnRing; simp

@[simp] theorem State.followFrame_code (s : State) (theirs : Nat) : (State.followFrame s theirs).vcore.code = s.vcore.code := by
  unfold State.followFrame
  repeat' (first | rfl | split | simp)

@[simp] theorem State.checkShifts_code (s : State) (ring tick : Nat) (shifts : List (Nat × Nat)) : (State.checkShifts s ring tick shifts).vcore.code = s.vcore.code := by
  unfold State.checkShifts
  repeat' (first | rfl | split | simp)

@[simp] theorem State.takeHealth_code (s : State) (health : BitVec 64) (epoch : Nat) : (State.takeHealth s health epoch).vcore.code = s.vcore.code := by
  unfold State.takeHealth
  repeat' (first | rfl | split | simp)

/-! ### LocalChannels -/

@[simp] theorem State.setDoFault_code (s : State) (on : Bool) : (State.setDoFault s on).vcore.code = s.vcore.code := by
  unfold State.setDoFault
  repeat' (first | rfl | split | simp)

@[simp] theorem State.modAo_code (s : State) (ch : Nat) (f : AoCh → AoCh) : (State.modAo s ch f).vcore.code = s.vcore.code := by
  unfold State.modAo; rfl

@[simp] theorem State.modHart_code (s : State) (ch : Nat) (f : HartCh → HartCh) : (State.modHart s ch f).vcore.code = s.vcore.code := by
  unfold State.modHart; rfl

@[simp] theorem State.hartNext_code (s : State) (ch : Nat) : (State.hartNext s ch).vcore.code = s.vcore.code := by
  unfold State.hartNext
  repeat' (first | rfl | split | simp)

/-! ### Can -/

@[simp] theorem State.canFilter_code (s : State) (k : Nat) (f : CanFrame) (rx : Nat) : (State.canFilter s k f rx).vcore.code = s.vcore.code := by
  unfold State.canFilter
  repeat' (first | rfl | split | simp)

@[simp] theorem State.canViolation_code (s : State) (k : Nat) (f : CanFrame) (t : Nat) : (State.canViolation s k f t).vcore.code = s.vcore.code := by
  unfold State.canViolation
  repeat' (first | rfl | split | simp)

@[simp] theorem State.canGone_code (s : State) (k : Nat) (f : CanFrame) (status : Nat) (body : List Byte) : (State.canGone s k f status body).vcore.code = s.vcore.code := by
  unfold State.canGone
  repeat' (first | rfl | split | simp)

@[simp] theorem State.canSeen_code (s : State) (k : Nat) (f : CanFrame) : (State.canSeen s k f).vcore.code = s.vcore.code := by
  unfold State.canSeen
  repeat' (first | rfl | split | simp)

@[simp] theorem State.canLost_code (s : State) (k : Nat) (f : CanFrame) : (State.canLost s k f).vcore.code = s.vcore.code := by
  unfold State.canLost; simp

@[simp] theorem State.canLose_code (s : State) (k : Nat) (x : CanTx) : (State.canLose s k x).vcore.code = s.vcore.code := by
  unfold State.canLose
  repeat' (first | rfl | split | simp)

@[simp] theorem State.setRedundant_code (s : State) (k : Nat) (on : Bool) : (State.setRedundant s k on).vcore.code = s.vcore.code := by
  unfold State.setRedundant
  repeat' (first | rfl | split | simp)

@[simp] theorem State.canFault_code (s : State) (k : Nat) : (State.canFault s k).vcore.code = s.vcore.code := by
  unfold State.canFault
  repeat' (first | rfl | split | simp)

@[simp] theorem State.canLoseAll_code (s : State) (k : Nat) : (State.canLoseAll s k).vcore.code = s.vcore.code := by
  unfold State.canLoseAll
  try dsimp only
  repeat' (first | rfl | split | intro _ | simp | rw [foldl_code])

@[simp] theorem State.sendReference_code (s : State) (k : Nat) : (State.sendReference s k).vcore.code = s.vcore.code := by
  unfold State.sendReference; rfl

@[simp] theorem State.queueObject_code (s : State) (k : Nat) (o : CanObject) (timed : Bool) : (State.queueObject s k o timed).vcore.code = s.vcore.code := by
  unfold State.queueObject; rfl

@[simp] theorem State.restartCan_code (s : State) (k : Nat) : (State.restartCan s k).vcore.code = s.vcore.code := by
  unfold State.restartCan; simp

/-! ### Pace -/

@[simp] theorem State.raiseVcore_le (s : State) (h : s.vcore.code ≤ 40) : (State.raiseVcore s).vcore.code ≤ 40 := by
  unfold State.raiseVcore
  try dsimp only
  repeat' (first | assumption | split | intro _ | omega | simp_all | apply foldl_le)

@[simp] theorem State.lowerVcore_le (s : State) (h : s.vcore.code ≤ 40) : (State.lowerVcore s).vcore.code ≤ 40 := by
  unfold State.lowerVcore
  try dsimp only
  repeat' (first | assumption | split | intro _ | omega | simp_all | apply foldl_le)

@[simp] theorem State.regulate_le (s : State) (h : s.vcore.code ≤ 40) : (State.regulate s).vcore.code ≤ 40 := by
  have k : (s.modVcore fun v => { v with limiting := (lowestProbe s.probes 0).2 }).vcore.code ≤ 40 := h
  unfold State.regulate
  extract_lets low s1 target
  repeat' split
  · exact State.raiseVcore_le _ k
  · exact State.raiseVcore_le _ k
  · exact State.lowerVcore_le _ k
  · exact k

@[simp] theorem State.judgePace_le (s : State) (strand : Nat) (h : s.vcore.code ≤ 40) : (State.judgePace s strand).vcore.code ≤ 40 := by
  unfold State.judgePace
  try dsimp only
  repeat' (first | assumption | split | intro _ | omega | simp_all | apply foldl_le)

@[simp] theorem State.judgeMargin_le (s : State) (strand : Nat) (h : s.vcore.code ≤ 40) : (State.judgeMargin s strand).vcore.code ≤ 40 := by
  unfold State.judgeMargin
  try dsimp only
  repeat' (first | assumption | split | intro _ | omega | simp_all | apply foldl_le)

@[simp] theorem State.faultUnit_code (s : State) (unit : Nat) : (State.faultUnit s unit).vcore.code = s.vcore.code := by
  unfold State.faultUnit
  repeat' (first | rfl | split | simp)

@[simp] theorem State.resetLink_code (s : State) : (State.resetLink s).vcore.code = s.vcore.code := by
  unfold State.resetLink
  repeat' (first | rfl | split | simp)

@[simp] theorem State.flushCrossing_code (s : State) (unit : Nat) : (State.flushCrossing s unit).vcore.code = s.vcore.code := by
  unfold State.flushCrossing; simp

/-! ### Units -/

@[simp] theorem State.setValues_code (s : State) (unit : Nat) (vs : List (Nat × Int)) : (State.setValues s unit vs).vcore.code = s.vcore.code := by
  unfold State.setValues
  repeat' (first | rfl | split | simp)

@[simp] theorem State.reclock_code (s : State) (unit : Nat) : (State.reclock s unit).vcore.code = s.vcore.code := by
  unfold State.reclock
  repeat' (first | rfl | split | simp)

@[simp] theorem State.applyPair_le (s : State) (unit : Nat) (vs : List (Nat × Int)) (h : s.vcore.code ≤ 40) : (State.applyPair s unit vs).vcore.code ≤ 40 := by
  unfold State.applyPair
  try dsimp only
  repeat' (first | assumption | split | intro _ | omega | simp_all | apply foldl_le)

@[simp] theorem State.restartSelection_code (s : State) : (State.restartSelection s).vcore.code = s.vcore.code := by
  unfold State.restartSelection
  repeat' (first | rfl | split | simp)

@[simp] theorem State.startUnit_code (s : State) (unit : Nat) : (State.startUnit s unit).vcore.code = s.vcore.code := by
  unfold State.startUnit
  repeat' (first | rfl | split | simp)

@[simp] theorem State.restartUnit_code (s : State) (unit : Nat) : (State.restartUnit s unit).vcore.code = s.vcore.code := by
  unfold State.restartUnit
  repeat' (first | rfl | split | simp)

@[simp] theorem State.loseQuiesce_code (s : State) (unit : Nat) : (State.loseQuiesce s unit).vcore.code = s.vcore.code := by
  unfold State.loseQuiesce; simp

@[simp] theorem State.abortChange_code (s : State) (result : Nat) : (State.abortChange s result).vcore.code = s.vcore.code := by
  unfold State.abortChange
  repeat' (first | rfl | split | simp)

@[simp] theorem State.releaseSlot_code (s : State) (holder : Nat) : (State.releaseSlot s holder).vcore.code = s.vcore.code := by
  unfold State.releaseSlot
  repeat' (first | rfl | split | simp)

@[simp] theorem State.takeSlot_code (s : State) (holder id : Nat) : (State.takeSlot s holder id).vcore.code = s.vcore.code := by
  unfold State.takeSlot
  repeat' (first | rfl | split | simp)

@[simp] theorem State.abortUpdate_code (s : State) : (State.abortUpdate s).vcore.code = s.vcore.code := by
  unfold State.abortUpdate
  repeat' (first | rfl | split | simp)

@[simp] theorem State.closeSession_code (s : State) (no : Nat) : (State.closeSession s no).vcore.code = s.vcore.code := by
  unfold State.closeSession
  try dsimp only
  repeat' (first | rfl | split | intro _ | simp | rw [foldl_code])

@[simp] theorem State.endUpdate_code (s : State) (result cause : Nat) : (State.endUpdate s result cause).vcore.code = s.vcore.code := by
  unfold State.endUpdate; simp

@[simp] theorem State.updateLeft_code (s : State) : (State.updateLeft s).vcore.code = s.vcore.code := by
  unfold State.updateLeft
  repeat' (first | rfl | split | simp)

@[simp] theorem State.updateHandover_code (s : State) : (State.updateHandover s).vcore.code = s.vcore.code := by
  unfold State.updateHandover
  repeat' (first | rfl | split | simp)

@[simp] theorem State.updateJoined_code (s : State) : (State.updateJoined s).vcore.code = s.vcore.code := by
  unfold State.updateJoined
  repeat' (first | rfl | split | simp)

@[simp] theorem State.updateSwapped_code (s : State) : (State.updateSwapped s).vcore.code = s.vcore.code := by
  unfold State.updateSwapped
  repeat' (first | rfl | split | simp)

@[simp] theorem State.updateOrphaned_code (s : State) : (State.updateOrphaned s).vcore.code = s.vcore.code := by
  unfold State.updateOrphaned
  repeat' (first | rfl | split | simp)

@[simp] theorem State.startProof_code (s : State) : (State.startProof s).vcore.code = s.vcore.code := by
  unfold State.startProof; simp

@[simp] theorem State.forceRecord_code (s : State) (ordinal : Nat) (f : Force) (session : Nat) : (State.forceRecord s ordinal f session).vcore.code = s.vcore.code := by
  unfold State.forceRecord; rfl

@[simp] theorem State.applyForces_code (s : State) (q : ForceReq) : (State.applyForces s q).vcore.code = s.vcore.code := by
  unfold State.applyForces
  try dsimp only
  repeat' (first | rfl | split | intro _ | simp | rw [foldl_code])

@[simp] theorem State.applyGate_code (s : State) (w : GateWrite) : (State.applyGate s w).vcore.code = s.vcore.code := by
  unfold State.applyGate; simp

@[simp] theorem State.applyRevoke_code (s : State) (serial : Word) : (State.applyRevoke s serial).vcore.code = s.vcore.code := by
  unfold State.applyRevoke
  try dsimp only
  repeat' (first | rfl | split | intro _ | simp | rw [foldl_code])

@[simp] theorem State.startTasks_code (s : State) (tenant mask start0 : Nat) : (State.startTasks s tenant mask start0).vcore.code = s.vcore.code := by
  unfold State.startTasks
  try dsimp only
  repeat' (first | rfl | split | intro _ | simp | rw [foldl_code])

@[simp] theorem State.stopTasks_code (s : State) (tenant mask : Nat) : (State.stopTasks s tenant mask).vcore.code = s.vcore.code := by
  unfold State.stopTasks
  try dsimp only
  repeat' (first | rfl | split | intro _ | simp | rw [foldl_code])

@[simp] theorem State.unload_code (s0 : State) (tenant : Nat) : (State.unload s0 tenant).vcore.code = s0.vcore.code := by
  unfold State.unload
  try dsimp only
  repeat' (first | rfl | split | intro _ | simp | rw [foldl_code])

@[simp] theorem State.ackHealth_code (s : State) (mask : BitVec 64) : (State.ackHealth s mask).vcore.code = s.vcore.code := by
  unfold State.ackHealth; rfl

@[simp] theorem State.canRestarted_code (s : State) (k : Nat) : (State.canRestarted s k).vcore.code = s.vcore.code := by
  unfold State.canRestarted
  repeat' (first | rfl | split | simp)

@[simp] theorem State.canUnlike_code (s : State) (k : Nat) : (State.canUnlike s k).vcore.code = s.vcore.code := by
  unfold State.canUnlike
  repeat' (first | rfl | split | simp)

/-! ### Gelit -/

@[simp] theorem State.useKey_code (s : State) (session : Nat) : (State.useKey s session).vcore.code = s.vcore.code := by
  unfold State.useKey; rfl

@[simp] theorem State.throughGate_le (s : State) (r : Req) (gate granule kind : Nat) (run : Answer) (h : s.vcore.code ≤ 40)
    (hr : run.All fun t => t.vcore.code ≤ 40) : (State.throughGate s r gate granule kind run).All fun t => t.vcore.code ≤ 40 := by
  unfold State.throughGate
  split
  · simp_all
  · exact hr

@[simp] theorem State.accept_code (s : State) (r : Req) : (State.accept s r).vcore.code = s.vcore.code := by
  unfold State.accept; rfl

@[simp] theorem State.answer_le (s : State) (k : Ticket) (a : Answer) (h : s.vcore.code ≤ 40)
    (ha : a.All fun t => t.vcore.code ≤ 40) : (State.answer s k a).vcore.code ≤ 40 := by
  unfold State.answer
  split
  · simp_all
  · simp_all
  · simp_all

@[simp] theorem State.closeLast_code (s : State) (no : Nat) : (State.closeLast s no).vcore.code = s.vcore.code := by
  unfold State.closeLast
  repeat' (first | rfl | split | simp)

@[simp] theorem State.receive_le (s : State) (c : Cmd) (v : Brought) (r : Req) (body : State → Ticket → Answer) (h : s.vcore.code ≤ 40)
    (hb : ∀ t k, t.vcore.code ≤ 40 → (body t k).All fun t => t.vcore.code ≤ 40) :
    (State.receive s c v r body).vcore.code ≤ 40 := by
  unfold State.receive
  split
  all_goals first | (simp_all; done) | skip
  split <;> simp_all

/-! ### Chunks -/

@[simp] theorem State.forwardChunk_code (s : State) (select : Nat) (c : Chunk) : (State.forwardChunk s select c).vcore.code = s.vcore.code := by
  unfold State.forwardChunk
  repeat' (first | rfl | split | simp)

/-! ### Loader -/

@[simp] theorem State.install_code (s : State) (tenant : Nat) (v : Version) (a : Admitted) : (State.install s tenant v a).vcore.code = s.vcore.code := by
  unfold State.install; rfl

/-! ### Checks -/

@[simp] theorem State.takeLoad_code (s : State) (w : CheckWait) : (State.takeLoad s w).vcore.code = s.vcore.code := by
  unfold State.takeLoad; simp

@[simp] theorem State.takeChange_code (s : State) (w : CheckWait) : (State.takeChange s w).vcore.code = s.vcore.code := by
  unfold State.takeChange; simp

@[simp] theorem State.failChange_code (s : State) (f : ChangeFail) : (State.failChange s f).vcore.code = s.vcore.code := by
  unfold State.failChange
  repeat' (first | rfl | split | simp)

@[simp] theorem State.takeCheck_code (s : State) (w : CheckWait) : (State.takeCheck s w).vcore.code = s.vcore.code := by
  unfold State.takeCheck
  repeat' (first | rfl | split | simp)

@[simp] theorem State.failLoad_code (s : State) (tenant : Nat) : (State.failLoad s tenant).vcore.code = s.vcore.code := by
  unfold State.failLoad; rfl

@[simp] theorem State.disagree_code (s : State) (w : CheckWait) : (State.disagree s w).vcore.code = s.vcore.code := by
  unfold State.disagree
  repeat' (first | rfl | split | simp)

@[simp] theorem State.askPartner_code (s : State) (w : CheckWait) : (State.askPartner s w).vcore.code = s.vcore.code := by
  unfold State.askPartner
  repeat' (first | rfl | split | simp)

@[simp] theorem State.checksAlone_code (s : State) : (State.checksAlone s).vcore.code = s.vcore.code := by
  unfold State.checksAlone
  try dsimp only
  repeat' (first | rfl | split | intro _ | simp | rw [foldl_code])

/-! ### PairEvents -/

@[simp] theorem State.tryOwn_code (s : State) : (State.tryOwn s).vcore.code = s.vcore.code := by
  unfold State.tryOwn
  repeat' (first | rfl | split | simp)

@[simp] theorem State.showMismatch_code (s : State) (h : Hold) : (State.showMismatch s h).vcore.code = s.vcore.code := by
  unfold State.showMismatch; simp

@[simp] theorem State.leaveLantern_code (s : State) (peer : Option PeerIdent) : (State.leaveLantern s peer).vcore.code = s.vcore.code := by
  unfold State.leaveLantern
  repeat' (first | rfl | split | simp)

@[simp] theorem State.startUnits_code (s : State) : (State.startUnits s).vcore.code = s.vcore.code := by
  unfold State.startUnits
  try dsimp only
  repeat' (first | rfl | split | intro _ | simp | rw [foldl_code])

@[simp] theorem State.takeTransfer_code (s : State) (x : Transfer) : (State.takeTransfer s x).vcore.code = s.vcore.code := by
  unfold State.takeTransfer; simp

@[simp] theorem State.abortJoin_le (s : State) (next : State → State) (h : s.vcore.code ≤ 40)
    (hn : ∀ t, t.vcore.code ≤ 40 → (next t).vcore.code ≤ 40) :
    (State.abortJoin s next).vcore.code ≤ 40 := by
  unfold State.abortJoin
  dsimp only
  split <;> simp_all

@[simp] theorem State.ownerLost_le (s : State) (h : s.vcore.code ≤ 40) : (State.ownerLost s).vcore.code ≤ 40 := by
  unfold State.ownerLost
  exact State.abortJoin_le _ _ h fun _ h => State.enterLantern_le _ _ _ _ h

@[simp] theorem State.endProof_code (s : State) : (State.endProof s).vcore.code = s.vcore.code := by
  unfold State.endProof; simp

@[simp] theorem State.loseLane_code (s : State) (lane : Nat) : (State.loseLane s lane).vcore.code = s.vcore.code := by
  unfold State.loseLane
  repeat' (first | rfl | split | simp)

@[simp] theorem State.failPower_code (s : State) : (State.failPower s).vcore.code = s.vcore.code := by
  unfold State.failPower
  repeat' (first | rfl | split | simp)

@[simp] theorem State.feedChange_code (s : State) (feed : Nat) (on : Bool) : (State.feedChange s feed on).vcore.code = s.vcore.code := by
  unfold State.feedChange
  repeat' (first | rfl | split | simp)

@[simp] theorem State.takeOver_code (s : State) (c : Cause) : (State.takeOver s c).vcore.code = s.vcore.code := by
  unfold State.takeOver; simp

@[simp] theorem State.giveOwnership_le (s : State) (x : Handover) (h : s.vcore.code ≤ 40) : (State.giveOwnership s x).vcore.code ≤ 40 := by
  unfold State.giveOwnership
  extract_lets s1 restart s2
  have h2 : s2.vcore.code ≤ 40 := by
    simp only [s2, s1, State.finishOpt_code, State.ownerToStandby_code, State.modPair_code, State.hartLeave_code]; exact h
  repeat' (first | assumption | split | simp_all)

@[simp] theorem State.rejoin_code (s : State) : (State.rejoin s).vcore.code = s.vcore.code := by
  unfold State.rejoin; simp

/-! ### Bringup -/

@[simp] theorem State.powerUp_le (s : State) (h : s.vcore.code ≤ 40) : (State.powerUp s).vcore.code ≤ 40 := by
  unfold State.powerUp
  try dsimp only
  repeat' (first | assumption | split | intro _ | omega | simp_all | apply foldl_le)

@[simp] theorem State.beginFetch_code (s : State) (part : Nat) : (State.beginFetch s part).vcore.code = s.vcore.code := by
  unfold State.beginFetch
  repeat' (first | rfl | split | simp)

@[simp] theorem State.partInvalid_code (s : State) : (State.partInvalid s).vcore.code = s.vcore.code := by
  unfold State.partInvalid; rfl

@[simp] theorem State.takeLanternNext_code (s : State) : (State.takeLanternNext s).vcore.code = s.vcore.code := by
  unfold State.takeLanternNext
  repeat' (first | rfl | split | simp)

@[simp] theorem State.leverStops_code (s : State) : (State.leverStops s).vcore.code = s.vcore.code := by
  unfold State.leverStops
  repeat' (first | rfl | split | simp)

@[simp] theorem State.keyAtLever_le (s : State) (h : s.vcore.code ≤ 40) : (State.keyAtLever s).vcore.code ≤ 40 := by
  unfold State.keyAtLever
  try dsimp only
  repeat' (first | assumption | split | intro _ | omega | simp_all | apply foldl_le)

/-! ### Keys -/

@[simp] theorem State.submit_code (s : State) (ops : List SigOp) : (State.submit s ops).vcore.code = s.vcore.code := by
  unfold State.submit; rfl

@[simp] theorem State.failedAttempt_code (s : State) (serial : Word) (reason : Nat) : (State.failedAttempt s serial reason).vcore.code = s.vcore.code := by
  unfold State.failedAttempt
  repeat' (first | rfl | split | simp)

@[simp] theorem State.keyPresent_le (s : State) (c : Credential) (h : s.vcore.code ≤ 40) : (State.keyPresent s c).vcore.code ≤ 40 := by
  unfold State.keyPresent
  try dsimp only
  repeat' (first | assumption | split | intro _ | omega | simp_all | apply foldl_le)

/-! ### Sessions -/

@[simp] theorem State.commandTestHold_le (s : State) (h : s.vcore.code ≤ 40) : (State.commandTestHold s).vcore.code ≤ 40 := by
  unfold State.commandTestHold
  try dsimp only
  repeat' (first | assumption | split | intro _ | omega | simp_all | apply foldl_le)

/-! ### FuncUnits -/

@[simp] theorem State.quiesceUnit_code (s : State) (unit session : Nat) : (State.quiesceUnit s unit session).vcore.code = s.vcore.code := by
  unfold State.quiesceUnit
  repeat' (first | rfl | split | simp)

/-! ### RingCommands -/

@[simp] theorem State.ringAcyclic_le (s : State) (r : Req) (h : s.vcore.code ≤ 40) : (State.ringAcyclic s r).vcore.code ≤ 40 := by
  unfold State.ringAcyclic
  apply State.receive_le _ _ _ _ _ h
  intro t k ht
  repeat' (first | exact trivial | assumption | (apply Answer.all_bind; intro _ _) | (rw [Answer.all_ok]; repeat' (first | assumption | split | simp_all)) | split | simp_all)

/-! ### LocalCommands -/

@[simp] theorem State.canLostNow_code (s : State) (k : Nat) : (State.canLostNow s k).vcore.code = s.vcore.code := by
  unfold State.canLostNow; rfl

/-! ### Updates -/

@[simp] theorem State.activate_le (s : State) (r : Req) (h : s.vcore.code ≤ 40) : (State.activate s r).vcore.code ≤ 40 := by
  unfold State.activate
  apply State.receive_le _ _ _ _ _ h
  intro t k ht
  repeat' (first | exact trivial | assumption | (apply Answer.all_bind; intro _ _) | (rw [Answer.all_ok]; repeat' (first | assumption | split | simp_all)) | split | simp_all)

@[simp] theorem State.writeRecord_code (s : State) : (State.writeRecord s).vcore.code = s.vcore.code := by
  unfold State.writeRecord; rfl

/-! ### AlmanacCommands -/

@[simp] theorem State.clearAlmanac_code (s : State) (bound serial session : Nat) : (State.clearAlmanac s bound serial session).vcore.code = s.vcore.code := by
  unfold State.clearAlmanac; rfl

/-! ### Process -/

@[simp] theorem State.readData_le (s : State) (r : Req) (prov : Bool) (h : s.vcore.code ≤ 40) :
    (State.readData s r prov).All fun t => t.vcore.code ≤ 40 := by
  unfold State.readData
  repeat' (first | exact trivial | assumption | (apply Answer.all_bind; intro _ _) | (rw [Answer.all_ok]; repeat' (first | assumption | split | simp_all)) | split | simp_all)

@[simp] theorem State.takeForces_code (s : State) (q : ForceReq) : (State.takeForces s q).vcore.code = s.vcore.code := by
  unfold State.takeForces
  repeat' (first | rfl | split | simp)

/-! ### Debug -/

@[simp] theorem State.openDebug_code (s : State) (tenant session : Nat) : (State.openDebug s tenant session).vcore.code = s.vcore.code := by
  unfold State.openDebug; simp

@[simp] theorem State.debugDo_le (s : State) (k : Ticket) (d : DebugSt) (op task offset : Nat) (h : s.vcore.code ≤ 40) :
    (State.debugDo s k d op task offset).All fun t => t.vcore.code ≤ 40 := by
  unfold State.debugDo
  dsimp only
  repeat' (first | exact trivial | assumption | split | simp_all)

@[simp] theorem State.debugControl_le (s : State) (r : Req) (h : s.vcore.code ≤ 40) : (State.debugControl s r).vcore.code ≤ 40 := by
  unfold State.debugControl
  apply State.receive_le _ _ _ _ _ h
  intro t k ht
  repeat' (first | exact trivial | assumption | (apply Answer.all_bind; intro _ _) | (rw [Answer.all_ok]; repeat' (first | assumption | split | simp_all)) | split | simp_all)

/-! ### TestPort -/

@[simp] theorem State.tapSelect_code (s : State) (code acts : Nat) : (State.tapSelect s code acts).vcore.code = s.vcore.code := by
  unfold State.tapSelect; rfl

@[simp] theorem State.driveTake_code (s : State) : (State.driveTake s).vcore.code = s.vcore.code := by
  unfold State.driveTake
  try dsimp only
  repeat' (first | rfl | split | intro _ | simp | rw [foldl_code])

@[simp] theorem State.drive_code (s : State) (code otherwise_ : Nat) (cells : List Bool) (deny : Tap → Tap) : (State.drive s code otherwise_ cells deny).vcore.code = s.vcore.code := by
  unfold State.drive
  repeat' (first | rfl | split | simp)

@[simp] theorem State.tapOn_le (s t : State) (h : s.vcore.code ≤ 40) (ht : t.vcore.code ≤ 40) :
    (State.tapOn s t).vcore.code ≤ 40 := by
  unfold State.tapOn; split <;> assumption

end Sys2Proof.Machine
end

