-- ==== Sys2Proof/Laws/State.lean ====
section
/-! SUPPORT. What each update of a part of the state leaves of every field: the part it changes, and every other field as it was.
The queue's lemmas stand in QueueKept. -/
namespace Sys2Proof.Machine

/-! ### modTask -/

@[simp] theorem State.modTask_ident (s : State) (n : Nat) (f : Task → Task) : (s.modTask n f).ident = s.ident := rfl
@[simp] theorem State.modTask_clk (s : State) (n : Nat) (f : Task → Task) : (s.modTask n f).clk = s.clk := rfl
@[simp] theorem State.modTask_mode (s : State) (n : Nat) (f : Task → Task) : (s.modTask n f).mode = s.mode := rfl
@[simp] theorem State.modTask_cause (s : State) (n : Nat) (f : Task → Task) : (s.modTask n f).cause = s.cause := rfl
@[simp] theorem State.modTask_settings (s : State) (n : Nat) (f : Task → Task) : (s.modTask n f).settings = s.settings := rfl
@[simp] theorem State.modTask_strands (s : State) (n : Nat) (f : Task → Task) : (s.modTask n f).strands = s.strands := rfl
@[simp] theorem State.modTask_vcore (s : State) (n : Nat) (f : Task → Task) : (s.modTask n f).vcore = s.vcore := rfl
@[simp] theorem State.modTask_crossings (s : State) (n : Nat) (f : Task → Task) : (s.modTask n f).crossings = s.crossings := rfl
@[simp] theorem State.modTask_tenants (s : State) (n : Nat) (f : Task → Task) : (s.modTask n f).tenants = s.tenants := rfl
@[simp] theorem State.modTask_tasks (s : State) (n : Nat) (f : Task → Task) : (s.modTask n f).tasks = NMap.mod s.tasks n f := rfl
@[simp] theorem State.modTask_change (s : State) (n : Nat) (f : Task → Task) : (s.modTask n f).change = s.change := rfl
@[simp] theorem State.modTask_forces (s : State) (n : Nat) (f : Task → Task) : (s.modTask n f).forces = s.forces := rfl
@[simp] theorem State.modTask_forceReqs (s : State) (n : Nat) (f : Task → Task) : (s.modTask n f).forceReqs = s.forceReqs := rfl
@[simp] theorem State.modTask_hostWrites (s : State) (n : Nat) (f : Task → Task) : (s.modTask n f).hostWrites = s.hostWrites := rfl
@[simp] theorem State.modTask_dbg (s : State) (n : Nat) (f : Task → Task) : (s.modTask n f).dbg = s.dbg := rfl
@[simp] theorem State.modTask_image (s : State) (n : Nat) (f : Task → Task) : (s.modTask n f).image = s.image := rfl
@[simp] theorem State.modTask_rings (s : State) (n : Nat) (f : Task → Task) : (s.modTask n f).rings = s.rings := rfl
@[simp] theorem State.modTask_ports (s : State) (n : Nat) (f : Task → Task) : (s.modTask n f).ports = s.ports := rfl
@[simp] theorem State.modTask_acyc (s : State) (n : Nat) (f : Task → Task) : (s.modTask n f).acyc = s.acyc := rfl
@[simp] theorem State.modTask_cyclicTags (s : State) (n : Nat) (f : Task → Task) : (s.modTask n f).cyclicTags = s.cyclicTags := rfl
@[simp] theorem State.modTask_link (s : State) (n : Nat) (f : Task → Task) : (s.modTask n f).link = s.link := rfl
@[simp] theorem State.modTask_pair (s : State) (n : Nat) (f : Task → Task) : (s.modTask n f).pair = s.pair := rfl
@[simp] theorem State.modTask_fires (s : State) (n : Nat) (f : Task → Task) : (s.modTask n f).fires = s.fires := rfl
@[simp] theorem State.modTask_peerFires (s : State) (n : Nat) (f : Task → Task) : (s.modTask n f).peerFires = s.peerFires := rfl
@[simp] theorem State.modTask_checks (s : State) (n : Nat) (f : Task → Task) : (s.modTask n f).checks = s.checks := rfl
@[simp] theorem State.modTask_feeds (s : State) (n : Nat) (f : Task → Task) : (s.modTask n f).feeds = s.feeds := rfl
@[simp] theorem State.modTask_front (s : State) (n : Nat) (f : Task → Task) : (s.modTask n f).front = s.front := rfl
@[simp] theorem State.modTask_lantern (s : State) (n : Nat) (f : Task → Task) : (s.modTask n f).lantern = s.lantern := rfl
@[simp] theorem State.modTask_time (s : State) (n : Nat) (f : Task → Task) : (s.modTask n f).time = s.time := rfl
@[simp] theorem State.modTask_gelit (s : State) (n : Nat) (f : Task → Task) : (s.modTask n f).gelit = s.gelit := rfl
@[simp] theorem State.modTask_io (s : State) (n : Nat) (f : Task → Task) : (s.modTask n f).io = s.io := rfl
@[simp] theorem State.modTask_hart (s : State) (n : Nat) (f : Task → Task) : (s.modTask n f).hart = s.hart := rfl
@[simp] theorem State.modTask_can (s : State) (n : Nat) (f : Task → Task) : (s.modTask n f).can = s.can := rfl
@[simp] theorem State.modTask_gates (s : State) (n : Nat) (f : Task → Task) : (s.modTask n f).gates = s.gates := rfl
@[simp] theorem State.modTask_gateWrites (s : State) (n : Nat) (f : Task → Task) : (s.modTask n f).gateWrites = s.gateWrites := rfl
@[simp] theorem State.modTask_keys (s : State) (n : Nat) (f : Task → Task) : (s.modTask n f).keys = s.keys := rfl
@[simp] theorem State.modTask_reader (s : State) (n : Nat) (f : Task → Task) : (s.modTask n f).reader = s.reader := rfl
@[simp] theorem State.modTask_update (s : State) (n : Nat) (f : Task → Task) : (s.modTask n f).update = s.update := rfl
@[simp] theorem State.modTask_saved (s : State) (n : Nat) (f : Task → Task) : (s.modTask n f).saved = s.saved := rfl
@[simp] theorem State.modTask_slot (s : State) (n : Nat) (f : Task → Task) : (s.modTask n f).slot = s.slot := rfl
@[simp] theorem State.modTask_almanac (s : State) (n : Nat) (f : Task → Task) : (s.modTask n f).almanac = s.almanac := rfl
@[simp] theorem State.modTask_counters (s : State) (n : Nat) (f : Task → Task) : (s.modTask n f).counters = s.counters := rfl
@[simp] theorem State.modTask_privWds (s : State) (n : Nat) (f : Task → Task) : (s.modTask n f).privWds = s.privWds := rfl
@[simp] theorem State.modTask_tap (s : State) (n : Nat) (f : Task → Task) : (s.modTask n f).tap = s.tap := rfl
@[simp] theorem State.modTask_cmBlock (s : State) (n : Nat) (f : Task → Task) : (s.modTask n f).cmBlock = s.cmBlock := rfl

/-! ### modTenant -/

@[simp] theorem State.modTenant_ident (s : State) (n : Nat) (f : Tenant → Tenant) : (s.modTenant n f).ident = s.ident := rfl
@[simp] theorem State.modTenant_clk (s : State) (n : Nat) (f : Tenant → Tenant) : (s.modTenant n f).clk = s.clk := rfl
@[simp] theorem State.modTenant_mode (s : State) (n : Nat) (f : Tenant → Tenant) : (s.modTenant n f).mode = s.mode := rfl
@[simp] theorem State.modTenant_cause (s : State) (n : Nat) (f : Tenant → Tenant) : (s.modTenant n f).cause = s.cause := rfl
@[simp] theorem State.modTenant_settings (s : State) (n : Nat) (f : Tenant → Tenant) : (s.modTenant n f).settings = s.settings := rfl
@[simp] theorem State.modTenant_strands (s : State) (n : Nat) (f : Tenant → Tenant) : (s.modTenant n f).strands = s.strands := rfl
@[simp] theorem State.modTenant_vcore (s : State) (n : Nat) (f : Tenant → Tenant) : (s.modTenant n f).vcore = s.vcore := rfl
@[simp] theorem State.modTenant_crossings (s : State) (n : Nat) (f : Tenant → Tenant) : (s.modTenant n f).crossings = s.crossings := rfl
@[simp] theorem State.modTenant_tenants (s : State) (n : Nat) (f : Tenant → Tenant) : (s.modTenant n f).tenants = NMap.mod s.tenants n f := rfl
@[simp] theorem State.modTenant_tasks (s : State) (n : Nat) (f : Tenant → Tenant) : (s.modTenant n f).tasks = s.tasks := rfl
@[simp] theorem State.modTenant_change (s : State) (n : Nat) (f : Tenant → Tenant) : (s.modTenant n f).change = s.change := rfl
@[simp] theorem State.modTenant_forces (s : State) (n : Nat) (f : Tenant → Tenant) : (s.modTenant n f).forces = s.forces := rfl
@[simp] theorem State.modTenant_forceReqs (s : State) (n : Nat) (f : Tenant → Tenant) : (s.modTenant n f).forceReqs = s.forceReqs := rfl
@[simp] theorem State.modTenant_hostWrites (s : State) (n : Nat) (f : Tenant → Tenant) : (s.modTenant n f).hostWrites = s.hostWrites := rfl
@[simp] theorem State.modTenant_dbg (s : State) (n : Nat) (f : Tenant → Tenant) : (s.modTenant n f).dbg = s.dbg := rfl
@[simp] theorem State.modTenant_image (s : State) (n : Nat) (f : Tenant → Tenant) : (s.modTenant n f).image = s.image := rfl
@[simp] theorem State.modTenant_rings (s : State) (n : Nat) (f : Tenant → Tenant) : (s.modTenant n f).rings = s.rings := rfl
@[simp] theorem State.modTenant_ports (s : State) (n : Nat) (f : Tenant → Tenant) : (s.modTenant n f).ports = s.ports := rfl
@[simp] theorem State.modTenant_acyc (s : State) (n : Nat) (f : Tenant → Tenant) : (s.modTenant n f).acyc = s.acyc := rfl
@[simp] theorem State.modTenant_cyclicTags (s : State) (n : Nat) (f : Tenant → Tenant) : (s.modTenant n f).cyclicTags = s.cyclicTags := rfl
@[simp] theorem State.modTenant_link (s : State) (n : Nat) (f : Tenant → Tenant) : (s.modTenant n f).link = s.link := rfl
@[simp] theorem State.modTenant_pair (s : State) (n : Nat) (f : Tenant → Tenant) : (s.modTenant n f).pair = s.pair := rfl
@[simp] theorem State.modTenant_fires (s : State) (n : Nat) (f : Tenant → Tenant) : (s.modTenant n f).fires = s.fires := rfl
@[simp] theorem State.modTenant_peerFires (s : State) (n : Nat) (f : Tenant → Tenant) : (s.modTenant n f).peerFires = s.peerFires := rfl
@[simp] theorem State.modTenant_checks (s : State) (n : Nat) (f : Tenant → Tenant) : (s.modTenant n f).checks = s.checks := rfl
@[simp] theorem State.modTenant_feeds (s : State) (n : Nat) (f : Tenant → Tenant) : (s.modTenant n f).feeds = s.feeds := rfl
@[simp] theorem State.modTenant_front (s : State) (n : Nat) (f : Tenant → Tenant) : (s.modTenant n f).front = s.front := rfl
@[simp] theorem State.modTenant_lantern (s : State) (n : Nat) (f : Tenant → Tenant) : (s.modTenant n f).lantern = s.lantern := rfl
@[simp] theorem State.modTenant_time (s : State) (n : Nat) (f : Tenant → Tenant) : (s.modTenant n f).time = s.time := rfl
@[simp] theorem State.modTenant_gelit (s : State) (n : Nat) (f : Tenant → Tenant) : (s.modTenant n f).gelit = s.gelit := rfl
@[simp] theorem State.modTenant_io (s : State) (n : Nat) (f : Tenant → Tenant) : (s.modTenant n f).io = s.io := rfl
@[simp] theorem State.modTenant_hart (s : State) (n : Nat) (f : Tenant → Tenant) : (s.modTenant n f).hart = s.hart := rfl
@[simp] theorem State.modTenant_can (s : State) (n : Nat) (f : Tenant → Tenant) : (s.modTenant n f).can = s.can := rfl
@[simp] theorem State.modTenant_gates (s : State) (n : Nat) (f : Tenant → Tenant) : (s.modTenant n f).gates = s.gates := rfl
@[simp] theorem State.modTenant_gateWrites (s : State) (n : Nat) (f : Tenant → Tenant) : (s.modTenant n f).gateWrites = s.gateWrites := rfl
@[simp] theorem State.modTenant_keys (s : State) (n : Nat) (f : Tenant → Tenant) : (s.modTenant n f).keys = s.keys := rfl
@[simp] theorem State.modTenant_reader (s : State) (n : Nat) (f : Tenant → Tenant) : (s.modTenant n f).reader = s.reader := rfl
@[simp] theorem State.modTenant_update (s : State) (n : Nat) (f : Tenant → Tenant) : (s.modTenant n f).update = s.update := rfl
@[simp] theorem State.modTenant_saved (s : State) (n : Nat) (f : Tenant → Tenant) : (s.modTenant n f).saved = s.saved := rfl
@[simp] theorem State.modTenant_slot (s : State) (n : Nat) (f : Tenant → Tenant) : (s.modTenant n f).slot = s.slot := rfl
@[simp] theorem State.modTenant_almanac (s : State) (n : Nat) (f : Tenant → Tenant) : (s.modTenant n f).almanac = s.almanac := rfl
@[simp] theorem State.modTenant_counters (s : State) (n : Nat) (f : Tenant → Tenant) : (s.modTenant n f).counters = s.counters := rfl
@[simp] theorem State.modTenant_privWds (s : State) (n : Nat) (f : Tenant → Tenant) : (s.modTenant n f).privWds = s.privWds := rfl
@[simp] theorem State.modTenant_tap (s : State) (n : Nat) (f : Tenant → Tenant) : (s.modTenant n f).tap = s.tap := rfl
@[simp] theorem State.modTenant_cmBlock (s : State) (n : Nat) (f : Tenant → Tenant) : (s.modTenant n f).cmBlock = s.cmBlock := rfl

/-! ### modStrand -/

@[simp] theorem State.modStrand_ident (s : State) (n : Nat) (f : StrandSt → StrandSt) : (s.modStrand n f).ident = s.ident := rfl
@[simp] theorem State.modStrand_clk (s : State) (n : Nat) (f : StrandSt → StrandSt) : (s.modStrand n f).clk = s.clk := rfl
@[simp] theorem State.modStrand_mode (s : State) (n : Nat) (f : StrandSt → StrandSt) : (s.modStrand n f).mode = s.mode := rfl
@[simp] theorem State.modStrand_cause (s : State) (n : Nat) (f : StrandSt → StrandSt) : (s.modStrand n f).cause = s.cause := rfl
@[simp] theorem State.modStrand_settings (s : State) (n : Nat) (f : StrandSt → StrandSt) : (s.modStrand n f).settings = s.settings := rfl
@[simp] theorem State.modStrand_strands (s : State) (n : Nat) (f : StrandSt → StrandSt) : (s.modStrand n f).strands = modAt s.strands n f := rfl
@[simp] theorem State.modStrand_vcore (s : State) (n : Nat) (f : StrandSt → StrandSt) : (s.modStrand n f).vcore = s.vcore := rfl
@[simp] theorem State.modStrand_crossings (s : State) (n : Nat) (f : StrandSt → StrandSt) : (s.modStrand n f).crossings = s.crossings := rfl
@[simp] theorem State.modStrand_tenants (s : State) (n : Nat) (f : StrandSt → StrandSt) : (s.modStrand n f).tenants = s.tenants := rfl
@[simp] theorem State.modStrand_tasks (s : State) (n : Nat) (f : StrandSt → StrandSt) : (s.modStrand n f).tasks = s.tasks := rfl
@[simp] theorem State.modStrand_change (s : State) (n : Nat) (f : StrandSt → StrandSt) : (s.modStrand n f).change = s.change := rfl
@[simp] theorem State.modStrand_forces (s : State) (n : Nat) (f : StrandSt → StrandSt) : (s.modStrand n f).forces = s.forces := rfl
@[simp] theorem State.modStrand_forceReqs (s : State) (n : Nat) (f : StrandSt → StrandSt) : (s.modStrand n f).forceReqs = s.forceReqs := rfl
@[simp] theorem State.modStrand_hostWrites (s : State) (n : Nat) (f : StrandSt → StrandSt) : (s.modStrand n f).hostWrites = s.hostWrites := rfl
@[simp] theorem State.modStrand_dbg (s : State) (n : Nat) (f : StrandSt → StrandSt) : (s.modStrand n f).dbg = s.dbg := rfl
@[simp] theorem State.modStrand_image (s : State) (n : Nat) (f : StrandSt → StrandSt) : (s.modStrand n f).image = s.image := rfl
@[simp] theorem State.modStrand_rings (s : State) (n : Nat) (f : StrandSt → StrandSt) : (s.modStrand n f).rings = s.rings := rfl
@[simp] theorem State.modStrand_ports (s : State) (n : Nat) (f : StrandSt → StrandSt) : (s.modStrand n f).ports = s.ports := rfl
@[simp] theorem State.modStrand_acyc (s : State) (n : Nat) (f : StrandSt → StrandSt) : (s.modStrand n f).acyc = s.acyc := rfl
@[simp] theorem State.modStrand_cyclicTags (s : State) (n : Nat) (f : StrandSt → StrandSt) : (s.modStrand n f).cyclicTags = s.cyclicTags := rfl
@[simp] theorem State.modStrand_link (s : State) (n : Nat) (f : StrandSt → StrandSt) : (s.modStrand n f).link = s.link := rfl
@[simp] theorem State.modStrand_pair (s : State) (n : Nat) (f : StrandSt → StrandSt) : (s.modStrand n f).pair = s.pair := rfl
@[simp] theorem State.modStrand_fires (s : State) (n : Nat) (f : StrandSt → StrandSt) : (s.modStrand n f).fires = s.fires := rfl
@[simp] theorem State.modStrand_peerFires (s : State) (n : Nat) (f : StrandSt → StrandSt) : (s.modStrand n f).peerFires = s.peerFires := rfl
@[simp] theorem State.modStrand_checks (s : State) (n : Nat) (f : StrandSt → StrandSt) : (s.modStrand n f).checks = s.checks := rfl
@[simp] theorem State.modStrand_feeds (s : State) (n : Nat) (f : StrandSt → StrandSt) : (s.modStrand n f).feeds = s.feeds := rfl
@[simp] theorem State.modStrand_front (s : State) (n : Nat) (f : StrandSt → StrandSt) : (s.modStrand n f).front = s.front := rfl
@[simp] theorem State.modStrand_lantern (s : State) (n : Nat) (f : StrandSt → StrandSt) : (s.modStrand n f).lantern = s.lantern := rfl
@[simp] theorem State.modStrand_time (s : State) (n : Nat) (f : StrandSt → StrandSt) : (s.modStrand n f).time = s.time := rfl
@[simp] theorem State.modStrand_gelit (s : State) (n : Nat) (f : StrandSt → StrandSt) : (s.modStrand n f).gelit = s.gelit := rfl
@[simp] theorem State.modStrand_io (s : State) (n : Nat) (f : StrandSt → StrandSt) : (s.modStrand n f).io = s.io := rfl
@[simp] theorem State.modStrand_hart (s : State) (n : Nat) (f : StrandSt → StrandSt) : (s.modStrand n f).hart = s.hart := rfl
@[simp] theorem State.modStrand_can (s : State) (n : Nat) (f : StrandSt → StrandSt) : (s.modStrand n f).can = s.can := rfl
@[simp] theorem State.modStrand_gates (s : State) (n : Nat) (f : StrandSt → StrandSt) : (s.modStrand n f).gates = s.gates := rfl
@[simp] theorem State.modStrand_gateWrites (s : State) (n : Nat) (f : StrandSt → StrandSt) : (s.modStrand n f).gateWrites = s.gateWrites := rfl
@[simp] theorem State.modStrand_keys (s : State) (n : Nat) (f : StrandSt → StrandSt) : (s.modStrand n f).keys = s.keys := rfl
@[simp] theorem State.modStrand_reader (s : State) (n : Nat) (f : StrandSt → StrandSt) : (s.modStrand n f).reader = s.reader := rfl
@[simp] theorem State.modStrand_update (s : State) (n : Nat) (f : StrandSt → StrandSt) : (s.modStrand n f).update = s.update := rfl
@[simp] theorem State.modStrand_saved (s : State) (n : Nat) (f : StrandSt → StrandSt) : (s.modStrand n f).saved = s.saved := rfl
@[simp] theorem State.modStrand_slot (s : State) (n : Nat) (f : StrandSt → StrandSt) : (s.modStrand n f).slot = s.slot := rfl
@[simp] theorem State.modStrand_almanac (s : State) (n : Nat) (f : StrandSt → StrandSt) : (s.modStrand n f).almanac = s.almanac := rfl
@[simp] theorem State.modStrand_counters (s : State) (n : Nat) (f : StrandSt → StrandSt) : (s.modStrand n f).counters = s.counters := rfl
@[simp] theorem State.modStrand_privWds (s : State) (n : Nat) (f : StrandSt → StrandSt) : (s.modStrand n f).privWds = s.privWds := rfl
@[simp] theorem State.modStrand_tap (s : State) (n : Nat) (f : StrandSt → StrandSt) : (s.modStrand n f).tap = s.tap := rfl
@[simp] theorem State.modStrand_cmBlock (s : State) (n : Nat) (f : StrandSt → StrandSt) : (s.modStrand n f).cmBlock = s.cmBlock := rfl

/-! ### modRing -/

@[simp] theorem State.modRing_ident (s : State) (n : Nat) (f : Ring → Ring) : (s.modRing n f).ident = s.ident := rfl
@[simp] theorem State.modRing_clk (s : State) (n : Nat) (f : Ring → Ring) : (s.modRing n f).clk = s.clk := rfl
@[simp] theorem State.modRing_mode (s : State) (n : Nat) (f : Ring → Ring) : (s.modRing n f).mode = s.mode := rfl
@[simp] theorem State.modRing_cause (s : State) (n : Nat) (f : Ring → Ring) : (s.modRing n f).cause = s.cause := rfl
@[simp] theorem State.modRing_settings (s : State) (n : Nat) (f : Ring → Ring) : (s.modRing n f).settings = s.settings := rfl
@[simp] theorem State.modRing_strands (s : State) (n : Nat) (f : Ring → Ring) : (s.modRing n f).strands = s.strands := rfl
@[simp] theorem State.modRing_vcore (s : State) (n : Nat) (f : Ring → Ring) : (s.modRing n f).vcore = s.vcore := rfl
@[simp] theorem State.modRing_crossings (s : State) (n : Nat) (f : Ring → Ring) : (s.modRing n f).crossings = s.crossings := rfl
@[simp] theorem State.modRing_tenants (s : State) (n : Nat) (f : Ring → Ring) : (s.modRing n f).tenants = s.tenants := rfl
@[simp] theorem State.modRing_tasks (s : State) (n : Nat) (f : Ring → Ring) : (s.modRing n f).tasks = s.tasks := rfl
@[simp] theorem State.modRing_change (s : State) (n : Nat) (f : Ring → Ring) : (s.modRing n f).change = s.change := rfl
@[simp] theorem State.modRing_forces (s : State) (n : Nat) (f : Ring → Ring) : (s.modRing n f).forces = s.forces := rfl
@[simp] theorem State.modRing_forceReqs (s : State) (n : Nat) (f : Ring → Ring) : (s.modRing n f).forceReqs = s.forceReqs := rfl
@[simp] theorem State.modRing_hostWrites (s : State) (n : Nat) (f : Ring → Ring) : (s.modRing n f).hostWrites = s.hostWrites := rfl
@[simp] theorem State.modRing_dbg (s : State) (n : Nat) (f : Ring → Ring) : (s.modRing n f).dbg = s.dbg := rfl
@[simp] theorem State.modRing_image (s : State) (n : Nat) (f : Ring → Ring) : (s.modRing n f).image = s.image := rfl
@[simp] theorem State.modRing_rings (s : State) (n : Nat) (f : Ring → Ring) : (s.modRing n f).rings = modAt s.rings n f := rfl
@[simp] theorem State.modRing_ports (s : State) (n : Nat) (f : Ring → Ring) : (s.modRing n f).ports = s.ports := rfl
@[simp] theorem State.modRing_acyc (s : State) (n : Nat) (f : Ring → Ring) : (s.modRing n f).acyc = s.acyc := rfl
@[simp] theorem State.modRing_cyclicTags (s : State) (n : Nat) (f : Ring → Ring) : (s.modRing n f).cyclicTags = s.cyclicTags := rfl
@[simp] theorem State.modRing_link (s : State) (n : Nat) (f : Ring → Ring) : (s.modRing n f).link = s.link := rfl
@[simp] theorem State.modRing_pair (s : State) (n : Nat) (f : Ring → Ring) : (s.modRing n f).pair = s.pair := rfl
@[simp] theorem State.modRing_fires (s : State) (n : Nat) (f : Ring → Ring) : (s.modRing n f).fires = s.fires := rfl
@[simp] theorem State.modRing_peerFires (s : State) (n : Nat) (f : Ring → Ring) : (s.modRing n f).peerFires = s.peerFires := rfl
@[simp] theorem State.modRing_checks (s : State) (n : Nat) (f : Ring → Ring) : (s.modRing n f).checks = s.checks := rfl
@[simp] theorem State.modRing_feeds (s : State) (n : Nat) (f : Ring → Ring) : (s.modRing n f).feeds = s.feeds := rfl
@[simp] theorem State.modRing_front (s : State) (n : Nat) (f : Ring → Ring) : (s.modRing n f).front = s.front := rfl
@[simp] theorem State.modRing_lantern (s : State) (n : Nat) (f : Ring → Ring) : (s.modRing n f).lantern = s.lantern := rfl
@[simp] theorem State.modRing_time (s : State) (n : Nat) (f : Ring → Ring) : (s.modRing n f).time = s.time := rfl
@[simp] theorem State.modRing_gelit (s : State) (n : Nat) (f : Ring → Ring) : (s.modRing n f).gelit = s.gelit := rfl
@[simp] theorem State.modRing_io (s : State) (n : Nat) (f : Ring → Ring) : (s.modRing n f).io = s.io := rfl
@[simp] theorem State.modRing_hart (s : State) (n : Nat) (f : Ring → Ring) : (s.modRing n f).hart = s.hart := rfl
@[simp] theorem State.modRing_can (s : State) (n : Nat) (f : Ring → Ring) : (s.modRing n f).can = s.can := rfl
@[simp] theorem State.modRing_gates (s : State) (n : Nat) (f : Ring → Ring) : (s.modRing n f).gates = s.gates := rfl
@[simp] theorem State.modRing_gateWrites (s : State) (n : Nat) (f : Ring → Ring) : (s.modRing n f).gateWrites = s.gateWrites := rfl
@[simp] theorem State.modRing_keys (s : State) (n : Nat) (f : Ring → Ring) : (s.modRing n f).keys = s.keys := rfl
@[simp] theorem State.modRing_reader (s : State) (n : Nat) (f : Ring → Ring) : (s.modRing n f).reader = s.reader := rfl
@[simp] theorem State.modRing_update (s : State) (n : Nat) (f : Ring → Ring) : (s.modRing n f).update = s.update := rfl
@[simp] theorem State.modRing_saved (s : State) (n : Nat) (f : Ring → Ring) : (s.modRing n f).saved = s.saved := rfl
@[simp] theorem State.modRing_slot (s : State) (n : Nat) (f : Ring → Ring) : (s.modRing n f).slot = s.slot := rfl
@[simp] theorem State.modRing_almanac (s : State) (n : Nat) (f : Ring → Ring) : (s.modRing n f).almanac = s.almanac := rfl
@[simp] theorem State.modRing_counters (s : State) (n : Nat) (f : Ring → Ring) : (s.modRing n f).counters = s.counters := rfl
@[simp] theorem State.modRing_privWds (s : State) (n : Nat) (f : Ring → Ring) : (s.modRing n f).privWds = s.privWds := rfl
@[simp] theorem State.modRing_tap (s : State) (n : Nat) (f : Ring → Ring) : (s.modRing n f).tap = s.tap := rfl
@[simp] theorem State.modRing_cmBlock (s : State) (n : Nat) (f : Ring → Ring) : (s.modRing n f).cmBlock = s.cmBlock := rfl

/-! ### modPort -/

@[simp] theorem State.modPort_ident (s : State) (n : Nat) (f : Port → Port) : (s.modPort n f).ident = s.ident := rfl
@[simp] theorem State.modPort_clk (s : State) (n : Nat) (f : Port → Port) : (s.modPort n f).clk = s.clk := rfl
@[simp] theorem State.modPort_mode (s : State) (n : Nat) (f : Port → Port) : (s.modPort n f).mode = s.mode := rfl
@[simp] theorem State.modPort_cause (s : State) (n : Nat) (f : Port → Port) : (s.modPort n f).cause = s.cause := rfl
@[simp] theorem State.modPort_settings (s : State) (n : Nat) (f : Port → Port) : (s.modPort n f).settings = s.settings := rfl
@[simp] theorem State.modPort_strands (s : State) (n : Nat) (f : Port → Port) : (s.modPort n f).strands = s.strands := rfl
@[simp] theorem State.modPort_vcore (s : State) (n : Nat) (f : Port → Port) : (s.modPort n f).vcore = s.vcore := rfl
@[simp] theorem State.modPort_crossings (s : State) (n : Nat) (f : Port → Port) : (s.modPort n f).crossings = s.crossings := rfl
@[simp] theorem State.modPort_tenants (s : State) (n : Nat) (f : Port → Port) : (s.modPort n f).tenants = s.tenants := rfl
@[simp] theorem State.modPort_tasks (s : State) (n : Nat) (f : Port → Port) : (s.modPort n f).tasks = s.tasks := rfl
@[simp] theorem State.modPort_change (s : State) (n : Nat) (f : Port → Port) : (s.modPort n f).change = s.change := rfl
@[simp] theorem State.modPort_forces (s : State) (n : Nat) (f : Port → Port) : (s.modPort n f).forces = s.forces := rfl
@[simp] theorem State.modPort_forceReqs (s : State) (n : Nat) (f : Port → Port) : (s.modPort n f).forceReqs = s.forceReqs := rfl
@[simp] theorem State.modPort_hostWrites (s : State) (n : Nat) (f : Port → Port) : (s.modPort n f).hostWrites = s.hostWrites := rfl
@[simp] theorem State.modPort_dbg (s : State) (n : Nat) (f : Port → Port) : (s.modPort n f).dbg = s.dbg := rfl
@[simp] theorem State.modPort_image (s : State) (n : Nat) (f : Port → Port) : (s.modPort n f).image = s.image := rfl
@[simp] theorem State.modPort_rings (s : State) (n : Nat) (f : Port → Port) : (s.modPort n f).rings = s.rings := rfl
@[simp] theorem State.modPort_ports (s : State) (n : Nat) (f : Port → Port) : (s.modPort n f).ports = modAt s.ports n f := rfl
@[simp] theorem State.modPort_acyc (s : State) (n : Nat) (f : Port → Port) : (s.modPort n f).acyc = s.acyc := rfl
@[simp] theorem State.modPort_cyclicTags (s : State) (n : Nat) (f : Port → Port) : (s.modPort n f).cyclicTags = s.cyclicTags := rfl
@[simp] theorem State.modPort_link (s : State) (n : Nat) (f : Port → Port) : (s.modPort n f).link = s.link := rfl
@[simp] theorem State.modPort_pair (s : State) (n : Nat) (f : Port → Port) : (s.modPort n f).pair = s.pair := rfl
@[simp] theorem State.modPort_fires (s : State) (n : Nat) (f : Port → Port) : (s.modPort n f).fires = s.fires := rfl
@[simp] theorem State.modPort_peerFires (s : State) (n : Nat) (f : Port → Port) : (s.modPort n f).peerFires = s.peerFires := rfl
@[simp] theorem State.modPort_checks (s : State) (n : Nat) (f : Port → Port) : (s.modPort n f).checks = s.checks := rfl
@[simp] theorem State.modPort_feeds (s : State) (n : Nat) (f : Port → Port) : (s.modPort n f).feeds = s.feeds := rfl
@[simp] theorem State.modPort_front (s : State) (n : Nat) (f : Port → Port) : (s.modPort n f).front = s.front := rfl
@[simp] theorem State.modPort_lantern (s : State) (n : Nat) (f : Port → Port) : (s.modPort n f).lantern = s.lantern := rfl
@[simp] theorem State.modPort_time (s : State) (n : Nat) (f : Port → Port) : (s.modPort n f).time = s.time := rfl
@[simp] theorem State.modPort_gelit (s : State) (n : Nat) (f : Port → Port) : (s.modPort n f).gelit = s.gelit := rfl
@[simp] theorem State.modPort_io (s : State) (n : Nat) (f : Port → Port) : (s.modPort n f).io = s.io := rfl
@[simp] theorem State.modPort_hart (s : State) (n : Nat) (f : Port → Port) : (s.modPort n f).hart = s.hart := rfl
@[simp] theorem State.modPort_can (s : State) (n : Nat) (f : Port → Port) : (s.modPort n f).can = s.can := rfl
@[simp] theorem State.modPort_gates (s : State) (n : Nat) (f : Port → Port) : (s.modPort n f).gates = s.gates := rfl
@[simp] theorem State.modPort_gateWrites (s : State) (n : Nat) (f : Port → Port) : (s.modPort n f).gateWrites = s.gateWrites := rfl
@[simp] theorem State.modPort_keys (s : State) (n : Nat) (f : Port → Port) : (s.modPort n f).keys = s.keys := rfl
@[simp] theorem State.modPort_reader (s : State) (n : Nat) (f : Port → Port) : (s.modPort n f).reader = s.reader := rfl
@[simp] theorem State.modPort_update (s : State) (n : Nat) (f : Port → Port) : (s.modPort n f).update = s.update := rfl
@[simp] theorem State.modPort_saved (s : State) (n : Nat) (f : Port → Port) : (s.modPort n f).saved = s.saved := rfl
@[simp] theorem State.modPort_slot (s : State) (n : Nat) (f : Port → Port) : (s.modPort n f).slot = s.slot := rfl
@[simp] theorem State.modPort_almanac (s : State) (n : Nat) (f : Port → Port) : (s.modPort n f).almanac = s.almanac := rfl
@[simp] theorem State.modPort_counters (s : State) (n : Nat) (f : Port → Port) : (s.modPort n f).counters = s.counters := rfl
@[simp] theorem State.modPort_privWds (s : State) (n : Nat) (f : Port → Port) : (s.modPort n f).privWds = s.privWds := rfl
@[simp] theorem State.modPort_tap (s : State) (n : Nat) (f : Port → Port) : (s.modPort n f).tap = s.tap := rfl
@[simp] theorem State.modPort_cmBlock (s : State) (n : Nat) (f : Port → Port) : (s.modPort n f).cmBlock = s.cmBlock := rfl

/-! ### modStation -/

@[simp] theorem State.modStation_ident (s : State) (ring pos : Nat) (f : StationView → StationView) : (s.modStation ring pos f).ident = s.ident := rfl
@[simp] theorem State.modStation_clk (s : State) (ring pos : Nat) (f : StationView → StationView) : (s.modStation ring pos f).clk = s.clk := rfl
@[simp] theorem State.modStation_mode (s : State) (ring pos : Nat) (f : StationView → StationView) : (s.modStation ring pos f).mode = s.mode := rfl
@[simp] theorem State.modStation_cause (s : State) (ring pos : Nat) (f : StationView → StationView) : (s.modStation ring pos f).cause = s.cause := rfl
@[simp] theorem State.modStation_settings (s : State) (ring pos : Nat) (f : StationView → StationView) : (s.modStation ring pos f).settings = s.settings := rfl
@[simp] theorem State.modStation_strands (s : State) (ring pos : Nat) (f : StationView → StationView) : (s.modStation ring pos f).strands = s.strands := rfl
@[simp] theorem State.modStation_vcore (s : State) (ring pos : Nat) (f : StationView → StationView) : (s.modStation ring pos f).vcore = s.vcore := rfl
@[simp] theorem State.modStation_crossings (s : State) (ring pos : Nat) (f : StationView → StationView) : (s.modStation ring pos f).crossings = s.crossings := rfl
@[simp] theorem State.modStation_tenants (s : State) (ring pos : Nat) (f : StationView → StationView) : (s.modStation ring pos f).tenants = s.tenants := rfl
@[simp] theorem State.modStation_tasks (s : State) (ring pos : Nat) (f : StationView → StationView) : (s.modStation ring pos f).tasks = s.tasks := rfl
@[simp] theorem State.modStation_change (s : State) (ring pos : Nat) (f : StationView → StationView) : (s.modStation ring pos f).change = s.change := rfl
@[simp] theorem State.modStation_forces (s : State) (ring pos : Nat) (f : StationView → StationView) : (s.modStation ring pos f).forces = s.forces := rfl
@[simp] theorem State.modStation_forceReqs (s : State) (ring pos : Nat) (f : StationView → StationView) : (s.modStation ring pos f).forceReqs = s.forceReqs := rfl
@[simp] theorem State.modStation_hostWrites (s : State) (ring pos : Nat) (f : StationView → StationView) : (s.modStation ring pos f).hostWrites = s.hostWrites := rfl
@[simp] theorem State.modStation_dbg (s : State) (ring pos : Nat) (f : StationView → StationView) : (s.modStation ring pos f).dbg = s.dbg := rfl
@[simp] theorem State.modStation_image (s : State) (ring pos : Nat) (f : StationView → StationView) : (s.modStation ring pos f).image = s.image := rfl
@[simp] theorem State.modStation_ports (s : State) (ring pos : Nat) (f : StationView → StationView) : (s.modStation ring pos f).ports = s.ports := rfl
@[simp] theorem State.modStation_acyc (s : State) (ring pos : Nat) (f : StationView → StationView) : (s.modStation ring pos f).acyc = s.acyc := rfl
@[simp] theorem State.modStation_cyclicTags (s : State) (ring pos : Nat) (f : StationView → StationView) : (s.modStation ring pos f).cyclicTags = s.cyclicTags := rfl
@[simp] theorem State.modStation_link (s : State) (ring pos : Nat) (f : StationView → StationView) : (s.modStation ring pos f).link = s.link := rfl
@[simp] theorem State.modStation_pair (s : State) (ring pos : Nat) (f : StationView → StationView) : (s.modStation ring pos f).pair = s.pair := rfl
@[simp] theorem State.modStation_fires (s : State) (ring pos : Nat) (f : StationView → StationView) : (s.modStation ring pos f).fires = s.fires := rfl
@[simp] theorem State.modStation_peerFires (s : State) (ring pos : Nat) (f : StationView → StationView) : (s.modStation ring pos f).peerFires = s.peerFires := rfl
@[simp] theorem State.modStation_checks (s : State) (ring pos : Nat) (f : StationView → StationView) : (s.modStation ring pos f).checks = s.checks := rfl
@[simp] theorem State.modStation_feeds (s : State) (ring pos : Nat) (f : StationView → StationView) : (s.modStation ring pos f).feeds = s.feeds := rfl
@[simp] theorem State.modStation_front (s : State) (ring pos : Nat) (f : StationView → StationView) : (s.modStation ring pos f).front = s.front := rfl
@[simp] theorem State.modStation_lantern (s : State) (ring pos : Nat) (f : StationView → StationView) : (s.modStation ring pos f).lantern = s.lantern := rfl
@[simp] theorem State.modStation_time (s : State) (ring pos : Nat) (f : StationView → StationView) : (s.modStation ring pos f).time = s.time := rfl
@[simp] theorem State.modStation_gelit (s : State) (ring pos : Nat) (f : StationView → StationView) : (s.modStation ring pos f).gelit = s.gelit := rfl
@[simp] theorem State.modStation_io (s : State) (ring pos : Nat) (f : StationView → StationView) : (s.modStation ring pos f).io = s.io := rfl
@[simp] theorem State.modStation_hart (s : State) (ring pos : Nat) (f : StationView → StationView) : (s.modStation ring pos f).hart = s.hart := rfl
@[simp] theorem State.modStation_can (s : State) (ring pos : Nat) (f : StationView → StationView) : (s.modStation ring pos f).can = s.can := rfl
@[simp] theorem State.modStation_gates (s : State) (ring pos : Nat) (f : StationView → StationView) : (s.modStation ring pos f).gates = s.gates := rfl
@[simp] theorem State.modStation_gateWrites (s : State) (ring pos : Nat) (f : StationView → StationView) : (s.modStation ring pos f).gateWrites = s.gateWrites := rfl
@[simp] theorem State.modStation_keys (s : State) (ring pos : Nat) (f : StationView → StationView) : (s.modStation ring pos f).keys = s.keys := rfl
@[simp] theorem State.modStation_reader (s : State) (ring pos : Nat) (f : StationView → StationView) : (s.modStation ring pos f).reader = s.reader := rfl
@[simp] theorem State.modStation_update (s : State) (ring pos : Nat) (f : StationView → StationView) : (s.modStation ring pos f).update = s.update := rfl
@[simp] theorem State.modStation_saved (s : State) (ring pos : Nat) (f : StationView → StationView) : (s.modStation ring pos f).saved = s.saved := rfl
@[simp] theorem State.modStation_slot (s : State) (ring pos : Nat) (f : StationView → StationView) : (s.modStation ring pos f).slot = s.slot := rfl
@[simp] theorem State.modStation_almanac (s : State) (ring pos : Nat) (f : StationView → StationView) : (s.modStation ring pos f).almanac = s.almanac := rfl
@[simp] theorem State.modStation_counters (s : State) (ring pos : Nat) (f : StationView → StationView) : (s.modStation ring pos f).counters = s.counters := rfl
@[simp] theorem State.modStation_privWds (s : State) (ring pos : Nat) (f : StationView → StationView) : (s.modStation ring pos f).privWds = s.privWds := rfl
@[simp] theorem State.modStation_tap (s : State) (ring pos : Nat) (f : StationView → StationView) : (s.modStation ring pos f).tap = s.tap := rfl
@[simp] theorem State.modStation_cmBlock (s : State) (ring pos : Nat) (f : StationView → StationView) : (s.modStation ring pos f).cmBlock = s.cmBlock := rfl

/-! ### modCan -/

@[simp] theorem State.modCan_ident (s : State) (k : Nat) (f : CanCtl → CanCtl) : (s.modCan k f).ident = s.ident := rfl
@[simp] theorem State.modCan_clk (s : State) (k : Nat) (f : CanCtl → CanCtl) : (s.modCan k f).clk = s.clk := rfl
@[simp] theorem State.modCan_mode (s : State) (k : Nat) (f : CanCtl → CanCtl) : (s.modCan k f).mode = s.mode := rfl
@[simp] theorem State.modCan_cause (s : State) (k : Nat) (f : CanCtl → CanCtl) : (s.modCan k f).cause = s.cause := rfl
@[simp] theorem State.modCan_settings (s : State) (k : Nat) (f : CanCtl → CanCtl) : (s.modCan k f).settings = s.settings := rfl
@[simp] theorem State.modCan_strands (s : State) (k : Nat) (f : CanCtl → CanCtl) : (s.modCan k f).strands = s.strands := rfl
@[simp] theorem State.modCan_vcore (s : State) (k : Nat) (f : CanCtl → CanCtl) : (s.modCan k f).vcore = s.vcore := rfl
@[simp] theorem State.modCan_crossings (s : State) (k : Nat) (f : CanCtl → CanCtl) : (s.modCan k f).crossings = s.crossings := rfl
@[simp] theorem State.modCan_tenants (s : State) (k : Nat) (f : CanCtl → CanCtl) : (s.modCan k f).tenants = s.tenants := rfl
@[simp] theorem State.modCan_tasks (s : State) (k : Nat) (f : CanCtl → CanCtl) : (s.modCan k f).tasks = s.tasks := rfl
@[simp] theorem State.modCan_change (s : State) (k : Nat) (f : CanCtl → CanCtl) : (s.modCan k f).change = s.change := rfl
@[simp] theorem State.modCan_forces (s : State) (k : Nat) (f : CanCtl → CanCtl) : (s.modCan k f).forces = s.forces := rfl
@[simp] theorem State.modCan_forceReqs (s : State) (k : Nat) (f : CanCtl → CanCtl) : (s.modCan k f).forceReqs = s.forceReqs := rfl
@[simp] theorem State.modCan_hostWrites (s : State) (k : Nat) (f : CanCtl → CanCtl) : (s.modCan k f).hostWrites = s.hostWrites := rfl
@[simp] theorem State.modCan_dbg (s : State) (k : Nat) (f : CanCtl → CanCtl) : (s.modCan k f).dbg = s.dbg := rfl
@[simp] theorem State.modCan_image (s : State) (k : Nat) (f : CanCtl → CanCtl) : (s.modCan k f).image = s.image := rfl
@[simp] theorem State.modCan_rings (s : State) (k : Nat) (f : CanCtl → CanCtl) : (s.modCan k f).rings = s.rings := rfl
@[simp] theorem State.modCan_ports (s : State) (k : Nat) (f : CanCtl → CanCtl) : (s.modCan k f).ports = s.ports := rfl
@[simp] theorem State.modCan_acyc (s : State) (k : Nat) (f : CanCtl → CanCtl) : (s.modCan k f).acyc = s.acyc := rfl
@[simp] theorem State.modCan_cyclicTags (s : State) (k : Nat) (f : CanCtl → CanCtl) : (s.modCan k f).cyclicTags = s.cyclicTags := rfl
@[simp] theorem State.modCan_link (s : State) (k : Nat) (f : CanCtl → CanCtl) : (s.modCan k f).link = s.link := rfl
@[simp] theorem State.modCan_pair (s : State) (k : Nat) (f : CanCtl → CanCtl) : (s.modCan k f).pair = s.pair := rfl
@[simp] theorem State.modCan_fires (s : State) (k : Nat) (f : CanCtl → CanCtl) : (s.modCan k f).fires = s.fires := rfl
@[simp] theorem State.modCan_peerFires (s : State) (k : Nat) (f : CanCtl → CanCtl) : (s.modCan k f).peerFires = s.peerFires := rfl
@[simp] theorem State.modCan_checks (s : State) (k : Nat) (f : CanCtl → CanCtl) : (s.modCan k f).checks = s.checks := rfl
@[simp] theorem State.modCan_feeds (s : State) (k : Nat) (f : CanCtl → CanCtl) : (s.modCan k f).feeds = s.feeds := rfl
@[simp] theorem State.modCan_front (s : State) (k : Nat) (f : CanCtl → CanCtl) : (s.modCan k f).front = s.front := rfl
@[simp] theorem State.modCan_lantern (s : State) (k : Nat) (f : CanCtl → CanCtl) : (s.modCan k f).lantern = s.lantern := rfl
@[simp] theorem State.modCan_time (s : State) (k : Nat) (f : CanCtl → CanCtl) : (s.modCan k f).time = s.time := rfl
@[simp] theorem State.modCan_gelit (s : State) (k : Nat) (f : CanCtl → CanCtl) : (s.modCan k f).gelit = s.gelit := rfl
@[simp] theorem State.modCan_io (s : State) (k : Nat) (f : CanCtl → CanCtl) : (s.modCan k f).io = s.io := rfl
@[simp] theorem State.modCan_hart (s : State) (k : Nat) (f : CanCtl → CanCtl) : (s.modCan k f).hart = s.hart := rfl
@[simp] theorem State.modCan_can (s : State) (k : Nat) (f : CanCtl → CanCtl) : (s.modCan k f).can = modAt s.can k f := rfl
@[simp] theorem State.modCan_gates (s : State) (k : Nat) (f : CanCtl → CanCtl) : (s.modCan k f).gates = s.gates := rfl
@[simp] theorem State.modCan_gateWrites (s : State) (k : Nat) (f : CanCtl → CanCtl) : (s.modCan k f).gateWrites = s.gateWrites := rfl
@[simp] theorem State.modCan_keys (s : State) (k : Nat) (f : CanCtl → CanCtl) : (s.modCan k f).keys = s.keys := rfl
@[simp] theorem State.modCan_reader (s : State) (k : Nat) (f : CanCtl → CanCtl) : (s.modCan k f).reader = s.reader := rfl
@[simp] theorem State.modCan_update (s : State) (k : Nat) (f : CanCtl → CanCtl) : (s.modCan k f).update = s.update := rfl
@[simp] theorem State.modCan_saved (s : State) (k : Nat) (f : CanCtl → CanCtl) : (s.modCan k f).saved = s.saved := rfl
@[simp] theorem State.modCan_slot (s : State) (k : Nat) (f : CanCtl → CanCtl) : (s.modCan k f).slot = s.slot := rfl
@[simp] theorem State.modCan_almanac (s : State) (k : Nat) (f : CanCtl → CanCtl) : (s.modCan k f).almanac = s.almanac := rfl
@[simp] theorem State.modCan_counters (s : State) (k : Nat) (f : CanCtl → CanCtl) : (s.modCan k f).counters = s.counters := rfl
@[simp] theorem State.modCan_privWds (s : State) (k : Nat) (f : CanCtl → CanCtl) : (s.modCan k f).privWds = s.privWds := rfl
@[simp] theorem State.modCan_tap (s : State) (k : Nat) (f : CanCtl → CanCtl) : (s.modCan k f).tap = s.tap := rfl
@[simp] theorem State.modCan_cmBlock (s : State) (k : Nat) (f : CanCtl → CanCtl) : (s.modCan k f).cmBlock = s.cmBlock := rfl

/-! ### modDomain -/

@[simp] theorem State.modDomain_ident (s : State) (d : Nat) (f : Domain → Domain) : (s.modDomain d f).ident = s.ident := rfl
@[simp] theorem State.modDomain_clk (s : State) (d : Nat) (f : Domain → Domain) : (s.modDomain d f).clk = s.clk := rfl
@[simp] theorem State.modDomain_mode (s : State) (d : Nat) (f : Domain → Domain) : (s.modDomain d f).mode = s.mode := rfl
@[simp] theorem State.modDomain_cause (s : State) (d : Nat) (f : Domain → Domain) : (s.modDomain d f).cause = s.cause := rfl
@[simp] theorem State.modDomain_settings (s : State) (d : Nat) (f : Domain → Domain) : (s.modDomain d f).settings = s.settings := rfl
@[simp] theorem State.modDomain_strands (s : State) (d : Nat) (f : Domain → Domain) : (s.modDomain d f).strands = s.strands := rfl
@[simp] theorem State.modDomain_vcore (s : State) (d : Nat) (f : Domain → Domain) : (s.modDomain d f).vcore = s.vcore := rfl
@[simp] theorem State.modDomain_crossings (s : State) (d : Nat) (f : Domain → Domain) : (s.modDomain d f).crossings = s.crossings := rfl
@[simp] theorem State.modDomain_tenants (s : State) (d : Nat) (f : Domain → Domain) : (s.modDomain d f).tenants = s.tenants := rfl
@[simp] theorem State.modDomain_tasks (s : State) (d : Nat) (f : Domain → Domain) : (s.modDomain d f).tasks = s.tasks := rfl
@[simp] theorem State.modDomain_change (s : State) (d : Nat) (f : Domain → Domain) : (s.modDomain d f).change = s.change := rfl
@[simp] theorem State.modDomain_forces (s : State) (d : Nat) (f : Domain → Domain) : (s.modDomain d f).forces = s.forces := rfl
@[simp] theorem State.modDomain_forceReqs (s : State) (d : Nat) (f : Domain → Domain) : (s.modDomain d f).forceReqs = s.forceReqs := rfl
@[simp] theorem State.modDomain_hostWrites (s : State) (d : Nat) (f : Domain → Domain) : (s.modDomain d f).hostWrites = s.hostWrites := rfl
@[simp] theorem State.modDomain_dbg (s : State) (d : Nat) (f : Domain → Domain) : (s.modDomain d f).dbg = s.dbg := rfl
@[simp] theorem State.modDomain_image (s : State) (d : Nat) (f : Domain → Domain) : (s.modDomain d f).image = s.image := rfl
@[simp] theorem State.modDomain_rings (s : State) (d : Nat) (f : Domain → Domain) : (s.modDomain d f).rings = s.rings := rfl
@[simp] theorem State.modDomain_ports (s : State) (d : Nat) (f : Domain → Domain) : (s.modDomain d f).ports = s.ports := rfl
@[simp] theorem State.modDomain_acyc (s : State) (d : Nat) (f : Domain → Domain) : (s.modDomain d f).acyc = s.acyc := rfl
@[simp] theorem State.modDomain_cyclicTags (s : State) (d : Nat) (f : Domain → Domain) : (s.modDomain d f).cyclicTags = s.cyclicTags := rfl
@[simp] theorem State.modDomain_link (s : State) (d : Nat) (f : Domain → Domain) : (s.modDomain d f).link = s.link := rfl
@[simp] theorem State.modDomain_pair (s : State) (d : Nat) (f : Domain → Domain) : (s.modDomain d f).pair = s.pair := rfl
@[simp] theorem State.modDomain_fires (s : State) (d : Nat) (f : Domain → Domain) : (s.modDomain d f).fires = s.fires := rfl
@[simp] theorem State.modDomain_peerFires (s : State) (d : Nat) (f : Domain → Domain) : (s.modDomain d f).peerFires = s.peerFires := rfl
@[simp] theorem State.modDomain_checks (s : State) (d : Nat) (f : Domain → Domain) : (s.modDomain d f).checks = s.checks := rfl
@[simp] theorem State.modDomain_feeds (s : State) (d : Nat) (f : Domain → Domain) : (s.modDomain d f).feeds = s.feeds := rfl
@[simp] theorem State.modDomain_front (s : State) (d : Nat) (f : Domain → Domain) : (s.modDomain d f).front = s.front := rfl
@[simp] theorem State.modDomain_lantern (s : State) (d : Nat) (f : Domain → Domain) : (s.modDomain d f).lantern = s.lantern := rfl
@[simp] theorem State.modDomain_gelit (s : State) (d : Nat) (f : Domain → Domain) : (s.modDomain d f).gelit = s.gelit := rfl
@[simp] theorem State.modDomain_io (s : State) (d : Nat) (f : Domain → Domain) : (s.modDomain d f).io = s.io := rfl
@[simp] theorem State.modDomain_hart (s : State) (d : Nat) (f : Domain → Domain) : (s.modDomain d f).hart = s.hart := rfl
@[simp] theorem State.modDomain_can (s : State) (d : Nat) (f : Domain → Domain) : (s.modDomain d f).can = s.can := rfl
@[simp] theorem State.modDomain_gates (s : State) (d : Nat) (f : Domain → Domain) : (s.modDomain d f).gates = s.gates := rfl
@[simp] theorem State.modDomain_gateWrites (s : State) (d : Nat) (f : Domain → Domain) : (s.modDomain d f).gateWrites = s.gateWrites := rfl
@[simp] theorem State.modDomain_keys (s : State) (d : Nat) (f : Domain → Domain) : (s.modDomain d f).keys = s.keys := rfl
@[simp] theorem State.modDomain_reader (s : State) (d : Nat) (f : Domain → Domain) : (s.modDomain d f).reader = s.reader := rfl
@[simp] theorem State.modDomain_update (s : State) (d : Nat) (f : Domain → Domain) : (s.modDomain d f).update = s.update := rfl
@[simp] theorem State.modDomain_saved (s : State) (d : Nat) (f : Domain → Domain) : (s.modDomain d f).saved = s.saved := rfl
@[simp] theorem State.modDomain_slot (s : State) (d : Nat) (f : Domain → Domain) : (s.modDomain d f).slot = s.slot := rfl
@[simp] theorem State.modDomain_almanac (s : State) (d : Nat) (f : Domain → Domain) : (s.modDomain d f).almanac = s.almanac := rfl
@[simp] theorem State.modDomain_counters (s : State) (d : Nat) (f : Domain → Domain) : (s.modDomain d f).counters = s.counters := rfl
@[simp] theorem State.modDomain_privWds (s : State) (d : Nat) (f : Domain → Domain) : (s.modDomain d f).privWds = s.privWds := rfl
@[simp] theorem State.modDomain_tap (s : State) (d : Nat) (f : Domain → Domain) : (s.modDomain d f).tap = s.tap := rfl
@[simp] theorem State.modDomain_cmBlock (s : State) (d : Nat) (f : Domain → Domain) : (s.modDomain d f).cmBlock = s.cmBlock := rfl

/-! ### modHart -/

@[simp] theorem State.modHart_ident (s : State) (ch : Nat) (f : HartCh → HartCh) : (s.modHart ch f).ident = s.ident := rfl
@[simp] theorem State.modHart_clk (s : State) (ch : Nat) (f : HartCh → HartCh) : (s.modHart ch f).clk = s.clk := rfl
@[simp] theorem State.modHart_mode (s : State) (ch : Nat) (f : HartCh → HartCh) : (s.modHart ch f).mode = s.mode := rfl
@[simp] theorem State.modHart_cause (s : State) (ch : Nat) (f : HartCh → HartCh) : (s.modHart ch f).cause = s.cause := rfl
@[simp] theorem State.modHart_settings (s : State) (ch : Nat) (f : HartCh → HartCh) : (s.modHart ch f).settings = s.settings := rfl
@[simp] theorem State.modHart_strands (s : State) (ch : Nat) (f : HartCh → HartCh) : (s.modHart ch f).strands = s.strands := rfl
@[simp] theorem State.modHart_vcore (s : State) (ch : Nat) (f : HartCh → HartCh) : (s.modHart ch f).vcore = s.vcore := rfl
@[simp] theorem State.modHart_crossings (s : State) (ch : Nat) (f : HartCh → HartCh) : (s.modHart ch f).crossings = s.crossings := rfl
@[simp] theorem State.modHart_tenants (s : State) (ch : Nat) (f : HartCh → HartCh) : (s.modHart ch f).tenants = s.tenants := rfl
@[simp] theorem State.modHart_tasks (s : State) (ch : Nat) (f : HartCh → HartCh) : (s.modHart ch f).tasks = s.tasks := rfl
@[simp] theorem State.modHart_change (s : State) (ch : Nat) (f : HartCh → HartCh) : (s.modHart ch f).change = s.change := rfl
@[simp] theorem State.modHart_forces (s : State) (ch : Nat) (f : HartCh → HartCh) : (s.modHart ch f).forces = s.forces := rfl
@[simp] theorem State.modHart_forceReqs (s : State) (ch : Nat) (f : HartCh → HartCh) : (s.modHart ch f).forceReqs = s.forceReqs := rfl
@[simp] theorem State.modHart_hostWrites (s : State) (ch : Nat) (f : HartCh → HartCh) : (s.modHart ch f).hostWrites = s.hostWrites := rfl
@[simp] theorem State.modHart_dbg (s : State) (ch : Nat) (f : HartCh → HartCh) : (s.modHart ch f).dbg = s.dbg := rfl
@[simp] theorem State.modHart_image (s : State) (ch : Nat) (f : HartCh → HartCh) : (s.modHart ch f).image = s.image := rfl
@[simp] theorem State.modHart_rings (s : State) (ch : Nat) (f : HartCh → HartCh) : (s.modHart ch f).rings = s.rings := rfl
@[simp] theorem State.modHart_ports (s : State) (ch : Nat) (f : HartCh → HartCh) : (s.modHart ch f).ports = s.ports := rfl
@[simp] theorem State.modHart_acyc (s : State) (ch : Nat) (f : HartCh → HartCh) : (s.modHart ch f).acyc = s.acyc := rfl
@[simp] theorem State.modHart_cyclicTags (s : State) (ch : Nat) (f : HartCh → HartCh) : (s.modHart ch f).cyclicTags = s.cyclicTags := rfl
@[simp] theorem State.modHart_link (s : State) (ch : Nat) (f : HartCh → HartCh) : (s.modHart ch f).link = s.link := rfl
@[simp] theorem State.modHart_pair (s : State) (ch : Nat) (f : HartCh → HartCh) : (s.modHart ch f).pair = s.pair := rfl
@[simp] theorem State.modHart_fires (s : State) (ch : Nat) (f : HartCh → HartCh) : (s.modHart ch f).fires = s.fires := rfl
@[simp] theorem State.modHart_peerFires (s : State) (ch : Nat) (f : HartCh → HartCh) : (s.modHart ch f).peerFires = s.peerFires := rfl
@[simp] theorem State.modHart_checks (s : State) (ch : Nat) (f : HartCh → HartCh) : (s.modHart ch f).checks = s.checks := rfl
@[simp] theorem State.modHart_feeds (s : State) (ch : Nat) (f : HartCh → HartCh) : (s.modHart ch f).feeds = s.feeds := rfl
@[simp] theorem State.modHart_front (s : State) (ch : Nat) (f : HartCh → HartCh) : (s.modHart ch f).front = s.front := rfl
@[simp] theorem State.modHart_lantern (s : State) (ch : Nat) (f : HartCh → HartCh) : (s.modHart ch f).lantern = s.lantern := rfl
@[simp] theorem State.modHart_time (s : State) (ch : Nat) (f : HartCh → HartCh) : (s.modHart ch f).time = s.time := rfl
@[simp] theorem State.modHart_gelit (s : State) (ch : Nat) (f : HartCh → HartCh) : (s.modHart ch f).gelit = s.gelit := rfl
@[simp] theorem State.modHart_io (s : State) (ch : Nat) (f : HartCh → HartCh) : (s.modHart ch f).io = s.io := rfl
@[simp] theorem State.modHart_hart (s : State) (ch : Nat) (f : HartCh → HartCh) : (s.modHart ch f).hart = modAt s.hart ch f := rfl
@[simp] theorem State.modHart_can (s : State) (ch : Nat) (f : HartCh → HartCh) : (s.modHart ch f).can = s.can := rfl
@[simp] theorem State.modHart_gates (s : State) (ch : Nat) (f : HartCh → HartCh) : (s.modHart ch f).gates = s.gates := rfl
@[simp] theorem State.modHart_gateWrites (s : State) (ch : Nat) (f : HartCh → HartCh) : (s.modHart ch f).gateWrites = s.gateWrites := rfl
@[simp] theorem State.modHart_keys (s : State) (ch : Nat) (f : HartCh → HartCh) : (s.modHart ch f).keys = s.keys := rfl
@[simp] theorem State.modHart_reader (s : State) (ch : Nat) (f : HartCh → HartCh) : (s.modHart ch f).reader = s.reader := rfl
@[simp] theorem State.modHart_update (s : State) (ch : Nat) (f : HartCh → HartCh) : (s.modHart ch f).update = s.update := rfl
@[simp] theorem State.modHart_saved (s : State) (ch : Nat) (f : HartCh → HartCh) : (s.modHart ch f).saved = s.saved := rfl
@[simp] theorem State.modHart_slot (s : State) (ch : Nat) (f : HartCh → HartCh) : (s.modHart ch f).slot = s.slot := rfl
@[simp] theorem State.modHart_almanac (s : State) (ch : Nat) (f : HartCh → HartCh) : (s.modHart ch f).almanac = s.almanac := rfl
@[simp] theorem State.modHart_counters (s : State) (ch : Nat) (f : HartCh → HartCh) : (s.modHart ch f).counters = s.counters := rfl
@[simp] theorem State.modHart_privWds (s : State) (ch : Nat) (f : HartCh → HartCh) : (s.modHart ch f).privWds = s.privWds := rfl
@[simp] theorem State.modHart_tap (s : State) (ch : Nat) (f : HartCh → HartCh) : (s.modHart ch f).tap = s.tap := rfl
@[simp] theorem State.modHart_cmBlock (s : State) (ch : Nat) (f : HartCh → HartCh) : (s.modHart ch f).cmBlock = s.cmBlock := rfl

/-! ### modAo -/

@[simp] theorem State.modAo_ident (s : State) (ch : Nat) (f : AoCh → AoCh) : (s.modAo ch f).ident = s.ident := rfl
@[simp] theorem State.modAo_clk (s : State) (ch : Nat) (f : AoCh → AoCh) : (s.modAo ch f).clk = s.clk := rfl
@[simp] theorem State.modAo_mode (s : State) (ch : Nat) (f : AoCh → AoCh) : (s.modAo ch f).mode = s.mode := rfl
@[simp] theorem State.modAo_cause (s : State) (ch : Nat) (f : AoCh → AoCh) : (s.modAo ch f).cause = s.cause := rfl
@[simp] theorem State.modAo_settings (s : State) (ch : Nat) (f : AoCh → AoCh) : (s.modAo ch f).settings = s.settings := rfl
@[simp] theorem State.modAo_strands (s : State) (ch : Nat) (f : AoCh → AoCh) : (s.modAo ch f).strands = s.strands := rfl
@[simp] theorem State.modAo_vcore (s : State) (ch : Nat) (f : AoCh → AoCh) : (s.modAo ch f).vcore = s.vcore := rfl
@[simp] theorem State.modAo_crossings (s : State) (ch : Nat) (f : AoCh → AoCh) : (s.modAo ch f).crossings = s.crossings := rfl
@[simp] theorem State.modAo_tenants (s : State) (ch : Nat) (f : AoCh → AoCh) : (s.modAo ch f).tenants = s.tenants := rfl
@[simp] theorem State.modAo_tasks (s : State) (ch : Nat) (f : AoCh → AoCh) : (s.modAo ch f).tasks = s.tasks := rfl
@[simp] theorem State.modAo_change (s : State) (ch : Nat) (f : AoCh → AoCh) : (s.modAo ch f).change = s.change := rfl
@[simp] theorem State.modAo_forces (s : State) (ch : Nat) (f : AoCh → AoCh) : (s.modAo ch f).forces = s.forces := rfl
@[simp] theorem State.modAo_forceReqs (s : State) (ch : Nat) (f : AoCh → AoCh) : (s.modAo ch f).forceReqs = s.forceReqs := rfl
@[simp] theorem State.modAo_hostWrites (s : State) (ch : Nat) (f : AoCh → AoCh) : (s.modAo ch f).hostWrites = s.hostWrites := rfl
@[simp] theorem State.modAo_dbg (s : State) (ch : Nat) (f : AoCh → AoCh) : (s.modAo ch f).dbg = s.dbg := rfl
@[simp] theorem State.modAo_image (s : State) (ch : Nat) (f : AoCh → AoCh) : (s.modAo ch f).image = s.image := rfl
@[simp] theorem State.modAo_rings (s : State) (ch : Nat) (f : AoCh → AoCh) : (s.modAo ch f).rings = s.rings := rfl
@[simp] theorem State.modAo_ports (s : State) (ch : Nat) (f : AoCh → AoCh) : (s.modAo ch f).ports = s.ports := rfl
@[simp] theorem State.modAo_acyc (s : State) (ch : Nat) (f : AoCh → AoCh) : (s.modAo ch f).acyc = s.acyc := rfl
@[simp] theorem State.modAo_cyclicTags (s : State) (ch : Nat) (f : AoCh → AoCh) : (s.modAo ch f).cyclicTags = s.cyclicTags := rfl
@[simp] theorem State.modAo_link (s : State) (ch : Nat) (f : AoCh → AoCh) : (s.modAo ch f).link = s.link := rfl
@[simp] theorem State.modAo_pair (s : State) (ch : Nat) (f : AoCh → AoCh) : (s.modAo ch f).pair = s.pair := rfl
@[simp] theorem State.modAo_fires (s : State) (ch : Nat) (f : AoCh → AoCh) : (s.modAo ch f).fires = s.fires := rfl
@[simp] theorem State.modAo_peerFires (s : State) (ch : Nat) (f : AoCh → AoCh) : (s.modAo ch f).peerFires = s.peerFires := rfl
@[simp] theorem State.modAo_checks (s : State) (ch : Nat) (f : AoCh → AoCh) : (s.modAo ch f).checks = s.checks := rfl
@[simp] theorem State.modAo_feeds (s : State) (ch : Nat) (f : AoCh → AoCh) : (s.modAo ch f).feeds = s.feeds := rfl
@[simp] theorem State.modAo_front (s : State) (ch : Nat) (f : AoCh → AoCh) : (s.modAo ch f).front = s.front := rfl
@[simp] theorem State.modAo_lantern (s : State) (ch : Nat) (f : AoCh → AoCh) : (s.modAo ch f).lantern = s.lantern := rfl
@[simp] theorem State.modAo_time (s : State) (ch : Nat) (f : AoCh → AoCh) : (s.modAo ch f).time = s.time := rfl
@[simp] theorem State.modAo_gelit (s : State) (ch : Nat) (f : AoCh → AoCh) : (s.modAo ch f).gelit = s.gelit := rfl
@[simp] theorem State.modAo_hart (s : State) (ch : Nat) (f : AoCh → AoCh) : (s.modAo ch f).hart = s.hart := rfl
@[simp] theorem State.modAo_can (s : State) (ch : Nat) (f : AoCh → AoCh) : (s.modAo ch f).can = s.can := rfl
@[simp] theorem State.modAo_gates (s : State) (ch : Nat) (f : AoCh → AoCh) : (s.modAo ch f).gates = s.gates := rfl
@[simp] theorem State.modAo_gateWrites (s : State) (ch : Nat) (f : AoCh → AoCh) : (s.modAo ch f).gateWrites = s.gateWrites := rfl
@[simp] theorem State.modAo_keys (s : State) (ch : Nat) (f : AoCh → AoCh) : (s.modAo ch f).keys = s.keys := rfl
@[simp] theorem State.modAo_reader (s : State) (ch : Nat) (f : AoCh → AoCh) : (s.modAo ch f).reader = s.reader := rfl
@[simp] theorem State.modAo_update (s : State) (ch : Nat) (f : AoCh → AoCh) : (s.modAo ch f).update = s.update := rfl
@[simp] theorem State.modAo_saved (s : State) (ch : Nat) (f : AoCh → AoCh) : (s.modAo ch f).saved = s.saved := rfl
@[simp] theorem State.modAo_slot (s : State) (ch : Nat) (f : AoCh → AoCh) : (s.modAo ch f).slot = s.slot := rfl
@[simp] theorem State.modAo_almanac (s : State) (ch : Nat) (f : AoCh → AoCh) : (s.modAo ch f).almanac = s.almanac := rfl
@[simp] theorem State.modAo_counters (s : State) (ch : Nat) (f : AoCh → AoCh) : (s.modAo ch f).counters = s.counters := rfl
@[simp] theorem State.modAo_privWds (s : State) (ch : Nat) (f : AoCh → AoCh) : (s.modAo ch f).privWds = s.privWds := rfl
@[simp] theorem State.modAo_tap (s : State) (ch : Nat) (f : AoCh → AoCh) : (s.modAo ch f).tap = s.tap := rfl
@[simp] theorem State.modAo_cmBlock (s : State) (ch : Nat) (f : AoCh → AoCh) : (s.modAo ch f).cmBlock = s.cmBlock := rfl

/-! ### modCrossing -/

@[simp] theorem State.modCrossing_ident (s : State) (u : Nat) (f : Crossing → Crossing) : (s.modCrossing u f).ident = s.ident := rfl
@[simp] theorem State.modCrossing_clk (s : State) (u : Nat) (f : Crossing → Crossing) : (s.modCrossing u f).clk = s.clk := rfl
@[simp] theorem State.modCrossing_mode (s : State) (u : Nat) (f : Crossing → Crossing) : (s.modCrossing u f).mode = s.mode := rfl
@[simp] theorem State.modCrossing_cause (s : State) (u : Nat) (f : Crossing → Crossing) : (s.modCrossing u f).cause = s.cause := rfl
@[simp] theorem State.modCrossing_settings (s : State) (u : Nat) (f : Crossing → Crossing) : (s.modCrossing u f).settings = s.settings := rfl
@[simp] theorem State.modCrossing_strands (s : State) (u : Nat) (f : Crossing → Crossing) : (s.modCrossing u f).strands = s.strands := rfl
@[simp] theorem State.modCrossing_vcore (s : State) (u : Nat) (f : Crossing → Crossing) : (s.modCrossing u f).vcore = s.vcore := rfl
@[simp] theorem State.modCrossing_tenants (s : State) (u : Nat) (f : Crossing → Crossing) : (s.modCrossing u f).tenants = s.tenants := rfl
@[simp] theorem State.modCrossing_tasks (s : State) (u : Nat) (f : Crossing → Crossing) : (s.modCrossing u f).tasks = s.tasks := rfl
@[simp] theorem State.modCrossing_change (s : State) (u : Nat) (f : Crossing → Crossing) : (s.modCrossing u f).change = s.change := rfl
@[simp] theorem State.modCrossing_forces (s : State) (u : Nat) (f : Crossing → Crossing) : (s.modCrossing u f).forces = s.forces := rfl
@[simp] theorem State.modCrossing_forceReqs (s : State) (u : Nat) (f : Crossing → Crossing) : (s.modCrossing u f).forceReqs = s.forceReqs := rfl
@[simp] theorem State.modCrossing_hostWrites (s : State) (u : Nat) (f : Crossing → Crossing) : (s.modCrossing u f).hostWrites = s.hostWrites := rfl
@[simp] theorem State.modCrossing_dbg (s : State) (u : Nat) (f : Crossing → Crossing) : (s.modCrossing u f).dbg = s.dbg := rfl
@[simp] theorem State.modCrossing_image (s : State) (u : Nat) (f : Crossing → Crossing) : (s.modCrossing u f).image = s.image := rfl
@[simp] theorem State.modCrossing_rings (s : State) (u : Nat) (f : Crossing → Crossing) : (s.modCrossing u f).rings = s.rings := rfl
@[simp] theorem State.modCrossing_ports (s : State) (u : Nat) (f : Crossing → Crossing) : (s.modCrossing u f).ports = s.ports := rfl
@[simp] theorem State.modCrossing_acyc (s : State) (u : Nat) (f : Crossing → Crossing) : (s.modCrossing u f).acyc = s.acyc := rfl
@[simp] theorem State.modCrossing_cyclicTags (s : State) (u : Nat) (f : Crossing → Crossing) : (s.modCrossing u f).cyclicTags = s.cyclicTags := rfl
@[simp] theorem State.modCrossing_link (s : State) (u : Nat) (f : Crossing → Crossing) : (s.modCrossing u f).link = s.link := rfl
@[simp] theorem State.modCrossing_pair (s : State) (u : Nat) (f : Crossing → Crossing) : (s.modCrossing u f).pair = s.pair := rfl
@[simp] theorem State.modCrossing_fires (s : State) (u : Nat) (f : Crossing → Crossing) : (s.modCrossing u f).fires = s.fires := rfl
@[simp] theorem State.modCrossing_peerFires (s : State) (u : Nat) (f : Crossing → Crossing) : (s.modCrossing u f).peerFires = s.peerFires := rfl
@[simp] theorem State.modCrossing_checks (s : State) (u : Nat) (f : Crossing → Crossing) : (s.modCrossing u f).checks = s.checks := rfl
@[simp] theorem State.modCrossing_feeds (s : State) (u : Nat) (f : Crossing → Crossing) : (s.modCrossing u f).feeds = s.feeds := rfl
@[simp] theorem State.modCrossing_front (s : State) (u : Nat) (f : Crossing → Crossing) : (s.modCrossing u f).front = s.front := rfl
@[simp] theorem State.modCrossing_lantern (s : State) (u : Nat) (f : Crossing → Crossing) : (s.modCrossing u f).lantern = s.lantern := rfl
@[simp] theorem State.modCrossing_time (s : State) (u : Nat) (f : Crossing → Crossing) : (s.modCrossing u f).time = s.time := rfl
@[simp] theorem State.modCrossing_gelit (s : State) (u : Nat) (f : Crossing → Crossing) : (s.modCrossing u f).gelit = s.gelit := rfl
@[simp] theorem State.modCrossing_io (s : State) (u : Nat) (f : Crossing → Crossing) : (s.modCrossing u f).io = s.io := rfl
@[simp] theorem State.modCrossing_hart (s : State) (u : Nat) (f : Crossing → Crossing) : (s.modCrossing u f).hart = s.hart := rfl
@[simp] theorem State.modCrossing_can (s : State) (u : Nat) (f : Crossing → Crossing) : (s.modCrossing u f).can = s.can := rfl
@[simp] theorem State.modCrossing_gates (s : State) (u : Nat) (f : Crossing → Crossing) : (s.modCrossing u f).gates = s.gates := rfl
@[simp] theorem State.modCrossing_gateWrites (s : State) (u : Nat) (f : Crossing → Crossing) : (s.modCrossing u f).gateWrites = s.gateWrites := rfl
@[simp] theorem State.modCrossing_keys (s : State) (u : Nat) (f : Crossing → Crossing) : (s.modCrossing u f).keys = s.keys := rfl
@[simp] theorem State.modCrossing_reader (s : State) (u : Nat) (f : Crossing → Crossing) : (s.modCrossing u f).reader = s.reader := rfl
@[simp] theorem State.modCrossing_update (s : State) (u : Nat) (f : Crossing → Crossing) : (s.modCrossing u f).update = s.update := rfl
@[simp] theorem State.modCrossing_saved (s : State) (u : Nat) (f : Crossing → Crossing) : (s.modCrossing u f).saved = s.saved := rfl
@[simp] theorem State.modCrossing_slot (s : State) (u : Nat) (f : Crossing → Crossing) : (s.modCrossing u f).slot = s.slot := rfl
@[simp] theorem State.modCrossing_almanac (s : State) (u : Nat) (f : Crossing → Crossing) : (s.modCrossing u f).almanac = s.almanac := rfl
@[simp] theorem State.modCrossing_counters (s : State) (u : Nat) (f : Crossing → Crossing) : (s.modCrossing u f).counters = s.counters := rfl
@[simp] theorem State.modCrossing_privWds (s : State) (u : Nat) (f : Crossing → Crossing) : (s.modCrossing u f).privWds = s.privWds := rfl
@[simp] theorem State.modCrossing_tap (s : State) (u : Nat) (f : Crossing → Crossing) : (s.modCrossing u f).tap = s.tap := rfl
@[simp] theorem State.modCrossing_cmBlock (s : State) (u : Nat) (f : Crossing → Crossing) : (s.modCrossing u f).cmBlock = s.cmBlock := rfl

/-! ### modSession -/

@[simp] theorem State.modSession_ident (s : State) (no : Nat) (f : Session → Session) : (s.modSession no f).ident = s.ident := rfl
@[simp] theorem State.modSession_clk (s : State) (no : Nat) (f : Session → Session) : (s.modSession no f).clk = s.clk := rfl
@[simp] theorem State.modSession_mode (s : State) (no : Nat) (f : Session → Session) : (s.modSession no f).mode = s.mode := rfl
@[simp] theorem State.modSession_cause (s : State) (no : Nat) (f : Session → Session) : (s.modSession no f).cause = s.cause := rfl
@[simp] theorem State.modSession_settings (s : State) (no : Nat) (f : Session → Session) : (s.modSession no f).settings = s.settings := rfl
@[simp] theorem State.modSession_strands (s : State) (no : Nat) (f : Session → Session) : (s.modSession no f).strands = s.strands := rfl
@[simp] theorem State.modSession_vcore (s : State) (no : Nat) (f : Session → Session) : (s.modSession no f).vcore = s.vcore := rfl
@[simp] theorem State.modSession_crossings (s : State) (no : Nat) (f : Session → Session) : (s.modSession no f).crossings = s.crossings := rfl
@[simp] theorem State.modSession_tenants (s : State) (no : Nat) (f : Session → Session) : (s.modSession no f).tenants = s.tenants := rfl
@[simp] theorem State.modSession_tasks (s : State) (no : Nat) (f : Session → Session) : (s.modSession no f).tasks = s.tasks := rfl
@[simp] theorem State.modSession_change (s : State) (no : Nat) (f : Session → Session) : (s.modSession no f).change = s.change := rfl
@[simp] theorem State.modSession_forces (s : State) (no : Nat) (f : Session → Session) : (s.modSession no f).forces = s.forces := rfl
@[simp] theorem State.modSession_forceReqs (s : State) (no : Nat) (f : Session → Session) : (s.modSession no f).forceReqs = s.forceReqs := rfl
@[simp] theorem State.modSession_hostWrites (s : State) (no : Nat) (f : Session → Session) : (s.modSession no f).hostWrites = s.hostWrites := rfl
@[simp] theorem State.modSession_dbg (s : State) (no : Nat) (f : Session → Session) : (s.modSession no f).dbg = s.dbg := rfl
@[simp] theorem State.modSession_image (s : State) (no : Nat) (f : Session → Session) : (s.modSession no f).image = s.image := rfl
@[simp] theorem State.modSession_rings (s : State) (no : Nat) (f : Session → Session) : (s.modSession no f).rings = s.rings := rfl
@[simp] theorem State.modSession_ports (s : State) (no : Nat) (f : Session → Session) : (s.modSession no f).ports = s.ports := rfl
@[simp] theorem State.modSession_acyc (s : State) (no : Nat) (f : Session → Session) : (s.modSession no f).acyc = s.acyc := rfl
@[simp] theorem State.modSession_cyclicTags (s : State) (no : Nat) (f : Session → Session) : (s.modSession no f).cyclicTags = s.cyclicTags := rfl
@[simp] theorem State.modSession_link (s : State) (no : Nat) (f : Session → Session) : (s.modSession no f).link = s.link := rfl
@[simp] theorem State.modSession_pair (s : State) (no : Nat) (f : Session → Session) : (s.modSession no f).pair = s.pair := rfl
@[simp] theorem State.modSession_fires (s : State) (no : Nat) (f : Session → Session) : (s.modSession no f).fires = s.fires := rfl
@[simp] theorem State.modSession_peerFires (s : State) (no : Nat) (f : Session → Session) : (s.modSession no f).peerFires = s.peerFires := rfl
@[simp] theorem State.modSession_checks (s : State) (no : Nat) (f : Session → Session) : (s.modSession no f).checks = s.checks := rfl
@[simp] theorem State.modSession_feeds (s : State) (no : Nat) (f : Session → Session) : (s.modSession no f).feeds = s.feeds := rfl
@[simp] theorem State.modSession_front (s : State) (no : Nat) (f : Session → Session) : (s.modSession no f).front = s.front := rfl
@[simp] theorem State.modSession_lantern (s : State) (no : Nat) (f : Session → Session) : (s.modSession no f).lantern = s.lantern := rfl
@[simp] theorem State.modSession_time (s : State) (no : Nat) (f : Session → Session) : (s.modSession no f).time = s.time := rfl
@[simp] theorem State.modSession_io (s : State) (no : Nat) (f : Session → Session) : (s.modSession no f).io = s.io := rfl
@[simp] theorem State.modSession_hart (s : State) (no : Nat) (f : Session → Session) : (s.modSession no f).hart = s.hart := rfl
@[simp] theorem State.modSession_can (s : State) (no : Nat) (f : Session → Session) : (s.modSession no f).can = s.can := rfl
@[simp] theorem State.modSession_gates (s : State) (no : Nat) (f : Session → Session) : (s.modSession no f).gates = s.gates := rfl
@[simp] theorem State.modSession_gateWrites (s : State) (no : Nat) (f : Session → Session) : (s.modSession no f).gateWrites = s.gateWrites := rfl
@[simp] theorem State.modSession_keys (s : State) (no : Nat) (f : Session → Session) : (s.modSession no f).keys = s.keys := rfl
@[simp] theorem State.modSession_reader (s : State) (no : Nat) (f : Session → Session) : (s.modSession no f).reader = s.reader := rfl
@[simp] theorem State.modSession_update (s : State) (no : Nat) (f : Session → Session) : (s.modSession no f).update = s.update := rfl
@[simp] theorem State.modSession_saved (s : State) (no : Nat) (f : Session → Session) : (s.modSession no f).saved = s.saved := rfl
@[simp] theorem State.modSession_slot (s : State) (no : Nat) (f : Session → Session) : (s.modSession no f).slot = s.slot := rfl
@[simp] theorem State.modSession_almanac (s : State) (no : Nat) (f : Session → Session) : (s.modSession no f).almanac = s.almanac := rfl
@[simp] theorem State.modSession_counters (s : State) (no : Nat) (f : Session → Session) : (s.modSession no f).counters = s.counters := rfl
@[simp] theorem State.modSession_privWds (s : State) (no : Nat) (f : Session → Session) : (s.modSession no f).privWds = s.privWds := rfl
@[simp] theorem State.modSession_tap (s : State) (no : Nat) (f : Session → Session) : (s.modSession no f).tap = s.tap := rfl
@[simp] theorem State.modSession_cmBlock (s : State) (no : Nat) (f : Session → Session) : (s.modSession no f).cmBlock = s.cmBlock := rfl

/-! ### modWd -/

@[simp] theorem State.modWd_ident (s : State) (n : Nat) (f : Watchdog → Watchdog) : (s.modWd n f).ident = s.ident := rfl
@[simp] theorem State.modWd_clk (s : State) (n : Nat) (f : Watchdog → Watchdog) : (s.modWd n f).clk = s.clk := rfl
@[simp] theorem State.modWd_mode (s : State) (n : Nat) (f : Watchdog → Watchdog) : (s.modWd n f).mode = s.mode := rfl
@[simp] theorem State.modWd_cause (s : State) (n : Nat) (f : Watchdog → Watchdog) : (s.modWd n f).cause = s.cause := rfl
@[simp] theorem State.modWd_settings (s : State) (n : Nat) (f : Watchdog → Watchdog) : (s.modWd n f).settings = s.settings := rfl
@[simp] theorem State.modWd_strands (s : State) (n : Nat) (f : Watchdog → Watchdog) : (s.modWd n f).strands = s.strands := rfl
@[simp] theorem State.modWd_vcore (s : State) (n : Nat) (f : Watchdog → Watchdog) : (s.modWd n f).vcore = s.vcore := rfl
@[simp] theorem State.modWd_crossings (s : State) (n : Nat) (f : Watchdog → Watchdog) : (s.modWd n f).crossings = s.crossings := rfl
@[simp] theorem State.modWd_tenants (s : State) (n : Nat) (f : Watchdog → Watchdog) : (s.modWd n f).tenants = s.tenants := rfl
@[simp] theorem State.modWd_change (s : State) (n : Nat) (f : Watchdog → Watchdog) : (s.modWd n f).change = s.change := rfl
@[simp] theorem State.modWd_forces (s : State) (n : Nat) (f : Watchdog → Watchdog) : (s.modWd n f).forces = s.forces := rfl
@[simp] theorem State.modWd_forceReqs (s : State) (n : Nat) (f : Watchdog → Watchdog) : (s.modWd n f).forceReqs = s.forceReqs := rfl
@[simp] theorem State.modWd_hostWrites (s : State) (n : Nat) (f : Watchdog → Watchdog) : (s.modWd n f).hostWrites = s.hostWrites := rfl
@[simp] theorem State.modWd_dbg (s : State) (n : Nat) (f : Watchdog → Watchdog) : (s.modWd n f).dbg = s.dbg := rfl
@[simp] theorem State.modWd_image (s : State) (n : Nat) (f : Watchdog → Watchdog) : (s.modWd n f).image = s.image := rfl
@[simp] theorem State.modWd_rings (s : State) (n : Nat) (f : Watchdog → Watchdog) : (s.modWd n f).rings = s.rings := rfl
@[simp] theorem State.modWd_ports (s : State) (n : Nat) (f : Watchdog → Watchdog) : (s.modWd n f).ports = s.ports := rfl
@[simp] theorem State.modWd_acyc (s : State) (n : Nat) (f : Watchdog → Watchdog) : (s.modWd n f).acyc = s.acyc := rfl
@[simp] theorem State.modWd_cyclicTags (s : State) (n : Nat) (f : Watchdog → Watchdog) : (s.modWd n f).cyclicTags = s.cyclicTags := rfl
@[simp] theorem State.modWd_link (s : State) (n : Nat) (f : Watchdog → Watchdog) : (s.modWd n f).link = s.link := rfl
@[simp] theorem State.modWd_pair (s : State) (n : Nat) (f : Watchdog → Watchdog) : (s.modWd n f).pair = s.pair := rfl
@[simp] theorem State.modWd_fires (s : State) (n : Nat) (f : Watchdog → Watchdog) : (s.modWd n f).fires = s.fires := rfl
@[simp] theorem State.modWd_peerFires (s : State) (n : Nat) (f : Watchdog → Watchdog) : (s.modWd n f).peerFires = s.peerFires := rfl
@[simp] theorem State.modWd_checks (s : State) (n : Nat) (f : Watchdog → Watchdog) : (s.modWd n f).checks = s.checks := rfl
@[simp] theorem State.modWd_feeds (s : State) (n : Nat) (f : Watchdog → Watchdog) : (s.modWd n f).feeds = s.feeds := rfl
@[simp] theorem State.modWd_front (s : State) (n : Nat) (f : Watchdog → Watchdog) : (s.modWd n f).front = s.front := rfl
@[simp] theorem State.modWd_lantern (s : State) (n : Nat) (f : Watchdog → Watchdog) : (s.modWd n f).lantern = s.lantern := rfl
@[simp] theorem State.modWd_time (s : State) (n : Nat) (f : Watchdog → Watchdog) : (s.modWd n f).time = s.time := rfl
@[simp] theorem State.modWd_gelit (s : State) (n : Nat) (f : Watchdog → Watchdog) : (s.modWd n f).gelit = s.gelit := rfl
@[simp] theorem State.modWd_io (s : State) (n : Nat) (f : Watchdog → Watchdog) : (s.modWd n f).io = s.io := rfl
@[simp] theorem State.modWd_hart (s : State) (n : Nat) (f : Watchdog → Watchdog) : (s.modWd n f).hart = s.hart := rfl
@[simp] theorem State.modWd_can (s : State) (n : Nat) (f : Watchdog → Watchdog) : (s.modWd n f).can = s.can := rfl
@[simp] theorem State.modWd_gates (s : State) (n : Nat) (f : Watchdog → Watchdog) : (s.modWd n f).gates = s.gates := rfl
@[simp] theorem State.modWd_gateWrites (s : State) (n : Nat) (f : Watchdog → Watchdog) : (s.modWd n f).gateWrites = s.gateWrites := rfl
@[simp] theorem State.modWd_keys (s : State) (n : Nat) (f : Watchdog → Watchdog) : (s.modWd n f).keys = s.keys := rfl
@[simp] theorem State.modWd_reader (s : State) (n : Nat) (f : Watchdog → Watchdog) : (s.modWd n f).reader = s.reader := rfl
@[simp] theorem State.modWd_update (s : State) (n : Nat) (f : Watchdog → Watchdog) : (s.modWd n f).update = s.update := rfl
@[simp] theorem State.modWd_saved (s : State) (n : Nat) (f : Watchdog → Watchdog) : (s.modWd n f).saved = s.saved := rfl
@[simp] theorem State.modWd_slot (s : State) (n : Nat) (f : Watchdog → Watchdog) : (s.modWd n f).slot = s.slot := rfl
@[simp] theorem State.modWd_almanac (s : State) (n : Nat) (f : Watchdog → Watchdog) : (s.modWd n f).almanac = s.almanac := rfl
@[simp] theorem State.modWd_counters (s : State) (n : Nat) (f : Watchdog → Watchdog) : (s.modWd n f).counters = s.counters := rfl
@[simp] theorem State.modWd_privWds (s : State) (n : Nat) (f : Watchdog → Watchdog) : (s.modWd n f).privWds = s.privWds := rfl
@[simp] theorem State.modWd_tap (s : State) (n : Nat) (f : Watchdog → Watchdog) : (s.modWd n f).tap = s.tap := rfl
@[simp] theorem State.modWd_cmBlock (s : State) (n : Nat) (f : Watchdog → Watchdog) : (s.modWd n f).cmBlock = s.cmBlock := rfl

/-! ### modPair -/

@[simp] theorem State.modPair_ident (s : State) (f : Pair → Pair) : (s.modPair f).ident = s.ident := rfl
@[simp] theorem State.modPair_clk (s : State) (f : Pair → Pair) : (s.modPair f).clk = s.clk := rfl
@[simp] theorem State.modPair_mode (s : State) (f : Pair → Pair) : (s.modPair f).mode = s.mode := rfl
@[simp] theorem State.modPair_cause (s : State) (f : Pair → Pair) : (s.modPair f).cause = s.cause := rfl
@[simp] theorem State.modPair_settings (s : State) (f : Pair → Pair) : (s.modPair f).settings = s.settings := rfl
@[simp] theorem State.modPair_strands (s : State) (f : Pair → Pair) : (s.modPair f).strands = s.strands := rfl
@[simp] theorem State.modPair_vcore (s : State) (f : Pair → Pair) : (s.modPair f).vcore = s.vcore := rfl
@[simp] theorem State.modPair_crossings (s : State) (f : Pair → Pair) : (s.modPair f).crossings = s.crossings := rfl
@[simp] theorem State.modPair_tenants (s : State) (f : Pair → Pair) : (s.modPair f).tenants = s.tenants := rfl
@[simp] theorem State.modPair_tasks (s : State) (f : Pair → Pair) : (s.modPair f).tasks = s.tasks := rfl
@[simp] theorem State.modPair_change (s : State) (f : Pair → Pair) : (s.modPair f).change = s.change := rfl
@[simp] theorem State.modPair_forces (s : State) (f : Pair → Pair) : (s.modPair f).forces = s.forces := rfl
@[simp] theorem State.modPair_forceReqs (s : State) (f : Pair → Pair) : (s.modPair f).forceReqs = s.forceReqs := rfl
@[simp] theorem State.modPair_hostWrites (s : State) (f : Pair → Pair) : (s.modPair f).hostWrites = s.hostWrites := rfl
@[simp] theorem State.modPair_dbg (s : State) (f : Pair → Pair) : (s.modPair f).dbg = s.dbg := rfl
@[simp] theorem State.modPair_image (s : State) (f : Pair → Pair) : (s.modPair f).image = s.image := rfl
@[simp] theorem State.modPair_rings (s : State) (f : Pair → Pair) : (s.modPair f).rings = s.rings := rfl
@[simp] theorem State.modPair_ports (s : State) (f : Pair → Pair) : (s.modPair f).ports = s.ports := rfl
@[simp] theorem State.modPair_acyc (s : State) (f : Pair → Pair) : (s.modPair f).acyc = s.acyc := rfl
@[simp] theorem State.modPair_cyclicTags (s : State) (f : Pair → Pair) : (s.modPair f).cyclicTags = s.cyclicTags := rfl
@[simp] theorem State.modPair_link (s : State) (f : Pair → Pair) : (s.modPair f).link = s.link := rfl
@[simp] theorem State.modPair_pair (s : State) (f : Pair → Pair) : (s.modPair f).pair = f s.pair := rfl
@[simp] theorem State.modPair_fires (s : State) (f : Pair → Pair) : (s.modPair f).fires = s.fires := rfl
@[simp] theorem State.modPair_peerFires (s : State) (f : Pair → Pair) : (s.modPair f).peerFires = s.peerFires := rfl
@[simp] theorem State.modPair_checks (s : State) (f : Pair → Pair) : (s.modPair f).checks = s.checks := rfl
@[simp] theorem State.modPair_feeds (s : State) (f : Pair → Pair) : (s.modPair f).feeds = s.feeds := rfl
@[simp] theorem State.modPair_front (s : State) (f : Pair → Pair) : (s.modPair f).front = s.front := rfl
@[simp] theorem State.modPair_lantern (s : State) (f : Pair → Pair) : (s.modPair f).lantern = s.lantern := rfl
@[simp] theorem State.modPair_time (s : State) (f : Pair → Pair) : (s.modPair f).time = s.time := rfl
@[simp] theorem State.modPair_gelit (s : State) (f : Pair → Pair) : (s.modPair f).gelit = s.gelit := rfl
@[simp] theorem State.modPair_io (s : State) (f : Pair → Pair) : (s.modPair f).io = s.io := rfl
@[simp] theorem State.modPair_hart (s : State) (f : Pair → Pair) : (s.modPair f).hart = s.hart := rfl
@[simp] theorem State.modPair_can (s : State) (f : Pair → Pair) : (s.modPair f).can = s.can := rfl
@[simp] theorem State.modPair_gates (s : State) (f : Pair → Pair) : (s.modPair f).gates = s.gates := rfl
@[simp] theorem State.modPair_gateWrites (s : State) (f : Pair → Pair) : (s.modPair f).gateWrites = s.gateWrites := rfl
@[simp] theorem State.modPair_keys (s : State) (f : Pair → Pair) : (s.modPair f).keys = s.keys := rfl
@[simp] theorem State.modPair_reader (s : State) (f : Pair → Pair) : (s.modPair f).reader = s.reader := rfl
@[simp] theorem State.modPair_update (s : State) (f : Pair → Pair) : (s.modPair f).update = s.update := rfl
@[simp] theorem State.modPair_saved (s : State) (f : Pair → Pair) : (s.modPair f).saved = s.saved := rfl
@[simp] theorem State.modPair_slot (s : State) (f : Pair → Pair) : (s.modPair f).slot = s.slot := rfl
@[simp] theorem State.modPair_almanac (s : State) (f : Pair → Pair) : (s.modPair f).almanac = s.almanac := rfl
@[simp] theorem State.modPair_counters (s : State) (f : Pair → Pair) : (s.modPair f).counters = s.counters := rfl
@[simp] theorem State.modPair_privWds (s : State) (f : Pair → Pair) : (s.modPair f).privWds = s.privWds := rfl
@[simp] theorem State.modPair_tap (s : State) (f : Pair → Pair) : (s.modPair f).tap = s.tap := rfl
@[simp] theorem State.modPair_cmBlock (s : State) (f : Pair → Pair) : (s.modPair f).cmBlock = s.cmBlock := rfl

/-! ### modIo -/

@[simp] theorem State.modIo_ident (s : State) (f : LocalIo → LocalIo) : (s.modIo f).ident = s.ident := rfl
@[simp] theorem State.modIo_clk (s : State) (f : LocalIo → LocalIo) : (s.modIo f).clk = s.clk := rfl
@[simp] theorem State.modIo_mode (s : State) (f : LocalIo → LocalIo) : (s.modIo f).mode = s.mode := rfl
@[simp] theorem State.modIo_cause (s : State) (f : LocalIo → LocalIo) : (s.modIo f).cause = s.cause := rfl
@[simp] theorem State.modIo_settings (s : State) (f : LocalIo → LocalIo) : (s.modIo f).settings = s.settings := rfl
@[simp] theorem State.modIo_strands (s : State) (f : LocalIo → LocalIo) : (s.modIo f).strands = s.strands := rfl
@[simp] theorem State.modIo_vcore (s : State) (f : LocalIo → LocalIo) : (s.modIo f).vcore = s.vcore := rfl
@[simp] theorem State.modIo_crossings (s : State) (f : LocalIo → LocalIo) : (s.modIo f).crossings = s.crossings := rfl
@[simp] theorem State.modIo_tenants (s : State) (f : LocalIo → LocalIo) : (s.modIo f).tenants = s.tenants := rfl
@[simp] theorem State.modIo_tasks (s : State) (f : LocalIo → LocalIo) : (s.modIo f).tasks = s.tasks := rfl
@[simp] theorem State.modIo_change (s : State) (f : LocalIo → LocalIo) : (s.modIo f).change = s.change := rfl
@[simp] theorem State.modIo_forces (s : State) (f : LocalIo → LocalIo) : (s.modIo f).forces = s.forces := rfl
@[simp] theorem State.modIo_forceReqs (s : State) (f : LocalIo → LocalIo) : (s.modIo f).forceReqs = s.forceReqs := rfl
@[simp] theorem State.modIo_hostWrites (s : State) (f : LocalIo → LocalIo) : (s.modIo f).hostWrites = s.hostWrites := rfl
@[simp] theorem State.modIo_dbg (s : State) (f : LocalIo → LocalIo) : (s.modIo f).dbg = s.dbg := rfl
@[simp] theorem State.modIo_image (s : State) (f : LocalIo → LocalIo) : (s.modIo f).image = s.image := rfl
@[simp] theorem State.modIo_rings (s : State) (f : LocalIo → LocalIo) : (s.modIo f).rings = s.rings := rfl
@[simp] theorem State.modIo_ports (s : State) (f : LocalIo → LocalIo) : (s.modIo f).ports = s.ports := rfl
@[simp] theorem State.modIo_acyc (s : State) (f : LocalIo → LocalIo) : (s.modIo f).acyc = s.acyc := rfl
@[simp] theorem State.modIo_cyclicTags (s : State) (f : LocalIo → LocalIo) : (s.modIo f).cyclicTags = s.cyclicTags := rfl
@[simp] theorem State.modIo_link (s : State) (f : LocalIo → LocalIo) : (s.modIo f).link = s.link := rfl
@[simp] theorem State.modIo_pair (s : State) (f : LocalIo → LocalIo) : (s.modIo f).pair = s.pair := rfl
@[simp] theorem State.modIo_fires (s : State) (f : LocalIo → LocalIo) : (s.modIo f).fires = s.fires := rfl
@[simp] theorem State.modIo_peerFires (s : State) (f : LocalIo → LocalIo) : (s.modIo f).peerFires = s.peerFires := rfl
@[simp] theorem State.modIo_checks (s : State) (f : LocalIo → LocalIo) : (s.modIo f).checks = s.checks := rfl
@[simp] theorem State.modIo_feeds (s : State) (f : LocalIo → LocalIo) : (s.modIo f).feeds = s.feeds := rfl
@[simp] theorem State.modIo_front (s : State) (f : LocalIo → LocalIo) : (s.modIo f).front = s.front := rfl
@[simp] theorem State.modIo_lantern (s : State) (f : LocalIo → LocalIo) : (s.modIo f).lantern = s.lantern := rfl
@[simp] theorem State.modIo_time (s : State) (f : LocalIo → LocalIo) : (s.modIo f).time = s.time := rfl
@[simp] theorem State.modIo_gelit (s : State) (f : LocalIo → LocalIo) : (s.modIo f).gelit = s.gelit := rfl
@[simp] theorem State.modIo_io (s : State) (f : LocalIo → LocalIo) : (s.modIo f).io = f s.io := rfl
@[simp] theorem State.modIo_hart (s : State) (f : LocalIo → LocalIo) : (s.modIo f).hart = s.hart := rfl
@[simp] theorem State.modIo_can (s : State) (f : LocalIo → LocalIo) : (s.modIo f).can = s.can := rfl
@[simp] theorem State.modIo_gates (s : State) (f : LocalIo → LocalIo) : (s.modIo f).gates = s.gates := rfl
@[simp] theorem State.modIo_gateWrites (s : State) (f : LocalIo → LocalIo) : (s.modIo f).gateWrites = s.gateWrites := rfl
@[simp] theorem State.modIo_keys (s : State) (f : LocalIo → LocalIo) : (s.modIo f).keys = s.keys := rfl
@[simp] theorem State.modIo_reader (s : State) (f : LocalIo → LocalIo) : (s.modIo f).reader = s.reader := rfl
@[simp] theorem State.modIo_update (s : State) (f : LocalIo → LocalIo) : (s.modIo f).update = s.update := rfl
@[simp] theorem State.modIo_saved (s : State) (f : LocalIo → LocalIo) : (s.modIo f).saved = s.saved := rfl
@[simp] theorem State.modIo_slot (s : State) (f : LocalIo → LocalIo) : (s.modIo f).slot = s.slot := rfl
@[simp] theorem State.modIo_almanac (s : State) (f : LocalIo → LocalIo) : (s.modIo f).almanac = s.almanac := rfl
@[simp] theorem State.modIo_counters (s : State) (f : LocalIo → LocalIo) : (s.modIo f).counters = s.counters := rfl
@[simp] theorem State.modIo_privWds (s : State) (f : LocalIo → LocalIo) : (s.modIo f).privWds = s.privWds := rfl
@[simp] theorem State.modIo_tap (s : State) (f : LocalIo → LocalIo) : (s.modIo f).tap = s.tap := rfl
@[simp] theorem State.modIo_cmBlock (s : State) (f : LocalIo → LocalIo) : (s.modIo f).cmBlock = s.cmBlock := rfl

/-! ### modFront -/

@[simp] theorem State.modFront_ident (s : State) (f : Front → Front) : (s.modFront f).ident = s.ident := rfl
@[simp] theorem State.modFront_clk (s : State) (f : Front → Front) : (s.modFront f).clk = s.clk := rfl
@[simp] theorem State.modFront_mode (s : State) (f : Front → Front) : (s.modFront f).mode = s.mode := rfl
@[simp] theorem State.modFront_cause (s : State) (f : Front → Front) : (s.modFront f).cause = s.cause := rfl
@[simp] theorem State.modFront_settings (s : State) (f : Front → Front) : (s.modFront f).settings = s.settings := rfl
@[simp] theorem State.modFront_strands (s : State) (f : Front → Front) : (s.modFront f).strands = s.strands := rfl
@[simp] theorem State.modFront_vcore (s : State) (f : Front → Front) : (s.modFront f).vcore = s.vcore := rfl
@[simp] theorem State.modFront_crossings (s : State) (f : Front → Front) : (s.modFront f).crossings = s.crossings := rfl
@[simp] theorem State.modFront_tenants (s : State) (f : Front → Front) : (s.modFront f).tenants = s.tenants := rfl
@[simp] theorem State.modFront_tasks (s : State) (f : Front → Front) : (s.modFront f).tasks = s.tasks := rfl
@[simp] theorem State.modFront_change (s : State) (f : Front → Front) : (s.modFront f).change = s.change := rfl
@[simp] theorem State.modFront_forces (s : State) (f : Front → Front) : (s.modFront f).forces = s.forces := rfl
@[simp] theorem State.modFront_forceReqs (s : State) (f : Front → Front) : (s.modFront f).forceReqs = s.forceReqs := rfl
@[simp] theorem State.modFront_hostWrites (s : State) (f : Front → Front) : (s.modFront f).hostWrites = s.hostWrites := rfl
@[simp] theorem State.modFront_dbg (s : State) (f : Front → Front) : (s.modFront f).dbg = s.dbg := rfl
@[simp] theorem State.modFront_image (s : State) (f : Front → Front) : (s.modFront f).image = s.image := rfl
@[simp] theorem State.modFront_rings (s : State) (f : Front → Front) : (s.modFront f).rings = s.rings := rfl
@[simp] theorem State.modFront_ports (s : State) (f : Front → Front) : (s.modFront f).ports = s.ports := rfl
@[simp] theorem State.modFront_acyc (s : State) (f : Front → Front) : (s.modFront f).acyc = s.acyc := rfl
@[simp] theorem State.modFront_cyclicTags (s : State) (f : Front → Front) : (s.modFront f).cyclicTags = s.cyclicTags := rfl
@[simp] theorem State.modFront_link (s : State) (f : Front → Front) : (s.modFront f).link = s.link := rfl
@[simp] theorem State.modFront_pair (s : State) (f : Front → Front) : (s.modFront f).pair = s.pair := rfl
@[simp] theorem State.modFront_fires (s : State) (f : Front → Front) : (s.modFront f).fires = s.fires := rfl
@[simp] theorem State.modFront_peerFires (s : State) (f : Front → Front) : (s.modFront f).peerFires = s.peerFires := rfl
@[simp] theorem State.modFront_checks (s : State) (f : Front → Front) : (s.modFront f).checks = s.checks := rfl
@[simp] theorem State.modFront_feeds (s : State) (f : Front → Front) : (s.modFront f).feeds = s.feeds := rfl
@[simp] theorem State.modFront_front (s : State) (f : Front → Front) : (s.modFront f).front = f s.front := rfl
@[simp] theorem State.modFront_lantern (s : State) (f : Front → Front) : (s.modFront f).lantern = s.lantern := rfl
@[simp] theorem State.modFront_time (s : State) (f : Front → Front) : (s.modFront f).time = s.time := rfl
@[simp] theorem State.modFront_gelit (s : State) (f : Front → Front) : (s.modFront f).gelit = s.gelit := rfl
@[simp] theorem State.modFront_io (s : State) (f : Front → Front) : (s.modFront f).io = s.io := rfl
@[simp] theorem State.modFront_hart (s : State) (f : Front → Front) : (s.modFront f).hart = s.hart := rfl
@[simp] theorem State.modFront_can (s : State) (f : Front → Front) : (s.modFront f).can = s.can := rfl
@[simp] theorem State.modFront_gates (s : State) (f : Front → Front) : (s.modFront f).gates = s.gates := rfl
@[simp] theorem State.modFront_gateWrites (s : State) (f : Front → Front) : (s.modFront f).gateWrites = s.gateWrites := rfl
@[simp] theorem State.modFront_keys (s : State) (f : Front → Front) : (s.modFront f).keys = s.keys := rfl
@[simp] theorem State.modFront_reader (s : State) (f : Front → Front) : (s.modFront f).reader = s.reader := rfl
@[simp] theorem State.modFront_update (s : State) (f : Front → Front) : (s.modFront f).update = s.update := rfl
@[simp] theorem State.modFront_saved (s : State) (f : Front → Front) : (s.modFront f).saved = s.saved := rfl
@[simp] theorem State.modFront_slot (s : State) (f : Front → Front) : (s.modFront f).slot = s.slot := rfl
@[simp] theorem State.modFront_almanac (s : State) (f : Front → Front) : (s.modFront f).almanac = s.almanac := rfl
@[simp] theorem State.modFront_counters (s : State) (f : Front → Front) : (s.modFront f).counters = s.counters := rfl
@[simp] theorem State.modFront_privWds (s : State) (f : Front → Front) : (s.modFront f).privWds = s.privWds := rfl
@[simp] theorem State.modFront_tap (s : State) (f : Front → Front) : (s.modFront f).tap = s.tap := rfl
@[simp] theorem State.modFront_cmBlock (s : State) (f : Front → Front) : (s.modFront f).cmBlock = s.cmBlock := rfl

/-! ### modLantern -/

@[simp] theorem State.modLantern_ident (s : State) (f : Lantern → Lantern) : (s.modLantern f).ident = s.ident := rfl
@[simp] theorem State.modLantern_clk (s : State) (f : Lantern → Lantern) : (s.modLantern f).clk = s.clk := rfl
@[simp] theorem State.modLantern_mode (s : State) (f : Lantern → Lantern) : (s.modLantern f).mode = s.mode := rfl
@[simp] theorem State.modLantern_cause (s : State) (f : Lantern → Lantern) : (s.modLantern f).cause = s.cause := rfl
@[simp] theorem State.modLantern_settings (s : State) (f : Lantern → Lantern) : (s.modLantern f).settings = s.settings := rfl
@[simp] theorem State.modLantern_strands (s : State) (f : Lantern → Lantern) : (s.modLantern f).strands = s.strands := rfl
@[simp] theorem State.modLantern_vcore (s : State) (f : Lantern → Lantern) : (s.modLantern f).vcore = s.vcore := rfl
@[simp] theorem State.modLantern_crossings (s : State) (f : Lantern → Lantern) : (s.modLantern f).crossings = s.crossings := rfl
@[simp] theorem State.modLantern_tenants (s : State) (f : Lantern → Lantern) : (s.modLantern f).tenants = s.tenants := rfl
@[simp] theorem State.modLantern_tasks (s : State) (f : Lantern → Lantern) : (s.modLantern f).tasks = s.tasks := rfl
@[simp] theorem State.modLantern_change (s : State) (f : Lantern → Lantern) : (s.modLantern f).change = s.change := rfl
@[simp] theorem State.modLantern_forces (s : State) (f : Lantern → Lantern) : (s.modLantern f).forces = s.forces := rfl
@[simp] theorem State.modLantern_forceReqs (s : State) (f : Lantern → Lantern) : (s.modLantern f).forceReqs = s.forceReqs := rfl
@[simp] theorem State.modLantern_hostWrites (s : State) (f : Lantern → Lantern) : (s.modLantern f).hostWrites = s.hostWrites := rfl
@[simp] theorem State.modLantern_dbg (s : State) (f : Lantern → Lantern) : (s.modLantern f).dbg = s.dbg := rfl
@[simp] theorem State.modLantern_image (s : State) (f : Lantern → Lantern) : (s.modLantern f).image = s.image := rfl
@[simp] theorem State.modLantern_rings (s : State) (f : Lantern → Lantern) : (s.modLantern f).rings = s.rings := rfl
@[simp] theorem State.modLantern_ports (s : State) (f : Lantern → Lantern) : (s.modLantern f).ports = s.ports := rfl
@[simp] theorem State.modLantern_acyc (s : State) (f : Lantern → Lantern) : (s.modLantern f).acyc = s.acyc := rfl
@[simp] theorem State.modLantern_cyclicTags (s : State) (f : Lantern → Lantern) : (s.modLantern f).cyclicTags = s.cyclicTags := rfl
@[simp] theorem State.modLantern_link (s : State) (f : Lantern → Lantern) : (s.modLantern f).link = s.link := rfl
@[simp] theorem State.modLantern_pair (s : State) (f : Lantern → Lantern) : (s.modLantern f).pair = s.pair := rfl
@[simp] theorem State.modLantern_fires (s : State) (f : Lantern → Lantern) : (s.modLantern f).fires = s.fires := rfl
@[simp] theorem State.modLantern_peerFires (s : State) (f : Lantern → Lantern) : (s.modLantern f).peerFires = s.peerFires := rfl
@[simp] theorem State.modLantern_checks (s : State) (f : Lantern → Lantern) : (s.modLantern f).checks = s.checks := rfl
@[simp] theorem State.modLantern_feeds (s : State) (f : Lantern → Lantern) : (s.modLantern f).feeds = s.feeds := rfl
@[simp] theorem State.modLantern_front (s : State) (f : Lantern → Lantern) : (s.modLantern f).front = s.front := rfl
@[simp] theorem State.modLantern_lantern (s : State) (f : Lantern → Lantern) : (s.modLantern f).lantern = f s.lantern := rfl
@[simp] theorem State.modLantern_time (s : State) (f : Lantern → Lantern) : (s.modLantern f).time = s.time := rfl
@[simp] theorem State.modLantern_gelit (s : State) (f : Lantern → Lantern) : (s.modLantern f).gelit = s.gelit := rfl
@[simp] theorem State.modLantern_io (s : State) (f : Lantern → Lantern) : (s.modLantern f).io = s.io := rfl
@[simp] theorem State.modLantern_hart (s : State) (f : Lantern → Lantern) : (s.modLantern f).hart = s.hart := rfl
@[simp] theorem State.modLantern_can (s : State) (f : Lantern → Lantern) : (s.modLantern f).can = s.can := rfl
@[simp] theorem State.modLantern_gates (s : State) (f : Lantern → Lantern) : (s.modLantern f).gates = s.gates := rfl
@[simp] theorem State.modLantern_gateWrites (s : State) (f : Lantern → Lantern) : (s.modLantern f).gateWrites = s.gateWrites := rfl
@[simp] theorem State.modLantern_keys (s : State) (f : Lantern → Lantern) : (s.modLantern f).keys = s.keys := rfl
@[simp] theorem State.modLantern_reader (s : State) (f : Lantern → Lantern) : (s.modLantern f).reader = s.reader := rfl
@[simp] theorem State.modLantern_update (s : State) (f : Lantern → Lantern) : (s.modLantern f).update = s.update := rfl
@[simp] theorem State.modLantern_saved (s : State) (f : Lantern → Lantern) : (s.modLantern f).saved = s.saved := rfl
@[simp] theorem State.modLantern_slot (s : State) (f : Lantern → Lantern) : (s.modLantern f).slot = s.slot := rfl
@[simp] theorem State.modLantern_almanac (s : State) (f : Lantern → Lantern) : (s.modLantern f).almanac = s.almanac := rfl
@[simp] theorem State.modLantern_counters (s : State) (f : Lantern → Lantern) : (s.modLantern f).counters = s.counters := rfl
@[simp] theorem State.modLantern_privWds (s : State) (f : Lantern → Lantern) : (s.modLantern f).privWds = s.privWds := rfl
@[simp] theorem State.modLantern_tap (s : State) (f : Lantern → Lantern) : (s.modLantern f).tap = s.tap := rfl
@[simp] theorem State.modLantern_cmBlock (s : State) (f : Lantern → Lantern) : (s.modLantern f).cmBlock = s.cmBlock := rfl

/-! ### modTime -/

@[simp] theorem State.modTime_ident (s : State) (f : TimeUnit → TimeUnit) : (s.modTime f).ident = s.ident := rfl
@[simp] theorem State.modTime_clk (s : State) (f : TimeUnit → TimeUnit) : (s.modTime f).clk = s.clk := rfl
@[simp] theorem State.modTime_mode (s : State) (f : TimeUnit → TimeUnit) : (s.modTime f).mode = s.mode := rfl
@[simp] theorem State.modTime_cause (s : State) (f : TimeUnit → TimeUnit) : (s.modTime f).cause = s.cause := rfl
@[simp] theorem State.modTime_settings (s : State) (f : TimeUnit → TimeUnit) : (s.modTime f).settings = s.settings := rfl
@[simp] theorem State.modTime_strands (s : State) (f : TimeUnit → TimeUnit) : (s.modTime f).strands = s.strands := rfl
@[simp] theorem State.modTime_vcore (s : State) (f : TimeUnit → TimeUnit) : (s.modTime f).vcore = s.vcore := rfl
@[simp] theorem State.modTime_crossings (s : State) (f : TimeUnit → TimeUnit) : (s.modTime f).crossings = s.crossings := rfl
@[simp] theorem State.modTime_tenants (s : State) (f : TimeUnit → TimeUnit) : (s.modTime f).tenants = s.tenants := rfl
@[simp] theorem State.modTime_tasks (s : State) (f : TimeUnit → TimeUnit) : (s.modTime f).tasks = s.tasks := rfl
@[simp] theorem State.modTime_change (s : State) (f : TimeUnit → TimeUnit) : (s.modTime f).change = s.change := rfl
@[simp] theorem State.modTime_forces (s : State) (f : TimeUnit → TimeUnit) : (s.modTime f).forces = s.forces := rfl
@[simp] theorem State.modTime_forceReqs (s : State) (f : TimeUnit → TimeUnit) : (s.modTime f).forceReqs = s.forceReqs := rfl
@[simp] theorem State.modTime_hostWrites (s : State) (f : TimeUnit → TimeUnit) : (s.modTime f).hostWrites = s.hostWrites := rfl
@[simp] theorem State.modTime_dbg (s : State) (f : TimeUnit → TimeUnit) : (s.modTime f).dbg = s.dbg := rfl
@[simp] theorem State.modTime_image (s : State) (f : TimeUnit → TimeUnit) : (s.modTime f).image = s.image := rfl
@[simp] theorem State.modTime_rings (s : State) (f : TimeUnit → TimeUnit) : (s.modTime f).rings = s.rings := rfl
@[simp] theorem State.modTime_ports (s : State) (f : TimeUnit → TimeUnit) : (s.modTime f).ports = s.ports := rfl
@[simp] theorem State.modTime_acyc (s : State) (f : TimeUnit → TimeUnit) : (s.modTime f).acyc = s.acyc := rfl
@[simp] theorem State.modTime_cyclicTags (s : State) (f : TimeUnit → TimeUnit) : (s.modTime f).cyclicTags = s.cyclicTags := rfl
@[simp] theorem State.modTime_link (s : State) (f : TimeUnit → TimeUnit) : (s.modTime f).link = s.link := rfl
@[simp] theorem State.modTime_pair (s : State) (f : TimeUnit → TimeUnit) : (s.modTime f).pair = s.pair := rfl
@[simp] theorem State.modTime_fires (s : State) (f : TimeUnit → TimeUnit) : (s.modTime f).fires = s.fires := rfl
@[simp] theorem State.modTime_peerFires (s : State) (f : TimeUnit → TimeUnit) : (s.modTime f).peerFires = s.peerFires := rfl
@[simp] theorem State.modTime_checks (s : State) (f : TimeUnit → TimeUnit) : (s.modTime f).checks = s.checks := rfl
@[simp] theorem State.modTime_feeds (s : State) (f : TimeUnit → TimeUnit) : (s.modTime f).feeds = s.feeds := rfl
@[simp] theorem State.modTime_front (s : State) (f : TimeUnit → TimeUnit) : (s.modTime f).front = s.front := rfl
@[simp] theorem State.modTime_lantern (s : State) (f : TimeUnit → TimeUnit) : (s.modTime f).lantern = s.lantern := rfl
@[simp] theorem State.modTime_time (s : State) (f : TimeUnit → TimeUnit) : (s.modTime f).time = f s.time := rfl
@[simp] theorem State.modTime_gelit (s : State) (f : TimeUnit → TimeUnit) : (s.modTime f).gelit = s.gelit := rfl
@[simp] theorem State.modTime_io (s : State) (f : TimeUnit → TimeUnit) : (s.modTime f).io = s.io := rfl
@[simp] theorem State.modTime_hart (s : State) (f : TimeUnit → TimeUnit) : (s.modTime f).hart = s.hart := rfl
@[simp] theorem State.modTime_can (s : State) (f : TimeUnit → TimeUnit) : (s.modTime f).can = s.can := rfl
@[simp] theorem State.modTime_gates (s : State) (f : TimeUnit → TimeUnit) : (s.modTime f).gates = s.gates := rfl
@[simp] theorem State.modTime_gateWrites (s : State) (f : TimeUnit → TimeUnit) : (s.modTime f).gateWrites = s.gateWrites := rfl
@[simp] theorem State.modTime_keys (s : State) (f : TimeUnit → TimeUnit) : (s.modTime f).keys = s.keys := rfl
@[simp] theorem State.modTime_reader (s : State) (f : TimeUnit → TimeUnit) : (s.modTime f).reader = s.reader := rfl
@[simp] theorem State.modTime_update (s : State) (f : TimeUnit → TimeUnit) : (s.modTime f).update = s.update := rfl
@[simp] theorem State.modTime_saved (s : State) (f : TimeUnit → TimeUnit) : (s.modTime f).saved = s.saved := rfl
@[simp] theorem State.modTime_slot (s : State) (f : TimeUnit → TimeUnit) : (s.modTime f).slot = s.slot := rfl
@[simp] theorem State.modTime_almanac (s : State) (f : TimeUnit → TimeUnit) : (s.modTime f).almanac = s.almanac := rfl
@[simp] theorem State.modTime_counters (s : State) (f : TimeUnit → TimeUnit) : (s.modTime f).counters = s.counters := rfl
@[simp] theorem State.modTime_privWds (s : State) (f : TimeUnit → TimeUnit) : (s.modTime f).privWds = s.privWds := rfl
@[simp] theorem State.modTime_tap (s : State) (f : TimeUnit → TimeUnit) : (s.modTime f).tap = s.tap := rfl
@[simp] theorem State.modTime_cmBlock (s : State) (f : TimeUnit → TimeUnit) : (s.modTime f).cmBlock = s.cmBlock := rfl

/-! ### modUpdate -/

@[simp] theorem State.modUpdate_ident (s : State) (f : Update → Update) : (s.modUpdate f).ident = s.ident := rfl
@[simp] theorem State.modUpdate_clk (s : State) (f : Update → Update) : (s.modUpdate f).clk = s.clk := rfl
@[simp] theorem State.modUpdate_mode (s : State) (f : Update → Update) : (s.modUpdate f).mode = s.mode := rfl
@[simp] theorem State.modUpdate_cause (s : State) (f : Update → Update) : (s.modUpdate f).cause = s.cause := rfl
@[simp] theorem State.modUpdate_settings (s : State) (f : Update → Update) : (s.modUpdate f).settings = s.settings := rfl
@[simp] theorem State.modUpdate_strands (s : State) (f : Update → Update) : (s.modUpdate f).strands = s.strands := rfl
@[simp] theorem State.modUpdate_vcore (s : State) (f : Update → Update) : (s.modUpdate f).vcore = s.vcore := rfl
@[simp] theorem State.modUpdate_crossings (s : State) (f : Update → Update) : (s.modUpdate f).crossings = s.crossings := rfl
@[simp] theorem State.modUpdate_tenants (s : State) (f : Update → Update) : (s.modUpdate f).tenants = s.tenants := rfl
@[simp] theorem State.modUpdate_tasks (s : State) (f : Update → Update) : (s.modUpdate f).tasks = s.tasks := rfl
@[simp] theorem State.modUpdate_change (s : State) (f : Update → Update) : (s.modUpdate f).change = s.change := rfl
@[simp] theorem State.modUpdate_forces (s : State) (f : Update → Update) : (s.modUpdate f).forces = s.forces := rfl
@[simp] theorem State.modUpdate_forceReqs (s : State) (f : Update → Update) : (s.modUpdate f).forceReqs = s.forceReqs := rfl
@[simp] theorem State.modUpdate_hostWrites (s : State) (f : Update → Update) : (s.modUpdate f).hostWrites = s.hostWrites := rfl
@[simp] theorem State.modUpdate_dbg (s : State) (f : Update → Update) : (s.modUpdate f).dbg = s.dbg := rfl
@[simp] theorem State.modUpdate_image (s : State) (f : Update → Update) : (s.modUpdate f).image = s.image := rfl
@[simp] theorem State.modUpdate_rings (s : State) (f : Update → Update) : (s.modUpdate f).rings = s.rings := rfl
@[simp] theorem State.modUpdate_ports (s : State) (f : Update → Update) : (s.modUpdate f).ports = s.ports := rfl
@[simp] theorem State.modUpdate_acyc (s : State) (f : Update → Update) : (s.modUpdate f).acyc = s.acyc := rfl
@[simp] theorem State.modUpdate_cyclicTags (s : State) (f : Update → Update) : (s.modUpdate f).cyclicTags = s.cyclicTags := rfl
@[simp] theorem State.modUpdate_link (s : State) (f : Update → Update) : (s.modUpdate f).link = s.link := rfl
@[simp] theorem State.modUpdate_pair (s : State) (f : Update → Update) : (s.modUpdate f).pair = s.pair := rfl
@[simp] theorem State.modUpdate_fires (s : State) (f : Update → Update) : (s.modUpdate f).fires = s.fires := rfl
@[simp] theorem State.modUpdate_peerFires (s : State) (f : Update → Update) : (s.modUpdate f).peerFires = s.peerFires := rfl
@[simp] theorem State.modUpdate_checks (s : State) (f : Update → Update) : (s.modUpdate f).checks = s.checks := rfl
@[simp] theorem State.modUpdate_feeds (s : State) (f : Update → Update) : (s.modUpdate f).feeds = s.feeds := rfl
@[simp] theorem State.modUpdate_front (s : State) (f : Update → Update) : (s.modUpdate f).front = s.front := rfl
@[simp] theorem State.modUpdate_lantern (s : State) (f : Update → Update) : (s.modUpdate f).lantern = s.lantern := rfl
@[simp] theorem State.modUpdate_time (s : State) (f : Update → Update) : (s.modUpdate f).time = s.time := rfl
@[simp] theorem State.modUpdate_gelit (s : State) (f : Update → Update) : (s.modUpdate f).gelit = s.gelit := rfl
@[simp] theorem State.modUpdate_io (s : State) (f : Update → Update) : (s.modUpdate f).io = s.io := rfl
@[simp] theorem State.modUpdate_hart (s : State) (f : Update → Update) : (s.modUpdate f).hart = s.hart := rfl
@[simp] theorem State.modUpdate_can (s : State) (f : Update → Update) : (s.modUpdate f).can = s.can := rfl
@[simp] theorem State.modUpdate_gates (s : State) (f : Update → Update) : (s.modUpdate f).gates = s.gates := rfl
@[simp] theorem State.modUpdate_gateWrites (s : State) (f : Update → Update) : (s.modUpdate f).gateWrites = s.gateWrites := rfl
@[simp] theorem State.modUpdate_keys (s : State) (f : Update → Update) : (s.modUpdate f).keys = s.keys := rfl
@[simp] theorem State.modUpdate_reader (s : State) (f : Update → Update) : (s.modUpdate f).reader = s.reader := rfl
@[simp] theorem State.modUpdate_update (s : State) (f : Update → Update) : (s.modUpdate f).update = f s.update := rfl
@[simp] theorem State.modUpdate_saved (s : State) (f : Update → Update) : (s.modUpdate f).saved = s.saved := rfl
@[simp] theorem State.modUpdate_slot (s : State) (f : Update → Update) : (s.modUpdate f).slot = s.slot := rfl
@[simp] theorem State.modUpdate_almanac (s : State) (f : Update → Update) : (s.modUpdate f).almanac = s.almanac := rfl
@[simp] theorem State.modUpdate_counters (s : State) (f : Update → Update) : (s.modUpdate f).counters = s.counters := rfl
@[simp] theorem State.modUpdate_privWds (s : State) (f : Update → Update) : (s.modUpdate f).privWds = s.privWds := rfl
@[simp] theorem State.modUpdate_tap (s : State) (f : Update → Update) : (s.modUpdate f).tap = s.tap := rfl
@[simp] theorem State.modUpdate_cmBlock (s : State) (f : Update → Update) : (s.modUpdate f).cmBlock = s.cmBlock := rfl

/-! ### modReader -/

@[simp] theorem State.modReader_ident (s : State) (f : Reader → Reader) : (s.modReader f).ident = s.ident := rfl
@[simp] theorem State.modReader_clk (s : State) (f : Reader → Reader) : (s.modReader f).clk = s.clk := rfl
@[simp] theorem State.modReader_mode (s : State) (f : Reader → Reader) : (s.modReader f).mode = s.mode := rfl
@[simp] theorem State.modReader_cause (s : State) (f : Reader → Reader) : (s.modReader f).cause = s.cause := rfl
@[simp] theorem State.modReader_settings (s : State) (f : Reader → Reader) : (s.modReader f).settings = s.settings := rfl
@[simp] theorem State.modReader_strands (s : State) (f : Reader → Reader) : (s.modReader f).strands = s.strands := rfl
@[simp] theorem State.modReader_vcore (s : State) (f : Reader → Reader) : (s.modReader f).vcore = s.vcore := rfl
@[simp] theorem State.modReader_crossings (s : State) (f : Reader → Reader) : (s.modReader f).crossings = s.crossings := rfl
@[simp] theorem State.modReader_tenants (s : State) (f : Reader → Reader) : (s.modReader f).tenants = s.tenants := rfl
@[simp] theorem State.modReader_tasks (s : State) (f : Reader → Reader) : (s.modReader f).tasks = s.tasks := rfl
@[simp] theorem State.modReader_change (s : State) (f : Reader → Reader) : (s.modReader f).change = s.change := rfl
@[simp] theorem State.modReader_forces (s : State) (f : Reader → Reader) : (s.modReader f).forces = s.forces := rfl
@[simp] theorem State.modReader_forceReqs (s : State) (f : Reader → Reader) : (s.modReader f).forceReqs = s.forceReqs := rfl
@[simp] theorem State.modReader_hostWrites (s : State) (f : Reader → Reader) : (s.modReader f).hostWrites = s.hostWrites := rfl
@[simp] theorem State.modReader_dbg (s : State) (f : Reader → Reader) : (s.modReader f).dbg = s.dbg := rfl
@[simp] theorem State.modReader_image (s : State) (f : Reader → Reader) : (s.modReader f).image = s.image := rfl
@[simp] theorem State.modReader_rings (s : State) (f : Reader → Reader) : (s.modReader f).rings = s.rings := rfl
@[simp] theorem State.modReader_ports (s : State) (f : Reader → Reader) : (s.modReader f).ports = s.ports := rfl
@[simp] theorem State.modReader_acyc (s : State) (f : Reader → Reader) : (s.modReader f).acyc = s.acyc := rfl
@[simp] theorem State.modReader_cyclicTags (s : State) (f : Reader → Reader) : (s.modReader f).cyclicTags = s.cyclicTags := rfl
@[simp] theorem State.modReader_link (s : State) (f : Reader → Reader) : (s.modReader f).link = s.link := rfl
@[simp] theorem State.modReader_pair (s : State) (f : Reader → Reader) : (s.modReader f).pair = s.pair := rfl
@[simp] theorem State.modReader_fires (s : State) (f : Reader → Reader) : (s.modReader f).fires = s.fires := rfl
@[simp] theorem State.modReader_peerFires (s : State) (f : Reader → Reader) : (s.modReader f).peerFires = s.peerFires := rfl
@[simp] theorem State.modReader_checks (s : State) (f : Reader → Reader) : (s.modReader f).checks = s.checks := rfl
@[simp] theorem State.modReader_feeds (s : State) (f : Reader → Reader) : (s.modReader f).feeds = s.feeds := rfl
@[simp] theorem State.modReader_front (s : State) (f : Reader → Reader) : (s.modReader f).front = s.front := rfl
@[simp] theorem State.modReader_lantern (s : State) (f : Reader → Reader) : (s.modReader f).lantern = s.lantern := rfl
@[simp] theorem State.modReader_time (s : State) (f : Reader → Reader) : (s.modReader f).time = s.time := rfl
@[simp] theorem State.modReader_gelit (s : State) (f : Reader → Reader) : (s.modReader f).gelit = s.gelit := rfl
@[simp] theorem State.modReader_io (s : State) (f : Reader → Reader) : (s.modReader f).io = s.io := rfl
@[simp] theorem State.modReader_hart (s : State) (f : Reader → Reader) : (s.modReader f).hart = s.hart := rfl
@[simp] theorem State.modReader_can (s : State) (f : Reader → Reader) : (s.modReader f).can = s.can := rfl
@[simp] theorem State.modReader_gates (s : State) (f : Reader → Reader) : (s.modReader f).gates = s.gates := rfl
@[simp] theorem State.modReader_gateWrites (s : State) (f : Reader → Reader) : (s.modReader f).gateWrites = s.gateWrites := rfl
@[simp] theorem State.modReader_keys (s : State) (f : Reader → Reader) : (s.modReader f).keys = s.keys := rfl
@[simp] theorem State.modReader_reader (s : State) (f : Reader → Reader) : (s.modReader f).reader = f s.reader := rfl
@[simp] theorem State.modReader_update (s : State) (f : Reader → Reader) : (s.modReader f).update = s.update := rfl
@[simp] theorem State.modReader_saved (s : State) (f : Reader → Reader) : (s.modReader f).saved = s.saved := rfl
@[simp] theorem State.modReader_slot (s : State) (f : Reader → Reader) : (s.modReader f).slot = s.slot := rfl
@[simp] theorem State.modReader_almanac (s : State) (f : Reader → Reader) : (s.modReader f).almanac = s.almanac := rfl
@[simp] theorem State.modReader_counters (s : State) (f : Reader → Reader) : (s.modReader f).counters = s.counters := rfl
@[simp] theorem State.modReader_privWds (s : State) (f : Reader → Reader) : (s.modReader f).privWds = s.privWds := rfl
@[simp] theorem State.modReader_tap (s : State) (f : Reader → Reader) : (s.modReader f).tap = s.tap := rfl
@[simp] theorem State.modReader_cmBlock (s : State) (f : Reader → Reader) : (s.modReader f).cmBlock = s.cmBlock := rfl

/-! ### modKeys -/

@[simp] theorem State.modKeys_ident (s : State) (f : KeyUnit → KeyUnit) : (s.modKeys f).ident = s.ident := rfl
@[simp] theorem State.modKeys_clk (s : State) (f : KeyUnit → KeyUnit) : (s.modKeys f).clk = s.clk := rfl
@[simp] theorem State.modKeys_mode (s : State) (f : KeyUnit → KeyUnit) : (s.modKeys f).mode = s.mode := rfl
@[simp] theorem State.modKeys_cause (s : State) (f : KeyUnit → KeyUnit) : (s.modKeys f).cause = s.cause := rfl
@[simp] theorem State.modKeys_settings (s : State) (f : KeyUnit → KeyUnit) : (s.modKeys f).settings = s.settings := rfl
@[simp] theorem State.modKeys_strands (s : State) (f : KeyUnit → KeyUnit) : (s.modKeys f).strands = s.strands := rfl
@[simp] theorem State.modKeys_vcore (s : State) (f : KeyUnit → KeyUnit) : (s.modKeys f).vcore = s.vcore := rfl
@[simp] theorem State.modKeys_crossings (s : State) (f : KeyUnit → KeyUnit) : (s.modKeys f).crossings = s.crossings := rfl
@[simp] theorem State.modKeys_tenants (s : State) (f : KeyUnit → KeyUnit) : (s.modKeys f).tenants = s.tenants := rfl
@[simp] theorem State.modKeys_tasks (s : State) (f : KeyUnit → KeyUnit) : (s.modKeys f).tasks = s.tasks := rfl
@[simp] theorem State.modKeys_change (s : State) (f : KeyUnit → KeyUnit) : (s.modKeys f).change = s.change := rfl
@[simp] theorem State.modKeys_forces (s : State) (f : KeyUnit → KeyUnit) : (s.modKeys f).forces = s.forces := rfl
@[simp] theorem State.modKeys_forceReqs (s : State) (f : KeyUnit → KeyUnit) : (s.modKeys f).forceReqs = s.forceReqs := rfl
@[simp] theorem State.modKeys_hostWrites (s : State) (f : KeyUnit → KeyUnit) : (s.modKeys f).hostWrites = s.hostWrites := rfl
@[simp] theorem State.modKeys_dbg (s : State) (f : KeyUnit → KeyUnit) : (s.modKeys f).dbg = s.dbg := rfl
@[simp] theorem State.modKeys_image (s : State) (f : KeyUnit → KeyUnit) : (s.modKeys f).image = s.image := rfl
@[simp] theorem State.modKeys_rings (s : State) (f : KeyUnit → KeyUnit) : (s.modKeys f).rings = s.rings := rfl
@[simp] theorem State.modKeys_ports (s : State) (f : KeyUnit → KeyUnit) : (s.modKeys f).ports = s.ports := rfl
@[simp] theorem State.modKeys_acyc (s : State) (f : KeyUnit → KeyUnit) : (s.modKeys f).acyc = s.acyc := rfl
@[simp] theorem State.modKeys_cyclicTags (s : State) (f : KeyUnit → KeyUnit) : (s.modKeys f).cyclicTags = s.cyclicTags := rfl
@[simp] theorem State.modKeys_link (s : State) (f : KeyUnit → KeyUnit) : (s.modKeys f).link = s.link := rfl
@[simp] theorem State.modKeys_pair (s : State) (f : KeyUnit → KeyUnit) : (s.modKeys f).pair = s.pair := rfl
@[simp] theorem State.modKeys_fires (s : State) (f : KeyUnit → KeyUnit) : (s.modKeys f).fires = s.fires := rfl
@[simp] theorem State.modKeys_peerFires (s : State) (f : KeyUnit → KeyUnit) : (s.modKeys f).peerFires = s.peerFires := rfl
@[simp] theorem State.modKeys_checks (s : State) (f : KeyUnit → KeyUnit) : (s.modKeys f).checks = s.checks := rfl
@[simp] theorem State.modKeys_feeds (s : State) (f : KeyUnit → KeyUnit) : (s.modKeys f).feeds = s.feeds := rfl
@[simp] theorem State.modKeys_front (s : State) (f : KeyUnit → KeyUnit) : (s.modKeys f).front = s.front := rfl
@[simp] theorem State.modKeys_lantern (s : State) (f : KeyUnit → KeyUnit) : (s.modKeys f).lantern = s.lantern := rfl
@[simp] theorem State.modKeys_time (s : State) (f : KeyUnit → KeyUnit) : (s.modKeys f).time = s.time := rfl
@[simp] theorem State.modKeys_gelit (s : State) (f : KeyUnit → KeyUnit) : (s.modKeys f).gelit = s.gelit := rfl
@[simp] theorem State.modKeys_io (s : State) (f : KeyUnit → KeyUnit) : (s.modKeys f).io = s.io := rfl
@[simp] theorem State.modKeys_hart (s : State) (f : KeyUnit → KeyUnit) : (s.modKeys f).hart = s.hart := rfl
@[simp] theorem State.modKeys_can (s : State) (f : KeyUnit → KeyUnit) : (s.modKeys f).can = s.can := rfl
@[simp] theorem State.modKeys_gates (s : State) (f : KeyUnit → KeyUnit) : (s.modKeys f).gates = s.gates := rfl
@[simp] theorem State.modKeys_gateWrites (s : State) (f : KeyUnit → KeyUnit) : (s.modKeys f).gateWrites = s.gateWrites := rfl
@[simp] theorem State.modKeys_keys (s : State) (f : KeyUnit → KeyUnit) : (s.modKeys f).keys = f s.keys := rfl
@[simp] theorem State.modKeys_reader (s : State) (f : KeyUnit → KeyUnit) : (s.modKeys f).reader = s.reader := rfl
@[simp] theorem State.modKeys_update (s : State) (f : KeyUnit → KeyUnit) : (s.modKeys f).update = s.update := rfl
@[simp] theorem State.modKeys_saved (s : State) (f : KeyUnit → KeyUnit) : (s.modKeys f).saved = s.saved := rfl
@[simp] theorem State.modKeys_slot (s : State) (f : KeyUnit → KeyUnit) : (s.modKeys f).slot = s.slot := rfl
@[simp] theorem State.modKeys_almanac (s : State) (f : KeyUnit → KeyUnit) : (s.modKeys f).almanac = s.almanac := rfl
@[simp] theorem State.modKeys_counters (s : State) (f : KeyUnit → KeyUnit) : (s.modKeys f).counters = s.counters := rfl
@[simp] theorem State.modKeys_privWds (s : State) (f : KeyUnit → KeyUnit) : (s.modKeys f).privWds = s.privWds := rfl
@[simp] theorem State.modKeys_tap (s : State) (f : KeyUnit → KeyUnit) : (s.modKeys f).tap = s.tap := rfl
@[simp] theorem State.modKeys_cmBlock (s : State) (f : KeyUnit → KeyUnit) : (s.modKeys f).cmBlock = s.cmBlock := rfl

/-! ### modVcore -/

@[simp] theorem State.modVcore_ident (s : State) (f : Vcore → Vcore) : (s.modVcore f).ident = s.ident := rfl
@[simp] theorem State.modVcore_clk (s : State) (f : Vcore → Vcore) : (s.modVcore f).clk = s.clk := rfl
@[simp] theorem State.modVcore_mode (s : State) (f : Vcore → Vcore) : (s.modVcore f).mode = s.mode := rfl
@[simp] theorem State.modVcore_cause (s : State) (f : Vcore → Vcore) : (s.modVcore f).cause = s.cause := rfl
@[simp] theorem State.modVcore_settings (s : State) (f : Vcore → Vcore) : (s.modVcore f).settings = s.settings := rfl
@[simp] theorem State.modVcore_strands (s : State) (f : Vcore → Vcore) : (s.modVcore f).strands = s.strands := rfl
@[simp] theorem State.modVcore_vcore (s : State) (f : Vcore → Vcore) : (s.modVcore f).vcore = f s.vcore := rfl
@[simp] theorem State.modVcore_crossings (s : State) (f : Vcore → Vcore) : (s.modVcore f).crossings = s.crossings := rfl
@[simp] theorem State.modVcore_tenants (s : State) (f : Vcore → Vcore) : (s.modVcore f).tenants = s.tenants := rfl
@[simp] theorem State.modVcore_tasks (s : State) (f : Vcore → Vcore) : (s.modVcore f).tasks = s.tasks := rfl
@[simp] theorem State.modVcore_change (s : State) (f : Vcore → Vcore) : (s.modVcore f).change = s.change := rfl
@[simp] theorem State.modVcore_forces (s : State) (f : Vcore → Vcore) : (s.modVcore f).forces = s.forces := rfl
@[simp] theorem State.modVcore_forceReqs (s : State) (f : Vcore → Vcore) : (s.modVcore f).forceReqs = s.forceReqs := rfl
@[simp] theorem State.modVcore_hostWrites (s : State) (f : Vcore → Vcore) : (s.modVcore f).hostWrites = s.hostWrites := rfl
@[simp] theorem State.modVcore_dbg (s : State) (f : Vcore → Vcore) : (s.modVcore f).dbg = s.dbg := rfl
@[simp] theorem State.modVcore_image (s : State) (f : Vcore → Vcore) : (s.modVcore f).image = s.image := rfl
@[simp] theorem State.modVcore_rings (s : State) (f : Vcore → Vcore) : (s.modVcore f).rings = s.rings := rfl
@[simp] theorem State.modVcore_ports (s : State) (f : Vcore → Vcore) : (s.modVcore f).ports = s.ports := rfl
@[simp] theorem State.modVcore_acyc (s : State) (f : Vcore → Vcore) : (s.modVcore f).acyc = s.acyc := rfl
@[simp] theorem State.modVcore_cyclicTags (s : State) (f : Vcore → Vcore) : (s.modVcore f).cyclicTags = s.cyclicTags := rfl
@[simp] theorem State.modVcore_link (s : State) (f : Vcore → Vcore) : (s.modVcore f).link = s.link := rfl
@[simp] theorem State.modVcore_pair (s : State) (f : Vcore → Vcore) : (s.modVcore f).pair = s.pair := rfl
@[simp] theorem State.modVcore_fires (s : State) (f : Vcore → Vcore) : (s.modVcore f).fires = s.fires := rfl
@[simp] theorem State.modVcore_peerFires (s : State) (f : Vcore → Vcore) : (s.modVcore f).peerFires = s.peerFires := rfl
@[simp] theorem State.modVcore_checks (s : State) (f : Vcore → Vcore) : (s.modVcore f).checks = s.checks := rfl
@[simp] theorem State.modVcore_feeds (s : State) (f : Vcore → Vcore) : (s.modVcore f).feeds = s.feeds := rfl
@[simp] theorem State.modVcore_front (s : State) (f : Vcore → Vcore) : (s.modVcore f).front = s.front := rfl
@[simp] theorem State.modVcore_lantern (s : State) (f : Vcore → Vcore) : (s.modVcore f).lantern = s.lantern := rfl
@[simp] theorem State.modVcore_time (s : State) (f : Vcore → Vcore) : (s.modVcore f).time = s.time := rfl
@[simp] theorem State.modVcore_gelit (s : State) (f : Vcore → Vcore) : (s.modVcore f).gelit = s.gelit := rfl
@[simp] theorem State.modVcore_io (s : State) (f : Vcore → Vcore) : (s.modVcore f).io = s.io := rfl
@[simp] theorem State.modVcore_hart (s : State) (f : Vcore → Vcore) : (s.modVcore f).hart = s.hart := rfl
@[simp] theorem State.modVcore_can (s : State) (f : Vcore → Vcore) : (s.modVcore f).can = s.can := rfl
@[simp] theorem State.modVcore_gates (s : State) (f : Vcore → Vcore) : (s.modVcore f).gates = s.gates := rfl
@[simp] theorem State.modVcore_gateWrites (s : State) (f : Vcore → Vcore) : (s.modVcore f).gateWrites = s.gateWrites := rfl
@[simp] theorem State.modVcore_keys (s : State) (f : Vcore → Vcore) : (s.modVcore f).keys = s.keys := rfl
@[simp] theorem State.modVcore_reader (s : State) (f : Vcore → Vcore) : (s.modVcore f).reader = s.reader := rfl
@[simp] theorem State.modVcore_update (s : State) (f : Vcore → Vcore) : (s.modVcore f).update = s.update := rfl
@[simp] theorem State.modVcore_saved (s : State) (f : Vcore → Vcore) : (s.modVcore f).saved = s.saved := rfl
@[simp] theorem State.modVcore_slot (s : State) (f : Vcore → Vcore) : (s.modVcore f).slot = s.slot := rfl
@[simp] theorem State.modVcore_almanac (s : State) (f : Vcore → Vcore) : (s.modVcore f).almanac = s.almanac := rfl
@[simp] theorem State.modVcore_counters (s : State) (f : Vcore → Vcore) : (s.modVcore f).counters = s.counters := rfl
@[simp] theorem State.modVcore_privWds (s : State) (f : Vcore → Vcore) : (s.modVcore f).privWds = s.privWds := rfl
@[simp] theorem State.modVcore_tap (s : State) (f : Vcore → Vcore) : (s.modVcore f).tap = s.tap := rfl
@[simp] theorem State.modVcore_cmBlock (s : State) (f : Vcore → Vcore) : (s.modVcore f).cmBlock = s.cmBlock := rfl

/-! ### modLink -/

@[simp] theorem State.modLink_ident (s : State) (f : Link → Link) : (s.modLink f).ident = s.ident := rfl
@[simp] theorem State.modLink_clk (s : State) (f : Link → Link) : (s.modLink f).clk = s.clk := rfl
@[simp] theorem State.modLink_mode (s : State) (f : Link → Link) : (s.modLink f).mode = s.mode := rfl
@[simp] theorem State.modLink_cause (s : State) (f : Link → Link) : (s.modLink f).cause = s.cause := rfl
@[simp] theorem State.modLink_settings (s : State) (f : Link → Link) : (s.modLink f).settings = s.settings := rfl
@[simp] theorem State.modLink_strands (s : State) (f : Link → Link) : (s.modLink f).strands = s.strands := rfl
@[simp] theorem State.modLink_vcore (s : State) (f : Link → Link) : (s.modLink f).vcore = s.vcore := rfl
@[simp] theorem State.modLink_crossings (s : State) (f : Link → Link) : (s.modLink f).crossings = s.crossings := rfl
@[simp] theorem State.modLink_tenants (s : State) (f : Link → Link) : (s.modLink f).tenants = s.tenants := rfl
@[simp] theorem State.modLink_tasks (s : State) (f : Link → Link) : (s.modLink f).tasks = s.tasks := rfl
@[simp] theorem State.modLink_change (s : State) (f : Link → Link) : (s.modLink f).change = s.change := rfl
@[simp] theorem State.modLink_forces (s : State) (f : Link → Link) : (s.modLink f).forces = s.forces := rfl
@[simp] theorem State.modLink_forceReqs (s : State) (f : Link → Link) : (s.modLink f).forceReqs = s.forceReqs := rfl
@[simp] theorem State.modLink_hostWrites (s : State) (f : Link → Link) : (s.modLink f).hostWrites = s.hostWrites := rfl
@[simp] theorem State.modLink_dbg (s : State) (f : Link → Link) : (s.modLink f).dbg = s.dbg := rfl
@[simp] theorem State.modLink_image (s : State) (f : Link → Link) : (s.modLink f).image = s.image := rfl
@[simp] theorem State.modLink_rings (s : State) (f : Link → Link) : (s.modLink f).rings = s.rings := rfl
@[simp] theorem State.modLink_ports (s : State) (f : Link → Link) : (s.modLink f).ports = s.ports := rfl
@[simp] theorem State.modLink_acyc (s : State) (f : Link → Link) : (s.modLink f).acyc = s.acyc := rfl
@[simp] theorem State.modLink_cyclicTags (s : State) (f : Link → Link) : (s.modLink f).cyclicTags = s.cyclicTags := rfl
@[simp] theorem State.modLink_link (s : State) (f : Link → Link) : (s.modLink f).link = f s.link := rfl
@[simp] theorem State.modLink_pair (s : State) (f : Link → Link) : (s.modLink f).pair = s.pair := rfl
@[simp] theorem State.modLink_fires (s : State) (f : Link → Link) : (s.modLink f).fires = s.fires := rfl
@[simp] theorem State.modLink_peerFires (s : State) (f : Link → Link) : (s.modLink f).peerFires = s.peerFires := rfl
@[simp] theorem State.modLink_checks (s : State) (f : Link → Link) : (s.modLink f).checks = s.checks := rfl
@[simp] theorem State.modLink_feeds (s : State) (f : Link → Link) : (s.modLink f).feeds = s.feeds := rfl
@[simp] theorem State.modLink_front (s : State) (f : Link → Link) : (s.modLink f).front = s.front := rfl
@[simp] theorem State.modLink_lantern (s : State) (f : Link → Link) : (s.modLink f).lantern = s.lantern := rfl
@[simp] theorem State.modLink_time (s : State) (f : Link → Link) : (s.modLink f).time = s.time := rfl
@[simp] theorem State.modLink_gelit (s : State) (f : Link → Link) : (s.modLink f).gelit = s.gelit := rfl
@[simp] theorem State.modLink_io (s : State) (f : Link → Link) : (s.modLink f).io = s.io := rfl
@[simp] theorem State.modLink_hart (s : State) (f : Link → Link) : (s.modLink f).hart = s.hart := rfl
@[simp] theorem State.modLink_can (s : State) (f : Link → Link) : (s.modLink f).can = s.can := rfl
@[simp] theorem State.modLink_gates (s : State) (f : Link → Link) : (s.modLink f).gates = s.gates := rfl
@[simp] theorem State.modLink_gateWrites (s : State) (f : Link → Link) : (s.modLink f).gateWrites = s.gateWrites := rfl
@[simp] theorem State.modLink_keys (s : State) (f : Link → Link) : (s.modLink f).keys = s.keys := rfl
@[simp] theorem State.modLink_reader (s : State) (f : Link → Link) : (s.modLink f).reader = s.reader := rfl
@[simp] theorem State.modLink_update (s : State) (f : Link → Link) : (s.modLink f).update = s.update := rfl
@[simp] theorem State.modLink_saved (s : State) (f : Link → Link) : (s.modLink f).saved = s.saved := rfl
@[simp] theorem State.modLink_slot (s : State) (f : Link → Link) : (s.modLink f).slot = s.slot := rfl
@[simp] theorem State.modLink_almanac (s : State) (f : Link → Link) : (s.modLink f).almanac = s.almanac := rfl
@[simp] theorem State.modLink_counters (s : State) (f : Link → Link) : (s.modLink f).counters = s.counters := rfl
@[simp] theorem State.modLink_privWds (s : State) (f : Link → Link) : (s.modLink f).privWds = s.privWds := rfl
@[simp] theorem State.modLink_tap (s : State) (f : Link → Link) : (s.modLink f).tap = s.tap := rfl
@[simp] theorem State.modLink_cmBlock (s : State) (f : Link → Link) : (s.modLink f).cmBlock = s.cmBlock := rfl

/-! ### modChange -/

@[simp] theorem State.modChange_ident (s : State) (f : Change → Change) : (s.modChange f).ident = s.ident := rfl
@[simp] theorem State.modChange_clk (s : State) (f : Change → Change) : (s.modChange f).clk = s.clk := rfl
@[simp] theorem State.modChange_mode (s : State) (f : Change → Change) : (s.modChange f).mode = s.mode := rfl
@[simp] theorem State.modChange_cause (s : State) (f : Change → Change) : (s.modChange f).cause = s.cause := rfl
@[simp] theorem State.modChange_settings (s : State) (f : Change → Change) : (s.modChange f).settings = s.settings := rfl
@[simp] theorem State.modChange_strands (s : State) (f : Change → Change) : (s.modChange f).strands = s.strands := rfl
@[simp] theorem State.modChange_vcore (s : State) (f : Change → Change) : (s.modChange f).vcore = s.vcore := rfl
@[simp] theorem State.modChange_crossings (s : State) (f : Change → Change) : (s.modChange f).crossings = s.crossings := rfl
@[simp] theorem State.modChange_tenants (s : State) (f : Change → Change) : (s.modChange f).tenants = s.tenants := rfl
@[simp] theorem State.modChange_tasks (s : State) (f : Change → Change) : (s.modChange f).tasks = s.tasks := rfl
@[simp] theorem State.modChange_change (s : State) (f : Change → Change) : (s.modChange f).change = f s.change := rfl
@[simp] theorem State.modChange_forces (s : State) (f : Change → Change) : (s.modChange f).forces = s.forces := rfl
@[simp] theorem State.modChange_forceReqs (s : State) (f : Change → Change) : (s.modChange f).forceReqs = s.forceReqs := rfl
@[simp] theorem State.modChange_hostWrites (s : State) (f : Change → Change) : (s.modChange f).hostWrites = s.hostWrites := rfl
@[simp] theorem State.modChange_dbg (s : State) (f : Change → Change) : (s.modChange f).dbg = s.dbg := rfl
@[simp] theorem State.modChange_image (s : State) (f : Change → Change) : (s.modChange f).image = s.image := rfl
@[simp] theorem State.modChange_rings (s : State) (f : Change → Change) : (s.modChange f).rings = s.rings := rfl
@[simp] theorem State.modChange_ports (s : State) (f : Change → Change) : (s.modChange f).ports = s.ports := rfl
@[simp] theorem State.modChange_acyc (s : State) (f : Change → Change) : (s.modChange f).acyc = s.acyc := rfl
@[simp] theorem State.modChange_cyclicTags (s : State) (f : Change → Change) : (s.modChange f).cyclicTags = s.cyclicTags := rfl
@[simp] theorem State.modChange_link (s : State) (f : Change → Change) : (s.modChange f).link = s.link := rfl
@[simp] theorem State.modChange_pair (s : State) (f : Change → Change) : (s.modChange f).pair = s.pair := rfl
@[simp] theorem State.modChange_fires (s : State) (f : Change → Change) : (s.modChange f).fires = s.fires := rfl
@[simp] theorem State.modChange_peerFires (s : State) (f : Change → Change) : (s.modChange f).peerFires = s.peerFires := rfl
@[simp] theorem State.modChange_checks (s : State) (f : Change → Change) : (s.modChange f).checks = s.checks := rfl
@[simp] theorem State.modChange_feeds (s : State) (f : Change → Change) : (s.modChange f).feeds = s.feeds := rfl
@[simp] theorem State.modChange_front (s : State) (f : Change → Change) : (s.modChange f).front = s.front := rfl
@[simp] theorem State.modChange_lantern (s : State) (f : Change → Change) : (s.modChange f).lantern = s.lantern := rfl
@[simp] theorem State.modChange_time (s : State) (f : Change → Change) : (s.modChange f).time = s.time := rfl
@[simp] theorem State.modChange_gelit (s : State) (f : Change → Change) : (s.modChange f).gelit = s.gelit := rfl
@[simp] theorem State.modChange_io (s : State) (f : Change → Change) : (s.modChange f).io = s.io := rfl
@[simp] theorem State.modChange_hart (s : State) (f : Change → Change) : (s.modChange f).hart = s.hart := rfl
@[simp] theorem State.modChange_can (s : State) (f : Change → Change) : (s.modChange f).can = s.can := rfl
@[simp] theorem State.modChange_gates (s : State) (f : Change → Change) : (s.modChange f).gates = s.gates := rfl
@[simp] theorem State.modChange_gateWrites (s : State) (f : Change → Change) : (s.modChange f).gateWrites = s.gateWrites := rfl
@[simp] theorem State.modChange_keys (s : State) (f : Change → Change) : (s.modChange f).keys = s.keys := rfl
@[simp] theorem State.modChange_reader (s : State) (f : Change → Change) : (s.modChange f).reader = s.reader := rfl
@[simp] theorem State.modChange_update (s : State) (f : Change → Change) : (s.modChange f).update = s.update := rfl
@[simp] theorem State.modChange_saved (s : State) (f : Change → Change) : (s.modChange f).saved = s.saved := rfl
@[simp] theorem State.modChange_slot (s : State) (f : Change → Change) : (s.modChange f).slot = s.slot := rfl
@[simp] theorem State.modChange_almanac (s : State) (f : Change → Change) : (s.modChange f).almanac = s.almanac := rfl
@[simp] theorem State.modChange_counters (s : State) (f : Change → Change) : (s.modChange f).counters = s.counters := rfl
@[simp] theorem State.modChange_privWds (s : State) (f : Change → Change) : (s.modChange f).privWds = s.privWds := rfl
@[simp] theorem State.modChange_tap (s : State) (f : Change → Change) : (s.modChange f).tap = s.tap := rfl
@[simp] theorem State.modChange_cmBlock (s : State) (f : Change → Change) : (s.modChange f).cmBlock = s.cmBlock := rfl

/-! ### modTap -/

@[simp] theorem State.modTap_ident (s : State) (f : Tap → Tap) : (s.modTap f).ident = s.ident := rfl
@[simp] theorem State.modTap_clk (s : State) (f : Tap → Tap) : (s.modTap f).clk = s.clk := rfl
@[simp] theorem State.modTap_mode (s : State) (f : Tap → Tap) : (s.modTap f).mode = s.mode := rfl
@[simp] theorem State.modTap_cause (s : State) (f : Tap → Tap) : (s.modTap f).cause = s.cause := rfl
@[simp] theorem State.modTap_settings (s : State) (f : Tap → Tap) : (s.modTap f).settings = s.settings := rfl
@[simp] theorem State.modTap_strands (s : State) (f : Tap → Tap) : (s.modTap f).strands = s.strands := rfl
@[simp] theorem State.modTap_vcore (s : State) (f : Tap → Tap) : (s.modTap f).vcore = s.vcore := rfl
@[simp] theorem State.modTap_crossings (s : State) (f : Tap → Tap) : (s.modTap f).crossings = s.crossings := rfl
@[simp] theorem State.modTap_tenants (s : State) (f : Tap → Tap) : (s.modTap f).tenants = s.tenants := rfl
@[simp] theorem State.modTap_tasks (s : State) (f : Tap → Tap) : (s.modTap f).tasks = s.tasks := rfl
@[simp] theorem State.modTap_change (s : State) (f : Tap → Tap) : (s.modTap f).change = s.change := rfl
@[simp] theorem State.modTap_forces (s : State) (f : Tap → Tap) : (s.modTap f).forces = s.forces := rfl
@[simp] theorem State.modTap_forceReqs (s : State) (f : Tap → Tap) : (s.modTap f).forceReqs = s.forceReqs := rfl
@[simp] theorem State.modTap_hostWrites (s : State) (f : Tap → Tap) : (s.modTap f).hostWrites = s.hostWrites := rfl
@[simp] theorem State.modTap_dbg (s : State) (f : Tap → Tap) : (s.modTap f).dbg = s.dbg := rfl
@[simp] theorem State.modTap_image (s : State) (f : Tap → Tap) : (s.modTap f).image = s.image := rfl
@[simp] theorem State.modTap_rings (s : State) (f : Tap → Tap) : (s.modTap f).rings = s.rings := rfl
@[simp] theorem State.modTap_ports (s : State) (f : Tap → Tap) : (s.modTap f).ports = s.ports := rfl
@[simp] theorem State.modTap_acyc (s : State) (f : Tap → Tap) : (s.modTap f).acyc = s.acyc := rfl
@[simp] theorem State.modTap_cyclicTags (s : State) (f : Tap → Tap) : (s.modTap f).cyclicTags = s.cyclicTags := rfl
@[simp] theorem State.modTap_link (s : State) (f : Tap → Tap) : (s.modTap f).link = s.link := rfl
@[simp] theorem State.modTap_pair (s : State) (f : Tap → Tap) : (s.modTap f).pair = s.pair := rfl
@[simp] theorem State.modTap_fires (s : State) (f : Tap → Tap) : (s.modTap f).fires = s.fires := rfl
@[simp] theorem State.modTap_peerFires (s : State) (f : Tap → Tap) : (s.modTap f).peerFires = s.peerFires := rfl
@[simp] theorem State.modTap_checks (s : State) (f : Tap → Tap) : (s.modTap f).checks = s.checks := rfl
@[simp] theorem State.modTap_feeds (s : State) (f : Tap → Tap) : (s.modTap f).feeds = s.feeds := rfl
@[simp] theorem State.modTap_front (s : State) (f : Tap → Tap) : (s.modTap f).front = s.front := rfl
@[simp] theorem State.modTap_lantern (s : State) (f : Tap → Tap) : (s.modTap f).lantern = s.lantern := rfl
@[simp] theorem State.modTap_time (s : State) (f : Tap → Tap) : (s.modTap f).time = s.time := rfl
@[simp] theorem State.modTap_gelit (s : State) (f : Tap → Tap) : (s.modTap f).gelit = s.gelit := rfl
@[simp] theorem State.modTap_io (s : State) (f : Tap → Tap) : (s.modTap f).io = s.io := rfl
@[simp] theorem State.modTap_hart (s : State) (f : Tap → Tap) : (s.modTap f).hart = s.hart := rfl
@[simp] theorem State.modTap_can (s : State) (f : Tap → Tap) : (s.modTap f).can = s.can := rfl
@[simp] theorem State.modTap_gates (s : State) (f : Tap → Tap) : (s.modTap f).gates = s.gates := rfl
@[simp] theorem State.modTap_gateWrites (s : State) (f : Tap → Tap) : (s.modTap f).gateWrites = s.gateWrites := rfl
@[simp] theorem State.modTap_keys (s : State) (f : Tap → Tap) : (s.modTap f).keys = s.keys := rfl
@[simp] theorem State.modTap_reader (s : State) (f : Tap → Tap) : (s.modTap f).reader = s.reader := rfl
@[simp] theorem State.modTap_update (s : State) (f : Tap → Tap) : (s.modTap f).update = s.update := rfl
@[simp] theorem State.modTap_saved (s : State) (f : Tap → Tap) : (s.modTap f).saved = s.saved := rfl
@[simp] theorem State.modTap_slot (s : State) (f : Tap → Tap) : (s.modTap f).slot = s.slot := rfl
@[simp] theorem State.modTap_almanac (s : State) (f : Tap → Tap) : (s.modTap f).almanac = s.almanac := rfl
@[simp] theorem State.modTap_counters (s : State) (f : Tap → Tap) : (s.modTap f).counters = s.counters := rfl
@[simp] theorem State.modTap_privWds (s : State) (f : Tap → Tap) : (s.modTap f).privWds = s.privWds := rfl
@[simp] theorem State.modTap_tap (s : State) (f : Tap → Tap) : (s.modTap f).tap = f s.tap := rfl
@[simp] theorem State.modTap_cmBlock (s : State) (f : Tap → Tap) : (s.modTap f).cmBlock = s.cmBlock := rfl

/-! ### modFeeds -/

@[simp] theorem State.modFeeds_ident (s : State) (f : Feeds → Feeds) : (s.modFeeds f).ident = s.ident := rfl
@[simp] theorem State.modFeeds_clk (s : State) (f : Feeds → Feeds) : (s.modFeeds f).clk = s.clk := rfl
@[simp] theorem State.modFeeds_mode (s : State) (f : Feeds → Feeds) : (s.modFeeds f).mode = s.mode := rfl
@[simp] theorem State.modFeeds_cause (s : State) (f : Feeds → Feeds) : (s.modFeeds f).cause = s.cause := rfl
@[simp] theorem State.modFeeds_settings (s : State) (f : Feeds → Feeds) : (s.modFeeds f).settings = s.settings := rfl
@[simp] theorem State.modFeeds_strands (s : State) (f : Feeds → Feeds) : (s.modFeeds f).strands = s.strands := rfl
@[simp] theorem State.modFeeds_vcore (s : State) (f : Feeds → Feeds) : (s.modFeeds f).vcore = s.vcore := rfl
@[simp] theorem State.modFeeds_crossings (s : State) (f : Feeds → Feeds) : (s.modFeeds f).crossings = s.crossings := rfl
@[simp] theorem State.modFeeds_tenants (s : State) (f : Feeds → Feeds) : (s.modFeeds f).tenants = s.tenants := rfl
@[simp] theorem State.modFeeds_tasks (s : State) (f : Feeds → Feeds) : (s.modFeeds f).tasks = s.tasks := rfl
@[simp] theorem State.modFeeds_change (s : State) (f : Feeds → Feeds) : (s.modFeeds f).change = s.change := rfl
@[simp] theorem State.modFeeds_forces (s : State) (f : Feeds → Feeds) : (s.modFeeds f).forces = s.forces := rfl
@[simp] theorem State.modFeeds_forceReqs (s : State) (f : Feeds → Feeds) : (s.modFeeds f).forceReqs = s.forceReqs := rfl
@[simp] theorem State.modFeeds_hostWrites (s : State) (f : Feeds → Feeds) : (s.modFeeds f).hostWrites = s.hostWrites := rfl
@[simp] theorem State.modFeeds_dbg (s : State) (f : Feeds → Feeds) : (s.modFeeds f).dbg = s.dbg := rfl
@[simp] theorem State.modFeeds_image (s : State) (f : Feeds → Feeds) : (s.modFeeds f).image = s.image := rfl
@[simp] theorem State.modFeeds_rings (s : State) (f : Feeds → Feeds) : (s.modFeeds f).rings = s.rings := rfl
@[simp] theorem State.modFeeds_ports (s : State) (f : Feeds → Feeds) : (s.modFeeds f).ports = s.ports := rfl
@[simp] theorem State.modFeeds_acyc (s : State) (f : Feeds → Feeds) : (s.modFeeds f).acyc = s.acyc := rfl
@[simp] theorem State.modFeeds_cyclicTags (s : State) (f : Feeds → Feeds) : (s.modFeeds f).cyclicTags = s.cyclicTags := rfl
@[simp] theorem State.modFeeds_link (s : State) (f : Feeds → Feeds) : (s.modFeeds f).link = s.link := rfl
@[simp] theorem State.modFeeds_pair (s : State) (f : Feeds → Feeds) : (s.modFeeds f).pair = s.pair := rfl
@[simp] theorem State.modFeeds_fires (s : State) (f : Feeds → Feeds) : (s.modFeeds f).fires = s.fires := rfl
@[simp] theorem State.modFeeds_peerFires (s : State) (f : Feeds → Feeds) : (s.modFeeds f).peerFires = s.peerFires := rfl
@[simp] theorem State.modFeeds_checks (s : State) (f : Feeds → Feeds) : (s.modFeeds f).checks = s.checks := rfl
@[simp] theorem State.modFeeds_feeds (s : State) (f : Feeds → Feeds) : (s.modFeeds f).feeds = f s.feeds := rfl
@[simp] theorem State.modFeeds_front (s : State) (f : Feeds → Feeds) : (s.modFeeds f).front = s.front := rfl
@[simp] theorem State.modFeeds_lantern (s : State) (f : Feeds → Feeds) : (s.modFeeds f).lantern = s.lantern := rfl
@[simp] theorem State.modFeeds_time (s : State) (f : Feeds → Feeds) : (s.modFeeds f).time = s.time := rfl
@[simp] theorem State.modFeeds_gelit (s : State) (f : Feeds → Feeds) : (s.modFeeds f).gelit = s.gelit := rfl
@[simp] theorem State.modFeeds_io (s : State) (f : Feeds → Feeds) : (s.modFeeds f).io = s.io := rfl
@[simp] theorem State.modFeeds_hart (s : State) (f : Feeds → Feeds) : (s.modFeeds f).hart = s.hart := rfl
@[simp] theorem State.modFeeds_can (s : State) (f : Feeds → Feeds) : (s.modFeeds f).can = s.can := rfl
@[simp] theorem State.modFeeds_gates (s : State) (f : Feeds → Feeds) : (s.modFeeds f).gates = s.gates := rfl
@[simp] theorem State.modFeeds_gateWrites (s : State) (f : Feeds → Feeds) : (s.modFeeds f).gateWrites = s.gateWrites := rfl
@[simp] theorem State.modFeeds_keys (s : State) (f : Feeds → Feeds) : (s.modFeeds f).keys = s.keys := rfl
@[simp] theorem State.modFeeds_reader (s : State) (f : Feeds → Feeds) : (s.modFeeds f).reader = s.reader := rfl
@[simp] theorem State.modFeeds_update (s : State) (f : Feeds → Feeds) : (s.modFeeds f).update = s.update := rfl
@[simp] theorem State.modFeeds_saved (s : State) (f : Feeds → Feeds) : (s.modFeeds f).saved = s.saved := rfl
@[simp] theorem State.modFeeds_slot (s : State) (f : Feeds → Feeds) : (s.modFeeds f).slot = s.slot := rfl
@[simp] theorem State.modFeeds_almanac (s : State) (f : Feeds → Feeds) : (s.modFeeds f).almanac = s.almanac := rfl
@[simp] theorem State.modFeeds_counters (s : State) (f : Feeds → Feeds) : (s.modFeeds f).counters = s.counters := rfl
@[simp] theorem State.modFeeds_privWds (s : State) (f : Feeds → Feeds) : (s.modFeeds f).privWds = s.privWds := rfl
@[simp] theorem State.modFeeds_tap (s : State) (f : Feeds → Feeds) : (s.modFeeds f).tap = s.tap := rfl
@[simp] theorem State.modFeeds_cmBlock (s : State) (f : Feeds → Feeds) : (s.modFeeds f).cmBlock = s.cmBlock := rfl

/-! ### modSettings -/

@[simp] theorem State.modSettings_ident (s : State) (f : Settings → Settings) : (s.modSettings f).ident = s.ident := rfl
@[simp] theorem State.modSettings_clk (s : State) (f : Settings → Settings) : (s.modSettings f).clk = s.clk := rfl
@[simp] theorem State.modSettings_mode (s : State) (f : Settings → Settings) : (s.modSettings f).mode = s.mode := rfl
@[simp] theorem State.modSettings_cause (s : State) (f : Settings → Settings) : (s.modSettings f).cause = s.cause := rfl
@[simp] theorem State.modSettings_settings (s : State) (f : Settings → Settings) : (s.modSettings f).settings = f s.settings := rfl
@[simp] theorem State.modSettings_strands (s : State) (f : Settings → Settings) : (s.modSettings f).strands = s.strands := rfl
@[simp] theorem State.modSettings_vcore (s : State) (f : Settings → Settings) : (s.modSettings f).vcore = s.vcore := rfl
@[simp] theorem State.modSettings_crossings (s : State) (f : Settings → Settings) : (s.modSettings f).crossings = s.crossings := rfl
@[simp] theorem State.modSettings_tenants (s : State) (f : Settings → Settings) : (s.modSettings f).tenants = s.tenants := rfl
@[simp] theorem State.modSettings_tasks (s : State) (f : Settings → Settings) : (s.modSettings f).tasks = s.tasks := rfl
@[simp] theorem State.modSettings_change (s : State) (f : Settings → Settings) : (s.modSettings f).change = s.change := rfl
@[simp] theorem State.modSettings_forces (s : State) (f : Settings → Settings) : (s.modSettings f).forces = s.forces := rfl
@[simp] theorem State.modSettings_forceReqs (s : State) (f : Settings → Settings) : (s.modSettings f).forceReqs = s.forceReqs := rfl
@[simp] theorem State.modSettings_hostWrites (s : State) (f : Settings → Settings) : (s.modSettings f).hostWrites = s.hostWrites := rfl
@[simp] theorem State.modSettings_dbg (s : State) (f : Settings → Settings) : (s.modSettings f).dbg = s.dbg := rfl
@[simp] theorem State.modSettings_image (s : State) (f : Settings → Settings) : (s.modSettings f).image = s.image := rfl
@[simp] theorem State.modSettings_rings (s : State) (f : Settings → Settings) : (s.modSettings f).rings = s.rings := rfl
@[simp] theorem State.modSettings_ports (s : State) (f : Settings → Settings) : (s.modSettings f).ports = s.ports := rfl
@[simp] theorem State.modSettings_acyc (s : State) (f : Settings → Settings) : (s.modSettings f).acyc = s.acyc := rfl
@[simp] theorem State.modSettings_cyclicTags (s : State) (f : Settings → Settings) : (s.modSettings f).cyclicTags = s.cyclicTags := rfl
@[simp] theorem State.modSettings_link (s : State) (f : Settings → Settings) : (s.modSettings f).link = s.link := rfl
@[simp] theorem State.modSettings_pair (s : State) (f : Settings → Settings) : (s.modSettings f).pair = s.pair := rfl
@[simp] theorem State.modSettings_fires (s : State) (f : Settings → Settings) : (s.modSettings f).fires = s.fires := rfl
@[simp] theorem State.modSettings_peerFires (s : State) (f : Settings → Settings) : (s.modSettings f).peerFires = s.peerFires := rfl
@[simp] theorem State.modSettings_checks (s : State) (f : Settings → Settings) : (s.modSettings f).checks = s.checks := rfl
@[simp] theorem State.modSettings_feeds (s : State) (f : Settings → Settings) : (s.modSettings f).feeds = s.feeds := rfl
@[simp] theorem State.modSettings_front (s : State) (f : Settings → Settings) : (s.modSettings f).front = s.front := rfl
@[simp] theorem State.modSettings_lantern (s : State) (f : Settings → Settings) : (s.modSettings f).lantern = s.lantern := rfl
@[simp] theorem State.modSettings_time (s : State) (f : Settings → Settings) : (s.modSettings f).time = s.time := rfl
@[simp] theorem State.modSettings_gelit (s : State) (f : Settings → Settings) : (s.modSettings f).gelit = s.gelit := rfl
@[simp] theorem State.modSettings_io (s : State) (f : Settings → Settings) : (s.modSettings f).io = s.io := rfl
@[simp] theorem State.modSettings_hart (s : State) (f : Settings → Settings) : (s.modSettings f).hart = s.hart := rfl
@[simp] theorem State.modSettings_can (s : State) (f : Settings → Settings) : (s.modSettings f).can = s.can := rfl
@[simp] theorem State.modSettings_gates (s : State) (f : Settings → Settings) : (s.modSettings f).gates = s.gates := rfl
@[simp] theorem State.modSettings_gateWrites (s : State) (f : Settings → Settings) : (s.modSettings f).gateWrites = s.gateWrites := rfl
@[simp] theorem State.modSettings_keys (s : State) (f : Settings → Settings) : (s.modSettings f).keys = s.keys := rfl
@[simp] theorem State.modSettings_reader (s : State) (f : Settings → Settings) : (s.modSettings f).reader = s.reader := rfl
@[simp] theorem State.modSettings_update (s : State) (f : Settings → Settings) : (s.modSettings f).update = s.update := rfl
@[simp] theorem State.modSettings_saved (s : State) (f : Settings → Settings) : (s.modSettings f).saved = s.saved := rfl
@[simp] theorem State.modSettings_slot (s : State) (f : Settings → Settings) : (s.modSettings f).slot = s.slot := rfl
@[simp] theorem State.modSettings_almanac (s : State) (f : Settings → Settings) : (s.modSettings f).almanac = s.almanac := rfl
@[simp] theorem State.modSettings_counters (s : State) (f : Settings → Settings) : (s.modSettings f).counters = s.counters := rfl
@[simp] theorem State.modSettings_privWds (s : State) (f : Settings → Settings) : (s.modSettings f).privWds = s.privWds := rfl
@[simp] theorem State.modSettings_tap (s : State) (f : Settings → Settings) : (s.modSettings f).tap = s.tap := rfl
@[simp] theorem State.modSettings_cmBlock (s : State) (f : Settings → Settings) : (s.modSettings f).cmBlock = s.cmBlock := rfl

end Sys2Proof.Machine
end

