-- ==== Sys2Proof/Tests/Slice0.lean ====
section
/-! SUPPORT. Small checks: terms that are not well formed, and for every statement states and operands that meet its hypotheses. -/
namespace Sys2Proof.Tests
open Sys2Proof Sys2Proof.Machine Sys2Proof.Claims

/-! ### A module that runs one task -/

/-- Attributes of a cyclic task of 10 ms. -/
def attr : TaskAttr := ⟨0, 10000, 0, [], 0, 0, 0, 255, 0, 0, 0, []⟩

/-- A version with one task and windows of 256 bytes. -/
def version : Version :=
  { Version.empty with
    code := List.replicate 64 0, tasks := [(0, attr)], konst := [7, 9], sizeI := 64, sizeQ := 256, sizeM := 256, sizeT := 256,
    sizeL := 256, sizeK := 64 }

/-- The windows of the tenant, at the start of the tenants' part of bank 0. -/
def windows : Windows := ⟨0, 0xC0000, 0xC0100, 0xC0200, 256, 0xC0300, 0xC0400⟩

/-- Task 1 of tenant 0 in its first cycle. -/
def task : Machine.Task := (Task.fresh 1 0 0 attr [] 0 1000 1000 0 0).begin 0 0 0 .notSpeculating

/-- The tenant. -/
def tenant : Tenant :=
  { state := .running, version := some version, win := windows, image := 0, loading := none, slot := [], displaced := 0,
    restarted := false, displaceAt := none }

/-- An owner whose one tenant runs task 1. -/
def demo : State := { State.reset with mode := .owner, tenants := [(0, tenant)], tasks := [(1, task)] }

/-- The same with other registers in lane 0. -/
def regs (f : Regs → Regs) : State :=
  { demo with tasks := [(1, { task with lane0 := { task.lane0 with regs := f task.lane0.regs } })] }

/-- Lane 0 with ACC = 1. -/
def acc1 : State := regs fun r => { r with acc := true }

/-- The instruction passes its checks on lane 0 of task 1, and its start has a property. -/
def starts (op : Nat) (w : BitVec 24) (e : Word) (s : State) (p : Start → Bool) : Bool :=
  match startOf op ⟨1, 0⟩ w e s with
  | some b => p b
  | none => false

/-- Bit 2047 of M, the last of its window; word 63 of M; an operand of T. -/
def mBit : BitVec 24 := 0x4007FF
def mWord : BitVec 24 := 0x40003F
def tWord : BitVec 24 := 0x600000

/-- An option that holds a value with a property. -/
def has {α : Type} (o : Option α) (p : α → Bool) : Bool :=
  match o with
  | some x => p x
  | none => false

/-- The result is a fault of a code and a detail. -/
def stops {α : Type} (x : Except Stop α) (code detail : Nat) : Bool :=
  match x with
  | .error (.fault c d) => c == code && d == detail
  | _ => false

/-- A Gelit request, with a payload of its length. -/
def req (session seq tenant : Nat) (payload : List Byte) : Req :=
  { source := 0x0A000001, udpLen := 36 + payload.length, version := 2, flags := 0, length := 36 + payload.length, session := session,
    seq := seq, tenant := tenant, status := 0, rsvd := 0, tag := 5, tagOk := true, payload := payload }

/-- A ring header of an owner's frame on ring 0. -/
def hdr : RingHdr := ⟨0, true, false, 0x88B5, 1, 1, true, true, 0, .a, .a, 0, 0, 0⟩

/-! ### Terms that are not well formed -/

theorem test_wf_task : (Instr.opLd ⟨2049, 0⟩ 0).wf = false ∧ (Instr.opLd ⟨2048, 0⟩ 0).wf = true := by decide
theorem test_wf_tenant : (Instr.frameDisplacedNotice ⟨512, 0⟩).wf = false ∧ (Instr.frameDisplacedNotice ⟨511, 0⟩).wf = true := by decide
theorem test_wf_station : (Instr.copyRequest 0 0 0 256).wf = false ∧ (Instr.copyRequest 0 0 3 255).wf = true := by decide
theorem test_wf_ring : (Instr.copyRequest 0 0 4 0).wf = false := by decide
theorem test_wf_strand : (Instr.paceProbeRun 16 0 0).wf = false ∧ (Instr.paceProbeRun 15 0 0).wf = true := by decide
theorem test_wf_unit : (Instr.islandWake 256).wf = false ∧ (Instr.islandWake 255).wf = true := by decide
theorem test_wf_source : (Instr.fireMatchTimeout 1024).wf = false ∧ (Instr.fireMatchTimeout 1023).wf = true := by decide
theorem test_wf_epoch : (Instr.handoverAck 4294967296).wf = false ∧ (Instr.handoverAck 4294967295).wf = true := by decide
theorem test_wf_instant : (Instr.switchAtConfirm (2 ^ 64)).wf = false ∧ (Instr.switchAtConfirm (2 ^ 64 - 1)).wf = true := by decide
theorem test_wf_opcode : (Instr.unknownOpcode (req 1 1 0 []) 65536).wf = false ∧ (Instr.unknownOpcode (req 1 1 0 []) 65535).wf = true := by decide
theorem test_wf_request : (Instr.sessionClose { req 1 1 0 [] with udpLen := 37 }).wf = false ∧ (Instr.sessionClose (req 1 1 0 [])).wf = true := by
  decide
theorem test_wf_header : (Instr.partnerRingFrame ⟨{ hdr with ring := 4 }, 0, []⟩).wf = false ∧ (Instr.partnerRingFrame ⟨hdr, 0, []⟩).wf = true := by
  decide

/-! ### The engine's instructions -/

theorem test_AccumulatorInstructions :
    ([0x12, 0x13, 0x14, 0xC0].all fun op => starts op 0 0 demo fun _ => true)
    ∧ ([0x15, 0x16].all fun op => starts op 31 0 demo fun _ => true) := by decide
theorem test_BitInstructions :
    ((List.range 8).all fun op => starts op mBit 0 demo fun b => (b.env.readBit b.lane b.o1).isOk)
    ∧ (starts 0x08 mBit 0 demo fun b => (b.env.store b.lane [b.env.bitWrite b.lane b.o1 b.lane.regs.acc b.lane.regs.accMark]).isOk)
    ∧ (starts 0x09 mBit 0 demo fun b => (b.env.store b.lane [b.env.bitWrite b.lane b.o1 (!b.lane.regs.acc) b.lane.regs.accMark]).isOk)
    ∧ ([0x0A, 0x0B].all fun op => starts op mBit 0 demo fun b => !b.lane.regs.acc)
    ∧ (starts 0x0A mBit 0 acc1 fun b => b.lane.regs.acc && (b.env.store b.lane [b.env.bitWrite b.lane b.o1 true b.lane.regs.accMark]).isOk)
    ∧ (starts 0x0B mBit 0 acc1 fun b => b.lane.regs.acc && (b.env.store b.lane [b.env.bitWrite b.lane b.o1 false b.lane.regs.accMark]).isOk)
    ∧ (starts 0x19 mBit 0 demo fun b => !b.lane.regs.acc)
    ∧ (starts 0x19 mBit 0 acc1 fun b => b.lane.regs.acc && (match b.env.readBit b.lane b.o1 with
        | .ok (v, m, l) => (b.env.store l [b.env.bitWrite l b.o1 (!v) (l.regs.accMark || m)]).isOk
        | .error _ => false)) := by decide

/-- A branch entry of each operator, below 30 others. -/
def branches (n op : Nat) : State := regs fun r => { r with branch := ⟨true, false, op⟩ :: List.replicate n ⟨false, false, 0⟩ }

theorem test_BranchStackInstructions :
    ([0x0C, 0x0D, 0x0E, 0x0F, 0x10, 0x11].all fun op => starts op mBit 0 (branches 30 0) fun b =>
      decide (b.lane.regs.branch.length = 31) && (b.env.readBit b.lane b.o1).isOk)
    ∧ (starts 0xD0 0 0 (branches 30 0) fun b => decide (b.lane.regs.branch.length = 31))
    ∧ ([0xD1, 0xD2, 0xD3].all fun op => (List.range 7).all fun k => starts op 0 0 (branches 0 k) fun b =>
      (b.lane.regs.branch.head?.map (·.op)) == some k && decide (((b.lane.regs.calls.head?.map (·.branchDepth)).getD 0) < b.lane.regs.branch.length)) := by
  decide
theorem test_QualityAndMoveInstructions :
    ([(0x17, 0), (0x18, 0), (0x63, 0)].all fun p => starts p.1 p.2 0 demo fun b => (b.env.readI b.lane b.o1.word true).isOk)
    ∧ (starts 0x40 mWord 0 demo fun b => (b.env.readOp b.lane b.o1).isOk)
    ∧ (starts 0x41 mWord 0 demo fun b => (b.env.store b.lane [⟨b.env.addr b.o1.area b.o1.word, 0xFFFFFFFF, b.lane.regs.wacc, b.lane.regs.waccMark⟩]).isOk)
    ∧ (starts 0x42 0xFFFF 0 demo fun _ => true) ∧ (starts 0x43 0xFFFF 0 demo fun _ => true)
    ∧ (starts 0x61 mWord 0 acc1 fun b => b.lane.regs.acc && (b.env.readOp b.lane b.o1).isOk)
    ∧ (starts 0x61 mWord 0 demo fun b => !b.lane.regs.acc)
    ∧ (starts 0x62 mWord 0x400000 demo fun b => match b.env.readOp b.lane b.o2 with
        | .ok (v, m, l) => (b.env.store l [⟨b.env.addr b.o1.area b.o1.word, 0xFFFFFFFF, v, m⟩]).isOk
        | .error _ => false) := by decide

/-- WACC with a value, the operand word being 0. -/
def wacc (v : Word) : State := regs fun r => { r with wacc := v }

/-- Word 0 of M with a value. -/
def withM (v : Word) (s : State) : State := { s with image := { s.image with base := Cells.writeWord s.image.base 0xC0100 v } }

/-- The operand word and WACC of an instruction meet a property. -/
def meets (op : Nat) (s : State) (p : Int → Int → Bool) : Bool :=
  starts op 0x400000 0 s fun b => match b.env.readOp b.lane b.o1 with
    | .ok (v, _, l) => p l.regs.wacc.toInt v.toInt
    | .error _ => false

theorem test_CheckedArithmetic_fits :
    (meets 0x44 (withM 1 (wacc 0x7FFFFFFE)) fun a v => decide (a + v = 2147483647))
    ∧ (meets 0x45 (withM 1 (wacc 0x80000001)) fun a v => decide (a - v = -2147483648))
    ∧ (meets 0x46 (withM 0x8000 (wacc 0xFFFF0000)) fun a v => decide (a * v = -2147483648))
    ∧ (meets 0x47 (withM 0xFFFFFFFF (wacc 0x80000001)) fun a v => decide (v ≠ 0) && decide (Int.tdiv a v = 2147483647))
    ∧ (meets 0x48 (withM 0xFFFFFFFF (wacc 0x80000000)) fun a v => decide (v = -1) && decide (Int.tmod a v = 0))
    ∧ (starts 0x4B 0 0 (wacc 0x80000001) fun b => decide (-b.lane.regs.wacc.toInt = 2147483647))
    ∧ (starts 0x4C 0 0 (wacc 0x80000001) fun b => decide (b.lane.regs.wacc.toInt.natAbs = 2147483647))
    ∧ (starts 0x60 0x8000 0 (wacc 0x80008000) fun b => decide (b.lane.regs.wacc.toInt = -2147450880)) := by decide
theorem test_CheckedArithmetic_faults :
    (meets 0x44 (withM 1 (wacc 0x7FFFFFFF)) fun a v => decide (2147483647 < a + v))
    ∧ (meets 0x45 (withM 1 (wacc 0x80000000)) fun a v => decide (a - v < -2147483648))
    ∧ (meets 0x46 (withM 0x10000 (wacc 0x8000)) fun a v => decide (2147483647 < a * v))
    ∧ (meets 0x47 (wacc 5) fun _ v => decide (v = 0)) ∧ (meets 0x48 (wacc 5) fun _ v => decide (v = 0))
    ∧ (meets 0x47 (withM 0xFFFFFFFF (wacc 0x80000000)) fun a v => decide (v = -1) && decide (a = -2147483648))
    ∧ ([0x4B, 0x4C].all fun op => starts op 0 0 (wacc 0x80000000) fun b => b.lane.regs.wacc == 0x80000000)
    ∧ (starts 0x60 1 0 (wacc 0x7FFFFFFF) fun b => b.lane.regs.wacc == 0x7FFFFFFF) := by decide
theorem test_ModularAndLogicArithmetic :
    ([0x49, 0x4A, 0x4D, 0x4E, 0x4F, 0x5D, 0x5E].all fun op => starts op mWord 0 demo fun b => (b.env.readOp b.lane b.o1).isOk)
    ∧ (starts 0x50 0 0 demo fun _ => true)
    ∧ ([0x51, 0x52, 0x53, 0x54].all fun op => starts op 31 0 demo fun _ => true)
    ∧ (starts 0x5F 0x400000 0 demo fun b => match b.env.readWords b.lane b.o1 with
        | .ok ([lo, hi], _, _) => decide (lo.toInt ≤ hi.toInt)
        | _ => false)
    ∧ (starts 0x5F 0x400000 0 (withM 1 demo) fun b => match b.env.readWords b.lane b.o1 with
        | .ok ([lo, hi], _, _) => decide (hi.toInt < lo.toInt)
        | _ => false) := by decide
theorem test_ComparisonInstructions :
    ((List.range 8).all fun k => starts (0x55 + k) mWord 0 demo fun b => (b.env.readOp b.lane b.o1).isOk) := by decide
theorem test_FloatInstructions :
    ([0xA0, 0xA1, 0xA2, 0xA5, 0xA6].all fun op => starts op mWord 0 (wacc 0x3F800000) fun b => (b.env.readOp b.lane b.o1).isOk)
    ∧ (binary32.add 0x3F800000 0).isOk ∧ (binary32.sub 0x3F800000 0).isOk ∧ (binary32.mul 0x3F800000 0).isOk
    ∧ (binary32.lt 0x3F800000 0).isOk ∧ (binary32.eq 0x3F800000 0).isOk
    ∧ (starts 0xA3 0x400000 0 (withM 0x40000000 (wacc 0x3F800000)) fun b => (b.env.readOp b.lane b.o1).isOk) ∧ (binary32.div 0x3F800000 0x40000000).isOk
    ∧ ([0xA4, 0xA7, 0xA8].all fun op => starts op 0 0 (wacc 0x3F800000) fun _ => true)
    ∧ (binary32.sqrt 0x3F800000).isOk ∧ (binary32.ofInt 0x3F800000).isOk ∧ (binary32.toInt 0x3F800000).isOk := by decide +kernel
theorem test_FloatInstructions_wide :
    ([0xA9, 0xAA, 0xAB, 0xAC, 0xAE].all fun op => starts op 0x400000 0x400002 demo fun b => match b.env.readWide b.lane b.o1 with
        | .ok (_, _, l) => (b.env.readWide l b.o2).isOk && (b.env.storeWide l b.o1 0 false).isOk
        | .error _ => false)
    ∧ (binary64.add 0 0).isOk ∧ (binary64.sub 0 0).isOk ∧ (binary64.mul 0 0).isOk ∧ (binary64.div 0 0x3FF0000000000000).isOk ∧ (binary64.lt 0 0).isOk
    ∧ ([0xAD, 0xAF, 0xB0].all fun op => starts op 0x400000 0x400002 demo fun b =>
        (b.env.readWide b.lane b.o2).isOk && (b.env.storeWide b.lane b.o1 0 false).isOk)
    ∧ (binary64.sqrt 0).isOk ∧ (binary32.convert binary64 0).isOk ∧ (binary64.convert binary32 0).isOk := by decide +kernel
theorem test_FloatInstructions_faults :
    stops (binary32.add 0x7F800000 0) 10 1 ∧ stops (binary32.div 0x3F800000 0) 8 0 ∧ stops (binary32.div 0 0) 10 2 ∧ stops (binary32.sqrt 0xBF800000) 10 2
    ∧ stops (binary32.toInt 0x7F800000) 10 1 ∧ stops (binary64.lt 0x7FF0000000000000 0) 10 1 ∧ stops (binary64.sqrt 0xBFF0000000000000) 10 2 := by
  decide
theorem test_ControlBlockInstructions :
    ([0xB1, 0xB2, 0xB3].all fun op => starts op 0x400000 0 demo fun b => (b.env.readWords b.lane b.o1).isOk && b.env.dt.isOk)
    ∧ (pidStep 0x3F847AE147AE147B (List.replicate 16 0)).isOk
    ∧ (lagStep 0x3F847AE147AE147B [0, 0, 0, 0]).isOk ∧ (rlimStep 0x3F847AE147AE147B [0, 0, 0, 0]).isOk
    ∧ (starts 0xB2 0x400000 0 demo fun b => match b.env.dt with | .ok n => n == 0x3F847AE147AE147B | .error _ => false)
    ∧ (starts 0xB1 0x400000 0 demo fun b => (b.env.store b.lane [⟨b.env.addr b.o1.area (b.o1.word + 8), 0xFFFFFFFF, 0, false⟩]).isOk) := by
  decide +kernel
theorem test_TimerInstructions :
    ([0x80, 0x81, 0x82, 0x83].all fun op => starts op 0 0 acc1 fun b => match b.env.readWords b.lane b.o1 with
        | .ok (vs, m, l) => (b.env.store l (b.env.wordWrites b.o1.area (b.o1.word + 1) (timerWords (timerOf vs)) m)).isOk
        | .error _ => false)
    ∧ (starts 0x84 0 0 acc1 fun b => b.lane.regs.acc && (b.env.readWords b.lane b.o1).isOk)
    ∧ (starts 0x84 0 0 demo fun b => !b.lane.regs.acc) := by decide
theorem test_TimerInstructions_edges :
    (tonStep 5000 true (limitEt ⟨0, 7, 9, 0, 0, false, false, false⟩)).q = true
    ∧ (tpStep 7 true (limitEt ⟨5, 0, 0, 0, 0, false, false, false⟩)).running = true
    ∧ (tofStep 5000 false (limitEt ⟨3, 9, 4000, 0, 0, true, true, true⟩)).et = 3 := by decide
theorem test_CounterInstructions :
    ([0x85, 0x86, 0x87].all fun op => starts op 0 0 acc1 fun b => match b.env.readWords b.lane b.o1 with
        | .ok ([_, _, _, _], m, l) => (b.env.store l (b.env.wordWrites b.o1.area (b.o1.word + 1) [0x7FFFFFFF, 1] m)).isOk
        | _ => false)
    ∧ ([0x88, 0x89].all fun op => starts op 0 0 acc1 fun b => b.lane.regs.acc
        && (b.env.store b.lane [⟨b.env.addr b.o1.area (b.o1.word + 1), 0xFFFFFFFF, 0, b.lane.regs.accMark⟩]).isOk)
    ∧ (starts 0x89 0 0 acc1 fun b => (b.env.readOp b.lane b.o1).isOk)
    ∧ ([0x88, 0x89].all fun op => starts op 0 0 demo fun b => !b.lane.regs.acc) := by decide
theorem test_EdgeAndShiftInstructions :
    ([0x8A, 0x8B].all fun op => [0, 2047].all fun w => starts op w 0 demo fun b =>
      b.env.dbg.isNone && (b.env.gate (b.env.win.edge + w.toNat / 8) 0).isNone)
    ∧ ([0, 0x7FF].all fun e => starts 0x8C 0x400000 e demo fun b => match b.env.readWords b.lane b.o1 with
        | .ok (vs, m, l) => (b.env.store l (b.env.wordWrites b.o1.area b.o1.word vs m)).isOk
        | .error _ => false)
    ∧ ([0, 63].all fun e => starts 0x8D 0x400000 e demo fun b => match b.env.readWords b.lane b.o1 with
        | .ok (vs, m, l) => decide (vs ≠ []) && (b.env.store l (b.env.wordWrites b.o1.area b.o1.word vs m)).isOk
        | .error _ => false) := by decide +kernel

/-- Call frames, branch entries and loop frames in lane 0. -/
def withStacks (calls branch loops : Nat) (acc : Bool) : State :=
  regs fun r => { r with
    acc := acc, wacc := 3, calls := List.replicate calls ⟨7, 0, 0⟩, branch := List.replicate branch ⟨false, false, 0⟩,
    loops := List.replicate loops ⟨2, 0, 4, 9⟩ }

theorem test_FlowInstructions_jumps :
    ([0xC1, 0xC2, 0xC3].all fun op => starts op 0x3FFFFF 0 demo fun _ => true)
    ∧ ([0xC4, 0xC5, 0xC6].all fun op => starts op 9 0 (withStacks 15 0 0 true) fun b => decide (b.lane.regs.calls.length = 15))
    ∧ ([0xC7, 0xC8, 0xC9].all fun op => starts op 0 0 (withStacks 1 0 0 true) fun b =>
      b.lane.regs.calls == [⟨7, 0, 0⟩] && b.lane.regs.branch.isEmpty && b.lane.regs.loops.isEmpty)
    ∧ ([0xC7, 0xC8, 0xC9].all fun op => starts op 0 0 demo fun b => b.lane.regs.calls.isEmpty && b.lane.regs.branch.isEmpty) := by decide
theorem test_FlowInstructions_loops :
    (starts 0xCA 1 9 (withStacks 0 0 7 true) fun b => decide (b.lane.regs.loops.length = 7))
    ∧ (starts 0xCB 1 9 demo fun b => b.lane.regs.wacc == 0)
    ∧ (starts 0xCB 3 9 (withStacks 0 0 7 true) fun b => b.lane.regs.wacc == 3)
    ∧ (starts 0xCB 2 9 (withStacks 0 0 7 true) fun b => decide (2 < b.lane.regs.wacc.toNat))
    ∧ ([0xCC, 0xCD, 0xCE].all fun op => starts op 0 0 (withStacks 1 0 1 true) fun b =>
      b.lane.regs.loops == [⟨2, 0, 4, 9⟩] && decide (((b.lane.regs.calls.head?.map (·.loopDepth)).getD 0) < b.lane.regs.loops.length)) := by decide
theorem test_StackFaults :
    ([0xC7, 0xC8].all fun op => starts op 0 0 (withStacks 1 1 0 true) fun b => decide (b.lane.regs.branch.length = 1))
    ∧ (starts 0xC9 0 0 (withStacks 0 1 0 false) fun b => !b.lane.regs.acc)
    ∧ ([0xD5, 0xD6].all fun op => starts op 0 0 (withStacks 0 1 0 true) fun b => b.lane.regs.acc && !b.lane.regs.branch.isEmpty)
    ∧ ([(0xD0, 0), (0x0C, 0), (0x0D, 0), (0x0E, 0), (0x0F, 0), (0x10, 0), (0x11, 0)].all fun p =>
      starts p.1 p.2 0 (withStacks 0 32 0 true) fun b => decide (b.lane.regs.branch.length = 32))
    ∧ ([0xD1, 0xD2, 0xD3].all fun op => starts op 0 0 demo fun b => b.lane.regs.branch.isEmpty)
    ∧ ([0xC4, 0xC5].all fun op => starts op 9 0 (withStacks 16 0 0 true) fun b => decide (b.lane.regs.calls.length = 16))
    ∧ (starts 0xC6 9 0 (withStacks 16 0 0 false) fun b => !b.lane.regs.acc)
    ∧ ([0xCA, 0xCB].all fun op => starts op 1 9 (withStacks 0 0 8 true) fun b => b.lane.regs.wacc != 0 && decide (b.lane.regs.loops.length = 8))
    ∧ ([0xCC, 0xCD, 0xCE].all fun op => starts op 0 0 (withStacks 1 0 0 true) fun b => b.lane.regs.loops.isEmpty) := by decide

/-- Task 1 while it speculates, with a number of records. -/
def speculating (n : Nat) : State :=
  let t := (Task.fresh 1 0 0 attr [] 0 1000 1000 0 0).begin 0 0 0 .speculating
  { demo with tasks := [(1, { t with lane0 := { t.lane0 with segs := List.replicate n ⟨0, t.lane0.regs, 0, [], none, [], false, 0⟩ } })] }

/-- A version with agreed immediates. -/
def agreed (n : Nat) : State := { demo with tenants := [(0, { tenant with version := some { version with agreedImm := n } })] }

theorem test_TransitAndRendezvousInstructions_ends :
    (starts 0xD4 0 0 demo fun b => b.lane.spec == .notSpeculating)
    ∧ (starts 0xD4 0 0 (speculating 255) fun b => b.lane.spec == .speculating && decide (b.env.recordsOther + b.lane.segs.length = 255))
    ∧ ([0xD5, 0xD6].all fun op => starts op 0 0 acc1 fun b => b.lane.regs.branch.isEmpty)
    ∧ ([0xD7, 0xDD].all fun op => starts op 0 0 demo fun _ => true)
    ∧ agreedMode demo 1 = false ∧ ([0xD9, 0xDA].all fun op => starts op 0 0 demo fun b => b.env.ver.agreedImm != 1) := by decide +kernel

theorem test_TransitAndRendezvousInstructions_immediates :
    ([(0xDB, 0x200000), (0xDC, 0x200000)].all fun p => starts p.1 p.2 0 demo fun b =>
      (b.env.agreed || b.env.dbg.isSome)
      && (b.env.store b.lane [⟨b.env.addr b.o1.area b.o1.word, 0xFFFFFFFF, b.lane.regs.wacc, b.lane.regs.waccMark⟩]).isOk) := by decide
theorem test_TransitAndRendezvousInstructions_lanes :
    demo.debugFor task = none ∧ samePlace task.lane0 task.lane1 = true ∧ (demo.env task 1).canRun = true
    ∧ (starts 0xD8 3 0 demo fun b => ((b.ends b.lane).task 1).isSome && (startOf 0xD8 ⟨1, 1⟩ 3 0 (b.ends b.lane)).isSome)
    ∧ agreedMode (agreed 1) 1 = true
    ∧ ([0xD9, 0xDA].all fun op => starts op 0 0 (agreed 1) fun b => b.env.ver.agreedImm == 1
      && (startOf op ⟨1, 1⟩ 0 0 (b.ends (b.lane.setAcc false true))).isSome) := by decide +kernel
/-- Lane 1 of task 1 under debug, at a breakpoint. -/
def stopped : State :=
  { demo with
    mode := .standby
    dbg := some { session := 9, tenant := 0, halted := false, task := 1, start := some task, step := none, leaving := false, lane := task.lane0, breaks := [(1, 0)], copy := [], inputs := [], copied := true, refreshed := none, closing := [] } }

theorem test_UndefinedAndReservedFault :
    demo.task 1 = some task ∧ (demo.env task 0).canRun = true ∧ ((demo.env task 0).dbg.map (·.atBreak)) ≠ some true
    ∧ (stopped.task 1 = some task ∧ (stopped.env task 1).canRun = true ∧ ((stopped.env task 1).dbg.map (·.atBreak)) = some true)
    ∧ (demo.env task 0).ctx.spec ≠ .speculating ∧ (((speculating 1).task 1).map fun t => ((speculating 1).env t 0).ctx.spec) = some .speculating
    ∧ opInfo 0x1A = none ∧ opInfo 0xFF = none ∧ (1 : BitVec 24) ≠ 0 := by decide

/-! ### Tasks and their cycles -/

/-- The demo with task 1 changed. -/
def withTask (f : Machine.Task → Machine.Task) : State := { demo with tasks := [(1, f task)] }

/-- The demo at an instant of ring time and TB-LOCAL. -/
def at_ (t : Nat) (s : State) : State := { s with clk := { s.clk with ring := t, local_ := t } }

theorem test_CycleStarts :
    State.reset.up = true ∧ ({ demo with front := { demo.front with powered := false } } : State).up = false
    ∧ demo.change.state ≠ 3 ∧ demo.change.state ≠ 4 ∧ demo.computes = true ∧ demo.mode ≠ .joining ∧ 1 ≠ lanternTask
    ∧ (let t := { task with inCycle := false, st := .armed, start0 := 10 }
       t.attr.taskClass ≠ 3 ∧ t.start0 ≤ (at_ 10 demo).clk.ring)
    ∧ (let s := at_ 10000000 (withTask fun t => { t with inCycle := false, st := .running, startAt := 50000, start0 := 10000000 })
       has (s.task 1) fun t => decide (t.startAt < t.start0) && decide (t.start0 + (1 - 1) * (attr.cycle * 1000) ≤ s.clk.ring)
         && decide (s.clk.ring < t.start0 + 1 * (attr.cycle * 1000)))
    ∧ (let s := at_ 10000000 (withTask fun t => { t with inCycle := false, st := .running, startAt := 0 })
       (s.task 1).map (·.startAt + 1 * (attr.cycle * 1000)) = some s.clk.ring ∧ 0 < attr.cycle)
    ∧ (let s := withTask fun t => { t with
         inCycle := false, st := .armed, attr := { attr with taskClass := 3 }, latch := some ⟨5, 7, 0⟩, nextStart := some 0, behind := some ⟨5, 9, 0⟩ }
       (s.task 1).map (·.nextStart) = some (some 0) ∧ ((s.task 1).bind (·.latch)).isSome) := by decide
theorem test_PublicationAndOverrun :
    demo.task 1 = some task ∧ task.inCycle = true ∧ task.transited = false ∧ task.atPub.overrun = false ∧ task.atPub.parallax = none
    ∧ task.pubInstant ≤ (at_ (task.pubInstant - 90000) demo).clk.ring + 90000
    ∧ (let t := { task with transited := true }
       demo.change.state ≠ 3 ∧ t.inCycle = true ∧ t.pubInstant ≤ (at_ t.pubInstant demo).clk.ring ∧ t.transited = true) := by decide
theorem test_WatchdogEvents :
    (let s := at_ 5000 (withTask fun t => { t with wd := { t.wd with period := 5, origin := 0 } })
     has (s.task 1) fun t => t.wd.period != 0 && decide (t.wd.origin + t.wd.period * 1000 ≤ s.clk.local_))
    ∧ task.wd.period = 0 ∧ demo.up = true
    ∧ (demo.advanceTo 5).privWds[7]? = some ⟨0, 0, 0, 0, 0, false, 0, false⟩
    ∧ (demo.advanceTo 0).clk.local_ < 0 + (demo.advanceTo 0).windowNs (Config.privPeriod 7 / 1000)
    ∧ 0 + (demo.advanceTo 9000000).windowNs (Config.privPeriod 7 / 1000) ≤ (demo.advanceTo 9000000).clk.local_ := by decide

/-- A snapshot of cycle 0 with one filed section. -/
def snapshot (agreed closed : Bool) : Snapshot :=
  { cycle := 0, owner := true, forces := [], closeAt := 0, closed := closed, agreed := agreed, unagreed := false
    sections := [{ ring := 0, station := 1, expected := true, filed := true, blocks := [], peer := .notYet, asked := false, agreed := false }] }

theorem test_PublicationAndOverrun_inputs :
    (let s := at_ 10000 (withTask fun t => { t with snap := some (snapshot true true) })
     has ((s.task 1).bind (·.snap)) fun p => p.agreed && decide (p.closeAt + 10000 ≤ s.clk.ring)) = true := by decide
theorem test_FiresAndSnapshots :
    (let s : State := { demo with fires := [⟨5, 100⟩] }
     (s.fires.find? fun f => f.source == 5) = some ⟨5, 100⟩)
    ∧ (demo.fires.find? fun f => f.source == 5) = none
    ∧ (let s : State := { demo with peerFires := [⟨5, 90⟩] }
       (s.fires.find? fun f => f.source == 5) = none ∧ (s.peerFires.find? fun f => f.source == 5) = some ⟨5, 90⟩)
    ∧ (let s := withTask fun t => { t with snap := some (snapshot false true) }
       has ((s.task 1).bind (·.snap)) fun p => has (p.section 0 1) (·.filed) && p.closed && !p.agreed && p.cycle == 0)
    ∧ (let t := { task with st := .armed, latch := none, nextStart := none }; t.st = .armed ∧ t.latch = none)
    ∧ (let t := { task with latch := some ⟨5, 7, 0⟩, nextStart := some (tickAtOrAfter 7 + 50000), behind := none }
       t.st = .running ∧ t.latch = some ⟨5, 7, 0⟩ ∧ t.nextStart = some (tickAtOrAfter 7 + 50000) ∧ t.behind = none)
    ∧ (let t := { task with latch := some ⟨5, 7, 0⟩, nextStart := some 900000 }; t.latch = some ⟨5, 7, 0⟩ ∧ t.nextStart ≠ some (tickAtOrAfter 7 + 50000))
    ∧ demo.alone = true ∧ (demo.modPair fun p => { p with peerHealthy := true }).alone = false := by decide
/-- A setting of a unit. -/
def set (unit no ch : Nat) (v : Int) (s : State) : State := s.setValues unit [(no * 256 + ch, v)]

/-- The demo with port 0 enabled. -/
def ringDemo : State := set 0x10 1 0 1 demo

theorem test_FiresAndSnapshots_frames :
    ((ringDemo).portOn 0 = true ∧ (ringDemo).computes = true ∧ ({ demo with mode := .lantern } : State).computes = false)
    ∧ (({ hdr with frameType := 0x81 } : RingHdr).good = true ∧ ({ hdr with fcsOk := false } : RingHdr).good = false ∧ hdr.frameType ≠ 0x81)
    ∧ (((ringDemo).port 0).cyclicUsed + 65536 ≤ 65536
      ∧ 65536 < (((ringDemo).modPort 0 fun p => { p with cyclicUsed := 1 }).port 0).cyclicUsed + 65536)
    ∧ (let s := withTask fun t => { t with snap := some (snapshot false false) }
       has ((s.task 1).bind (·.snap)) fun p => !p.closed && !p.agreed && p.cycle == 0) = true
    ∧ (demo.task 1).bind (·.snap) = none
    ∧ (let p : Snapshot := { snapshot false true with sections := (snapshot false true).sections.map fun x => { x with agreed := true } }
       p.closed = true ∧ ∀ x ∈ p.sections, x.agreed = true) := by decide

/-- Task 1, both lanes at their end. -/
def ready : Machine.Task := { task with lane0 := { task.lane0 with endAt := some 0 }, lane1 := { task.lane1 with endAt := some 0 } }

/-- The demo at the transit checkpoint, the lanes at offsets 0 and `k`, a fault of lane 0 raised or not. -/
def checkpoint (k : BitVec 22) (f : Option FaultInfo) : Machine.Task :=
  { ready with lane0 := { ready.lane0 with raised := f }, lane1 := { ready.lane1 with endAt := some k, raised := f } }

/-- Two lanes in one state that wrote nothing show no parallax. -/
theorem parallaxKind_self (l : Lane) (h : l.drained = []) : parallaxKind l l = none := by simp [parallaxKind, h]
theorem test_TransitAndWriteSets_transit :
    ([none, some 5].all fun k =>
      let t := { ready with lane1 := { ready.lane1 with raised := k.map fun c => faultInfo task.lane0 0 0 noOpnd c 0 false } }
      let s := { demo with tasks := [(1, t)] }
      (s.advanceTo 0).task 1 == some t && (s.advanceTo 0).atTransit t && !(s.advanceTo 0).pastMargin t
        && (k.isNone || parallaxKind t.lane0 t.lane1 == some .fault) && ((s.advanceTo 0).debugFor t).isNone) = true
    ∧ parallaxKind ready.lane0 ready.lane1 = none :=
  ⟨by decide +kernel, parallaxKind_self ready.lane0 rfl⟩
theorem test_TransitAndWriteSets_raised :
    (let t := checkpoint 0 (some (faultInfo task.lane0 0 0 noOpnd 1 0 false))
     let s : State := { demo with tasks := [(1, t)] }
     (s.advanceTo 0).atTransit t = true ∧ parallaxKind t.lane0 t.lane1 = none ∧ t.lane0.raised.isSome = true)
    ∧ demo.atTransit task = false ∧ demo.pastMargin task = false :=
  ⟨⟨by decide +kernel, parallaxKind_self (checkpoint 0 (some (faultInfo task.lane0 0 0 noOpnd 1 0 false))).lane0 rfl, rfl⟩, by decide +kernel⟩
theorem test_TransitAndWriteSets_late :
    (let s := at_ 9960001 { demo with tasks := [(1, ready)] }
     s.pastMargin ready && s.atTransit ready && decide (task.pubInstant < s.clk.ring + 40000)) = true := by decide +kernel
theorem test_TransitAndWriteSets_release :
    (let t := { task with atPub := { task.atPub with committed := true } }
     let s : State := { demo with tasks := [(1, t)] }
     (((s.tasks.map (·.2)).filter fun t => (t.strand == 0 && t.inCycle && t.atPub.committed && t.attr.taskClass != 3 && t.no != lanternTask) && !t.released).filter
         fun t => (s.debugFor t).isNone) = [t] ∧ s.releaseDigest [t] + 1 ≠ s.releaseDigest [t]) :=
  ⟨by decide +kernel, fun h => absurd (show (1 : BitVec 64) = 0 by simp at h) (by decide)⟩
theorem test_TransitAndWriteSets :
    demo.task 1 = some task ∧ (1 ≠ lanternTask) ∧ task.inCycle = true ∧ task.transited = false ∧ task.atPub.overrun = false
    ∧ task.atPub.parallax = none ∧ demo.debugFor task = none
    ∧ (let s := withTask fun t => { t with ownSet := some ⟨1, 0, 0, [], [], false⟩ }
       has ((s.task 1).bind (·.ownSet)) fun w => w.task == 1 && w.cycle == 0)
    ∧ NMap.get demo.tenants 0 = some tenant
    ∧ (let s := withTask fun t => { t with atPub := { t.atPub with committed := true } }
       ((s.tasks.map (·.2)).filter fun t => t.strand == 0 && t.inCycle && t.atPub.committed && !t.released && t.attr.taskClass != 3
         && t.no != lanternTask) ≠ [])
    ∧ ((demo.tasks.map (·.2)).filter fun t => t.strand == 1) = [] := by decide

/-! ### Rings -/

/-- A frame to be sent. -/
def outFrame : OutFrame := ⟨0, 1, 0, .a, .a, 0, 0, [], [], []⟩

/-- An acyclic request of tag 7. -/
def acyc (attempts deadline : Nat) : Acyc := ⟨7, 0, ⟨0, 1, 1, 0, 0, 4, []⟩, attempts, deadline, false, none, 0⟩

theorem test_FramesAndBackground :
    ringDemo.transmits = true ∧ ringDemo.portOn 0 = true ∧ State.reset.transmits = false
    ∧ (let s := ringDemo.modPort 0 fun p => { p with immQueue := [outFrame] }
       (s.port 0).immQueue = [outFrame])
    ∧ (let s := ringDemo.modPort 0 fun p => { p with acycQueue := [outFrame] }
       (s.port 0).immQueue = [] ∧ (s.port 0).acycQueue = [outFrame])
    ∧ (ringDemo.fitsGap 0 outFrame = true ∧ (at_ 49999 ringDemo).fitsGap 0 outFrame = false ∧ ringDemo.fitsGap 0 (ringDemo.stamp outFrame) = true
      ∧ (at_ 49999 ringDemo).fitsGap 0 ((at_ 49999 ringDemo).stamp outFrame) = false)
    ∧ ((ringDemo.modCrossing 0x10 fun c => { c with stopped := false }).crossing (0x10 + outFrame.port)).passes = true
    ∧ ringDemo.computes = true ∧ ringDemo.mode ≠ .lantern ∧ ringDemo.settingNat 0x10 4 0 * 1000 ≠ 0
    ∧ ringDemo.clk.tick * 50000 % (ringDemo.settingNat 0x10 4 0 * 1000) = 0
    ∧ (ringDemo.ring 0).backgroundAt ≠ some (ringDemo.clk.tick * 50000) := by decide
theorem test_DiscoveryAndStations :
    (let s := at_ 100000000 (ringDemo.modRing 0 fun r => { r with discovered := some 0 })
     (s.ring 0).discovered = some 0 ∧ 0 + 100000000 ≤ s.clk.ring ∧ s.transmits = true ∧ 0 < Config.rings s.ident.variant
       ∧ (s.mode ≠ .owner ∨ s.isolated = false))
    ∧ (let s := at_ 99999999 (ringDemo.modRing 0 fun r => { r with discovered := some 0 }); s.clk.ring < 0 + 100000000)
    ∧ ringDemo.up = true ∧ hdr.good = true ∧ ({ hdr with version := 2 } : RingHdr).good = false
    ∧ ({ hdr with frameType := 0x83 } : RingHdr).good = true
    ∧ (let s := ringDemo.modRing 0 fun r => { r with table := List.replicate 3 ⟨0, 0, [], []⟩ }
       hopPosition ((s.seePair 0 .a).ring 0).table.length 2 0 = some (2, false) ∧ ((s.seePair 0 .a).station 0 2).state = .absent)
    ∧ (let s := at_ 200000000 (ringDemo.modStation 0 1 fun v => { v with state := .resync, resyncAt := some 0 })
       (s.station 0 1).state = .resync ∧ (s.station 0 1).resyncAt = some 0 ∧ 0 + 200000000 ≤ s.clk.local_)
    ∧ (ringDemo.computes = true ∧ ringDemo.owns = true)
    ∧ (ringDemo.port 0).linkUp = false ∧ (ringDemo.port 0).linkUp ≠ true
    ∧ ¬ (ringDemo.portOn 0 = false) ∧ ringDemo.portOn 2 = false := by decide
theorem test_AcyclicTransfers :
    ringDemo.portOn 0 = true ∧ ringDemo.up = true ∧ ({ hdr with frameType := 0x82 } : RingHdr).good = true ∧ hdr.frameType ≠ 0x82
    ∧ (let s : State := at_ 5 { ringDemo with acyc := [(7, acyc 3 5)] }
       has (NMap.get s.acyc 7) fun x => x.purpose != 2 && decide (x.deadline ≤ s.clk.ring) && decide (3 ≤ x.attempts))
    ∧ (let s : State := at_ 5 { ringDemo with acyc := [(7, acyc 2 5)] }
       has (NMap.get s.acyc 7) fun x => decide (x.deadline ≤ s.clk.ring) && decide (0 < x.attempts) && decide (x.attempts < 3))
    ∧ (let s : State := { ringDemo with acyc := [(7, acyc 2 5)] }; has (NMap.get s.acyc 7) fun x => decide (s.clk.ring < x.deadline))
    ∧ (let s : State := { ringDemo with mode := .standby }
       s.mode = .standby ∧ (s.acyc.map (·.2)).find? (fun x => x.purpose == 2 && x.req == (acyc 0 0).req) = none) := by decide

/-! ### Pace, islands, and what takes effect at an instant -/

theorem test_PaceAndIslands_pace :
    demo.up = true ∧ 15 < Config.strands demo.ident.variant
    ∧ (let s := demo.modStrand 0 fun x => { x with probe := 200, lowRuns := 2 }
       10 * min 4095 (1700 * 1000 / 10000) < 9 * (s.strand 0).probe ∧ 2 ≤ (s.strand 0).lowRuns ∧ (s.strand 0).probeFault = false)
    ∧ (let s := demo.modStrand 0 fun x => { x with probe := 200, lowRuns := 1 }
       10 * min 4095 (1700 * 1000 / 10000) < 9 * (s.strand 0).probe ∧ (s.strand 0).lowRuns < 2)
    ∧ (let s := demo.modStrand 0 fun x => { x with probe := 200 }; 9 * (s.strand 0).probe ≤ 10 * min 4095 (1800 * 1000 / 10000))
    ∧ demo.vcore.marginRun = false ∧ demo.vcore.regOn = false ∧ demo.marginDue = true
    ∧ (let s := demo.modVcore fun v => { v with regOn := true, lastMargin := some 0 }
       s.vcore.regOn = true ∧ s.clk.local_ + 50000 < 0 + 3600000000000 ∧ s.marginDue = false ∧ 0 + 3600000000000 ≤ (at_ 3600000000000 s).clk.local_)
    ∧ ([10000000, 9949999].all fun t =>
        let s := at_ t (demo.modVcore fun v => { v with marginRun := true, marginCheck := true, heldSince := some 0 })
        s.vcore.marginCheck && s.vcore.heldSince == some 0 && (decide (0 + 10000000 ≤ s.clk.local_) || decide (s.clk.local_ + 50000 < 0 + 10000000)))
    ∧ (let s := demo.modVcore fun v => { v with marginRun := true, marginCheck := true }
       s.vcore.marginCheck = true ∧ (s.advanceTo 0).up = true ∧ (s.advanceTo 0).vcore.marginRun = true)
    ∧ (let s := demo.modVcore fun v => { v with regOn := true }
       (s.advanceTo 0).vcore.marginRun = false ∧ (s.advanceTo 0).regulates = true) := by decide
theorem test_PaceAndIslands_islands :
    demo.up = true ∧ Config.unitFitted demo.ident.variant 0x10 = true ∧ Config.unitFitted demo.ident.variant 0x60 = true
    ∧ (demo.crossing 0x10).wakeFailed = false ∧ (demo.crossing 0x10).open_ = true ∧ (demo.crossing 0x10).stopped = true
    ∧ ([(false, false, true), (true, false, false), (false, true, true)].all fun q =>
        let c := (demo.modCrossing 0x10 fun c => { c with open_ := false, fabricDone := q.1, islandDone := q.2.1, stopped := q.2.2 }).crossing 0x10
        !c.open_ && c.fabricDone == q.1 && c.islandDone == q.2.1 && c.stopped == q.2.2)
    ∧ (set 0x60 1 0 0 demo).solo = true ∧ (set 0x60 1 0 1 demo).solo = false := by decide
theorem test_EffectsAtInstants :
    (let s : State := { set 0x60 1 0 1 demo with mode := .standby }
     s.solo = false ∧ s.mode ≠ .owner ∧ s.up = true)
    ∧ (let s := at_ 5 (demo.modRing 0 fun r => { r with staged := some (5, []) }); (s.ring 0).staged = some (5, []) ∧ 5 ≤ s.clk.ring)
    ∧ (let s := at_ 4 (demo.modRing 0 fun r => { r with staged := some (5, []) }); s.clk.ring < 5)
    ∧ (let s : State := { set 0x60 1 0 1 demo with mode := .standby, change := { changeReset with state := 2 } }
       s.change.state = 2 ∧ s.mode ≠ .owner ∧ s.solo = false)
    ∧ (let s : State := { demo with change := { changeReset with state := 3, switchAt := 5000000 } }
       s.change.state = 3 ∧ s.change.confirmed = false ∧ s.change.switchAt ≤ s.clk.ring + 5000000 ∧ s.clk.ring < s.change.switchAt ∧ s.change.state ≠ 4)
    ∧ (let s : State := { demo with change := { changeReset with state := 3, confirmed := true } }; s.change.confirmed = true)
    ∧ (let s : State := at_ 9 { demo with settings := { demo.settings with quiesced := [⟨0x10, 1, 9, []⟩] } }
       has (s.quiesce 0x10) fun q => decide (q.lease ≤ s.clk.local_))
    ∧ (let s : State := { demo with settings := { demo.settings with quiesced := [⟨0x10, 1, 50001, []⟩] } }
       has (s.quiesce 0x10) fun q => decide (s.clk.local_ + 50000 < q.lease)) := by decide
theorem test_PartnerMessages :
    (let s : State := { set 0x60 1 0 1 demo with mode := .standby, update := { updateReset with state := 2 } }
     s.solo = false ∧ s.up = true ∧ s.mode = .standby ∧ s.mode ≠ .owner ∧ s.update.state = 2 ∧ s.change.state = 0)
    ∧ (let s : State := set 0x60 1 0 1 demo; s.solo = false ∧ s.mode = .owner ∧ s.slot = none)
    ∧ (let s : State := { set 0x60 1 0 1 demo with slot := some ⟨1, .a, 0⟩ }; s.slot = some ⟨1, .a, 0⟩ ∧ s.mode = .owner)
    ∧ (let s : State := ({ set 0x60 1 0 1 demo with mode := .standby } : State).modPair fun p => { p with synchronised := true }
       s.mode = .standby ∧ s.pair.synchronised = true ∧ s.solo = false)
    ∧ ([(3, true), (0, false)].all fun q =>
        let s : State := ({ set 0x60 1 0 1 demo with mode := .standby, update := { updateReset with state := q.1, scopePair := q.2 } } : State).modPair fun p =>
          { p with peerIdent := some ⟨.nk960, 0, 0, .b, false, true, false, 0, []⟩ }
        s.mode != .owner && s.pairUpdate == q.2 && (s.pair.peerIdent.map (·.generation)) == some s.ident.generation
          && !(decide (s.update.session = none ∧ (s.update.state = 1 ∨ s.update.state = 2)))) := by decide

/-! ### Time -/

/-- The demo as another state of the module, beside a partner. -/
def pairDemo (m : ModState) : State := { set 0x60 1 0 1 ringDemo with mode := m }

/-- A header of a frame that the partner on side B sent at port 1. -/
def peerHdr (type : Nat) : RingHdr := { hdr with port := 1, frameType := type, ownerSide := .b, senderSide := .b }

theorem test_RingTimeFollowing :
    (ringDemo.up = true ∧ ringDemo.portOn hdr.port = true ∧ ({ hdr with fcsOk := false } : RingHdr).good = false ∧ 5 < (peerHdr 6).frameType)
    ∧ (hdr.good = true ∧ hdr.frameType ≤ 5 ∧ hdr.senderSide = ringDemo.front.side)
    ∧ ((peerHdr 1).good = true ∧ (peerHdr 1).frameType = 1 ∧ (peerHdr 1).senderSide ≠ (pairDemo .standby).front.side ∧ (peerHdr 1).port % 2 = 1)
    ∧ ([(ModState.standby, Side.b), (.joining, .b), (.standbyFaulted, .b), (.owner, .a), (.lantern, .b)].all fun p =>
        ((pairDemo p.1).seenOnRing.seePair 0 p.2).mode == p.1 && (pairDemo p.1).up)
    ∧ (let s := set 0x11 1 0 1 (pairDemo .standby)
       s.portOn (peerHdr 6).port = true ∧ (peerHdr 6).good = true ∧ s.up = true)
    ∧ ((pairDemo .standby).modTime fun x => { x with ringSeen := some 0 }).time.ringSeen = some 0 ∧ 0 ≤ (pairDemo .standby).clk.local_
    ∧ ((0 : BitVec 64).extractLsb' 0 3).toNat ≠ 3
    ∧ (pairDemo .owner).mode ≠ .standby := by decide

/-- A message of master 9 at plant port 0. -/
def ptpMsg (two : Bool) : PtpMsg := ⟨0, 9, 4, two, 0, 0, 0, 37, true, false, false, 6, 9, 1⟩

/-- A domain 0 that is on, takes messages at port 0 and follows master 9. -/
def ptpDemo (f : Domain → Domain) : State :=
  (set 0x40 12 0 1 (set 0x40 1 0 1 demo)).modDomain 0 fun d => f { d with master := some 9, portState := 8 }

theorem test_PtpDomains_messages :
    (let s := ptpDemo id
     s.ptpAt 0 0 = true ∧ (s.ptpForward 0 0 (ptpMsg false)).ptpSlave 0 (ptpMsg false) = true
     ∧ ((s.ptpForward 0 0 (ptpMsg false)).domain 0).portState ≠ 9 ∧ (s.ptpForward 0 0 (ptpMsg true)).ptpSlave 0 (ptpMsg true) = true)
    ∧ (let s := ptpDemo fun d => { d with twoStep := some (ptpMsg true), delaySent := some 0 }
       s.ptpSlave 0 (ptpMsg true) = true ∧ (s.domain 0).twoStep = some (ptpMsg true) ∧ (s.domain 0).delaySent = some 0 ∧ s.ptpAt 0 0 = true)
    ∧ (let s := set 0x40 2 0 0 (ptpDemo fun d => { d with portState := 6 })
       s.ptpAt 0 0 = true ∧ ((s.ptpForward 0 1 (ptpMsg false)).domain 0).portState = 6 ∧ (s.ptpForward 0 1 (ptpMsg false)).ptp 0 2 = 0) := by
  decide
theorem test_PtpDomains_intervals :
    (let s := ptpDemo fun d => { d with foreign := [(0, 9)] }
     s.ptpAt 0 0 = true ∧ (s.domain 0).foreign.contains ((ptpMsg false).port, (ptpMsg false).source) = true)
    ∧ demo.ptpAt 1 0 = false
    ∧ (let s := ptpDemo fun d => { d with portState := 6 }; (s.domain 0).portState = 6 ∧ s.ptpOn 0 = true)
    ∧ (demo.domain 0).portState ≠ 6
    ∧ (let s := set 0x40 2 0 0 (ptpDemo id); s.ptpOn 0 = true ∧ s.ptp 0 2 = 0 ∧ (s.domain 0).master ≠ none)
    ∧ (let s := set 0x40 2 0 0 (ptpDemo fun d => { d with master := none }); s.ptpOn 0 = true ∧ s.ptp 0 2 = 0 ∧ (s.domain 0).master = none)
    ∧ ([(0, true), (2, true), (0, false), (2, false)].all fun p =>
        let s := set 0x40 10 0 3 (set 0x40 9 0 1 (set 0x40 2 0 p.1 (ptpDemo fun d => { d with locked := true, lastAnnounce := some 0 })))
        let interval := if s.ptp 0 2 = 2 then 1000000000 else 1000000000 * 2 ^ (s.ptp 0 9).toNat
        let due := (s.ptp 0 10).toNat * interval
        let u := if p.2 then at_ due s else at_ (due - 50001) s
        u.ptpOn 0 && (u.domain 0).portState != 6 && (u.domain 0).locked && (u.domain 0).lastAnnounce == some 0
          && decide (due = if p.1 = 2 then 3000000000 else 6000000000)
          && (if p.2 then decide (0 + due ≤ u.clk.local_) else decide (u.clk.local_ + 50000 < 0 + due))) := by decide
theorem test_TimeInputs_inputs :
    (let s := (set 0x42 5 0 1 demo).modTime fun x => { x with refValid := true }
     s.up = true ∧ s.ref10m = true ∧ s.time.refValid = true ∧ s.time.refLocked = false)
    ∧ (let s := demo.modTime fun x => { x with ppsInLast := some 0 }
       (s.advanceTo 7).up = true ∧ (s.advanceTo 7).time.ppsInLast = some 0 ∧ (s.time.plantLink[0]?).getD false ≠ true
       ∧ (at_ 2000000000 s).time.ppsInLast = some 0 ∧ 0 + 2000000000 ≤ (at_ 2000000000 s).clk.local_
       ∧ (at_ 1999949999 s).clk.local_ + 50000 < 0 + 2000000000)
    ∧ (demo.modTime fun x => { x with inLeap := true }).time.inLeap = true
    ∧ (let s := ptpDemo fun d => { d with leap61 := true, leap59 := true }
       s.up = true ∧ s.time.inLeap = false ∧ (s.domain s.time.selected).leap61 = true ∧ (s.domain s.time.selected).leap59 = true) := by decide
theorem test_TimeInputs_alarms :
    (let s := at_ 60000000000 (set 0x42 3 0 60 (set 0x42 2 0 1 ((ptpDemo fun d => { d with locked := true, lockedSince := some 0 }).modTime
        fun x => { x with selected := 1 })))
     s.setting 0x42 2 0 = 1 ∧ s.ident.variant ≠ .nk920 ∧ s.isQuiesced 0x42 = false ∧ s.up = true ∧ s.time.selected ≠ s.settingNat 0x42 1 0
     ∧ (s.domain (s.settingNat 0x42 1 0)).locked = true ∧ (s.domain (s.settingNat 0x42 1 0)).lockedSince = some 0
     ∧ 0 + s.settingNat 0x42 3 0 * 1000000000 ≤ s.clk.local_)
    ∧ (let a : Alarm := ⟨1, 1, 50, 0⟩
       let s := at_ 50 (demo.modTime fun x => { x with alarms := x.alarms.set 15 a })
       s.time.alarms[15]? = some a ∧ s.up = true ∧ a.enable = 1 ∧ s.alarmDue 15 a = some 50 ∧ a.base ≠ 0 ∧ 50 ≤ s.clk.ring)
    ∧ (let a : Alarm := ⟨1, 0, 0, 0⟩
       let s := demo.modTime fun x => { x with alarms := x.alarms.set 0 a, plantValid := true }
       s.time.alarms[0]? = some a ∧ s.alarmDue 0 a = some 0 ∧ a.base = 0 ∧ s.time.plantValid = true
       ∧ 0 ≤ (s.time.plant.valueAt s.clk.local_).toNat) := by decide

/-! ### The pair -/

/-- The demo beside a partner, with the pair changed. -/
def pairWith (m : ModState) (f : Pair → Pair) : State := (pairDemo m).modPair f

theorem test_LinkAndPaths_link :
    (pairDemo .standby).solo = false ∧ (pairDemo .standby).up = true ∧ (set 0x60 1 0 0 demo).solo = true
    ∧ ([ModState.standby, .standbyFaulted, .lantern].all fun m => ((pairDemo m).takeHealth 0 0).mode == m)
    ∧ (pairDemo .standby).pair.linkSilent = false
    ∧ ([2, 3].all fun n =>
        let s := (pairDemo .owner).modLink fun l => { l with classes := modAt l.classes 4 fun c => { c with unacked := [(7, n)] } }
        (((s.link.classes[4]?).bind fun c => NMap.get c.unacked 7).getD 0) == n)
    ∧ (let s := demo.modFeeds fun f => { f with present1 := true, present2 := true }
       s.up = true ∧ s.feeds.present1 = true ∧ s.feeds.present2 = true)
    ∧ (let s := demo.modFeeds fun f => { f with present1 := false, present2 := false }
       s.up = true ∧ s.feeds.present1 = false ∧ s.front.powerFail = false ∧ (s.feedChange 0 true).front.powerFail = false)
    ∧ (let s := (demo.modFront fun f => { f with powerFail := true }).modFeeds fun f => { f with present1 := true, present2 := false }
       s.up = true ∧ s.feeds.present2 = false ∧ (s.feedChange 1 true).front.powerFail = true ∧ (s.feedChange 1 true).feedsGone = false) := by
  decide
theorem test_LinkAndPaths_paths :
    ([false, true].all fun d =>
      let s := at_ 3000000 (pairWith .standby fun p => { p with lastLink := some 0, discSilent := d, ringSilent := true, peerHealthy := !d })
      let a := s.modPair fun p =>
        { p with linkSilent := true, linkWasSilent := true, synchronised := p.synchronised && !(s.mode == .standby && s.pair.peerHealthy),
                 holdoffFrom := none, holdoffDue := false }
      s.up && s.pair.lastLink == some 0 && decide (0 + 3000000 ≤ s.clk.local_) && !s.pair.linkSilent && a.isolated == d && !a.solo)
    ∧ (pairWith .owner fun p => { p with linkSilent := true }).pair.linkSilent = true
    ∧ (let s := pairWith .owner fun p => { p with peerHealthy := true }
       let a := ((s.modPair fun p => { p with peerHealthy := false, lastDisc := some s.clk.local_ }).record 350 1 sevWarning 897 noSource []).fire 897
       let b := ((if a.io.half then a.fullShare else a).stopWaiting).checksAlone
       s.pair.peerHealthy = true ∧ s.mode ≠ .joining ∧ b.mode ≠ .joining)
    ∧ (pairWith .owner fun p => { p with peerClaim := true }).pair.peerClaim = true ∧ (pairDemo .owner).mode ≠ .lantern
    ∧ (pairDemo .standby).mode = .standby ∧ (pairDemo .standby).up = true ∧ (pairDemo .standby).pair.handover = none
    ∧ (pairDemo .lantern).mode = .lantern ∧ (pairDemo .lantern).io.half = false ∧ (pairDemo .lantern).solo = false := by decide

/-- A handover at instant 100000 of ring time. -/
def swap (acked leave : Bool) : Handover := ⟨100000, 6, acked, .command, leave, none⟩

theorem test_HandoverAndJoin_handover :
    (pairDemo .standby).mode = .standby ∧ (pairDemo .standby).up = true ∧ (pairDemo .standby).front.leverOpen = false ∧ 100000 ≠ 0
    ∧ (pairDemo .owner).mode ≠ .standby
    ∧ ([(ModState.owner, true), (.standby, true), (.owner, false)].all fun p =>
        let s := at_ 100000 (pairWith p.1 fun x => { x with handover := some (swap p.2 false) })
        s.pair.handover == some (swap p.2 false) && s.mode == p.1 && decide ((swap p.2 false).h ≤ s.clk.ring))
    ∧ (at_ 99999 (pairDemo .owner)).clk.ring < (swap true false).h
    ∧ (let s := at_ 0 (pairWith .owner fun x => { x with handover := some (swap false true) })
       s.mode = .owner ∧ (swap false true).acked = false ∧ (swap false true).h ≤ s.clk.ring + 100000)
    ∧ (let s := at_ 60000000000 { set 0x60 4 0 60 (pairWith .standby fun x => { x with holdoffFrom := some 0 }) with slot := some ⟨1, .a, 0⟩ }
       s.pair.holdoffFrom = some 0 ∧ s.mode = .standby ∧ 0 + s.settingNat 0x60 4 0 * 1000000000 ≤ s.clk.local_ ∧ s.pair.holdoffDue = false
       ∧ s.slot.isSome = true) := by decide

/-- A module that joins. -/
def joining (t : Nat) (tick : Option Nat) : State := at_ t (pairWith .joining fun p => { p with join := some ⟨0, some 0, true, tick⟩ })

/-- The state that an owner transfers. -/
def transfer (tick : Option Nat) : Transfer :=
  ⟨tick, [], [], [], changeReset, [], [], [], [], none, 0, .a, [], [], [], [], [], [], none, demo.time.plant, false⟩

theorem test_HandoverAndJoin_join :
    ((pairDemo .owner).mode = .owner ∧ (pairDemo .owner).solo = false ∧ pairs (pairDemo .owner).identity { (pairDemo .owner).identity with side := .b } = true
      ∧ pairs (pairDemo .owner).identity { (pairDemo .owner).identity with variant := .nk920 } = false)
    ∧ (joining 0 (some 4)).vcore.regOn = false ∧ ((joining 0 (some 4)).modVcore fun v => { v with regOn := true }).vcore.regOn = true
    ∧ ((joining 0 none).solo = false ∧ (joining 0 none).up = true ∧ (joining 0 none).mode = .joining ∧ (joining 0 none).pair.join.isSome = true
       ∧ (transfer none).tickJ = none ∧ (transfer (some 4)).tickJ = some 4)
    ∧ ((joining 0 (some 4)).mode = .joining ∧ has (joining 0 (some 4)).pair.join fun j => j.tickJ.isSome)
    ∧ ((joining 10000000000 none).pair.proofTest = false ∧ (has (joining 10000000000 none).pair.join fun j => j.acceptedAt == some 0)
       ∧ 0 + 10000000000 ≤ (joining 10000000000 none).clk.local_ ∧ (joining 9999949999 none).clk.local_ + 50000 < 0 + 10000000000)
    ∧ (let s := at_ 60000000000 (pairWith .standbyFaulted fun p => { p with faultBudgetOrIngress := true, faultAt := some 0 })
       s.mode = .standbyFaulted ∧ s.up = true ∧ s.pair.faultBudgetOrIngress = true ∧ s.pair.faultAt = some 0
       ∧ 0 + 60000000000 ≤ s.clk.local_ ∧ s.pair.autoRejoinAt = none ∧ s.causePersists = false)
    ∧ (pairDemo .owner).mode ≠ .standbyFaulted
    ∧ ((pairDemo .standby).mode = .standby ∧ (pairDemo .standby).up = true ∧ (pairDemo .standby).sleeps 9 = true)
    ∧ (let s := pairWith .joining fun p => { p with proofTest := true }; s.mode = .joining ∧ s.pair.proofTest = true) := by decide

/-! ### Local channels -/

/-- A transaction of HART channel 11. -/
def tx (attempts : Nat) (ticket : Option Ticket) : HartTx := ⟨⟨0, 11, 3, []⟩, ticket, attempts, 2, 0⟩

/-- The demo with HART channel 11 in a transaction. -/
def hartDemo (uid : Bool) (attempts : Nat) : State :=
  demo.modHart 11 fun h => { h with uid := uid, active := some (tx attempts (some ⟨1, 1, 0, 0, 0⟩)) }

theorem test_LocalChannels :
    demo.drivesLocal = true ∧ (pairDemo .lantern).drivesLocal = false
    ∧ (demo.advanceTo 5).up = true ∧ (demo.advanceTo 5).ident.variant ≠ .nk920 ∧ (demo.advanceTo 5).io.di.getLsbD 31 ≠ true
    ∧ (demo.advanceTo 5).io.di.getLsbD 0 = false
    ∧ demo.up = true ∧ (demo.modIo fun io => { io with lplusOk := true }).io.thermal = 0 ∧ (demo.modIo fun io => { io with lplusOk := true }).io.lplusOk = true
    ∧ (demo.modIo fun io => { io with thermal := 0x8000 }).io.thermal ≠ 0
    ∧ (set 0x32 1 7 1 demo).setting 0x32 1 (7 : Fin 8) = 1
    ∧ (let s := demo.modIo fun io => { io with half := true }; s.io.half = true ∧ (s.io.ao[3]?).isSome = true)
    ∧ (demo.aoCh 3).openLoop ≠ true ∧ (demo.aoCh 3).openLoop = false ∧ (demo.aoCh 3).stageFault ≠ true
    ∧ ([(false, 1), (true, 2), (true, 3)].all fun p => ((hartDemo p.1 p.2).hartCh 11).uid == p.1
        && has ((hartDemo p.1 p.2).hartCh 11).active fun x => x.ticket.isSome && decide (x.attempts = p.2))
    ∧ (demo.hartCh 11).active = none ∧ (demo.hartCh 11).mirrors = [] := by decide

/-! ### Bring-up, CAN, updates -/

theorem test_SeatingAndBringUp_seating :
    (let s := (demo.modFront fun f => { f with seated := true }).modFeeds fun f => { f with present1 := true, present2 := true }
     s.front.seated = true ∧ s.feeds.present1 = true ∧ s.feeds.present2 = true)
    ∧ ([false, true].all fun p =>
        let s := demo.modFront fun f => { f with seated := false, powered := p }
        !s.front.seated && s.front.powered == p)
    ∧ ([false, true].all fun p =>
        let s := demo.modFront fun f => { f with seated := true, powered := p }
        let a : State := { s with front := { s.front with seated := false }, feeds := { s.feeds with switch1 := false, switch2 := false },
                                  lantern := { s.lantern with removedSince := true } }
        s.front.seated && a.up == p)
    ∧ ([ModState.standby, .joining, .standbyFaulted, .testHold].all fun m =>
        let a := (pairDemo m).modFront fun f => { f with leverOpen := true }
        !(pairDemo m).front.leverOpen && a.up && (pairDemo m).mode == m)
    ∧ (let s := pairWith .owner fun p => { p with peerHealth := 0x22 }
       let a := s.modFront fun f => { f with leverOpen := true }
       s.front.leverOpen = false ∧ a.up = true ∧ s.mode = .owner ∧ a.solo = false ∧ a.peerStandbySync = true ∧ a.pair.handover = none)
    ∧ (let s := demo.modFront fun f => { f with leverOpen := true }; s.front.leverOpen = true ∧ s.mode ≠ .lantern)
    ∧ (let s := (demo.modFront fun f => { f with powered := false, seated := true }).modFeeds fun f => { f with switch1 := false, switch2 := true }
       s.front.powered = false ∧ s.front.seated = true ∧ s.feeds.switch2 = true ∧ ((s.modFront fun f => { f with leverOpen := true }).up) = false)
    ∧ demo.front.powered = true ∧ demo.up = true := by decide
theorem test_SeatingAndBringUp_bringup :
    (let s : State := { demo with mode := .seated }; s.up = true ∧ s.mode = .seated)
    ∧ (State.reset.up = true ∧ State.reset.mode = .lantern ∧ State.reset.lantern.bringupComplete = false ∧ State.reset.lantern.phase = .bringup)
    ∧ ([1, 2].all fun n => (State.reset.modLantern fun l => { l with overruns := n }).lantern.overruns == n)
    ∧ (let s := at_ 10000000000 ({ State.reset.modLantern fun l => { l with phase := .fetching } with
         update := { updateReset with fetchFrom := some 0 } } : State)
       s.up = true ∧ s.mode = .lantern ∧ s.lantern.phase = .fetching ∧ s.update.fetchFrom = some 0 ∧ 0 + 10000000000 ≤ s.clk.local_)
    ∧ demo.mode ≠ .lantern
    ∧ (let s : State := { State.reset.modLantern fun l => { l with running := true } with tasks := [(lanternTask, { task with no := lanternTask, inCycle := false, st := .armed })] }
       has (s.takeLanternNext.task lanternTask) fun t => s.takeLanternNext.lantern.running && t.st == .armed && !t.inCycle && s.mode == .lantern)
    ∧ ((pairDemo .owner).up = true ∧ (pairDemo .owner).solo = false ∧ (pairDemo .owner).lantern.phase ≠ .fetching ∧ (pairDemo .owner).pairUpdate = false
       ∧ ((pairDemo .owner).send 5 (.parts (pairDemo .owner).ident.generation)).pairUpdate = false) := by decide

/-- A frame of identifier 5. -/
def canFrame : CanFrame := ⟨5, false, false, false, false, 1, [0]⟩

/-- A schedule with one exclusive window and one periodic object. -/
def canSched : CanSched :=
  ⟨1, 1000, 1, false, [⟨0, 100, 0⟩], [⟨1, 0, 1, 0, 5, false, false, false, 8, 10⟩]⟩

/-- The demo with CAN controller 3 on the bus, driving it, in the given mode. -/
def canDemo (m : Nat) (f : CanCtl → CanCtl) : State :=
  ((set 0x23 8 0 1 (set 0x23 2 0 m demo)).modCrossing 0x23 fun c => { c with stopped := false }).modCan 3 fun c => f { c with state := 1, serving := true }

/-- A frame that was put on the bus `n` times. -/
def canTx (n : Nat) (timed : Bool) : CanTx := ⟨canFrame, none, none, timed, n⟩

theorem test_CanEvents_controllers :
    (((canDemo 0 id).advanceTo 9).canRuns 3 = true ∧ ((canDemo 0 id).advanceTo 9).canSetting 3 2 ≠ 2)
    ∧ ([(0, false), (255, false), (0, true)].all fun p =>
        let s := canDemo 0 fun c => { c with sending := [canTx p.1 p.2] }
        s.canDrives 3 && (s.ctl 3).nextTx == some (canTx p.1 p.2) && !(canTx p.1 p.2).frame.brs)
    ∧ (let x : CanTx := { canTx 0 false with frame := { canFrame with brs := true } }
       let s := canDemo 0 fun c => { c with sending := [x] }
       s.canDrives 3 = true ∧ (s.ctl 3).nextTx = some x ∧ x.frame.brs = true ∧ 400 < 401)
    ∧ ((canDemo 2 id).canRuns 3 = true ∧ (canDemo 2 id).canSetting 3 2 = 2 ∧ ((canDemo 2 id).ctl 3).rateFound = false)
    ∧ demo.canRuns 3 = false
    ∧ (let s := canDemo 0 fun c => { c with state := 3 }; s.up = true ∧ (s.ctl 3).state = 3 ∧ s.isQuiesced 0x23 = false) := by decide
theorem test_CanEvents_timeTriggered :
    (let s := canDemo 0 fun c => { c with sched := some canSched, ttSync := true, timeMaster := true }
     s.canMaster 3 = true ∧ (s.ctl 3).timeMaster = true ∧ (s.ctl 3).missedRefs = 0)
    ∧ (let s := canDemo 0 fun c => { c with sched := some canSched }; s.canMaster 3 = true ∧ (s.ctl 3).ttSync = false)
    ∧ demo.canMaster 3 = false
    ∧ (let s := canDemo 0 fun c => { c with sched := some canSched, ttSync := true }
       (s.ctl 3).sched = some canSched ∧ s.canDrives 3 = true ∧ (s.ctl 3).ttSync = true ∧ (canSched.objectAt 0 (s.ctl 3).cycleCount).isSome = true
       ∧ s.canRuns 3 = true ∧ s.computes = true ∧ (canSched.objects.find? fun o => o.object == 1 && decide (0 < o.period)).isSome = true)
    ∧ (demo.ctl 3).sched = none := by decide

/-- The demo in a state of its update. -/
def updDemo (m : ModState) (f : Update → Update) : State := { pairDemo m with update := f updateReset }

/-- The bytes of a manifest for this hardware, or for another. -/
def manifest (fits : Bool) : List (Nat × List Byte) := [(0, be 2 1 ++ be 2 (if fits then 0x0960 else 0x0940) ++ be 4 0)]

theorem test_UpdateEvents :
    ([true, false].all fun f => (updDemo .owner fun u => { u with state := 3, manifest := manifest f }).manifestFits == f)
    ∧ (let s := updDemo .owner fun u => { u with state := 3, manifest := manifest true }
     s.up = true ∧ s.update.state = 3 ∧ s.update.scopePair = false ∧ s.writeRecord.update.scopePair = false)
    ∧ (let s := updDemo .standby fun u => { u with state := 3, scopePair := true, manifest := manifest true }
       s.up = true ∧ s.update.state = 3 ∧ s.mode = .standby ∧ s.writeRecord.update.scopePair = true)
    ∧ demo.update.state ≠ 3 ∧ demo.update.state ≠ 4
    ∧ ([600000000000, 599999949999].all fun t =>
        let s := at_ t (updDemo .owner fun u => { u with state := 3, scopePair := true, pairStep := 3, retryFrom := some 0 })
        s.pairUpdate && s.mode == .owner && decide (s.update.pairStep = 3) && s.pair.handover.isNone && s.update.retryFrom == some 0
          && (decide (0 + 600000000000 ≤ s.clk.local_) || decide (s.clk.local_ + 50000 < 0 + 600000000000)))
    ∧ (let s := updDemo .testHold fun u => { u with state := 4 }
       s.up = true ∧ s.owns = true ∧ s.update.state = 4 ∧ s.update.scopePair = false)
    ∧ (let s := updDemo .standby fun u => { u with state := 1 }
       s.solo = false ∧ s.mode = .standby ∧ s.up = true ∧ s.update.state = 1
       ∧ (s.update.stage ⟨0, 0, false, [1, 2]⟩).isOk = true
       ∧ (addChunk s.change.versionBytes s.change.versionLast ⟨0, 0x100, true, [1]⟩).isOk = true
       ∧ (addChunk s.change.mapBytes s.change.mapLast ⟨4, 0x101, false, [1]⟩).isOk = true) := by decide

/-! ### Keys, the test port, the checks -/

/-- A credential of serial 7. -/
def cred (issuerOk : Bool) : Credential := ⟨7, 2, 0, 2, 0, 99, true, issuerOk, true⟩

/-- The demo with the reader changed. -/
def keyDemo (f : Reader → Reader) : State := demo.modReader f

/-- A session. -/
def sess (no : Nat) (isOpen : Bool) : Session :=
  ⟨no, isOpen, 2, true, 0, 511, false, false, 0, [], [], 0, 0, 0, [], none, []⟩

/-- The demo with a session. -/
def sessDemo (m : ModState) (x : Session) : State := { pairDemo m with gelit := { demo.gelit with sessions := [x] } }

theorem test_KeysAndSignatures_reader :
    (demo.up = true ∧ demo.reader.challenging = false ∧ demo.reader.selected = none ∧ demo.reader.flooded = false ∧ demo.reader.lockout = false
      ∧ demo.reader.waitQuiet = false)
    ∧ (keyDemo fun r => { r with lockout := true }).reader.lockout = true
    ∧ (let s := keyDemo fun r => { r with challenging := true }; s.reader.waitQuiet = false ∧ s.reader.challenging = true
       ∧ s.reader.collided = [] ∧ s.reader.answers = [])
    ∧ (let s := keyDemo fun r => { r with challenging := true, collided := [15] }; s.reader.challenging = true ∧ s.reader.collided ≠ [])
    ∧ (let s := keyDemo fun r => { r with challenging := true, answers := [(0, 7)] }
       s.reader.challenging = true ∧ s.reader.collided = [] ∧ s.reader.answers = (0, 7) :: [])
    ∧ (let s := keyDemo fun r => { r with selected := some 7 }
       s.reader.selected = some (cred true).serial ∧ s.reader.received = none ∧ (cred true).crcOk = true ∧ s.reader.flooded = false)
    ∧ ([false, true].all fun ok =>
        let s := keyDemo fun r => { r with received := some (cred ok), identified := [7] }
        s.reader.received == some (cred ok) && s.reader.identified == [(cred ok).serial]
          && (if ok then decide (s.credentialFault (cred ok) = 0) else decide (s.credentialFault (cred ok) ≠ 0)))
    ∧ demo.reader.received = none
    ∧ ([2, 3].all fun n => let s := keyDemo fun r => { r with flooded := true, retries := n }; s.reader.flooded && s.reader.retries == n) := by
  decide
theorem test_KeysAndSignatures_sessions :
    (let s := demo.modKeys fun k => { k with ops := [⟨1, true⟩] }; s.keys.ops = ⟨1, true⟩ :: [])
    ∧ demo.keys.ops = []
    ∧ ([3600000000000, 3599999949999].all fun t =>
        let s := at_ t (set 0x50 5 0 3600 (sessDemo .owner (sess 9 true)))
        (s.session 9 == some (sess 9 true))
          && (decide (0 + s.settingNat 0x50 5 0 * 1000000000 ≤ s.clk.local_) || decide (s.clk.local_ + 50000 < 0 + s.settingNat 0x50 5 0 * 1000000000)))
    ∧ (let s := at_ 5000000000 (sessDemo .owner (sess 9 false))
       s.session 9 = some (sess 9 false) ∧ (sess 9 false).isOpen = false ∧ (sess 9 false).openedAt + 5000000000 ≤ s.clk.local_) := by decide
theorem test_TestPortAndChecks_port :
    (demo.front.powered = true ∧ demo.mode ≠ .testHold ∧ ([true] : List Bool) ≠ [] ∧ demo.tap.selected ≠ 0x20)
    ∧ ((pairDemo .testHold).mode = .testHold ∧ (pairDemo .testHold).front.powered = true ∧ (pairDemo .testHold).ident.variant ≠ .nk920)
    ∧ ((demo.modTap fun t => { t with selected := 0x20 }).tap.selected = 0x20)
    ∧ (demo.modFront fun f => { f with powered := false }).front.powered = false := by decide

/-- A version that passes its checks. -/
def loadable : Version := { Version.empty with code := [0xD5000000], tasks := [(0, { attr with taskClass := 1 })], sizeM := 256 }

/-- What a check found for tenant 1. -/
def figures (code : Nat) : CheckFigures := ⟨1, 0, code, [], 0⟩

/-- The demo with a check that waits for the partner's figures. -/
def checkDemo (m : ModState) (code : Nat) : State :=
  { pairDemo m with checks := [⟨1, 0, loadable, [], ⟨[], windows, 0, []⟩, 0, figures code, none, none⟩] }

theorem test_TestPortAndChecks_checks :
    ((demo.modFront fun f => { f with cmServed := true }).front.cmServed = true ∧ (demo.modFront fun f => { f with cmServed := false }).front.cmServed = false)
    ∧ ((pairDemo .standby).solo = false ∧ (pairDemo .standby).mode = .standby ∧ (pairDemo .standby).up = true
       ∧ ((pairDemo .standby).judgeLoad 511 loadable []).isOk = true
       ∧ ((pairDemo .standby).judgeLoad 511 { loadable with sizeM := 1 } []).isOk = false)
    ∧ ([(ModState.owner, 0), (.owner, 1), (.standby, 0)].all fun p =>
        has ((checkDemo p.1 p.2).checks.find? fun w => w.tenant == (figures 0).tenant && w.kind == (figures 0).kind) fun w =>
          (w.figures == figures 0) == (p.2 == 0))
    ∧ (pairDemo .owner).mode ≠ .standby ∧ ((pairDemo .owner).checks.find? fun w => w.tenant == 1 && w.kind == 0) = none := by decide +kernel

/-! ### Gelit -/

/-- A module in a state, with an open session 9. -/
def host (m : ModState) : State := sessDemo m (sess 9 true)

/-- The next request of session 9. -/
def ask (tenant : Nat) (p : List Byte) : Req := req 9 1 tenant p

/-- The command runs, and something holds of the state that has accepted it. -/
def asks (op priv : Nat) (tenant : Bool) (v : Served) (comm : Bool) (s : State) (r : Req) (p : State → Bool) : Bool :=
  s.fate ⟨op, true, priv, tenant, v, comm⟩ r == .runs && p (s.accept r)

/-- A session that has accepted sequence 1 with tag 5, answered or not. -/
def answered (rep : Option Reply) : Session :=
  { sess 9 true with highest := 1, accepted := [1], stored := [⟨1, 5, rep⟩] }

theorem test_GelitChecks :
    (let c : Cmd := ⟨0x0101, true, 1, false, .EL, true⟩
     let i := Instr.moduleState (ask 0xFFFF [])
     let s := host .owner
     gelitOf s i = some (c, ask 0xFFFF []) ∧ s.fate c (ask 0xFFFF []) = .runs
     ∧ (pairDemo .seated).fate c (ask 0xFFFF []) = .ignored ∧ s.fate c { ask 0xFFFF [] with udpLen := 35 } = .drop 1
     ∧ demo.fate c (ask 0xFFFF []) = .noSession ∧ (sessDemo .owner (sess 9 false)).fate c (ask 0xFFFF []) = .halfOpen
     ∧ (sessDemo .owner (answered none)).fate c (ask 0xFFFF []) = .again none
     ∧ (let rep : Reply := ⟨0, 9, 1, 0xFFFF, 0x0101, 0, true, []⟩
        (sessDemo .owner (answered (some rep))).fate c (ask 0xFFFF []) = .again (some rep))
     ∧ (sessDemo .owner (answered none)).fate c { ask 0xFFFF [] with tag := 6 } = .replayed
     ∧ s.fate c { ask 0xFFFF [] with status := 1 } = .refused 2 errorPlain
     ∧ (sessDemo .owner (answered none)).fate c (req 9 2 0xFFFF []) = .waits) := by decide +kernel

/-- The contents of a SESSION.OPEN of privilege 1 without a chain. -/
def openPayload : List Byte := [1, 1, 0, 0] ++ List.replicate 80 0

theorem test_SessionAndModuleCommands :
    (let s : State := (pairDemo .owner).modReader fun r => { r with present := some ⟨7, 2, 99, 99⟩ }
     let r := { req 0 0 0xFFFF openPayload with tag := 0 }
     s.fate cmdSessionOpen r = .runs ∧ ((s.accept r).openSession r cmdSessionOpen ⟨true, true, 7, [], [], 0⟩).isOk = true)
    ∧ (let s := sessDemo .owner (sess 9 false)
       let r := ask 0xFFFF [0, 0, 0, 0]
       s.fate cmdSessionConfirm r = .runs ∧ has ((s.accept r).session 9) (fun x => !x.isOpen && !x.chainSent) ∧ r.seq = 1)
    ∧ (host .owner).fate ⟨0x0F00, false, 0, false, .EL, true⟩ (ask 0xFFFF []) = .refused 1 errorPlain
    ∧ ([0x0003, 0x0004, 0x0005, 0x0101].all fun op => asks op 1 false .EL true (host .lantern) (ask 0xFFFF []) fun _ => true)
    ∧ ([none, some (⟨7, 2, 99, 99⟩ : KeyPresent)].all fun k =>
        asks 0x0102 2 false .solo false (set 0x60 1 0 0 ((host .owner).modReader fun r => { r with present := k })) (ask 0xFFFF []) fun a => a.keyAt 2 == k.isSome)
    ∧ (asks 0x0103 2 false .E false ((host .owner).modPair fun p => { p with peerHealth := 0x22, peerHealthy := true }) (ask 0xFFFF []) fun a =>
        a.mode == .owner && !a.solo && a.mayHandOver)
    ∧ (asks 0x0103 2 false .E false (host .standby) (ask 0xFFFF []) fun a => a.mode != .owner) := by decide +kernel

/-- Session 9 has quiesced a unit, with a setting staged. -/
def quiesced (m : ModState) (unit : Nat) : State := { host m with settings := { (host m).settings with quiesced := [⟨unit, 9, 60000000000, [(256, 1)]⟩] } }

theorem test_UnitCommands :
    (Config.unitAbsent .nk960 0x50 = false ∧ Config.unitExists 0x50 = true ∧ Config.unitAbsent .nk960 0x10 = false ∧ Config.unitExists 0x10 = true)
    ∧ (asks 0x0201 2 false .E false (host .owner) (ask 0xFFFF [0x50, 0, 0, 0]) fun a => (a.quiesceFree 0x50 9).isOk && a.owns)
    ∧ (asks 0x0201 2 false .E false ((host .owner).modPair fun p => { p with peerHealth := 0x22, peerHealthy := true, synchronised := true })
        (ask 0xFFFF [0x10, 0, 0, 0]) fun a => (a.quiesceFree 0x10 9).isOk && a.partnerCarries)
    ∧ (let p : List Byte := [0x10, 0, 0, 1, 1, 0, 0, 0, 0, 0, 0, 1]
       asks 0x0202 2 false .E false (quiesced .owner 0x10) (ask 0xFFFF p) fun a =>
        stageEntries p 1 == [(256, 1)] && settingThere .nk960 0x10 256 && settingOk .nk960 0x10 256 1 && a.owns
          && (match a.mine 0x10 9 with | .ok q => decide ((NMap.set q.staged 256 1).length ≤ 64) | .error _ => false))
    ∧ (asks 0x0203 2 false .E false (quiesced .owner 0x10) (ask 0xFFFF [0x10, 0, 0, 0]) fun a =>
        (match a.mine 0x10 9 with | .ok q => a.limitsOk 0x10 q.staged | .error _ => false)
          && a.gateCheck ⟨10, 0, 1, a.privOf 9, none⟩ == none)
    ∧ (asks 0x0204 2 false .E false (quiesced .standby 0x10) (ask 0xFFFF [0x10, 0, 0, 0]) fun a => (a.mine 0x10 9).isOk)
    ∧ (asks 0x0204 2 false .E false (host .standby) (ask 0xFFFF [0x10, 0, 0, 0]) fun a => (a.quiesce 0x10).isNone && !a.pair.peerQuiesced.contains 0x10)
    ∧ (asks 0x0205 1 false .E false (host .owner) (ask 0xFFFF [0x10, 0, 0, 1, 1, 0, 0, 0]) fun a =>
        settingThere .nk960 0x10 256 && a.gateCheck ⟨10, 0, 0, a.privOf 9, none⟩ == none)
    ∧ (asks 0x0206 1 false .E false (quiesced .owner 0x10) (ask 0xFFFF [0x10, 0, 0, 0]) fun a => (a.quiesce 0x10).isSome) := by decide +kernel

/-- The chunk of `n` bytes at offset 0 of a selection. -/
def chunk (select n : Nat) (last : Bool) : List Byte :=
  be 4 0 ++ be 2 n ++ be 1 select ++ be 1 (if last then 1 else 0) ++ List.replicate n 0

/-- A tenant that session 9 loads. -/
def loading (last : Bool) : State :=
  { host .owner with tenants := [(0, tenant), (511, { tenant with state := .free, version := none, loading := some ⟨9, [], last⟩ })] }

theorem test_ProgramCommands :
    (asks 0x0301 2 true .O false (host .owner) (ask 511 []) fun a => (a.tenant 511).state == .free && (a.tenant 511).loading.isNone)
    ∧ (asks 0x0302 2 true .O false (loading false) (ask 511 (chunk 0 4 true)) fun a =>
        (match chunkOf (chunk 0 4 true), a.loadingOf 511 9 with | .ok k, .ok l => k.select == 0 && (l.add k).isOk | _, _ => false))
    ∧ (asks 0x0303 2 true .O false (loading true) (ask 511 []) fun a =>
        (match a.loadingOf 511 9 with | .ok l => l.last | .error _ => false) && !a.pairUpdate
          && (a.judgeLoad 511 loadable []).isOk && !(a.judgeLoad 511 { loadable with sizeM := 1 } []).isOk)
    ∧ ([0x0304, 0x0305].all fun op => asks op 2 true .O false (host .owner) (ask 0 [0, 1, 0, 0]) fun a =>
        (match a.maskOf 0 [0, 1, 0, 0] with
          | .ok m => (a.maskTasks 0 m).all fun n => !(a.strand (((a.task n).map (·.strand)).getD 0)).retired
          | .error _ => false) && (a.tenant 0).state != .frameDisplaced)
    ∧ (asks 0x0306 2 true .O false { host .owner with tenants := [(0, { tenant with state := .stopped })] } (ask 0 []) fun a =>
        (a.tenant 0).state == .stopped && a.slot.isNone)
    ∧ (asks 0x0307 1 true .E false (host .standby) (ask 0 []) fun _ => true)
    ∧ ([false, true].all fun last => asks 0x030E 2 false .OL false (host .lantern) (ask 0xFFFF (chunk 0 4 last)) fun a =>
        (match chunkOf (chunk 0 4 last) with | .ok k => k.select == 0 && k.last == last && ((⟨9, [], false⟩ : Loading).add k).isOk | .error _ => false)
          && !a.pairUpdate && a.lantern.loading.isNone && (a.judgeLantern { loadable with tasks := [(0, { attr with taskClass := 2, cycle := 100000 })] }).isOk && !(a.judgeLantern version).isOk) := by
  decide +kernel

/-- The tenant that runs a version which passes its checks. -/
def changing (f : Change → Change) : State :=
  { host .owner with
    tenants := [(0, { tenant with version := some loadable, image := 0 })], tasks := [(1, { task with attr := { attr with taskClass := 1 } })]
    change := f { changeReset with state := 1, tenant := 0, session := 9, mapBytes := [(0, be 4 1 ++ be 4 0 ++ be 4 0 ++ be 4 2)] } }

theorem test_ChangeCommands :
    (asks 0x0308 2 true .O false (host .owner) (ask 0 []) fun a => a.change.state == 0 && a.slot.isNone)
    ∧ (asks 0x0308 2 true .O false { host .owner with slot := some ⟨1, .a, 4⟩ } (ask 0 []) fun a => a.change.state == 0 && a.slot.isSome)
    ∧ ([0, 1].all fun k => asks 0x0309 2 true .O false (changing id) (ask 0 (chunk k 4 true)) fun a =>
        (match chunkOf (chunk k 4 true) with | .ok c => c.select == k && (addChunk a.change.versionBytes a.change.versionLast c).isOk | .error _ => false)
          && a.change.state == 1 && a.change.tenant == 0 && !a.changeChecks)
    ∧ (asks 0x030A 2 true .O false (changing id) (ask 0 []) fun a => a.change.state == 1 && a.change.tenant == 0 && !a.changeChecks
        && [({ loadable with versionId := 2 }, true), ({ loadable with versionId := 2, sizeM := 1 }, false)].all fun v =>
          (a.judgeChange 0 v.1 (wordsOf (assemble a.change.mapBytes)) []).isOk == v.2)
    ∧ ([0, 20000000, 600000000000].all fun t => asks 0x030B 2 true .O false (changing fun c => { c with state := 2 }) (ask 0 (be 8 t)) fun a =>
        decide (t = 0 ∨ (t % 50000 = 0 ∧ a.clk.ring + 20000000 ≤ t ∧ t ≤ a.clk.ring + 600000000000)) && a.change.state == 2 && a.change.tenant == 0)
    ∧ ([5000000, 4999999].all fun t => asks 0x030C 2 true .O false (changing fun c => { c with state := 3, switchAt := t }) (ask 0 []) fun a =>
        a.change.state == 3 && a.checks.isEmpty && (decide (a.clk.ring + 5000000 ≤ a.change.switchAt) || decide (a.change.switchAt < a.clk.ring + 5000000)))
    ∧ (asks 0x030D 1 true .E false (host .standby) (ask 0 []) fun _ => true) := by decide +kernel

/-- One item: words `index` to `index + n - 1` of an area, with the values of a write. -/
def item (area n index : Nat) (values : List Byte) : List Byte := be 2 1 ++ [0, 0] ++ be 1 area ++ [0] ++ be 2 n ++ be 4 index ++ values

/-- A channel of the local digital outputs, as a signal. -/
def doSignal : Word := 0x40031000

theorem test_ProcessCommands :
    ([(0x0401, 0), (0x0402, 0), (0x0402, 2)].all fun p =>
      asks p.1 1 true .E false (host .standby) { ask 0 (item 2 1 63 []) with flags := p.2 } fun a =>
        (match itemsOf false (item 2 1 63 []) with
          | .ok is => ((a.tenant 0).reaches is).isOk && (a.tenant 0).version.isSome && (a.firstDenial 0 (a.privOf 9) 0 is).isNone
          | .error _ => false))
    ∧ (asks 0x0403 1 true .O false (host .owner) (ask 0 (item 2 1 63 [0, 0, 0, 1])) fun a =>
        (match itemsOf true (item 2 1 63 [0, 0, 0, 1]) with
          | .ok is => (is.find? fun i => i.area != 2).isNone && ((a.tenant 0).reaches is).isOk && a.change.state == 0
              && (a.firstDenial 0 (a.privOf 9) 1 is).isNone
          | .error _ => false))
    ∧ (asks 0x0404 2 false .O false (host .owner) (ask 0xFFFF (be 2 1 ++ [0, 0] ++ be 4 doSignal.toNat ++ be 4 1 ++ be 1 0 ++ [0, 0, 0])) fun a =>
        (a.setResults a.forcedAfter [(doSignal, 0)]).all (· == 0) && a.change.state == 0)
    ∧ (asks 0x0405 2 false .O false (host .owner) (ask 0xFFFF (be 2 1 ++ [0, 0] ++ be 4 doSignal.toNat)) fun a =>
        !a.signalAbsent doSignal && (a.signalKind doSignal).isSome && a.change.state == 0)
    ∧ (asks 0x0406 2 false .O false (host .owner) (ask 0xFFFF []) fun a => a.change.state == 0)
    ∧ (asks 0x0407 1 false .E false (host .standby) (ask 0xFFFF [0, 0, 255, 255]) fun _ => true) := by decide +kernel

/-- Ring 3 with an active station 255. -/
def stationDemo (m : ModState) : State :=
  (host m).modRing 3 fun r => { r with stations := List.replicate 256 { (host m).station 3 0 with state := .active } }

theorem test_RingCommands :
    (asks 0x0501 1 false .E false (host .standby) (ask 0xFFFF [3, 0, 0, 0]) fun a =>
      decide (3 < Config.rings a.ident.variant) && (a.gateCheck ⟨13, 0, 0, a.privOf 9, none⟩).isNone)
    ∧ ([(false, 0), (true, 1)].all fun q =>
        let p : List Byte := be 4 0 ++ be 2 4 ++ be 1 3 ++ be 1 q.2 ++ be 2 1 ++ be 2 0
        asks 0x0502 2 false .O false (host .owner) (ask 0xFFFF p) fun a =>
          match chunkOf p with
          | .ok c => field p 6 1 == c.select && decide (c.select < Config.rings a.ident.variant) && c.select == 3 && !a.pairUpdate && c.last == q.1
              && (a.ring 3).loading.isNone
              && (match (⟨9, [], false⟩ : Loading).add c with
                  | .ok l => (match stationTable (assemble l.chunks) with
                      | .ok t => decide (t.length + a.stationsElsewhere 3 ≤ Config.stations a.ident.variant) && a.tableKeeps 3 t
                      | .error _ => false)
                  | .error _ => false)
          | .error _ => false)
    ∧ (asks 0x0503 1 false .E false (host .standby) (ask 0xFFFF [3, 255, 0, 0]) fun _ => true)
    ∧ ([(ModState.owner, 1), (.owner, 3), (.standby, 1), (.standby, 3)].all fun q =>
        asks 0x0504 1 false .E false (stationDemo q.1) (ask 0xFFFF ([3, 255, 0, 0] ++ be 1 q.2 ++ [0, 0, 0, 4, 0, 0, 0])) fun a =>
          (a.station 3 255).state == .active && a.owns == (q.1 == .owner) && acyclicPriv q.2 == 1)
    ∧ (asks 0x0504 1 false .E false (host .owner) (ask 0xFFFF [3, 255, 0, 0, 1, 0, 0, 0, 4, 0, 0, 0]) fun a => (a.station 3 255).state != .active)
    ∧ (asks 0x0504 2 false .E false (stationDemo .owner) (ask 0xFFFF [3, 255, 0, 0, 2, 0, 0, 0, 0, 1, 0, 0, 7, 0, 0, 0]) fun a =>
        (a.station 3 255).state == .active && a.owns)
    ∧ (let s := { host .owner with acyc := [(7, { acyc 0 0 with ticket := some ⟨1, 9, 0, 0xFFFF, 0x0504⟩ })] }
       (s.acyclicOf 9 0).isSome = true ∧ (asks 0x0505 1 false .E false s (ask 0xFFFF [0, 0, 0, 0]) fun a => (a.acyclicOf 9 0).isSome) = true) := by
  decide +kernel

theorem test_PairAndTimeCommands_pair :
    (asks 0x0601 1 false .E false (host .standby) (ask 0xFFFF []) fun _ => true)
    ∧ ([(false, false), (true, false), (true, true)].all fun q =>
        let s := ((host .lantern).modLantern fun l => { l with bringupComplete := true, removedSince := q.1, record := some ((host .lantern).front.slotId, .a) }).modReader
          fun x => { x with present := if q.2 then some ⟨7, 2, 99, 99⟩ else none }
        asks 0x0602 2 false .OL false s (ask 0xFFFF []) fun a =>
          a.mode == .lantern && a.lantern.bringupComplete && !a.heldBack && !a.ownerSeen && a.mayOwn && a.keyNeeded == q.1 && a.keyAt 2 == q.2)
    ∧ (asks 0x0603 2 false .O false ((host .owner).modPair fun p => { p with peerHealth := 0x22, peerHealthy := true }) (ask 0xFFFF []) fun a =>
        a.mode == .owner && a.mayHandOver && a.pair.handover.isNone)
    ∧ (asks 0x0604 2 false .E false (host .standbyFaulted) (ask 0xFFFF []) fun a => a.mode == .standbyFaulted && !a.causePersists)
    ∧ ([ModState.standby, .owner].all fun m =>
        asks 0x0606 2 false .E false ((host m).modPair fun p => { p with peerHealth := 0x22, synchronised := true }) (ask 0xFFFF []) fun a =>
          a.slot.isNone && a.settings.quiesced.isEmpty && a.pair.peerQuiesced.isEmpty && a.pair.synchronised && !a.solo && a.peerStandbySync)
    ∧ (asks 0x0701 1 false .E false (host .standby) (ask 0xFFFF []) fun _ => true)
    ∧ ([0, 2 ^ 63].all fun m => asks 0x0605 2 false .E false (host .standby) (ask 0xFFFF (be 8 m)) fun _ =>
        (BitVec.ofNat 64 (field (be 8 m) 0 8) &&& ~~~ackBits == 0) == (m == 0)) := by decide +kernel
theorem test_PairAndTimeCommands_time :
    ([0, 1].all fun d => asks 0x0702 1 false .E false (host .standby) (ask 0xFFFF [BitVec.ofNat 8 d, 0, 0, 0]) fun a => a.ident.variant != .nk920)
    ∧ ([false, true].all fun v => asks 0x0703 2 false .E false ((host .owner).modTime fun x => { x with plantValid := v }) (ask 0xFFFF (be 8 5)) fun a =>
        a.time.plantValid == v)
    ∧ ([0, 1000000, 86400000000000].all fun t => asks 0x0704 2 false .O false (host .owner) (ask 0xFFFF ([15, 1, 1, 0] ++ be 8 9 ++ be 8 t)) fun _ =>
        field ([15, 1, 1, 0] ++ be 8 9 ++ be 8 t) 12 8 == t)
    ∧ (asks 0x0705 1 false .E false (host .standby) (ask 0xFFFF [15, 0, 0, 0]) fun a => (a.time.alarms[15]?).isSome) := by decide +kernel

theorem test_LocalAndCanCommands_local :
    (asks 0x0801 1 false .E false (host .standby) (ask 0xFFFF []) fun a =>
      a.ident.variant == .nk960 && (a.gateCheck ⟨13, 0, 0, a.privOf 9, none⟩).isNone)
    ∧ (let p : List Byte := [1, 3] ++ be 2 6 ++ be 2 1 ++ [0, 0, 9, 0, 0, 0]
       let q : HartReq := ⟨1, 3, 6, [9]⟩
       [(0, true), (0, false), (3, false), (4, false)].all fun k =>
        asks 0x0802 2 false .O false (set 0x33 3 3 1 (set 0x33 1 3 1 ((host .owner).modHart 11 fun h =>
            { h with held := if k.2 then [(q, 0, [], 5)] else [], queue := List.replicate k.1 (tx 0 none) }))) (ask 0xFFFF p) fun a =>
          (a.gateCheck ⟨13, 0, 1, a.privOf 9, none⟩).isNone && q.ch == 11 && a.hartOn q && !a.hartFault q
            && decide ((a.hartCh q.ch).queue.length = k.1)
            && ((a.hartCh q.ch).held.find? fun x => x.1 == q && decide (a.clk.local_ < x.2.2.2)).isSome == k.2) := by decide +kernel

/-- CAN controller 3 beside an open session. -/
def hostCan (m : ModState) (on : Bool) (f : CanCtl → CanCtl) : State :=
  ((host m).modCrossing 0x23 fun c => { c with stopped := false }).modCan 3 fun c => f { c with state := if on then 1 else 0, serving := true }

/-- Controller 3 quiesced by session 9. -/
def canQuiet : State := { hostCan .owner false id with settings := (quiesced .owner 0x23).settings }

theorem test_LocalAndCanCommands_can :
    (let may := fun (a : State) kind => (a.canThere 3).isOk && (a.gateCheck ⟨13, 0, kind, a.privOf 9, none⟩).isNone
     (asks 0x0901 1 false .E false (host .standby) (ask 0xFFFF [3, 0, 0, 0]) fun a => may a 0)
     ∧ (asks 0x0902 2 false .E false canQuiet (ask 0xFFFF ([3, 0] ++ be 2 511 ++ be 2 1 ++ [0, 0] ++ be 4 5 ++ be 4 5)) fun a =>
         may a 1 && a.isQuiesced 0x23 && !filterBad 5 5)
     ∧ (asks 0x0903 1 false .E false (host .standby) (ask 0xFFFF ([3, 0] ++ be 2 511 ++ be 2 1 ++ [0, 0])) fun a => may a 0)
     ∧ ([false, true].all fun on =>
         asks 0x0904 2 false .O false (hostCan .owner on id) (ask 0xFFFF ([3, 0, 0, 0] ++ be 4 2047 ++ [1, 0, 0, 0, 7, 0, 0, 0])) fun a =>
           may a 1 && canLength false 1 && a.canRuns 3 == on && a.canSetting 3 2 == 0
             && decide (((a.ctl 3).sending.filter fun x => x.ticket.isSome).length < 64))
     ∧ (asks 0x0905 1 false .E false (host .standby) (ask 0xFFFF [3, 7, 0, 64]) fun a => may a 0)
     ∧ (asks 0x0906 2 false .E false canQuiet (ask 0xFFFF ([3, 0, 0, 0, 1, 64, 0, 0] ++ be 4 0 ++ be 4 2040 ++ be 4 0)) fun a =>
         may a 1 && powers64.contains 64 && a.isQuiesced 0x23)) := by decide +kernel

/-- A key of privilege 2 is present. -/
def withKey (k : Bool) (s : State) : State := s.modReader fun r => { r with present := if k then some ⟨7, 2, 99, 99⟩ else none }

/-- A certificate of this module under an authority on curve 1. -/
def moduleCert : List Byte :=
  [1, 1, 3, 0] ++ be 4 4 ++ be 4 0 ++ be 4 9 ++ be 2 0 ++ be 2 0 ++ [0, 1, 0, 0] ++ serialSubject 0 ++ List.replicate (curveBytes 1) 0
    ++ List.replicate (curveBytes 1) 0

theorem test_SecurityCommands_gates :
    (asks 0x0A01 2 false .E false (host .standby) (ask 0xFFFF [15, 64, 1, 0]) fun _ => true)
    ∧ ([31, 32].all fun i =>
        let p : List Byte := [15] ++ be 1 i ++ [0, 0] ++ be 4 0 ++ be 4 1 ++ be 4 0 ++ be 4 8
        asks 0x0A02 2 false .O false (host .owner) (ask 0xFFFF p) fun a =>
          let e : GateEnt := ⟨field p 4 4, field p 8 4, field p 12 4 % 512, field p 12 4 / 512, field p 16 4 % 4096,
                              field p 16 4 / 4096 % 2 == 1, field p 16 4 / 8192 == 1⟩
          (gateEntryBad 15 e).isNone && !a.pairUpdate
            && (i == 31 || (!((NMap.get (a.hostAfter 15 false) i).getD GateEnt.none).lock
                  && !((a.hostAfter 15 false).any fun x => x.1 != i && x.2.meets e)))) := by decide +kernel
theorem test_SecurityCommands_keys :
    ([false, true].all fun k => [1, 2].all fun c =>
        asks 0x0A03 2 false .EL true (withKey k (host .lantern)) (ask 0xFFFF (be 1 c ++ [0, 0, 0] ++ List.replicate (curveBytes c) 0)) fun a => a.keyAt 2 == k)
    ∧ (asks 0x0A04 2 false .EL true (withKey true ((host .owner).modKeys fun k => { k with authority := some (1, []) })) (ask 0xFFFF moduleCert) fun a =>
        (match takeCert moduleCert with
          | some (x, []) => x.format == 1 && x.kind == 3 && x.privMax == 0 && x.subject == serialSubject a.ident.serial && x.key == a.keys.staticKey
              && (a.keys.authority.map (·.1)) == some x.issuerCurve
          | _ => false) && a.keyAt 2 && decide (56 ≤ moduleCert.length) && field moduleCert 22 2 == 0 && decide (field moduleCert 20 1 < 2))
    ∧ ([[5], []].all fun ws => asks 0x0A05 2 false .O false (withKey true ((host .owner).modKeys fun k => { k with revoked := ws })) (ask 0xFFFF (be 4 5)) fun a =>
        a.keyAt 2 && (decide (BitVec.ofNat 32 5 ∈ a.keys.revoked)) == !ws.isEmpty && decide (a.keys.revoked.length + a.keys.revoking.length < 1024))
    ∧ ([false, true].all fun k => asks 0x0A06 1 false .EL true (withKey k (host .lantern)) (ask 0xFFFF []) fun a =>
        (a.gateCheck ⟨12, 0, 0, a.privOf 9, none⟩).isNone && (match a.reader.present with | some x => k && decide (a.clk.local_ < x.until_) | none => !k)) := by
  decide +kernel

/-- Session 9 writes an update. -/
def updating (m : ModState) (f : Update → Update) : State :=
  { host m with update := f { updateReset with state := 2, session := some 9 } }

/-- A manifest that bridges from generation 0. -/
def bridging : List Byte := List.replicate 2596 0

theorem test_UpdateAndAlmanacCommands_update :
    ([ModState.owner, .lantern, .joining].all fun m => asks 0x0B01 2 false .EL false (host m) (ask 0xFFFF []) fun a => a.updateFree.isOk)
    ∧ (asks 0x0B02 2 false .EL false (updating .owner id) (ask 0xFFFF (chunk 0 4 true)) fun a =>
        (match chunkOf (chunk 0 4 true) with | .ok k => decide (k.select ≤ 7) && (a.update.stage k).isOk | .error _ => false) && (a.updateMine 9).isOk)
    ∧ (asks 0x0B03 2 false .EL false (updating .owner id) (ask 0xFFFF []) fun a => (a.updateMine 9).isOk)
    ∧ (asks 0x0B04 2 false .EL false (updating .standby id) (ask 0xFFFF [0, 0, 0, 0]) fun a =>
        a.update.state == 2 && (a.updateMine 9).isOk && a.settings.quiesced.isEmpty && a.pair.peerQuiesced.isEmpty && a.soleMayUpdate
          && decide (a.ident.generation ≤ a.update.targetGen) && !a.owns)
    ∧ ([1, 2].all fun n => asks 0x0B05 2 false .EL false (updating .owner fun u => { u with state := n }) (ask 0xFFFF []) fun a => a.update.state == n)
    ∧ (asks 0x0B06 1 false .EL false (host .lantern) (ask 0xFFFF []) fun _ => true) := by decide +kernel
theorem test_UpdateAndAlmanacCommands_almanac :
    (let may := fun (a : State) => (a.gateCheck ⟨11, 0, 0, a.privOf 9, none⟩).isNone
     (asks 0x0C01 1 false .EL false (host .lantern) (ask 0xFFFF (be 8 0 ++ be 2 255 ++ [0, 0])) may)
     ∧ ([false, true].all fun k => asks 0x0C02 2 false .E false (withKey k (host .standby)) (ask 0xFFFF [0, 0, 0, 0]) fun a => a.keyAt 2 == k)
     ∧ (asks 0x0C03 1 false .E false (host .standby) (ask 0xFFFF []) may)) := by decide +kernel

theorem test_DiagnosticsCommands :
    ([(255, 1), (256, 0), (255, 2)].all fun q => asks 0x0D01 1 false .E false (host .standby) (ask 0xFFFF (be 2 q.1 ++ be 2 q.2)) fun _ =>
        decide (field (be 2 q.1 ++ be 2 q.2) 0 2 + field (be 2 q.1 ++ be 2 q.2) 2 2 = q.1 + q.2))
    ∧ ([(254, true), (255, false), (255, true)].all fun q =>
        let cs := (host .standby).counters.set 254 { ((host .standby).counters[254]?).getD ⟨0, 0, false⟩ with chained := q.1 == 255 && q.2 }
        asks 0x0D02 2 false .E false { host .standby with counters := cs } (ask 0xFFFF (be 2 q.1 ++ be 2 0x5001 ++ be 1 (if q.1 == 254 then 1 else 0) ++ [0, 0, 0])) fun a =>
          Config.counterSource a.ident.variant 0x5001 && chainedOdd a.counters q.1 == (q.1 == 255 && q.2))
    ∧ ([2048, 2055, 1, 2].all fun n => asks 0x0D03 1 false .E false (host .standby) (ask 0xFFFF (be 2 n ++ [0, 0])) fun a => (a.task n).isSome == (n == 1))
    ∧ (asks 0x0D04 1 false .E false (host .standby) (ask 0xFFFF [15, 0, 0, 0]) fun _ => true)
    ∧ ([0, 511].all fun t => asks 0x0D05 1 true .E false (host .standby) (ask t [0, 1, 0, 0]) fun a => ((a.task 1).map (·.tenant == t)) == some (t == 0))
    ∧ (asks 0x0D06 2 true .E false (host .standby) (ask 511 []) fun a =>
        (a.tenant 511).slot.isEmpty && (a.gateCheck ⟨15, 127, 0, a.privOf 9, some 511⟩).isNone)
    ∧ (asks 0x0D07 1 false .E false (host .standby) (ask 0xFFFF [0, 0, 0, 0]) fun a => decide (0 < Config.tags a.ident.variant)) := by decide +kernel

/-- A debug session of tenant 0 with its breakpoints. -/
def debugging (inCycle : Bool) (breaks : List (Nat × Nat)) : State :=
  { host .standby with dbg := some { session := 9, tenant := 0, halted := true, task := 1, start := if inCycle then some task else none, step := none, leaving := false, lane := task.lane0, breaks := breaks, copy := [], inputs := [], copied := true, refreshed := none, closing := [] } }

theorem test_DebugCommands :
    ([false, true].all fun k => asks 0x0D08 2 true .SB false (withKey k (host .standby)) (ask 0 []) fun a =>
      a.slot.isNone && a.dbg.isNone && (a.tenant 0).version.isSome && a.keyAt 2 == k)
    ∧ ([(true, []), (false, []), (false, [(1, 0)]), (false, List.replicate 15 (2, 0)), (false, List.replicate 16 (2, 0))].all fun q => [1, 2, 3, 4, 5].all fun op =>
        asks 0x0D09 2 true .SB false (debugging q.1 q.2) (ask 0 (be 1 op ++ [0] ++ be 2 1 ++ be 4 0)) fun a =>
          (match a.debugOf (ask 0 []) with | .ok d => d.inCycle == q.1 && d.breaks == q.2 | .error _ => false)
            && has (a.task 1) (fun t => t.tenant == 0) && has (a.tenant 0).version fun v => decide (0 < v.code.length))
    ∧ ([(0, 99), (2, 63), (5, 63)].all fun q => asks 0x0D0A 2 true .SB false (debugging true []) (ask 0 (be 1 q.1 ++ [0] ++ be 2 1 ++ be 4 q.2)) fun a =>
        (a.debugOf (ask 0 [])).isOk && (q.1 == 0 && decide (q.2 + 1 ≤ 100) ||
          decide (q.2 + 1 ≤ (a.tenant 0).windowBytes (q.1 - 1) / 4) && (a.copyDenial (ask 0 []) (a.tenant 0) 0 (q.1 - 1) q.2 1).isNone))
    ∧ ([1, 4].all fun area => asks 0x0D0B 2 true .SB false (debugging true []) (ask 0 (be 1 area ++ [0] ++ be 2 1 ++ be 4 63 ++ be 4 5)) fun a =>
        (a.debugOf (ask 0 [])).isOk && decide (4 * (63 + 1) ≤ (a.tenant 0).windowBytes area)
          && (a.copyDenial (ask 0 []) (a.tenant 0) 1 area 63 1).isNone)
    ∧ (asks 0x0D0C 2 true .SB false (debugging true []) (ask 0 []) fun a => (a.debugOf (ask 0 [])).isOk)
    ∧ (asks 0x0D0C 2 true .SB false (host .standby) (ask 0 []) fun a => a.dbg.isNone) := by decide +kernel

/-! ### The machine -/

/-- A manifest whose one bridged generation is 0. -/
def bridged : State :=
  { updating .owner fun u => { u with manifest := [(0, be 2 1 ++ be 2 0 ++ be 4 0 ++ be 2 1 ++ be 2 0 ++ List.replicate 440 0)], manifestDone := true } with
    pair := { (host .owner).pair with peerHealth := 0x22, peerHealthy := true } }

theorem test_UpdateAndAlmanacCommands_pair :
    (asks 0x0B04 2 false .EL false bridged (ask 0xFFFF [1, 0, 0, 0]) fun a =>
      a.update.state == 2 && (a.updateMine 9).isOk && a.settings.quiesced.isEmpty && a.pair.peerQuiesced.isEmpty && a.pairMayUpdate
        && decide (a.ident.generation ≤ a.update.targetGen)) = true := by decide +kernel

/-- The outcome is a next state with a property. -/
def goes (o : Host.Outcome State Fault Refusal) (p : State → Bool) : Bool :=
  match o with
  | .next t => p t
  | _ => false

theorem test_StepTakesFront :
    (let s : State := { demo with pending := [.healthyPresent, .lampTestEnd] }; s.pending = .healthyPresent :: [.lampTestEnd])
    ∧ (demo.pending = [] ∧ demo.nextWaiting = none)
    ∧ (let w : Waiting := ⟨0x0101, req 9 2 0xFFFF [], .none⟩
       (sessDemo .owner { answered (some ⟨0, 9, 1, 0xFFFF, 0x0101, 0, true, []⟩) with waiting := [w] }).nextWaiting.isSome = true) := by decide +kernel
theorem test_QueueInOrder :
    goes (step { demo with pending := [.healthyPresent, .lampTestEnd] }) (fun t => decide (t.pending.length = 1) && t.pair.peerHealthy) = true := by
  decide +kernel
theorem test_ImageCanonicalKept :
    Cells.wf demo.image.base = true
    ∧ goes (step { demo with pending := [.fireMatchTimeout 5] }) (fun t => Cells.wf t.image.base) = true := by decide +kernel
theorem test_VcoreRangeKept :
    ([0, 40].all fun c =>
      let s := demo.modVcore fun v => { v with code := c, regOn := true }
      decide (700 ≤ s.setPoint ∧ s.setPoint ≤ 900)
        && goes (exec (.vcoreRegulatorStep 5) s) fun u => decide (u.setPoint = s.setPoint ∨ u.setPoint = s.setPoint + 5 ∨ u.setPoint + 5 = s.setPoint)) = true := by
  decide +kernel
theorem test_EngineFrame :
    (engineOf (.opLdk ⟨1, 0⟩ 5)).isSome = true ∧ leavesImage .healthyPresent = true ∧ goes (exec .healthyPresent demo) (fun t => t.pair.peerHealthy) = true
    ∧ goes (exec (.opLdk ⟨1, 0⟩ 5) demo) (fun t => has (t.task 1) fun u => u.lane0.regs.wacc == 5) = true := by decide +kernel
theorem test_SequenceRule :
    (let x := answered (some ⟨0, 9, 1, 0xFFFF, 0x0101, 0, true, []⟩)
     x.ready ≠ some 1 ∧ x.ready = none ∧ x.judge (req 9 2 0xFFFF []) = none ∧ x.judge (req 9 1 0xFFFF []) ≠ none
     ∧ (x.stored.find? fun d => d.seq == 1 && d.tag == 5).isSome = true
     ∧ (∀ d ∈ x.stored, ¬ (d.seq = 1 ∧ d.tag = 6)) ∧ x.judge { req 9 1 0xFFFF [] with tag := 6 } ≠ none
     ∧ ({ x with highest := 64 } : Session).judge (req 9 0 0xFFFF []) ≠ none
     ∧ ({ x with highest := 64 } : Session).judge (req 9 2 0xFFFF []) = none)
    ∧ (let s := sessDemo .owner (answered none)
       let r := ask 0xFFFF []
       s.session 9 = some (answered none) ∧ s.up = true ∧ s.mode ≠ .seated ∧ s.mode ≠ .unseated ∧ 36 ≤ r.udpLen ∧ r.udpLen ≤ 16384
       ∧ r.udpLen = r.length ∧ r.version = 2 ∧ r.flags % 2 = 0 ∧ r.session ≠ 0 ∧ r.tagOk = true ∧ (answered none).isOpen = true
       ∧ (answered none).judge r = some (.again none)) := by decide +kernel
/-- Words of R98's formats: LD Q0, LDK's extension word, an opcode of no instruction. -/
theorem test_decodeProgramWord :
    decodeProgramWord ⟨1, 0⟩ 0x00200000 0 = .opLd ⟨1, 0⟩ 0x200000 ∧ decodeProgramWord ⟨1, 0⟩ 0x44400007 0 = .opAdd ⟨1, 0⟩ 0x400007
    ∧ decodeProgramWord ⟨1, 0⟩ 0x30000000 0 = .undefinedOpcode ⟨1, 0⟩ 0x30 0 := by decide
end Sys2Proof.Tests
end

section
/-! PROOFS. What the events of a planned handover, of a join and of a standby's self-tests do (R353, R357, R358, R364 to R369, R373 to R375): one
lemma for each outcome of an event. -/
namespace Sys2Proof.Machine

/-! ### A planned handover, at the standby -/

/-- R364. -/
theorem exec_handoverProposal_acknowledged {s : State} {h : Nat} (epoch : Nat) (hmode : s.mode = .standby) (hup : s.up = true) (hh : h ≠ 0)
    (hlever : s.front.leverOpen = false) :
    exec (.handoverProposal h epoch) s = .next ((s.modPair fun p =>
      { p with stored := max p.stored epoch, handover := some ⟨h, epoch, true, if p.holdoffDue then .revert else .command, false, none⟩ }).send 3
        (.handoverAck epoch)) := by
  change execHandoverProposal h epoch s = _
  simp [execHandoverProposal, hmode, hup, hh, hlever]

/-- A proposal for instant 0 takes back the one before it (log 54). -/
theorem exec_handoverProposal_withdrawn {s : State} (epoch : Nat) (hmode : s.mode = .standby) (hup : s.up = true) :
    exec (.handoverProposal 0 epoch) s = .next (s.modPair fun p => { p with handover := none, holdoffDue := false }) := by
  change execHandoverProposal 0 epoch s = _
  simp [execHandoverProposal, hmode, hup]

theorem exec_handoverProposal_unless_standby {s : State} (h epoch : Nat) (hs : s.mode ≠ .standby ∨ s.up = false) :
    exec (.handoverProposal h epoch) s = .next s := by
  change execHandoverProposal h epoch s = _
  have hguard : s.mode ≠ .standby ∨ ¬ s.up = true := by simpa using hs
  rw [execHandoverProposal, if_pos hguard]

/-- R369: the hold-off has ended, and the return waits for the slot. -/
theorem exec_revertHoldoffExpiry_waits {s : State} {t : Nat} (ht : s.pair.holdoffFrom = some t) (hmode : s.mode = .standby)
    (hended : t + s.settingNat 0x60 4 0 * 1000000000 ≤ s.clk.local_) (hdue : s.pair.holdoffDue = false) (hslot : s.slot.isSome = true) :
    exec .revertHoldoffExpiry s = .next (s.modPair fun p => { p with holdoffDue := true }) := by
  change execRevertHoldoffExpiry s = _
  have hwindow : t + s.settingNat 0x60 4 0 * 1000000000 ≤ s.clk.local_ + 50000 := by omega
  obtain ⟨x, hx⟩ := Option.isSome_iff_exists.mp hslot
  simp [execRevertHoldoffExpiry, ht, hmode, hwindow, hdue, hx]

/-! ### A planned handover, proposed -/

section
variable {s : State} {h : Handover} (hh : s.pair.handover = some h)
include hh

/-- R364: the owner writes the epoch that the standby acknowledges. -/
theorem exec_handoverAck_owner (hmode : s.mode = .owner) :
    exec (.handoverAck h.epoch) s = .next (s.modPair fun p =>
      { p with stored := max p.stored h.epoch, handover := some { h with acked := true } }) := by
  change execHandoverAck h.epoch s = _
  simp [execHandoverAck, hh, hmode]

theorem exec_handoverTick_owner (hack : h.acked = true) (htick : h.h ≤ s.clk.ring) (hmode : s.mode = .owner) :
    exec .handoverTick s = .next (s.giveOwnership h) := by
  change execHandoverTick s = _
  simp [execHandoverTick, hh, hack, Nat.not_lt.mpr htick, hmode]

theorem exec_handoverTick_standby (hack : h.acked = true) (htick : h.h ≤ s.clk.ring) (hmode : s.mode = .standby) :
    exec .handoverTick s = .next (s.becomeOwner h.epoch h.cause true).updateSwapped := by
  change execHandoverTick s = _
  simp [execHandoverTick, hh, hack, Nat.not_lt.mpr htick, hmode]

theorem exec_handoverTick_early (hearly : h.acked = false ∨ s.clk.ring < h.h) : exec .handoverTick s = .next s := by
  change execHandoverTick s = _
  have hguard : (!h.acked || decide (s.clk.ring < h.h)) = true := by simpa using hearly
  simp only [execHandoverTick, hh, hguard, if_true]

/-- R364 and R365: 100 µs before its tick, a handover that is not acknowledged is taken back. -/
theorem exec_handoverCancel_unacknowledged (hmode : s.mode = .owner) (hack : h.acked = false) (hdue : h.h ≤ s.clk.ring + 100000) :
    let a := ((s.modPair fun p => { p with handover := none }).finishOpt h.ticket 11 errorPlain).send 3 (.handover 0 h.epoch)
    exec .handoverCancel s = .next (if h.leave then a.leverRefuse else a) := by
  change execHandoverCancel s = _
  simp [execHandoverCancel, hh, hmode, hack, Nat.not_lt.mpr hdue]

end

/-! ### A join, at the owner -/

/-- R353 and R357, of a module of the owner's kind (R8). -/
theorem exec_joinRequest_accepted {s : State} (stored : Nat) {id : PeerIdent} (hmode : s.mode = .owner) (hsolo : s.solo = false)
    (hkind : pairs s.identity id = true) :
    exec (.joinRequest ⟨stored, id⟩) s = .next ((s.modPair fun p =>
      { p with
        join := some ⟨s.clk.local_, some s.clk.local_, true, none⟩
        raiseTo := if p.epoch ≤ stored then some stored else p.raiseTo }).send 4 .stateTransfer) := by
  change execJoinRequest ⟨stored, id⟩ s = _
  simp [execJoinRequest, hmode, hsolo, hkind]

theorem exec_joinRequest_other_kind {s : State} (stored : Nat) {id : PeerIdent} (hkind : pairs s.identity id = false) :
    exec (.joinRequest ⟨stored, id⟩) s = .next s := by
  change execJoinRequest ⟨stored, id⟩ s = _
  simp [execJoinRequest, hkind]

/-! ### A join, at the joining module -/

section
variable {s : State} {j : Join} (hmode : s.mode = .joining) (hj : s.pair.join = some j)
include hmode hj

/-- R357: the static state, before tick J. -/
theorem exec_stateTransfer_static {tr : Transfer} (hsolo : s.solo = false) (hup : s.up = true) (htr : tr.tickJ = none) :
    exec (.stateTransfer tr) s = .next (s.modPair fun p =>
      { p with join := some { j with acceptedAt := some (j.acceptedAt.getD s.clk.local_), static_ := true } }) := by
  change execStateTransfer tr s = _
  simp [execStateTransfer, hsolo, hup, hmode, hj, htr]

/-- R357: the state of tick J is taken over. -/
theorem exec_stateTransfer_tickJ {tr : Transfer} {t : Nat} (hsolo : s.solo = false) (hup : s.up = true) (htr : tr.tickJ = some t) :
    exec (.stateTransfer tr) s = .next ((s.takeTransfer tr).modPair fun p =>
      { p with join := some { j with acceptedAt := some (j.acceptedAt.getD s.clk.local_), static_ := true, tickJ := some t } }) := by
  change execStateTransfer tr s = _
  simp [execStateTransfer, hsolo, hup, hmode, hj, htr]

/-- R45: the margin check has not ended yet. -/
theorem exec_joinComplete_before_margin_check (htick : j.tickJ.isSome = true) (hreg : s.vcore.regOn = false) :
    exec (.joinComplete true) s = .next s := by
  change execJoinComplete true s = _
  obtain ⟨t, ht⟩ := Option.isSome_iff_exists.mp htick
  simp [execJoinComplete, hmode, hj, ht, hreg]

/-- R357: the join is complete, and serials revoked here alone go to the owner (R548). -/
theorem exec_joinComplete_standby (htick : j.tickJ.isSome = true) (hreg : s.vcore.regOn = true) :
    let a : State :=
      { s with
        mode := .standby, cause := .none, saved := none
        pair := { s.pair with
          join := none, joinAborts := 0, synchronised := true, standbySince := some s.clk.local_, linkWasSilent := false } }
    let b := (a.endProof.record 357 1 sevInfo 905 noSource [(4, a.pair.epoch)]).fire 905
    exec (.joinComplete true) s = .next (b.keys.revoked.foldl (fun (s : State) w => s.send 3 (.mirror (.revoke s.clk.ring w))) b) := by
  change execJoinComplete true s = _
  obtain ⟨t, ht⟩ := Option.isSome_iff_exists.mp htick
  simp [execJoinComplete, hmode, hj, ht, hreg]

/-- R84: static stores that differ. -/
theorem exec_joinComplete_differs (htick : j.tickJ.isSome = true) :
    exec (.joinComplete false) s = .next (s.abortJoin fun s => s.toJoining .none) := by
  change execJoinComplete false s = _
  obtain ⟨t, ht⟩ := Option.isSome_iff_exists.mp htick
  simp [execJoinComplete, hmode, hj, ht]

/-- R358: the 10 s since the acceptance are over. -/
theorem exec_joinTimeout_late {a : Nat} (hproof : s.pair.proofTest = false) (ha : j.acceptedAt = some a)
    (hlate : a + 10000000000 ≤ s.clk.local_) : exec .joinTimeout s = .next (s.abortJoin fun s => s.toJoining .none) := by
  change execJoinTimeout s = _
  have hwindow : a + 10000000000 ≤ s.clk.local_ + 50000 := by omega
  simp [execJoinTimeout, hmode, hj, hproof, ha, hwindow]

omit hmode in
/-- R358: the 10 s are not over, the slack of 50 µs included (log 15). -/
theorem exec_joinTimeout_early {a : Nat} (ha : j.acceptedAt = some a) (hearly : s.clk.local_ + 50000 < a + 10000000000) :
    exec .joinTimeout s = .next s := by
  change execJoinTimeout s = _
  simp [execJoinTimeout, hj, ha, Nat.not_le.mpr hearly]

end

/-! ### The self-tests of a standby, and joining again -/

/-- R373: once, 60 s after a fault by a budget overrun or INGRESS-OVERRUN. -/
theorem exec_autoRejoin_rejoins {s : State} {t : Nat} (hmode : s.mode = .standbyFaulted) (hup : s.up = true)
    (hbudget : s.pair.faultBudgetOrIngress = true) (ht : s.pair.faultAt = some t) (hwaited : t + 60000000000 ≤ s.clk.local_)
    (honce : s.pair.autoRejoinAt = none) (hcause : s.causePersists = false) :
    exec (.autoRejoin true) s = .next (s.modPair fun p => { p with autoRejoinAt := some s.clk.local_ }).rejoin := by
  change execAutoRejoin true s = _
  have hwindow : t + 60000000000 ≤ s.clk.local_ + 50000 := by omega
  simp [execAutoRejoin, hmode, hup, hbudget, ht, hwindow, honce, hcause]

theorem exec_autoRejoin_unless_faulted {s : State} (hmode : s.mode ≠ .standbyFaulted) (pass : Bool) :
    exec (.autoRejoin pass) s = .next s := by
  change execAutoRejoin pass s = _
  simp [execAutoRejoin, hmode]

section
variable {s : State} {strand : Nat} (hmode : s.mode = .standby) (hup : s.up = true) (hsleeps : s.sleeps strand = true)
include hmode hup hsleeps

theorem exec_patternTest_pass : exec (.patternTest strand true) s = .next s.selftestPass := by
  change execPatternTest strand true s = _
  simp [execPatternTest, hmode, hup, hsleeps]

theorem exec_patternTest_fail :
    exec (.patternTest strand false) s = .next (s.modPair fun p => { p with patternFail := true }).selftestFail := by
  change execPatternTest strand false s = _
  simp [execPatternTest, hmode, hup, hsleeps]

end

/-- R375: the module joins. -/
theorem exec_proofTestDone_pass {s : State} (hmode : s.mode = .joining) (hproof : s.pair.proofTest = true) :
    exec (.proofTestDone true) s = .next ((s.modPair fun p =>
      { p with proofTest := false, join := some ⟨s.clk.local_, none, false, none⟩ }).send 3 (.joinRequest ⟨s.storedEpoch, s.identity⟩)) := by
  change execProofTestDone true s = _
  simp [execProofTestDone, hmode, hproof]

/-- R375: the module is STANDBY-FAULTED. -/
theorem exec_proofTestDone_fail {s : State} (hmode : s.mode = .joining) (hproof : s.pair.proofTest = true) :
    exec (.proofTestDone false) s =
      .next (((((s.modPair fun p => { p with laneTestFail := true }).endProof).record 374 1 sevFault 908 noSource []).fire 908).toFaulted .selftest) := by
  change execProofTestDone false s = _
  simp [execProofTestDone, hmode, hproof]

/-! ### The obligation -/

/-- Settles O31: each clause is the lemma of its event's outcome. -/
theorem handoverAndJoin : Obligations.HandoverAndJoin := by
  unfold Obligations.HandoverAndJoin
  refine ⟨fun s => ?handover, fun s => ?join⟩
  case handover =>
    refine ⟨?proposal, ?withdrawal, exec_handoverProposal_unless_standby, ?proposed, ?holdoff⟩
    case proposal => exact fun h epoch hmode hup hh hlever => exec_handoverProposal_acknowledged epoch hmode hup hh hlever
    case withdrawal => exact fun epoch hmode hup => exec_handoverProposal_withdrawn epoch hmode hup
    case proposed =>
      exact fun h hh => ⟨exec_handoverAck_owner hh,
        fun hack htick => ⟨exec_handoverTick_owner hh hack htick, exec_handoverTick_standby hh hack htick⟩,
        exec_handoverTick_early hh, exec_handoverCancel_unacknowledged hh⟩
    case holdoff => exact fun t ht hmode hended hdue hslot => exec_revertHoldoffExpiry_waits ht hmode hended hdue hslot
  case join =>
    refine ⟨?request, ?transfer, ?complete, ?timeout, ?rejoin, exec_autoRejoin_unless_faulted, ?pattern, ?proof⟩
    case request =>
      exact fun stored id hmode hsolo => ⟨exec_joinRequest_accepted stored hmode hsolo, exec_joinRequest_other_kind stored⟩
    case transfer =>
      exact fun tr j hsolo hup hmode hj =>
        ⟨exec_stateTransfer_static hmode hj hsolo hup, fun t ht => exec_stateTransfer_tickJ hmode hj hsolo hup ht⟩
    case complete =>
      exact fun j hmode hj htick => ⟨exec_joinComplete_before_margin_check hmode hj htick, exec_joinComplete_standby hmode hj htick,
        exec_joinComplete_differs hmode hj htick⟩
    case timeout =>
      exact fun j a hj hmode hproof ha => ⟨exec_joinTimeout_late hmode hj hproof ha, exec_joinTimeout_early hj ha⟩
    case rejoin =>
      exact fun t hmode hup hbudget ht hwaited honce hcause => exec_autoRejoin_rejoins hmode hup hbudget ht hwaited honce hcause
    case pattern =>
      exact fun strand hmode hup hsleeps => ⟨exec_patternTest_pass hmode hup hsleeps, exec_patternTest_fail hmode hup hsleeps⟩
    case proof =>
      exact fun hmode hproof => ⟨exec_proofTestDone_pass hmode hproof, exec_proofTestDone_fail hmode hproof⟩

end Sys2Proof.Machine
end

section
/-! PROOFS. What the events of an update and of the almanac do (R561, R566, R569, R571, R573 and R577): one lemma for each outcome of an event. -/
namespace Sys2Proof.Machine

/-! ### Activation -/

section
variable {s : State} (hup : s.up = true) (hstate : s.update.state = 3) (hscope : s.update.scopePair = false ∨ s.mode = .standby)
include hup hstate hscope

/-- The guard of ACTIVATION_DONE lets the event through. -/
theorem activationDone_runs : (!s.up || s.update.state != 3 || (s.update.scopePair && s.mode != .standby)) = false := by
  obtain halone | hstandby := hscope
  · simp [hup, hstate, halone]
  · simp [hup, hstate, hstandby]

/-- Parts that were not read back, or a manifest for another variant (R7), end the update. -/
theorem exec_activationDone_fails {ok : Bool} (hfail : ok = false ∨ s.manifestFits = false) :
    exec (.activationDone ok) s = .next (s.endUpdate 7 7) := by
  change execActivationDone ok s = _
  have hends : (!ok || !s.manifestFits) = true := by simpa using hfail
  rw [execActivationDone, activationDone_runs hup hstate hscope, hends]
  rfl

/-- R566 and R573: a module that updates alone. -/
theorem exec_activationDone_alone (hfits : s.manifestFits = true) (halone : s.writeRecord.update.scopePair = false) :
    exec (.activationDone true) s = .next (if s.writeRecord.owns then s.writeRecord.modUpdate fun u => { u with state := 4 }
      else State.restartFor .command (s.writeRecord.endUpdate 6 0)) := by
  change execActivationDone true s = _
  simp [execActivationDone, activationDone_runs hup hstate hscope, hfits, halone]

/-- R569: a module of a pair leaves its partner and restarts. -/
theorem exec_activationDone_pair (hfits : s.manifestFits = true) (hpair : s.writeRecord.update.scopePair = true) :
    let a := s.writeRecord.modUpdate fun u => { u with pairStep := if u.pairStep ≤ 1 then 2 else 5, state := 4, bridge := true }
    exec (.activationDone true) s = .next (((a.silencePorts.releaseLocal.hartLeave false).send 3 .leaving).restart .command) := by
  change execActivationDone true s = _
  simp [execActivationDone, activationDone_runs hup hstate hscope, hfits, hpair]

end

theorem exec_activationDone_unless_activating {s : State} (hstate : s.update.state ≠ 3) (ok : Bool) :
    exec (.activationDone ok) s = .next s := by
  change execActivationDone ok s = _
  simp [execActivationDone, hstate]

/-! ### The handover of a pair's update -/

section
variable {s : State} {t : Nat} (hpair : s.pairUpdate = true) (hmode : s.mode = .owner) (hstep : s.update.pairStep = 3)
  (hfree : s.pair.handover = none) (ht : s.update.retryFrom = some t)
include hpair hmode hstep hfree ht

/-- R571: 600 s of tries end the update. -/
theorem exec_updateHandoverRetry_late (hlate : t + 600000000000 ≤ s.clk.local_) : exec .updateHandoverRetry s = .next (s.endUpdate 7 4) := by
  change execUpdateHandoverRetry s = _
  have hwindow : t + 600000000000 ≤ s.clk.local_ + 50000 := by omega
  simp [execUpdateHandoverRetry, hpair, hmode, hstep, hfree, ht, hwindow]

/-- R571: another try within the 600 s, the slack of 50 µs included (log 15). -/
theorem exec_updateHandoverRetry_tries (hearly : s.clk.local_ + 50000 < t + 600000000000) :
    exec .updateHandoverRetry s = .next s.updateHandover := by
  change execUpdateHandoverRetry s = _
  simp [execUpdateHandoverRetry, hpair, hmode, hstep, hfree, ht, Nat.not_le.mpr hearly]

end

/-! ### The retain image -/

/-- R573: the published state and the tasks that run are kept for the restart. -/
theorem exec_retainImageWrite_keeps {s : State} (hup : s.up = true) (howns : s.owns = true) (hstate : s.update.state = 4)
    (halone : s.update.scopePair = false) :
    exec .retainImageWrite s = .next (State.restartFor .command (((s.modUpdate fun u =>
      { u with retain := some (s.image.fold s.clk.ring).base
               retainTasks := (s.tasks.filter fun e => e.1 != lanternTask && e.2.st == .running).map (·.1) }).record
          573 1 sevInfo noSource noSource []).endUpdate 6 0)) := by
  change execRetainImageWrite s = _
  simp [execRetainImageWrite, hup, howns, hstate, halone]

theorem exec_retainImageWrite_unless_activated {s : State} (hstate : s.update.state ≠ 4) : exec .retainImageWrite s = .next s := by
  change execRetainImageWrite s = _
  simp [execRetainImageWrite, hstate]

/-! ### Chunks that the owner forwards -/

section
variable {s : State} {offset : Nat} {data : List Byte} {last : Bool} (hsolo : s.solo = false) (hmode : s.mode = .standby) (hup : s.up = true)
include hsolo hmode hup

/-- R561: a chunk of an update under way. -/
theorem exec_updateChunkForward_update {select : Nat} {u : Update} (hsel : select ≤ 7) (hstate : s.update.state = 1 ∨ s.update.state = 2)
    (hstage : s.update.stage ⟨offset, select, last, data⟩ = .ok u) :
    exec (.updateChunkForward select offset data last) s = .next { s with update := u } := by
  change execUpdateChunkForward select offset data last s = _
  simp [execUpdateChunkForward, hsolo, hmode, hup, hsel, hstate, hstage]

/-- R238: a chunk of a change's version. -/
theorem exec_updateChunkForward_version {cs : List (Nat × List Byte)}
    (hadd : addChunk s.change.versionBytes s.change.versionLast ⟨offset, 0x100, last, data⟩ = .ok cs) :
    exec (.updateChunkForward 0x100 offset data last) s = .next (s.modChange fun x => { x with versionBytes := cs, versionLast := last }) := by
  change execUpdateChunkForward 0x100 offset data last s = _
  simp [execUpdateChunkForward, hsolo, hmode, hup, hadd]

/-- R238: a chunk of a change's map. -/
theorem exec_updateChunkForward_map {cs : List (Nat × List Byte)}
    (hadd : addChunk s.change.mapBytes s.change.mapLast ⟨offset, 0x101, last, data⟩ = .ok cs) :
    exec (.updateChunkForward 0x101 offset data last) s = .next (s.modChange fun x => { x with mapBytes := cs, mapLast := last }) := by
  change execUpdateChunkForward 0x101 offset data last s = _
  simp [execUpdateChunkForward, hsolo, hmode, hup, hadd]

end

/-! ### The almanac -/

/-- R577: a gap since the last copy is stated in a LOST record. -/
theorem exec_almanacFlashCopy (s : State) (count : Nat) :
    let a : State := { s with almanac := { s.almanac with staged := s.almanac.staged - count, lost := 0 } }
    exec (.almanacFlashCopy count) s = .next (if s.almanac.lost = 0 then a
      else a.record 577 1 sevWarning noSource noSource [(4, s.almanac.lost)]) := rfl

/-! ### The obligation -/

/-- Settles O35: each clause is the lemma of its event's outcome. -/
theorem updateEvents : Obligations.UpdateEvents := by
  unfold Obligations.UpdateEvents
  intro s
  refine ⟨?activation, exec_activationDone_unless_activating, ?retry, exec_retainImageWrite_keeps,
    exec_retainImageWrite_unless_activated, ?chunk, ?changeChunk, exec_almanacFlashCopy s⟩
  case activation =>
    exact fun hup hstate hscope => ⟨exec_activationDone_fails hup hstate hscope (.inl rfl),
      fun hfits => exec_activationDone_fails hup hstate hscope (.inr hfits),
      exec_activationDone_alone hup hstate hscope, exec_activationDone_pair hup hstate hscope⟩
  case retry =>
    exact fun t hpair hmode hstep hfree ht =>
      ⟨exec_updateHandoverRetry_late hpair hmode hstep hfree ht, exec_updateHandoverRetry_tries hpair hmode hstep hfree ht⟩
  case chunk =>
    exact fun select offset data last u hsolo hmode hup hsel hstate hstage =>
      exec_updateChunkForward_update hsolo hmode hup hsel hstate hstage
  case changeChunk =>
    exact fun offset data last cs hsolo hmode hup =>
      ⟨exec_updateChunkForward_version hsolo hmode hup, exec_updateChunkForward_map hsolo hmode hup⟩

end Sys2Proof.Machine
end

section
/-! PROOFS. Ticks (R270, R271), and the starts of cycles while no online change is under way (R15, R67, R70, R71, R94, R96, R97). -/
namespace Sys2Proof.Machine

/-! ### The tick -/

theorem exec_tick_down {s : State} (m : LocalSample) (hup : s.up = false) : exec (.tick m) s = .next s := by
  change execTick m s = _
  simp [execTick, hup]

/-- R271, in its order. -/
theorem exec_tick_up {s : State} (m : LocalSample) (hup : s.up = true) :
    let a := ({ s with pair := { s.pair with handoverPulse := false } } : State).stepLantern
    let b := ((a.publishLocal.toNextTick).steerPlant.sampleLocal m).sampleCan
    exec (.tick m) s = .next ((((b.stepShare.refreshLocal).tickRings).stepTenants).settleCan.sendHeartbeat.stepJoin.stepHoldoff) := by
  change execTick m s = _
  simp only [execTick, hup, Bool.not_true, Bool.false_eq_true, if_false]
  rfl

/-- TB-LOCAL never goes back at a tick: ring time moves forward, and its correction stops at the TB-LOCAL of before. -/
theorem State.local_le_toNextTick (s : State) : s.clk.local_ ≤ s.toNextTick.clk.local_ := by
  simp only [State.toNextTick]
  split
  · omega
  · exact Nat.le_max_left _ _

/-! ### The start that is due -/

/-- R249: no change is ARMED, so none begins to switch. -/
theorem State.switchDue_unarmed {s : State} (h : s.change.state ≠ 3) : s.switchDue = s := by
  simp [State.switchDue, h]

theorem State.removedBy_unswitching {s : State} (h : s.change.state ≠ 4) (t : Task) (m : Nat) : s.removedBy t m = false := by
  simp [State.removedBy, h]

theorem State.nextStart_armed {t : Task} (s : State) (hst : t.st = .armed) : s.nextStart t = (t.start0, 0) := by
  simp [State.nextStart, hst]

theorem State.nextStart_running {s : State} {t : Task} {k : Nat} (hst : t.st = .running) (hk : 0 < k) (hcycles : t.cyclesTo s.clk.ring = k) :
    s.nextStart t = (t.startIn k, t.cycle + k) := by
  have hmax : max 1 k = k := Nat.max_eq_right hk
  simp [State.nextStart, hst, hcycles, hmax]

/-- R67: the last start instant of a task at or before `now`, counted from its present start. -/
theorem Task.cyclesTo_from_start {t : Task} {k now : Nat} (hcycle : 0 < t.attr.cycle) (hbase : t.start0 ≤ t.startAt)
    (hfrom : t.startAt + k * (t.attr.cycle * 1000) ≤ now) (hto : now < t.startAt + (k + 1) * (t.attr.cycle * 1000)) :
    t.cyclesTo now = k := by
  have hp : max 1 (t.attr.cycle * 1000) = t.attr.cycle * 1000 := by omega
  simp only [Task.cyclesTo, hp, Nat.not_lt.mpr hbase, if_false]
  exact Nat.div_eq_of_lt_le (by omega) (by omega)

/-- R249: after a switch to another CYCLE the starts are counted from the meridian start_0. -/
theorem Task.cyclesTo_from_meridian {t : Task} {k now : Nat} (hcycle : 0 < t.attr.cycle) (hk : 0 < k) (hbase : t.startAt < t.start0)
    (hfrom : t.start0 + (k - 1) * (t.attr.cycle * 1000) ≤ now) (hto : now < t.start0 + k * (t.attr.cycle * 1000)) :
    t.cyclesTo now = k := by
  have hp : max 1 (t.attr.cycle * 1000) = t.attr.cycle * 1000 := by omega
  have hdiv : (now - t.start0) / (t.attr.cycle * 1000) = k - 1 :=
    Nat.div_eq_of_lt_le (by omega) (by rw [Nat.sub_add_cancel hk]; omega)
  simp only [Task.cyclesTo, hp, hbase, if_true, hdiv]
  omega

theorem Task.startIn_from_start {t : Task} (k : Nat) (hcycle : 0 < t.attr.cycle) (hbase : t.start0 ≤ t.startAt) :
    t.startIn k = t.startAt + k * (t.attr.cycle * 1000) := by
  have hp : max 1 (t.attr.cycle * 1000) = t.attr.cycle * 1000 := by omega
  simp [Task.startIn, hp, Nat.not_lt.mpr hbase]

theorem Task.startIn_from_meridian {t : Task} (k : Nat) (hcycle : 0 < t.attr.cycle) (hbase : t.startAt < t.start0) :
    t.startIn k = t.start0 + (k - 1) * (t.attr.cycle * 1000) := by
  have hp : max 1 (t.attr.cycle * 1000) = t.attr.cycle * 1000 := by omega
  simp [Task.startIn, hp, hbase]

/-! ### A cycle starts -/

section
variable {s : State} {n : Nat} {t : Task} (ht : s.task n = some t) (hidle : s.change.state ≠ 3) (hswitch : s.change.state ≠ 4)
  (hcomp : s.computes = true) (hfree : t.inCycle = false)
include ht hidle hswitch hcomp hfree

/-- R15: a cyclic task whose next start has come starts that cycle. -/
theorem exec_cycleStart_due {m c : Nat} (hjoin : s.mode ≠ .joining) (hn : n ≠ lanternTask) (hclass : t.attr.taskClass ≠ 3)
    (hst : t.st = .armed ∨ t.st = .running) (hnext : s.nextStart t = (m, c)) (hdue : m ≤ s.clk.ring) :
    exec (.cycleStart n) s = .next (s.startCycle n m c) := by
  change execCycleStart n s = _
  cases htickJ : (s.pair.join).bind (·.tickJ) <;>
    simp [execCycleStart, State.switchDue_unarmed hidle, State.removedBy_unswitching hswitch, ht, hswitch, hcomp, hn, hclass, hst, hnext, hdue,
      hfree, hjoin, htickJ]

/-- R70 and R71: an event task whose start instant has come starts with the fire that was latched. -/
theorem exec_eventTaskStart_due {f : Latch} {m : Nat} (hclass : t.attr.taskClass = 3) (hlatch : t.latch = some f)
    (hnext : t.nextStart = some m) (hdue : m ≤ s.clk.ring) (hst : t.st = .armed ∨ t.st = .running) :
    exec (.eventTaskStart n) s = .next (((s.modTask n fun u =>
      { u.begin m (if t.st = .armed then 0 else t.cycle + 1) s.clk.local_ .notSpeculating with
        fire := some f, latch := u.behind, behind := none, nextStart := u.behind.map fun b => eventStart (some m) u.attr.minInterval b.time,
        prevStart := some m, inputs := s.asyncInputs (s.versionOf t), snap := none, hist1 := none, hist2 := none }).yieldSpec
          t.strand n).debugStart n) := by
  change execEventTaskStart n s = _
  simp [execEventTaskStart, State.switchDue_unarmed hidle, State.removedBy_unswitching hswitch, ht, hswitch, hcomp, hclass, hst, hlatch, hnext,
    hdue, hfree]

end

/-- R70: no tick is earlier than the instant it is sought for. -/
theorem le_tickAtOrAfter (t : Nat) : t ≤ tickAtOrAfter t := by
  unfold tickAtOrAfter; omega

/-- R71: a start after another keeps MIN_INTERVAL, and comes after its fire. -/
theorem eventStart_after (prev minInterval time : Nat) :
    prev + minInterval * 1000 ≤ eventStart (some prev) minInterval time ∧ time < eventStart (some prev) minInterval time := by
  have hfire := le_tickAtOrAfter time
  have hinterval := le_tickAtOrAfter (prev + minInterval * 1000)
  simp only [eventStart]
  split <;> constructor <;> omega

/-! ### The cycle at its start instant -/

/-- R94 and R96: a lane at the task's entry; one that speculates has its first segment open. -/
theorem Lane.begin_eq (entry : BitVec 22) (spec : SpecState) :
    Lane.begin entry spec =
      { Lane.start entry spec with segs := if spec = .speculating then [⟨0, Regs.start entry, 0, [], none, [], false, 0⟩] else [] } := by
  unfold Lane.begin
  split <;> rfl

theorem Lane.begin_segs_length (entry : BitVec 22) (spec : SpecState) :
    (Lane.begin entry spec).segs.length = if spec = .speculating then 1 else 0 := by
  rw [Lane.begin_eq]
  split <;> rfl

/-! ### The obligation -/

/-- Settles O16: ticks and starts by the lemma of each event's outcome, the cycle at its start by the form of its lanes. -/
theorem cycleStarts : Obligations.CycleStarts := by
  unfold Obligations.CycleStarts
  refine ⟨⟨fun m s => exec_tick_down m, fun m s => exec_tick_up m, fun s => ⟨rfl, ?tickNumber, s.local_le_toNextTick, rfl⟩, ?starts⟩,
    ?begins⟩
  case tickNumber => exact Nat.mul_div_cancel _ (by decide)
  case starts =>
    intro n s t ht hidle hswitch hcomp hjoin hn hfree
    have hstart {m c : Nat} := exec_cycleStart_due (m := m) (c := c) ht hidle hswitch hcomp hfree hjoin hn
    refine ⟨?armed, ?running, ?event⟩
    case armed => exact fun hclass hst hdue => hstart hclass (.inl hst) (s.nextStart_armed hst) hdue
    case running =>
      intro k hclass hst hcycle hk
      constructor
      · intro hbase hfrom hto
        have hnext := State.nextStart_running hst hk (Task.cyclesTo_from_start hcycle hbase hfrom hto)
        rw [Task.startIn_from_start k hcycle hbase] at hnext
        exact hstart hclass (.inr hst) hnext hfrom
      · intro hbase hfrom hto
        have hnext := State.nextStart_running hst hk (Task.cyclesTo_from_meridian hcycle hk hbase hfrom hto)
        rw [Task.startIn_from_meridian k hcycle hbase] at hnext
        exact hstart hclass (.inr hst) hnext hfrom
    case event =>
      intro f m hclass hlatch hnext hdue hst
      refine ⟨exec_eventTaskStart_due ht hidle hswitch hcomp hfree hclass hlatch hnext hdue hst, ?_⟩
      cases hbehind : t.behind with
      | none => exact .inl rfl
      | some b => exact .inr ⟨b, _, rfl, rfl, eventStart_after m t.attr.minInterval b.time⟩
  case begins =>
    intro t m n now spec
    have hlane : (t.begin m n now spec).lane0 = Lane.begin (BitVec.ofNat 22 t.attr.entry) spec := rfl
    refine ⟨rfl, rfl, rfl, rfl, rfl, rfl, rfl, ?_⟩
    simp only [hlane]
    refine ⟨?_, ?_, ?_, ?_, ?_, ?_, ?_, ?_, ?_, ?_, ?_, rfl, Lane.begin_segs_length _ spec⟩ <;> rw [Lane.begin_eq] <;> rfl

end Sys2Proof.Machine
end

section
/-! PROOFS. Fires (R66, R69 to R71), input frames (R273, R294, R319, R321) and the agreement of snapshots (R18, R19, R322): one lemma for each
outcome of an event. -/
namespace Sys2Proof.Machine

/-! ### Fires -/

/-- R66: the tasks that a source starts are the event tasks that name it. -/
theorem State.agreedFire_eq (s : State) (src time : Nat) :
    s.agreedFire src time =
      { s with tasks := s.tasks.map fun e => if e.2.attr.taskClass = 3 ∧ src ∈ e.2.attr.sources then (e.1, e.2.takeFire src time) else e } := by
  simp [State.agreedFire, Task.startedBy]

section
variable {s : State} {src : Nat}

/-- R70: the earlier of the two modules' times. -/
theorem exec_fireReport_matched {f : FireWait} (time : Nat) (hown : (s.fires.find? fun f => f.source == src) = some f) :
    exec (.fireReport src time) s = .next ({ s with fires := s.fires.erase f }.agreedFire src (min time f.time)) := by
  change execFireReport src time s = _
  simp [execFireReport, hown]

theorem exec_fireReport_waits (time : Nat) (hown : (s.fires.find? fun f => f.source == src) = none) :
    exec (.fireReport src time) s = .next { s with peerFires := s.peerFires ++ [⟨src, time⟩] } := by
  change execFireReport src time s = _
  simp [execFireReport, hown]

/-- R70: this module's fire stands alone. -/
theorem exec_fireMatchTimeout_own {f : FireWait} (hown : (s.fires.find? fun f => f.source == src) = some f) :
    exec (.fireMatchTimeout src) s = .next ({ s with fires := s.fires.erase f }.agreedFire src f.time) := by
  change execFireMatchTimeout src s = _
  simp [execFireMatchTimeout, hown]

/-- R70: the partner's fire stands alone. -/
theorem exec_fireMatchTimeout_peer {f : FireWait} (hown : (s.fires.find? fun f => f.source == src) = none)
    (hpeer : (s.peerFires.find? fun f => f.source == src) = some f) :
    exec (.fireMatchTimeout src) s = .next ({ s with peerFires := s.peerFires.erase f }.agreedFire src f.time) := by
  change execFireMatchTimeout src s = _
  simp [execFireMatchTimeout, hown, hpeer]

theorem exec_fireMatchTimeout_none (hown : (s.fires.find? fun f => f.source == src) = none)
    (hpeer : (s.peerFires.find? fun f => f.source == src) = none) : exec (.fireMatchTimeout src) s = .next s := by
  change execFireMatchTimeout src s = _
  simp [execFireMatchTimeout, hown, hpeer]

end

section
variable {t : Task} (hst : t.st = .armed ∨ t.st = .running)
include hst

/-- R70: the fire gives the task its next start. -/
theorem Task.takeFire_first (src time : Nat) (hlatch : t.latch = none) :
    t.takeFire src time =
      { t with latch := some ⟨src, time, 0⟩, nextStart := some (eventStart t.prevStart t.attr.minInterval time) } := by
  simp [Task.takeFire, hst, hlatch]

/-- R71: the fire is latched for the start after the next. -/
theorem Task.takeFire_behind {l : Latch} (src time : Nat) (hlatch : t.latch = some l)
    (hnext : t.nextStart = some (tickAtOrAfter l.time + 50000)) (hbehind : t.behind = none) :
    t.takeFire src time = { t with behind := some ⟨src, time, 0⟩ } := by
  simp [Task.takeFire, hst, hlatch, hnext, hbehind]

/-- R71: MIN_INTERVAL has put the start off, and the fire is merged into the one that waits for it. -/
theorem Task.takeFire_merged {l : Latch} (src time : Nat) (hlatch : t.latch = some l)
    (hnext : t.nextStart ≠ some (tickAtOrAfter l.time + 50000)) :
    t.takeFire src time = { t with latch := some { l with merged := l.merged + 1 } } := by
  simp [Task.takeFire, hst, hlatch, hnext, Latch.merge]

end

/-! ### Input frames -/

section
variable {s : State} {f : InputFrame}

theorem exec_inputFrame_port_off (h : s.portOn f.hdr.port = false ∨ s.computes = false) : exec (.inputFrame f) s = .next s := by
  change execInputFrame f s = _
  have hguard : (!s.portOn f.hdr.port || !s.computes) = true := by simpa using h
  simp only [execInputFrame, State.inputFrame, hguard, if_true]

section
variable (hon : s.portOn f.hdr.port = true) (hcomp : s.computes = true)
include hon hcomp

/-- R273. -/
theorem exec_inputFrame_bad (hbad : f.hdr.good = false ∨ f.hdr.frameType ≠ 0x81) :
    exec (.inputFrame f) s =
      .next ((s.modPort f.hdr.port fun p => { p with discarded := satInc p.discarded }).count (0x2500 + f.hdr.port)) := by
  change execInputFrame f s = _
  simp [execInputFrame, State.inputFrame, State.discardFrame, hon, hcomp, hbad]

variable (hgood : f.hdr.good = true) (htype : f.hdr.frameType = 0x81)
include hgood htype

/-- R319. -/
theorem exec_inputFrame_no_room (hfull : 65536 < (s.port f.hdr.port).cyclicUsed + f.bytes) :
    exec (.inputFrame f) s = .next (s.ingressOverrun f.hdr.port) := by
  change execInputFrame f s = _
  simp [execInputFrame, State.inputFrame, hon, hcomp, hgood, htype, hfull]

variable (hroom : (s.port f.hdr.port).cyclicUsed + f.bytes ≤ 65536)
include hroom

theorem exec_inputFrame_empty (hempty : f.sections = []) :
    exec (.inputFrame f) s = .next (s.modStation (f.hdr.port / 2) f.hdr.sourcePos fun v =>
      { v with seenA := s.front.side == .a, seenB := s.front.side == .b }) := by
  change execInputFrame f s = _
  simp [execInputFrame, State.inputFrame, hon, hcomp, hgood, htype, Nat.not_lt.mpr hroom, hempty]

/-- R294, R320 and R321: the frame is judged against the window of its first section's cycle, and its sections are filed in their order. -/
theorem exec_inputFrame_filed {x : InSection} {xs : List InSection} (hsections : f.sections = x :: xs) :
    let ring := f.hdr.port / 2
    let seen := s.modStation ring f.hdr.sourcePos fun v => { v with seenA := s.front.side == .a, seenB := s.front.side == .b }
    let judgedFrame := match seen.task x.task with
      | none => seen
      | some t => seen.judged ring f.hdr.sourcePos f.hdr.port
          (judge (seen.windowOf f.hdr.port t (t.startOf x.cycleLo) f.hdr.sourcePos) f.start f.stop)
    let filed := (x :: xs).foldl (fun s x => s.fileSection f.hdr.port x) judgedFrame
    exec (.inputFrame f) s = .next (match (x :: xs).find? fun y => filed.isFiled ring y && !judgedFrame.isFiled ring y with
      | some y => filed.modStation ring f.hdr.sourcePos fun v => { v with lastInSeq := some y.seq }
      | none => filed) := by
  change execInputFrame f s = _
  have hframe : (!f.hdr.good || decide (f.hdr.frameType ≠ 0x81)) = false := by simp [hgood, htype]
  simp only [execInputFrame, State.inputFrame, hon, hcomp, hframe, Nat.not_lt.mpr hroom, hsections, Bool.not_true, Bool.or_self, if_false,
    Bool.false_eq_true, List.head?_cons] <;> rfl

end
end

/-! ### A task without a snapshot, or with one of another cycle -/

section
variable {s : State} {n : Nat}

section
variable (hnone : (s.task n).bind (·.snap) = none)
include hnone

theorem exec_snapshotClose_without_snapshot : exec (.snapshotClose n) s = .next s := by
  change execSnapshotClose n s = _
  simp [execSnapshotClose, State.closeSnapshot, hnone]

theorem exec_stationDigest_without_snapshot (c ring st : Nat) (crc : Option Word) : exec (.stationDigest n c ring st crc) s = .next s := by
  change execStationDigest n c ring st crc s = _
  simp [execStationDigest, State.takeDigest, hnone]

theorem exec_copyRequest_without_snapshot (c ring st : Nat) : exec (.copyRequest n c ring st) s = .next s := by
  change execCopyRequest n c ring st s = _
  simp [execCopyRequest, hnone]

theorem exec_agreementTimeout_without_snapshot : exec (.agreementTimeout n) s = .next s := by
  change execAgreementTimeout n s = _
  simp [execAgreementTimeout, hnone]

end

variable {p : Snapshot} (hp : (s.task n).bind (·.snap) = some p)
include hp

section
variable {c : Nat} (hcycle : c ≠ p.cycle)
include hcycle

theorem exec_stationDigest_other_cycle (ring st : Nat) (crc : Option Word) : exec (.stationDigest n c ring st crc) s = .next s := by
  change execStationDigest n c ring st crc s = _
  simp [execStationDigest, State.takeDigest, hp, hcycle.symm]

theorem exec_copyRequest_other_cycle (ring st : Nat) : exec (.copyRequest n c ring st) s = .next s := by
  change execCopyRequest n c ring st s = _
  simp [execCopyRequest, hp, hcycle.symm]

theorem exec_stationCopy_other_cycle (sec : Section) : exec (.stationCopy n c sec) s = .next s := by
  change execStationCopy n c sec s = _
  simp [execStationCopy, hp, hcycle.symm]

end

/-! ### A snapshot closes -/

theorem exec_snapshotClose_closed (hclosed : p.closed = true) : exec (.snapshotClose n) s = .next s := by
  change execSnapshotClose n s = _
  simp [execSnapshotClose, State.closeSnapshot, hp, hclosed]

/-- R322: the tags of missing blocks expire, a ring whose frames came in time ends its run of late ones, and the snapshot is agreed alone or
what is missing of it is reported. -/
theorem exec_snapshotClose_open (hopen : p.closed = false) :
    let shut := (s.modTask n fun t => { t with snap := t.snap.map fun p => { p with closed := true } }).staleResync n p
    let expired : State :=
      { shut with cyclicTags := shut.cyclicTags.map fun x => if x.task = n ∧ x.filed = none then { x with expired := true } else x }
    let onTime (s : State) (r : Nat) : State :=
      if r < 4 then s.modRing r fun g => if g.lateAt < ((s.task n).map (·.startAt)).getD 0 then { g with lateRun := false } else g else s
    let rings := ((p.sections.map (·.ring)).eraseDups).foldl onTime expired
    exec (.snapshotClose n) s = .next (if s.alone = true then rings.agreeAlone n
      else ((p.sections.filter fun x => !x.filed).foldl (fun s x => s.send 2 (.digest n p.cycle x.ring x.station none)) rings).settleAll n) := by
  change execSnapshotClose n s = _
  simp [execSnapshotClose, State.closeSnapshot, hp, hopen]

/-! ### Digests and copies -/

/-- R18. -/
theorem exec_stationDigest_settles (ring st : Nat) (crc : Option Word) (hopen : p.agreed = false) :
    let d : PeerDigest := match crc with | some c => .digest c | none => .noFrame
    exec (.stationDigest n p.cycle ring st crc) s = .next (((s.modTask n fun t =>
      { t with snap := t.snap.map fun p => p.modSection ring st fun x => { x with peer := d, agreed := x.agreed && x.peer == d } }).settle
        n ring st).tryAgree n) := by
  change execStationDigest n p.cycle ring st crc s = _
  simp [execStationDigest, State.takeDigest, hp, hopen] <;> rfl

/-- R18: the copy held is sent, and stands for both modules. -/
theorem exec_copyRequest_sends {x : Section} {ring st : Nat} (hx : p.section ring st = some x) (hfiled : x.filed = true) :
    exec (.copyRequest n p.cycle ring st) s = .next (((s.modTask n fun t =>
      { t with snap := t.snap.map fun p => p.modSection ring st fun x => { x with agreed := true } }).send 2 (.copy n p.cycle x)).tryAgree n) := by
  change execCopyRequest n p.cycle ring st s = _
  simp [execCopyRequest, hp, hx, hfiled]

/-- R18: the partner's copy is taken where the section is not agreed yet. -/
theorem exec_stationCopy_takes (sec : Section) (hopen : p.agreed = false) :
    exec (.stationCopy n p.cycle sec) s = .next ((s.modTask n fun t =>
      { t with snap := t.snap.map fun p => p.modSection sec.ring sec.station fun x =>
          if x.agreed then x else { x with filed := true, blocks := sec.blocks, agreed := true } }).tryAgree n) := by
  change execStationCopy n p.cycle sec s = _
  simp [execStationCopy, hp, hopen]

/-! ### The agreement -/

/-- R19: the cycle is counted, the first of a run is recorded and fires source 911, and this module's copies stand. -/
theorem exec_agreementTimeout_unagreed (hclosed : p.closed = true) (hopen : p.agreed = false) :
    let a := (s.count 0x1000).modPair fun x => { x with unagreedAt := some s.clk.local_, unagreedRun := true }
    let b := if s.pair.unagreedRun then a else (a.record 19 1 1 911 0xFFFF [(4, n), (8, p.cycle)]).fire 911
    exec (.agreementTimeout n) s = .next ((b.modTask n fun t =>
      { t with snap := t.snap.map fun p => { p with unagreed := true } }).agreeAlone n) := by
  change execAgreementTimeout n s = _
  simp [execAgreementTimeout, hp, hclosed, hopen, sevWarning, noSource]

theorem State.tryAgree_all_agreed (hclosed : p.closed = true) (hall : ∀ x ∈ p.sections, x.agreed = true) :
    s.tryAgree n = s.agreeSnapshot n := by
  have hsections : p.sections.all (·.agreed) = true := List.all_eq_true.mpr hall
  simp [State.tryAgree, hp, hclosed, hsections]

end

/-! ### The obligation -/

/-- Settles O19: each clause is the lemma of its event's outcome. -/
theorem firesAndSnapshots : Obligations.FiresAndSnapshots := by
  unfold Obligations.FiresAndSnapshots
  refine ⟨?fires, ?snapshots⟩
  case fires =>
    intro src s reach
    have hreach (st : State) (time : Nat) : st.agreedFire src time = reach st time := st.agreedFire_eq src time
    simp only [← hreach]
    refine ⟨?own, ?alone, ?taken⟩
    case own => exact fun f time hown => ⟨exec_fireReport_matched time hown, exec_fireMatchTimeout_own hown⟩
    case alone =>
      exact fun hown => ⟨fun time => exec_fireReport_waits time hown, fun f => exec_fireMatchTimeout_peer hown, exec_fireMatchTimeout_none hown⟩
    case taken =>
      exact fun t time hst => ⟨Task.takeFire_first hst src time, fun l => Task.takeFire_behind hst src time,
        fun l => Task.takeFire_merged hst src time⟩
  case snapshots =>
    intro n s
    refine ⟨?frame, ?close, ?without, ?digest, ?request, ?copy, ?timeout, ?otherCycle, ?agreed⟩
    case frame =>
      refine fun f => ⟨exec_inputFrame_port_off, fun hon hcomp => ⟨exec_inputFrame_bad hon hcomp, fun hgood htype => ?_⟩⟩
      exact ⟨exec_inputFrame_no_room hon hcomp hgood htype, fun hroom => ⟨exec_inputFrame_empty hon hcomp hgood htype hroom,
        fun x xs => exec_inputFrame_filed hon hcomp hgood htype hroom⟩⟩
    case close =>
      refine fun p hp => ⟨exec_snapshotClose_closed hp, fun hopen => ⟨fun halone => ?_, fun hpaired => ?_⟩⟩
      · exact (exec_snapshotClose_open hp hopen).trans (congrArg _ (if_pos halone))
      · exact (exec_snapshotClose_open hp hopen).trans (congrArg _ (if_neg (Bool.eq_false_iff.mp hpaired)))
    case without =>
      exact fun hnone => ⟨exec_snapshotClose_without_snapshot hnone, exec_stationDigest_without_snapshot hnone,
        exec_copyRequest_without_snapshot hnone, exec_agreementTimeout_without_snapshot hnone⟩
    case digest => exact fun p ring st crc hp hopen => exec_stationDigest_settles hp ring st crc hopen
    case request => exact fun p x ring st hp hx hfiled => exec_copyRequest_sends hp hx hfiled
    case copy => exact fun p sec hp hopen => exec_stationCopy_takes hp sec hopen
    case timeout => exact fun p hp hclosed hopen => exec_agreementTimeout_unagreed hp hclosed hopen
    case otherCycle =>
      exact fun p c ring st hp hcycle => ⟨exec_stationDigest_other_cycle hp hcycle ring st, exec_copyRequest_other_cycle hp hcycle ring st,
        exec_stationCopy_other_cycle hp hcycle⟩
    case agreed => exact fun p hp hclosed hall => State.tryAgree_all_agreed hp hclosed hall

end Sys2Proof.Machine
end

section
/-! PROOFS. Transit (R88, R198, R206, R208), the release checkpoint (R203, R205, R210), and the partner's write sets and notices (R208, R214, R228,
R357, R359, R360): one lemma for each outcome of an event. -/
namespace Sys2Proof.Machine

/-! ### The tasks of a map -/

/-- The value under a number, where it is changed. -/
theorem NMap.get_mod_self {α : Type} (m : List (Nat × α)) (k : Nat) (f : α → α) : NMap.get (NMap.mod m k f) k = (NMap.get m k).map f := by
  induction m with
  | nil => rfl
  | cons e m ih =>
    by_cases he : e.1 = k
    · simp [NMap.get, NMap.mod, he]
    · have hne : (e.1 == k) = false := by simpa using he
      simpa [NMap.get, NMap.mod, List.find?_cons, he, hne] using ih

/-! ### Transit -/

/-- R88: the release margin of 40 µs; the lantern task has none. -/
theorem State.pastMargin_iff {s : State} {t : Task} (ht : t.no ≠ lanternTask) :
    s.pastMargin t = true ↔ t.pubInstant < s.clk.ring + 40000 := by
  simp [State.pastMargin, ht]

section
variable {s : State} {n at_ : Nat} {t : Task} (ht : (s.advanceTo at_).task n = some t)
include ht

theorem exec_transit_not_ready (hready : (s.advanceTo at_).atTransit t = false) : exec (.transit n at_) s = .next (s.advanceTo at_) := by
  change execTransit n at_ s = _
  simp [execTransit, State.transit, ht, hready]

variable (hready : (s.advanceTo at_).atTransit t = true)
include hready

theorem exec_transit_late (hlate : (s.advanceTo at_).pastMargin t = true) : exec (.transit n at_) s = .next ((s.advanceTo at_).overrun n) := by
  change execTransit n at_ s = _
  simp [execTransit, State.transit, ht, hready, hlate]

variable (hintime : (s.advanceTo at_).pastMargin t = false)
include hintime

/-- R206 and R208, for a task that no debug session holds. -/
theorem exec_transit_parallax {k : ParKind} (hdebug : (s.advanceTo at_).debugFor t = none) (hkind : parallaxKind t.lane0 t.lane1 = some k)
    (hn : n ≠ lanternTask) : exec (.transit n at_) s = .next ((s.advanceTo at_).transitParallax n t k) := by
  change execTransit n at_ s = _
  simp [execTransit, State.transit, ht, hready, hintime, hdebug, hkind, hn]

section
variable (hmatch : (s.advanceTo at_).debugFor t ≠ none ∨ parallaxKind t.lane0 t.lane1 = none)
include hmatch

omit ht hready hintime in
/-- R206 and R231: a debug session that holds the task, or lanes that match, leave no parallax. -/
theorem State.no_parallax_found :
    (if ((s.advanceTo at_).debugFor t).isSome then none else parallaxKind t.lane0 t.lane1) = none := by
  rcases hmatch with hdebug | hnone
  · exact if_pos (Option.isSome_iff_ne_none.mpr hdebug)
  · rw [hnone, ite_self]

/-- R198: the cycle is committed. -/
theorem exec_transit_ok (hraised : t.lane0.raised = none) : exec (.transit n at_) s = .next ((s.advanceTo at_).transitOk n t) := by
  change execTransit n at_ s = _
  simp [execTransit, State.transit, ht, hready, hintime, State.no_parallax_found hmatch, hraised]

/-- R193: both lanes raised the fault. -/
theorem exec_transit_fault {f : FaultInfo} (hraised : t.lane0.raised = some f) :
    exec (.transit n at_) s = .next (((s.advanceTo at_).modTask n Task.closeSpec).faultCycle n f false) := by
  change execTransit n at_ s = _
  simp [execTransit, State.transit, ht, hready, hintime, State.no_parallax_found hmatch, hraised]

end
end

/-! ### A stalled lane -/

section
variable {s : State} {n : Nat} {t : Task} (ht : s.task n = some t) (hcycle : t.inCycle = true) (htransit : t.transited = false)
  (hoverrun : t.atPub.overrun = false) (hparallax : t.atPub.parallax = none) (hdebug : s.debugFor t = none)
include ht hcycle htransit hoverrun hparallax hdebug

/-- R206. -/
theorem exec_laneStall_parallax (hn : n ≠ lanternTask) (hintime : s.pastMargin t = false) :
    exec (.laneStall n) s = .next (s.transitParallax n t .stall) := by
  change execLaneStall n s = _
  simp [execLaneStall, ht, hcycle, htransit, hoverrun, hparallax, hdebug, hintime, hn]

/-- R88. -/
theorem exec_laneStall_late (hlate : s.pastMargin t = true) : exec (.laneStall n) s = .next (s.overrun n) := by
  change execLaneStall n s = _
  simp [execLaneStall, ht, hcycle, htransit, hoverrun, hparallax, hdebug, hlate]

end

/-! ### The partner's write set and notices -/

/-- R357, R359 and R360. -/
theorem exec_writeSet_kept {s : State} {ws : WriteSet} {t : Task} (ht : s.task ws.task = some t) :
    let a := s.modTask ws.task fun t => { t with peerSet := some ws }
    exec (.writeSet ws) s =
      .next (if (s.mode = .joining ∨ s.mode = .standby) ∧ t.following = true then a.follow ws else a.compareSets ws.task) := by
  change execWriteSet ws s = _
  simp [execWriteSet, ht]

theorem exec_writeSetRequest_answered {s : State} {n : Nat} {ws : WriteSet} (hws : (s.task n).bind (·.ownSet) = some ws) :
    exec (.writeSetRequest n ws.cycle) s = .next (s.send 3 (.writeSet ws)) := by
  change execWriteSetRequest n ws.cycle s = _
  simp [execWriteSetRequest, hws]

/-- R227: a displacement that is due. -/
theorem State.displaceDue_of_some {s : State} {tn d : Nat} (at_ : Nat) (hd : (s.tenant tn).displaceAt = some d) :
    s.displaceDue tn at_ = if d ≤ at_ then s.displaceTenant tn else s := by
  simp only [State.displaceDue, hd]

/-- R228: the tenant is displaced at the earlier of the instants that it has been told. -/
theorem exec_frameDisplacedNotice_kept {s : State} {tn : Nat} {x : Tenant} (at_ : Nat) (hx : NMap.get s.tenants tn = some x) :
    let d := match x.displaceAt with | some d => min d at_ | none => at_
    let a := s.modTenant tn fun y => { y with displaceAt := some (match y.displaceAt with | some d => min d at_ | none => at_) }
    exec (.frameDisplacedNotice ⟨tn, at_⟩) s = .next (if d ≤ s.clk.ring then a.displaceTenant tn else a) := by
  intro d a
  have htold : (a.tenant tn).displaceAt = some d := by
    simp only [a, State.tenant, State.modTenant_tenants, NMap.get_mod_self, hx, Option.map_some, Option.getD_some] <;> rfl
  rw [← State.displaceDue_of_some s.clk.ring htold]
  change execFrameDisplacedNotice ⟨tn, at_⟩ s = _
  simp only [execFrameDisplacedNotice, hx, Option.isNone_some, Bool.false_eq_true, if_false] <;> rfl

/-! ### The release checkpoint -/

/-- R205: the tasks whose sections a checkpoint releases, as one choice among the tasks. -/
theorem State.feeding_unreleased (s : State) (strand : Nat) :
    (s.feeding strand).filter (fun t => !t.released) = (s.tasks.map (·.2)).filter fun t =>
      (t.strand == strand && t.inCycle && t.atPub.committed && t.attr.taskClass != 3 && t.no != lanternTask) && !t.released := by
  simp only [State.feeding, List.filter_filter, Bool.and_comm]

section
variable {s : State} {strand : Nat} {ts : List Task} (hts : (s.feeding strand).filter (fun t => !t.released) = ts)
include hts

theorem exec_releaseCheckpoint_nothing (hnone : ts = []) (lane1 : Option (BitVec 64)) : exec (.releaseCheckpoint strand lane1) s = .next s := by
  change execReleaseCheckpoint strand lane1 s = _
  simp [execReleaseCheckpoint, hts, hnone]

/-- R203 and R205: the digests agree, and every task hands its sections over. -/
theorem exec_releaseCheckpoint_agreed (hsome : ts ≠ []) {lane1 : Option (BitVec 64)}
    (hagree : lane1 = none ∨ lane1 = some (s.releaseDigest (ts.filter fun t => (s.debugFor t).isNone))) :
    exec (.releaseCheckpoint strand lane1) s = .next (ts.foldl (fun s t => s.assemble t) s) := by
  change execReleaseCheckpoint strand lane1 s = _
  have hempty : ts.isEmpty = false := List.isEmpty_eq_false_iff.mpr hsome
  have hall : (ts.filter fun _ => true) = ts := List.filter_eq_self.mpr fun _ _ => rfl
  rcases hagree with rfl | rfl
  · simp only [execReleaseCheckpoint, hts, hempty, Bool.false_eq_true, if_false, if_true, Bool.true_or, hall]
  · simp only [execReleaseCheckpoint, hts, hempty, Bool.false_eq_true, if_false, if_true, beq_self_eq_true, Bool.true_or, hall]

/-- R203, R210, R211 and R231: the digests differ, and only the tasks that a debug session holds hand their sections over. -/
theorem exec_releaseCheckpoint_withheld {t : Task} {rest : List Task} {d : BitVec 64}
    (hcompared : (ts.filter fun t => (s.debugFor t).isNone) = t :: rest) (hdiffer : d ≠ s.releaseDigest (t :: rest)) :
    let a := ((ts.filter fun t => (s.debugFor t).isSome).foldl (fun s t => s.assemble t) s).noteParallax t.no strand .release false 3
    let b := (t :: rest).foldl (fun s t => s.modTask t.no fun t => { t with released := true, laneParCycle := some t.cycle })
      (a.recordParallax t.no strand .release false 3)
    exec (.releaseCheckpoint strand (some d)) s = .next (if b.windowFull strand = true ∨
      ((t :: rest).any fun t => t.laneParCycle == some (t.cycle - 1) && decide (0 < t.cycle)) = true then b.persistent strand else b) := by
  change execReleaseCheckpoint strand (some d) s = _
  have hsome : ts.isEmpty = false := by
    cases ts with
    | nil => cases hcompared
    | cons u us => rfl
  have hsame : (d == s.releaseDigest (t :: rest)) = false := beq_eq_false_iff_ne.mpr hdiffer
  simp only [execReleaseCheckpoint, hts, hsome, hcompared, hsame, Bool.false_or, Bool.false_eq_true, if_false, Bool.or_eq_true]

end

/-! ### The obligation -/

/-- Settles O20: each clause is the lemma of its event's outcome. -/
theorem transitAndWriteSets : Obligations.TransitAndWriteSets := by
  unfold Obligations.TransitAndWriteSets
  intro n c s
  refine ⟨?transit, ?notReady, ?margin, ?stall, ?writeSet, ?request, rfl, rfl, ?displaced, ?release⟩
  case transit =>
    refine fun at_ t ht hready => ⟨exec_transit_late ht hready, fun hintime =>
      ⟨fun k => exec_transit_parallax ht hready hintime, fun hmatch => ?_⟩⟩
    exact ⟨exec_transit_ok ht hready hintime hmatch, fun f => exec_transit_fault ht hready hintime hmatch⟩
  case notReady => exact fun at_ t ht hready => exec_transit_not_ready ht hready
  case margin => exact fun t _ hn hno => State.pastMargin_iff (hno ▸ hn)
  case stall =>
    exact fun t ht hn hcycle htransit hoverrun hparallax hdebug =>
      ⟨exec_laneStall_parallax ht hcycle htransit hoverrun hparallax hdebug hn,
        exec_laneStall_late ht hcycle htransit hoverrun hparallax hdebug⟩
  case writeSet => exact fun ws t ht => exec_writeSet_kept ht
  case request => exact fun ws hws => exec_writeSetRequest_answered hws
  case displaced =>
    intro tn at_ x hx
    have hkept := exec_frameDisplacedNotice_kept at_ hx
    exact ⟨fun hearly => hkept.trans (congrArg _ (if_neg (Nat.not_le.mpr hearly))), fun hdue => hkept.trans (congrArg _ (if_pos hdue))⟩
  case release =>
    intro strand ts compared
    have hts : (s.feeding strand).filter (fun t => !t.released) = ts := s.feeding_unreleased strand
    refine ⟨exec_releaseCheckpoint_nothing hts, fun hsome lane1 => exec_releaseCheckpoint_agreed hts hsome, ?_⟩
    intro t rest d hcompared hdiffer
    rw [hcompared] at hdiffer ⊢
    exact exec_releaseCheckpoint_withheld hts hcompared hdiffer

end Sys2Proof.Machine
end

section
/-! PROOFS. A step of the module keeps what every command keeps: the queue that loses its front and the waiting request that gets its turn change
nothing else, and a request that waited is one of the commands. -/
namespace Sys2Proof.Machine

/-- What holds of every next state of an outcome. -/
def Leaves (p : State → Prop) (o : Host.Outcome State Fault Refusal) : Prop := ∀ t, o = .next t → p t

theorem Leaves.next {p : State → Prop} {t : State} (h : p t) : Leaves p (.next t) := by
  rintro _ ⟨⟩
  exact h

section
variable {q : Host.Outcome State Fault Refusal → Prop} {s : State} (hexec : ∀ i, q (exec i s)) (w : Waiting)
include hexec

theorem waited00_of_exec : q (s.waited00 w) := by
  unfold State.waited00
  split
  · exact hexec (.sessionConfirm _ _)
  · exact hexec (.sessionClose _)
  · exact hexec (.moduleIdentity _)
  · exact hexec (.moduleCapability _)
  · exact hexec (.unknownOpcode _ _)

theorem waited01_of_exec : q (s.waited01 w) := by
  unfold State.waited01
  split
  · exact hexec (.moduleState _)
  · exact hexec (.moduleTestHold _)
  · exact hexec (.moduleRestart _)
  · exact hexec (.unknownOpcode _ _)

theorem waited02_of_exec : q (s.waited02 w) := by
  unfold State.waited02
  split
  · exact hexec (.funcQuiesce _)
  · exact hexec (.funcStage _)
  · exact hexec (.funcRestart _)
  · exact hexec (.funcDiscard _)
  · exact hexec (.funcRead _)
  · exact hexec (.funcStatus _)
  · exact hexec (.unknownOpcode _ _)

theorem waited03_of_exec : q (s.waited03 w) := by
  unfold State.waited03
  split
  · exact hexec (.progLoadBegin _)
  · exact hexec (.progLoadWrite _)
  · exact hexec (.progLoadCheck _ _)
  · exact hexec (.progStart _)
  · exact hexec (.progStop _)
  · exact hexec (.progUnload _)
  · exact hexec (.progTenantStatus _)
  · exact hexec (.progChangeBegin _)
  · exact hexec (.progChangeWrite _)
  · exact hexec (.progChangeCheck _ _)
  · exact hexec (.progChangeArm _)
  · exact hexec (.progChangeAbort _)
  · exact hexec (.progChangeStatus _)
  · exact hexec (.progLanternLoad _ _)
  · exact hexec (.unknownOpcode _ _)

theorem waited04_of_exec : q (s.waited04 w) := by
  unfold State.waited04
  split
  · exact hexec (.dataRead _)
  · exact hexec (.dataReadProvisional _)
  · exact hexec (.dataWrite _)
  · exact hexec (.forceSet _)
  · exact hexec (.forceClear _)
  · exact hexec (.forceClearAll _)
  · exact hexec (.forceList _)
  · exact hexec (.unknownOpcode _ _)

theorem waited05_of_exec : q (s.waited05 w) := by
  unfold State.waited05
  split
  case h_4 =>
    dsimp only
    repeat' split
    · exact hexec (.acyclicRead _)
    · exact hexec (.acyclicWrite _)
    · exact hexec (.alarmFetch _)
  · exact hexec (.ringReadStatus _)
  · exact hexec (.ringLoadConfig _)
  · exact hexec (.ringReadStation _)
  · exact hexec (.ringAcyclicAbort _)
  · exact hexec (.unknownOpcode _ _)

theorem waited06_of_exec : q (s.waited06 w) := by
  unfold State.waited06
  split
  · exact hexec (.pairStatus _)
  · exact hexec (.pairAssume _)
  · exact hexec (.pairHandover _)
  · exact hexec (.pairRejoin _ _)
  · exact hexec (.pairHealthAck _)
  · exact hexec (.pairProofTest _)
  · exact hexec (.unknownOpcode _ _)

theorem waited07_of_exec : q (s.waited07 w) := by
  unfold State.waited07
  split
  · exact hexec (.timeRead _)
  · exact hexec (.timeDomainStatus _)
  · exact hexec (.timeSetPlant _)
  · exact hexec (.timeAlarmWrite _)
  · exact hexec (.timeAlarmRead _)
  · exact hexec (.unknownOpcode _ _)

theorem waited08_of_exec : q (s.waited08 w) := by
  unfold State.waited08
  split
  · exact hexec (.localRead _)
  · exact hexec (.hartTransact _)
  · exact hexec (.unknownOpcode _ _)

theorem waited09_of_exec : q (s.waited09 w) := by
  unfold State.waited09
  split
  · exact hexec (.canStatus _)
  · exact hexec (.canFilterWrite _)
  · exact hexec (.canFilterRead _)
  · exact hexec (.canSend _)
  · exact hexec (.canReceive _)
  · exact hexec (.canScheduleWrite _)
  · exact hexec (.unknownOpcode _ _)

theorem waited0A_of_exec : q (s.waited0A w) := by
  unfold State.waited0A
  split
  · exact hexec (.secGateRead _)
  · exact hexec (.secGateWrite _)
  · exact hexec (.secAuthorityInstall _ _)
  · exact hexec (.secModuleCertInstall _ _)
  · exact hexec (.secRevoke _)
  · exact hexec (.secKeyStatus _)
  · exact hexec (.unknownOpcode _ _)

theorem waited0B_of_exec : q (s.waited0B w) := by
  unfold State.waited0B
  split
  case h_3 =>
    split
    · exact hexec (.updateVerify _ _ _ _)
    · exact hexec (.updateVerify _ _ _ _)
  case h_4 =>
    split
    · exact hexec (.updateActivateModule _)
    · exact hexec (.updateActivatePair _)
  · exact hexec (.updateBegin _)
  · exact hexec (.updateWrite _)
  · exact hexec (.updateAbort _)
  · exact hexec (.updateStatus _)
  · exact hexec (.unknownOpcode _ _)

theorem waited0C_of_exec : q (s.waited0C w) := by
  unfold State.waited0C
  split
  · exact hexec (.almanacRead _)
  · exact hexec (.almanacClear _ _)
  · exact hexec (.almanacStatus _)
  · exact hexec (.unknownOpcode _ _)

theorem waited0D_of_exec : q (s.waited0D w) := by
  unfold State.waited0D
  split
  case h_9 =>
    dsimp only
    repeat' split
    · exact hexec (.debugHalt _)
    · exact hexec (.debugStep _)
    · exact hexec (.debugRun _)
    · exact hexec (.debugSetBreak _)
    · exact hexec (.debugClearBreak _)
  · exact hexec (.diagCounterRead _)
  · exact hexec (.diagCounterSelect _)
  · exact hexec (.diagWatchdogRead _)
  · exact hexec (.diagStrandStatus _)
  · exact hexec (.diagTaskSpec _)
  · exact hexec (.diagDisplacedRead _)
  · exact hexec (.diagTagRead _)
  · exact hexec (.debugOpen _)
  · exact hexec (.debugRead _)
  · exact hexec (.debugWrite _)
  · exact hexec (.debugClose _)
  · exact hexec (.unknownOpcode _ _)

/-- A request that waited executes as one of the commands (R441): what every command does holds of it. -/
theorem State.runWaiting_of_exec : q (s.runWaiting w) := by
  unfold State.runWaiting
  split
  · exact waited00_of_exec hexec w
  · exact waited01_of_exec hexec w
  · exact waited02_of_exec hexec w
  · exact waited03_of_exec hexec w
  · exact waited04_of_exec hexec w
  · exact waited05_of_exec hexec w
  · exact waited06_of_exec hexec w
  · exact waited07_of_exec hexec w
  · exact waited08_of_exec hexec w
  · exact waited09_of_exec hexec w
  · exact waited0A_of_exec hexec w
  · exact waited0B_of_exec hexec w
  · exact waited0C_of_exec hexec w
  · exact waited0D_of_exec hexec w
  · exact hexec (.unknownOpcode _ _)

end

/-- The request that has its turn leaves its session's queue, and nothing else changes. -/
theorem State.nextWaiting_some {s t : State} {w : Waiting} (h : s.nextWaiting = some (w, t)) : ∃ no f, t = s.modSession no f := by
  obtain ⟨x, -, hx⟩ := List.exists_of_findSome?_eq_some h
  split at hx
  · cases hx
  · split at hx
    · cases hx
    · obtain ⟨-, rfl⟩ := Prod.mk.inj (Option.some.inj hx)
      exact ⟨_, _, rfl⟩

/-- A step keeps what every command keeps, where the queue and the turns of waiting requests do not matter to it. -/
theorem step_leaves {p : State → Prop} (hqueue : ∀ s rest, p s → p { s with pending := rest })
    (hturn : ∀ s no f, p s → p (State.modSession s no f)) (hexec : ∀ i s, p s → Leaves p (exec i s)) {s : State} (hs : p s) :
    Leaves p (step s) := by
  unfold step
  split
  · unfold State.idle
    split
    next x hx =>
      obtain ⟨no, f, hx2⟩ := State.nextWaiting_some hx
      exact State.runWaiting_of_exec (fun i => hexec i x.2 (hx2 ▸ hturn s no f hs)) x.1
    · exact .next hs
  next rest _ => exact hexec _ _ (hqueue s rest hs)

end Sys2Proof.Machine
end

section
/-! PROOFS. VCORE_CODE stays at 40 or less in every step (R36): the engine does not touch it, a Gelit request leaves it or puts it at 0, and of the
events only the regulator raises it, below 40. -/
namespace Sys2Proof.Machine
open Sys2Proof.Claims

/-- VCORE_CODE is in its range (R36). -/
def VcoreOk (s : State) : Prop := s.vcore.code ≤ 40

theorem leaves_vcoreOk {t : State} (h : t.vcore.code ≤ 40) : Leaves VcoreOk (.next t) := .next h

theorem code_le_of_eq {s t : State} (hcode : t.vcore.code = s.vcore.code) (h : s.vcore.code ≤ 40) : t.vcore.code ≤ 40 :=
  Nat.le_trans (Nat.le_of_eq hcode) h

/-- Both ways of a choice between states. -/
theorem ite_code_le {c : Prop} [Decidable c] {a b : State} (ha : a.vcore.code ≤ 40) (hb : b.vcore.code ≤ 40) :
    (if c then a else b).vcore.code ≤ 40 := by
  split <;> assumption

/-! ### The engine's instructions -/

/-- Whatever instruction of the engine executes, it leaves VCORE_CODE as it is. -/
theorem exec_engine_code {i : Instr} {x : Exec} {s : State} (hi : engineOf i = some x) :
    Leaves (fun t => t.vcore.code = s.vcore.code) (exec i s) := by
  cases i
  all_goals first | contradiction | refine .next ?_
  case squashedCoprocComplete => exact State.modTask_code ..
  case opAgree => exact runTogether_code ..
  case opImmin | opImminw =>
    split
    · exact runTogether_code ..
    · exact runEngine_code ..
  case undefinedOpcode => exact runUndefined_code ..
  all_goals exact runEngine_code ..

/-! ### Gelit requests -/

/-- What holds of every state that is left after a check. -/
theorem except_bind_all {α : Type} {p : State → Prop} {x : Except Refused α} {f : α → Except Refused State}
    (h : ∀ v t, f v = .ok t → p t) {t : State} (ht : (x >>= f) = .ok t) : p t := by
  cases x with
  | error e => cases ht
  | ok v => exact h v t ht

theorem State.openSession_code {s t : State} {r : Req} {c : Cmd} {g : OpenGrant} (h : s.openSession r c g = .ok t) :
    t.vcore.code = s.vcore.code := by
  revert h
  unfold State.openSession
  repeat' refine except_bind_all (p := fun t => t.vcore.code = s.vcore.code) fun _ t => ?_
  rintro ⟨⟩
  rw [State.sendReply_code, State.submit_code]
  split <;> split <;> simp

theorem State.applyStaged_le {s : State} (unit : Nat) (staged : List (Nat × Int)) (h : s.vcore.code ≤ 40) :
    (s.applyStaged unit staged).1.vcore.code ≤ 40 := by
  unfold State.applyStaged
  extract_lets pair side at_ tell s1 s2
  have htell (u : State) (m : Mirror) (hu : u.vcore.code ≤ 40) : (tell u m).vcore.code ≤ 40 := ite_code_le hu (by rwa [State.send_code])
  have h1 : s1.vcore.code ≤ 40 := ite_code_le h (htell _ _ (by simpa using h))
  have h2 : s2.vcore.code ≤ 40 := ite_code_le h1 (htell _ _ h1)
  rwa [State.restartUnit_code]

section
variable {s : State} (h : s.vcore.code ≤ 40)
include h

theorem exec_sessionOpen_le (r : Req) (g : OpenGrant) : Leaves VcoreOk (exec (.sessionOpen r g) s) := by
  refine leaves_vcoreOk (State.receive_le _ _ _ _ _ h fun t k ht => ?_)
  rw [Answer.all_later]
  split
  · rw [State.sendReply_code]
    exact ht
  next hopen => exact code_le_of_eq (State.openSession_code hopen) ht

theorem exec_funcRestart_le (r : Req) : Leaves VcoreOk (exec (.funcRestart r) s) := by
  refine leaves_vcoreOk (State.receive_le _ _ _ _ _ h fun t k ht => ?_)
  repeat' (first | with_reducible refine Answer.all_bind _ _ _ fun _ _ => ?_ | with_reducible refine State.throughGate_le _ _ _ _ _ _ ht ?_)
  have happlied (unit : Nat) (staged : List (Nat × Int)) := State.applyStaged_le unit staged ht
  have hreplied (unit : Nat) (staged : List (Nat × Int)) :=
    State.applyStaged_le unit staged (s := t.finish k 0 (be 8 0)) (by rwa [State.finish_code])
  split
  · exact ite_code_le (code_le_of_eq (foldl_code _ State.closeSession_code _ _) (hreplied _ _)) (hreplied _ _)
  · exact happlied _ _

/-- Every Gelit request: its checks change nothing, and neither does a denied access; each way through its body is judged by itself. -/
theorem exec_gelit_le {i : Instr} {c : Cmd} {r : Req} (hi : gelitOf s i = some (c, r)) : Leaves VcoreOk (exec i s) := by
  cases i
  all_goals first | contradiction | clear hi
  case sessionOpen r g => exact exec_sessionOpen_le h r g
  case funcRestart r => exact exec_funcRestart_le h r
  all_goals
    refine leaves_vcoreOk (State.receive_le _ _ _ _ _ h fun t k ht => ?_)
    try dsimp only
    repeat' (first
      | with_reducible refine Answer.all_bind _ _ _ fun _ _ => ?_
      | with_reducible refine State.throughGate_le _ _ _ _ _ _ ht ?_
      | split)
    all_goals simp [ht, foldl_code]

end

/-! ### Events

First the events with a fold, a long chain of updates or a part of the core supply in them; the others are their branches alone. -/

section
variable {s : State} (h : s.vcore.code ≤ 40)
include h

theorem exec_paceProbeRun_le (strand p0 p1 : Nat) : Leaves VcoreOk (exec (.paceProbeRun strand p0 p1) s) := by
  refine leaves_vcoreOk (ite_code_le h ?_)
  exact State.judgePace_le _ _ h

/-- R46: the margin check hands VCORE back at its code, or at 0. -/
theorem exec_marginCheckEnd_le : Leaves VcoreOk (exec .marginCheckEnd s) := by
  have hjudged := foldl_le State.judgeMargin (List.range (Config.strands s.ident.variant)) s h fun s k => State.judgeMargin_le s k
  refine leaves_vcoreOk (ite_code_le h ?_)
  dsimp only [State.modVcore_code, State.setCode_code]
  split
  · exact hjudged
  · exact Nat.zero_le 40

theorem exec_pairSettingsApply_le : Leaves VcoreOk (exec .pairSettingsApply s) := by
  refine leaves_vcoreOk (foldl_le _ _ _ h fun s a hs => ?_)
  exact State.applyPair_le _ _ _ hs

theorem exec_handoverProposal_le (n epoch : Nat) : Leaves VcoreOk (exec (.handoverProposal n epoch) s) := by
  refine leaves_vcoreOk (ite_code_le h (ite_code_le ?_ (ite_code_le h ?_)))
  · exact h
  · rw [State.send_code]
    exact h

theorem exec_pathSilent_le (path : Fin 3) : Leaves VcoreOk (exec (.pathSilent path) s) := by
  refine leaves_vcoreOk ?_
  extract_lets p flag last quiet elsewhere s1 s2 s3
  have h1 : s1.vcore.code ≤ 40 := h
  have h2 : s2.vcore.code ≤ 40 := ite_code_le h1 (by simpa using h1)
  have h3 : s3.vcore.code ≤ 40 := h2
  clear_value s1 s3
  repeat' with_reducible refine ite_code_le ?_ ?_
  all_goals simp [h, h1, h3]

theorem exec_keyVerifyDone_le : Leaves VcoreOk (exec .keyVerifyDone s) := by
  refine leaves_vcoreOk ?_
  split
  · exact h
  · extract_lets fault many left s1 s2 s3
    have h1 : s1.vcore.code ≤ 40 := ite_code_le (by simpa using h) h
    have h2 : s2.vcore.code ≤ 40 := h1
    have h3 : s3.vcore.code ≤ 40 := ite_code_le (State.keyPresent_le _ _ h2) h2
    clear_value left
    split
    · exact ite_code_le h2 h2
    · exact h3

theorem exec_backgroundCycle_le (ring : Fin 4) : Leaves VcoreOk (exec (.backgroundCycle ring) s) := by
  refine leaves_vcoreOk ?_
  extract_lets period at_ secs frames s1 s2
  have h1 : s1.vcore.code = s.vcore.code := foldl_code _ (fun s k => State.modStation_code s ring k _) _ _
  have h2 : s2.vcore.code ≤ 40 := code_le_of_eq h1 h
  exact ite_code_le h (ite_code_le (code_le_of_eq (foldl_code _ State.emit_code _ _) h2) h2)

theorem exec_releaseCheckpoint_le (strand : Nat) (lane1 : Option (BitVec 64)) : Leaves VcoreOk (exec (.releaseCheckpoint strand lane1) s) := by
  refine leaves_vcoreOk ?_
  extract_lets ts compared same held s1
  have h1 : s1.vcore.code ≤ 40 := code_le_of_eq (foldl_code _ State.assemble_code _ _) h
  clear_value held s1
  refine ite_code_le h ?_
  split
  · exact h1
  · refine ite_code_le (State.persistent_le _ _ ?_) ?_
    all_goals exact code_le_of_eq (foldl_code _ (fun _ _ => State.modTask_code ..) _ _) (by simpa using h1)

theorem exec_watchdogExpiry_le (task : Nat) : Leaves VcoreOk (exec (.watchdogExpiry task) s) := by
  refine leaves_vcoreOk ?_
  split
  · exact h
  · refine ite_code_le h (ite_code_le ?_ ?_)
    all_goals simpa using h

theorem exec_discoverResponse_le (f : DiscRsp) : Leaves VcoreOk (exec (.discoverResponse f) s) := by
  refine leaves_vcoreOk (ite_code_le h (ite_code_le (by simpa using h) ?_))
  extract_lets s1
  have h1 : s1.vcore.code ≤ 40 := by simpa [s1] using h
  clear_value s1
  split
  · exact h1
  · extract_lets old fresh s2 s3 s4
    have h2 : s2.vcore.code ≤ 40 := by simpa [s2] using h1
    refine ite_code_le ?_ (ite_code_le ?_ (ite_code_le (ite_code_le ?_ ?_) ?_))
    all_goals simpa [s4, s3] using h2

theorem exec_canFrameReceived_le (k : Fin 4) (f : CanFrame) (remote own : Bool) (t : Nat) :
    Leaves VcoreOk (exec (.canFrameReceived k f remote own t) s) := by
  refine leaves_vcoreOk ?_
  extract_lets s0 g rx s1 s2 s3
  have h0 : s0.vcore.code ≤ 40 := by simpa [s0] using h
  have h1 : s1.vcore.code ≤ 40 := ite_code_le (by simpa using h0) h0
  have h2 : s2.vcore.code ≤ 40 := by simpa [s2] using h1
  have h3 : s3.vcore.code ≤ 40 := ite_code_le (by simpa using h2) (by simpa using h2)
  exact ite_code_le h0 (by simpa using h3)

theorem exec_canTxError_le (k : Fin 4) (peerSaw : Bool) : Leaves VcoreOk (exec (.canTxError k peerSaw) s) := by
  refine leaves_vcoreOk (ite_code_le h ?_)
  split
  · exact h
  · extract_lets s1 s2
    have h2 : s2.vcore.code ≤ 40 := ite_code_le (by simpa [s1] using h) (by simpa [s1] using h)
    exact ite_code_le (by simpa using h2) h2

theorem exec_forwardedRequest_le (q : Forwarded) : Leaves VcoreOk (exec (.forwardedRequest q) s) := by
  refine leaves_vcoreOk (ite_code_le h ?_)
  cases q
  all_goals
    dsimp only
    repeat' (first | with_reducible refine ite_code_le ?_ ?_ | split)
    all_goals simp [h]

/-- Every event: each way through its effect is judged by itself. -/
theorem exec_event_le {i : Instr} (hg : gelitOf s i = none) (he : engineOf i = none) : Leaves VcoreOk (exec i s) := by
  cases i
  all_goals first | contradiction | clear hg he
  case paceProbeRun => exact exec_paceProbeRun_le h _ _ _
  case marginCheckEnd => exact exec_marginCheckEnd_le h
  case pairSettingsApply => exact exec_pairSettingsApply_le h
  case handoverProposal => exact exec_handoverProposal_le h _ _
  case pathSilent => exact exec_pathSilent_le h _
  case keyVerifyDone => exact exec_keyVerifyDone_le h
  case backgroundCycle => exact exec_backgroundCycle_le h _
  case watchdogExpiry => exact exec_watchdogExpiry_le h _
  case discoverResponse => exact exec_discoverResponse_le h _
  case canFrameReceived => exact exec_canFrameReceived_le h _ _ _ _ _
  case canTxError => exact exec_canTxError_le h _ _
  case forwardedRequest => exact exec_forwardedRequest_le h _
  case releaseCheckpoint => exact exec_releaseCheckpoint_le h _ _
  all_goals
    refine leaves_vcoreOk ?_
    try dsimp only
    repeat' (first | with_reducible refine ite_code_le ?_ ?_ | split)
    all_goals simp [h, foldl_code]

/-- Every command keeps VCORE_CODE in its range. -/
theorem exec_vcoreOk (i : Instr) : Leaves VcoreOk (exec i s) := by
  cases he : engineOf i with
  | some x => exact fun t ht => code_le_of_eq (exec_engine_code he t ht) h
  | none =>
    cases hg : gelitOf s i with
    | some q => exact exec_gelit_le h hg
    | none => exact exec_event_le h hg he

end

/-! ### The regulator -/

theorem State.setPoint_le_iff (s : State) : s.setPoint ≤ 900 ↔ VcoreOk s := by
  unfold State.setPoint VcoreOk
  omega

/-- A step up is one code. -/
theorem State.raiseVcore_code (s : State) : s.raiseVcore.vcore.code = s.vcore.code ∨ s.raiseVcore.vcore.code = s.vcore.code + 1 := by
  unfold State.raiseVcore
  extract_lets now free top
  split
  · exact .inr rfl
  · exact .inl rfl

/-- A step down is one code. -/
theorem State.lowerVcore_code (s : State) : s.lowerVcore.vcore.code = s.vcore.code ∨ s.lowerVcore.vcore.code + 1 = s.vcore.code := by
  unfold State.lowerVcore
  extract_lets now free
  split
  next hlow =>
    have hpos : 0 < s.vcore.code := of_decide_eq_true (Bool.and_eq_true_iff.mp hlow).2
    exact .inr (Nat.sub_add_cancel hpos)
  · exact .inl rfl

/-- R37: the decision moves VCORE by one code at most. -/
theorem State.regulate_code (s : State) :
    s.regulate.vcore.code = s.vcore.code ∨ s.regulate.vcore.code = s.vcore.code + 1 ∨ s.regulate.vcore.code + 1 = s.vcore.code := by
  unfold State.regulate
  extract_lets low s1 target
  have hup : s1.raiseVcore.vcore.code = s.vcore.code ∨ s1.raiseVcore.vcore.code = s.vcore.code + 1 := s1.raiseVcore_code
  have hdown : s1.lowerVcore.vcore.code = s.vcore.code ∨ s1.lowerVcore.vcore.code + 1 = s.vcore.code := s1.lowerVcore_code
  split
  · exact hup.imp_right .inl
  · split
    · exact hup.imp_right .inl
    · split
      · exact hdown.imp_right .inr
      · exact .inl rfl

theorem exec_vcoreRegulatorStep_code {t : Nat} {s u : State} (hu : exec (.vcoreRegulatorStep t) s = .next u) :
    u.vcore.code = s.vcore.code ∨ u.vcore.code = s.vcore.code + 1 ∨ u.vcore.code + 1 = s.vcore.code := by
  cases hu
  rw [← State.advanceTo_code s t]
  dsimp only
  split
  · exact (State.raiseVcore_code _).imp_right .inl
  · split
    · exact State.regulate_code _
    · exact .inl rfl

/-! ### The obligations -/

/-- Settles O55: every command keeps VCORE_CODE at 40 or less, and so does every step. -/
theorem vcoreRangeKept : Obligations.VcoreRangeKept := by
  unfold Obligations.VcoreRangeKept
  refine ⟨?setPoint, ?step, ?regulator⟩
  case setPoint =>
    intro s
    have hset : s.setPoint = 700 + s.vcore.code * 5 := by rw [State.setPoint, Nat.mul_comm]
    exact ⟨hset, by omega⟩
  case step =>
    rintro s t ⟨-, hs⟩ ht
    have hkept := step_leaves (p := VcoreOk) (fun _ _ h => h) (fun _ _ _ h => h) (fun i _ h => exec_vcoreOk h i) (s.setPoint_le_iff.mp hs) t ht
    exact ⟨Nat.le_add_right .., t.setPoint_le_iff.mpr hkept⟩
  case regulator =>
    intro t s u hu
    have hcode := exec_vcoreRegulatorStep_code hu
    simp only [State.setPoint]
    omega

/-- Settles O56: the values at reset. -/
theorem invariantsAtReset : Obligations.InvariantsAtReset := by
  unfold Obligations.InvariantsAtReset
  exact ⟨rfl, Nat.zero_le 40, rfl⟩

/-- Settles O57: the values at reset. -/
theorem resetState : Obligations.ResetState := by
  unfold Obligations.ResetState
  decide

end Sys2Proof.Machine
end

section
/-! PROOFS. What the events of the paces, of the core supply and of the clocked islands do (R33, R34, R37, R42, R45 to R47, R52 to R55, R343): one
lemma for each outcome of an event. -/
namespace Sys2Proof.Machine

/-! ### Probe pace and run pace -/

section
variable {s : State} (hup : s.up = true) {strand : Nat} (hstrand : strand < Config.strands s.ident.variant)
include hup hstrand

/-- R33 and R45: the lower pace, and the lowest of a margin check's last 2 ms. -/
theorem exec_paceProbeRun_fitted (p0 p1 : Nat) :
    let p := min 4095 (min p0 p1)
    exec (.paceProbeRun strand p0 p1) s = .next ((s.modStrand strand fun x =>
      { x with probe := p, marginProbe := if s.marginReads then some (match x.marginProbe with | some y => min y p | none => p)
                                          else x.marginProbe }).judgePace strand) := by
  intro p
  change execPaceProbeRun strand p0 p1 s = _
  simp only [execPaceProbeRun, hup, hstrand, decide_true, Bool.not_true, Bool.or_self, Bool.false_eq_true, if_false] <;> rfl

section
variable (count : Nat) {busy : Nat} (hbusy : 10000 ≤ busy)
include hbusy

/-- R33 and R34: a window that counts, with the low windows in a row after it. -/
theorem exec_runPaceWindow_counts {runs : Nat}
    (hruns : (if 10 * min 4095 (count * 1000 / busy) < 9 * (s.strand strand).probe then (s.strand strand).lowRuns + 1 else 0) = runs) :
    let run := min 4095 (count * 1000 / busy)
    let a := s.modStrand strand fun x => { x with run := run, lowRuns := runs }
    exec (.runPaceWindow strand count busy) s = .next (if 3 ≤ runs ∧ (s.strand strand).probeFault = false then
      (((a.modStrand strand fun x => { x with probeFault := true }).modVcore fun v => { v with fixedMax := true }).record
          34 1 sevFault 962 noSource [(4, strand), (4, run), (4, (s.strand strand).probe)]).fire 962
      else a) := by
  subst hruns
  change execRunPaceWindow strand count busy s = _
  simp only [execRunPaceWindow, hup, hstrand, Nat.not_lt.mpr hbusy, decide_true, decide_false, Bool.not_true, Bool.or_self,
    Bool.false_eq_true, if_false, decide_eq_true_eq]

theorem exec_runPaceWindow_good (hgood : 9 * (s.strand strand).probe ≤ 10 * min 4095 (count * 1000 / busy)) :
    exec (.runPaceWindow strand count busy) s =
      .next (s.modStrand strand fun x => { x with run := min 4095 (count * 1000 / busy), lowRuns := 0 }) :=
  (exec_runPaceWindow_counts hup hstrand count hbusy (if_neg (Nat.not_lt.mpr hgood))).trans (congrArg _ (if_neg (by omega)))

section
variable (hlow : 10 * min 4095 (count * 1000 / busy) < 9 * (s.strand strand).probe)
include hlow

theorem exec_runPaceWindow_low (hfew : (s.strand strand).lowRuns < 2) :
    exec (.runPaceWindow strand count busy) s = .next (s.modStrand strand fun x =>
      { x with run := min 4095 (count * 1000 / busy), lowRuns := (s.strand strand).lowRuns + 1 }) :=
  (exec_runPaceWindow_counts hup hstrand count hbusy (if_pos hlow)).trans (congrArg _ (if_neg (by omega)))

/-- R34: the third low window in a row. -/
theorem exec_runPaceWindow_faults (hmany : 2 ≤ (s.strand strand).lowRuns) (hnew : (s.strand strand).probeFault = false) :
    let run := min 4095 (count * 1000 / busy)
    exec (.runPaceWindow strand count busy) s =
      .next (((((s.modStrand strand fun x => { x with run := run, lowRuns := (s.strand strand).lowRuns + 1 }).modStrand strand
        fun x => { x with probeFault := true }).modVcore fun v => { v with fixedMax := true }).record
          34 1 sevFault 962 noSource [(4, strand), (4, run), (4, (s.strand strand).probe)]).fire 962) :=
  (exec_runPaceWindow_counts hup hstrand count hbusy (if_pos hlow)).trans (congrArg _ (if_pos ⟨Nat.succ_le_succ hmany, hnew⟩))

end
end
end

/-! ### Margin checks -/

section
variable {s : State}

theorem State.marginDue_first (hoff : s.vcore.regOn = false) : s.marginDue = true := by
  simp [State.marginDue, hoff]

section
variable (hon : s.vcore.regOn = true) {t : Nat} (ht : s.vcore.lastMargin = some t)
include hon ht

theorem State.marginDue_early (hearly : s.clk.local_ + 50000 < t + 3600000000000) : s.marginDue = false := by
  simp [State.marginDue, hon, ht, Nat.not_le.mpr hearly]

/-- R45: the 3,600 s are over; the modes and the quiesced unit hold the check back (log 96). -/
theorem State.marginDue_late (hlate : t + 3600000000000 ≤ s.clk.local_) :
    s.marginDue = (s.mode != .lantern && s.mode != .testHold && !s.isQuiesced 0) := by
  have hwindow : t + 3600000000000 ≤ s.clk.local_ + 50000 := by omega
  simp only [State.marginDue, hon, ht, hwindow, decide_true, Bool.not_true, Bool.false_or, Bool.and_true]

end

theorem exec_marginCheckStart_begins (hup : s.up = true) (hrun : s.vcore.marginRun = false) (hdue : s.marginDue = true) :
    exec .marginCheckStart s =
      .next (({ s with strands := s.strands.map fun x => { x with marginProbe := none } } : State).modVcore fun v =>
        { v with marginRun := true, marginCheck := v.code == 40, lastMargin := some s.clk.local_,
                 heldSince := if v.code = 40 then some s.clk.local_ else none }) := by
  change execMarginCheckStart s = _
  simp only [execMarginCheckStart, hup, hrun, hdue, Bool.not_true, Bool.or_self, Bool.false_eq_true, if_false]

theorem exec_marginCheckStart_not_due (hnot : s.vcore.marginRun = true ∨ s.marginDue = false) : exec .marginCheckStart s = .next s := by
  change execMarginCheckStart s = _
  rcases hnot with hrun | hdue
  · simp [execMarginCheckStart, hrun]
  · simp [execMarginCheckStart, hdue]

section
variable {h : Nat} (hheld : s.vcore.heldSince = some h)
include hheld

theorem exec_marginCheckEnd_early (hearly : s.clk.local_ + 50000 < h + 10000000) : exec .marginCheckEnd s = .next s := by
  change execMarginCheckEnd s = _
  simp [execMarginCheckEnd, State.marginHeld, hheld, Nat.not_le.mpr hearly]

variable (hcheck : s.vcore.marginCheck = true)
include hcheck

theorem State.marginReads_iff : s.marginReads = true ↔ h + 8000000 ≤ s.clk.local_ := by
  simp [State.marginReads, hcheck, hheld]

theorem State.marginHeld_late (hlate : h + 10000000 ≤ s.clk.local_) : s.marginHeld = true := by
  have hwindow : h + 10000000 ≤ s.clk.local_ + 50000 := by omega
  simp [State.marginHeld, hcheck, hheld, hwindow]

/-- R46: the check's verdict on every strand, and VCORE back to the regulator. -/
theorem exec_marginCheckEnd_held (hup : s.up = true) (hlate : h + 10000000 ≤ s.clk.local_) :
    let a := (List.range (Config.strands s.ident.variant)).foldl State.judgeMargin s
    let stays := (s.fixedMax && s.mode != .lantern && s.mode != .testHold) || s.isQuiesced 0
    exec .marginCheckEnd s = .next ((a.setCode (if stays then a.vcore.code else 0)).modVcore fun v =>
        { v with marginCheck := false, marginRun := false, heldSince := none, regOn := true }) := by
  change execMarginCheckEnd s = _
  simp only [execMarginCheckEnd, hup, State.marginHeld_late hheld hcheck hlate, Bool.not_true, Bool.or_self, Bool.false_eq_true, if_false]

end

/-! ### The core supply -/

theorem exec_vcoreSupplyFault_inside {mv : Nat} (hlow : 685 ≤ mv) (hhigh : mv ≤ 915) : exec (.vcoreSupplyFault mv) s = .next s := by
  change execVcoreSupplyFault mv s = _
  simp [execVcoreSupplyFault, hlow, hhigh]

/-- R42. -/
theorem exec_vcoreSupplyFault_outside (hup : s.up = true) {mv : Nat} (hout : mv < 685 ∨ 915 < mv) :
    exec (.vcoreSupplyFault mv) s =
      .next ((((s.modVcore fun v => { v with supplyFault := true }).record 42 1 sevFault 965 noSource [(4, mv)]).fire 965).moduleFault
        .supply (State.restartFor .supply)) := by
  change execVcoreSupplyFault mv s = _
  have hrange : ¬ (685 ≤ mv ∧ mv ≤ 915) := by omega
  simp [execVcoreSupplyFault, hup, hrange]

/-- R45: a margin check raises VCORE. -/
theorem exec_vcoreRegulatorStep_margin {t : Nat} (hup : (s.advanceTo t).up = true) (hrun : (s.advanceTo t).vcore.marginRun = true) :
    exec (.vcoreRegulatorStep t) s = .next (s.advanceTo t).raiseVcore := by
  change execVcoreRegulatorStep t s = _
  simp only [execVcoreRegulatorStep, hup, hrun, Bool.and_self, if_true]

/-- R37. -/
theorem exec_vcoreRegulatorStep_regulates {t : Nat} (hrun : (s.advanceTo t).vcore.marginRun = false)
    (hreg : (s.advanceTo t).regulates = true) : exec (.vcoreRegulatorStep t) s = .next (s.advanceTo t).regulate := by
  change execVcoreRegulatorStep t s = _
  simp only [execVcoreRegulatorStep, hrun, hreg, Bool.and_false, Bool.false_eq_true, if_false, if_true]

end

/-! ### Crossings -/

/-- A crossing, where it is changed. -/
theorem State.crossing_modCrossing_self (s : State) (unit : Nat) (f : Crossing → Crossing) :
    (s.modCrossing unit f).crossing unit = f (s.crossing unit) := by
  simp only [State.modCrossing, State.crossing, NMap.get_set, Option.getD_some]

/-- Frames on the wire leave the crossings. -/
theorem State.crossing_putSent (s : State) (fs : List OutFrame) (unit : Nat) : (s.putSent fs).crossing unit = s.crossing unit := by
  unfold State.putSent
  refine foldl_keep (fun s => s.crossing unit) _ ?_ fs s
  exact fun _ _ => rfl

/-- A crossing is changed by what it holds. -/
theorem State.modCrossing_congr {s : State} {unit : Nat} {f g : Crossing → Crossing} (h : f (s.crossing unit) = g (s.crossing unit)) :
    s.modCrossing unit f = s.modCrossing unit g := by
  simp only [State.modCrossing, h]

/-- R52 and R55: what waits goes across, as it waited before the crossing changed. -/
theorem State.takePending_eq {s : State} {unit : Nat} {ps : List CrossTransfer} (hps : (s.crossing unit).pending = ps) :
    s.takePending unit = (s.putSent (ps.filterMap (·.frame))).modCrossing unit fun c =>
      { c with completed := c.completed + ps.length, pending := [] } := by
  subst hps
  unfold State.takePending
  refine State.modCrossing_congr ?_
  rw [State.crossing_putSent]

/-- R54 and R55: what a reset leaves of the transfers that waited. -/
theorem State.flushCrossing_eq (s : State) (unit : Nat) :
    let stood := (s.crossing unit).pending.filter (·.acked)
    s.flushCrossing unit = (s.putSent (stood.filterMap (·.frame))).modCrossing unit fun c =>
      { c with open_ := false, fabricDone := false, islandDone := false, pending := [], completed := c.completed + stood.length,
               flushed := c.flushed + ((s.crossing unit).pending.filter (!·.acked)).length } := by
  unfold State.flushCrossing
  refine State.modCrossing_congr ?_
  rw [State.crossing_putSent]

section
variable {unit : Nat} {s : State} (hup : s.up = true) (hfit : Config.unitFitted s.ident.variant unit = true)
include hup hfit

theorem exec_islandWake_runs (hwake : (s.crossing unit).wakeFailed = false) (hopen : (s.crossing unit).open_ = true) :
    let b := s.modCrossing unit fun c => { c with stopped := false }
    exec (.islandWake unit) s = .next ((b.putSent ((s.crossing unit).pending.filterMap (·.frame))).modCrossing unit fun c =>
      { c with completed := c.completed + (s.crossing unit).pending.length, pending := [] }) := by
  intro b
  have hpending : (b.crossing unit).pending = (s.crossing unit).pending := by rw [State.crossing_modCrossing_self]
  rw [← State.takePending_eq hpending]
  change execIslandWake unit s = _
  simp only [execIslandWake, hup, hfit, hwake, hopen, Bool.not_true, Bool.or_self, Bool.false_eq_true, if_false, b]

/-- R53: what waits ends with an error, and the unit is shown as faulted. -/
theorem exec_islandWakeFail_stopped (hstopped : (s.crossing unit).stopped = true) :
    let a := ((s.modCrossing unit fun c =>
      { c with wakeFailed := true, errors := c.errors + max 1 c.pending.length, pending := [] }).record 53 1 sevFault 968 noSource
        [(4, unit)]).fire 968
    exec (.islandWakeFail unit) s = .next (a.faultUnit unit) := by
  change execIslandWakeFail unit s = _
  simp only [execIslandWakeFail, hup, hfit, hstopped, Bool.not_true, Bool.or_self, Bool.false_eq_true, if_false]

theorem exec_crossingResetNotice_flushes :
    exec (.crossingResetNotice unit) s =
      .next (if unit = 0x60 ∧ ¬ s.solo then (s.flushCrossing unit).resetLink else s.flushCrossing unit) := by
  change execCrossingResetNotice unit s = _
  simp only [execCrossingResetNotice, hup, hfit, Bool.not_true, Bool.or_self, Bool.false_eq_true, if_false]

end

section
variable {unit : Nat} {s : State} (hclosed : (s.crossing unit).open_ = false)
include hclosed

/-- R55: the island's report alone. -/
theorem exec_crossingReopen_island_first (hfabric : (s.crossing unit).fabricDone = false) :
    exec (.crossingReopen ⟨unit, true⟩) s = .next (s.modCrossing unit fun c => { c with islandDone := true }) := by
  change execCrossingReopen ⟨unit, true⟩ s = _
  simp [execCrossingReopen, hclosed, hfabric]

/-- R55: the fabric's report alone. -/
theorem exec_crossingReopen_fabric_first (hisland : (s.crossing unit).islandDone = false) :
    exec (.crossingReopen ⟨unit, false⟩) s = .next (s.modCrossing unit fun c => { c with fabricDone := true }) := by
  change execCrossingReopen ⟨unit, false⟩ s = _
  simp [execCrossingReopen, hclosed, hisland]

/-- R55: the second report reopens the crossing. -/
theorem exec_crossingReopen_second {island : Bool}
    (hother : (if island then (s.crossing unit).fabricDone else (s.crossing unit).islandDone) = true) :
    let b := s.modCrossing unit fun c => { c with open_ := true, fabricDone := false, islandDone := false }
    exec (.crossingReopen ⟨unit, island⟩) s = .next (if (s.crossing unit).stopped then b else b.takePending unit) := by
  change execCrossingReopen ⟨unit, island⟩ s = _
  cases island <;> simp_all [execCrossingReopen]

end

/-! ### The obligation -/

/-- Settles O24: each clause is the lemma of its event's outcome. -/
theorem paceAndIslands : Obligations.PaceAndIslands := by
  unfold Obligations.PaceAndIslands
  refine ⟨?pace, ?islands⟩
  case pace =>
    intro s hup
    refine ⟨?probe, ?window, ?start, ?notDue, State.marginDue_first, ?early, ?late, ?held, ?notHeld, ?reads, ?inside, ?outside, ?margin,
      ?regulates⟩
    case probe => exact fun strand p0 p1 hstrand => exec_paceProbeRun_fitted hup hstrand p0 p1
    case window =>
      exact fun strand count busy hstrand hbusy => ⟨exec_runPaceWindow_good hup hstrand count hbusy,
        exec_runPaceWindow_low hup hstrand count hbusy, exec_runPaceWindow_faults hup hstrand count hbusy⟩
    case start => exact exec_marginCheckStart_begins hup
    case notDue => exact exec_marginCheckStart_not_due
    case early => exact fun t hon ht => State.marginDue_early hon ht
    case late => exact fun t hon ht => State.marginDue_late hon ht
    case held => exact fun h hcheck hheld => exec_marginCheckEnd_held hheld hcheck hup
    case notHeld => exact fun h hheld => exec_marginCheckEnd_early hheld
    case reads => exact fun h hcheck hheld => State.marginReads_iff hheld hcheck
    case inside => exact fun mv => exec_vcoreSupplyFault_inside
    case outside => exact fun mv => exec_vcoreSupplyFault_outside hup
    case margin => exact fun t => exec_vcoreRegulatorStep_margin
    case regulates => exact fun t => exec_vcoreRegulatorStep_regulates
  case islands =>
    intro unit s hup hfit
    refine ⟨exec_islandWake_runs hup hfit, exec_islandWakeFail_stopped hup hfit, ?reset, ?reopen, ?link, ?solo⟩
    case reset =>
      rw [exec_crossingResetNotice_flushes hup hfit, State.flushCrossing_eq]
    case reopen =>
      refine fun hclosed => ⟨exec_crossingReopen_island_first hclosed, exec_crossingReopen_fabric_first hclosed, fun island hother => ?_⟩
      have hreopen := exec_crossingReopen_second hclosed hother
      refine ⟨fun hstopped => hreopen.trans (congrArg _ (if_pos hstopped)), fun hruns => ?_⟩
      refine (hreopen.trans (congrArg _ (if_neg (Bool.eq_false_iff.mp hruns)))).trans (congrArg _ (State.takePending_eq ?_))
      rw [State.crossing_modCrossing_self]
    case link =>
      intro hpaired
      change execLinkReset s = _
      simp [execLinkReset, hup, hpaired]
    case solo =>
      intro halone
      change execLinkReset s = _
      simp [execLinkReset, halone]

end Sys2Proof.Machine
end

section
/-! PROOFS. What the commands of diagnostics answer (R35, R200, R215, R226, R310, R468, R594, R597, R599, R600): one lemma for each outcome of a
command. -/
namespace Sys2Proof.Machine
open Sys2Proof.Claims

/-! ### Requests that run -/

/-- A request that runs and whose body replies from a state. -/
theorem receive_replies {s t : State} {c : Cmd} {v : Brought} {r : Req} {body : State → Ticket → Answer} {status : Nat} {b : List Byte}
    (hruns : s.fate c r = .runs) (hbody : body (s.accept r) (r.ticket c) = .ok (.reply t status b)) :
    Host.Outcome.next (φ := Fault) (ρ := Refusal) (s.receive c v r body) = .next (replied c r t status b) := by
  rw [State.receive_runs hruns, hbody] <;> rfl

/-- A request that runs and whose body refuses it. -/
theorem receive_refuses {s : State} {c : Cmd} {v : Brought} {r : Req} {body : State → Ticket → Answer} {e : Refused}
    (hruns : s.fate c r = .runs) (hbody : body (s.accept r) (r.ticket c) = .error e) :
    Host.Outcome.next (φ := Fault) (ρ := Refusal) (s.receive c v r body) = .next (replied c r (s.accept r) e.1 e.2) := by
  rw [State.receive_runs hruns, hbody] <;> rfl

theorem need_holds {b : Bool} (hb : b = true) (e : Refused) : need b e = .ok () := if_pos hb

theorem need_fails {b : Bool} (hb : b = false) (e : Refused) : need b e = .error e := by
  subst hb
  rfl

theorem sized_holds {p : List Byte} {n : Nat} (hp : p.length = n) : sized p n = .ok () := need_holds (beq_iff_eq.mpr hp) _

theorem zeros_hold {p : List Byte} {off n : Nat} (hp : field p off n = 0) : zeros p off n = .ok () := need_holds (beq_iff_eq.mpr hp) _

/-! ### Counters -/

section
variable {s : State} {r : Req}

section
variable (hruns : s.fate ⟨0x0D01, true, 1, false, .E, false⟩ r = .runs) (hlen : r.payload.length = 4)
include hruns hlen

/-- R600: the counters from FIRST on, at one instant. -/
theorem exec_diagCounterRead_reads (hrange : field r.payload 0 2 + field r.payload 2 2 ≤ 256) :
    exec (.diagCounterRead r) s = .next (replied ⟨0x0D01, true, 1, false, .E, false⟩ r (s.accept r) 0
      ((((s.accept r).counters.drop (field r.payload 0 2)).take (field r.payload 2 2)).flatMap
        fun c => be 4 c.value ++ be 8 (s.accept r).clk.local_)) := by
  refine receive_replies hruns ?_
  simp only [sized_holds hlen, except_ok_bind, need_holds (decide_eq_true hrange), ok]

theorem exec_diagCounterRead_beyond (hrange : 256 < field r.payload 0 2 + field r.payload 2 2) :
    exec (.diagCounterRead r) s = .next (replied ⟨0x0D01, true, 1, false, .E, false⟩ r (s.accept r) 5 (badParam 2).2) := by
  refine receive_refuses (e := badParam 2) hruns ?_
  simp only [sized_holds hlen, except_ok_bind, need_fails (decide_eq_false (Nat.not_le.mpr hrange)), except_error_bind]

end

section
variable (hruns : s.fate ⟨0x0D02, true, 2, false, .E, false⟩ r = .runs) (hlen : r.payload.length = 8) (hzero : field r.payload 5 3 = 0)
  (hcounter : field r.payload 0 2 ≤ 255) (hsource : Config.counterSource (s.accept r).ident.variant (field r.payload 2 2) = true)
  (hchain : field r.payload 4 1 = 0 ∨ (field r.payload 4 1 = 1 ∧ field r.payload 0 2 % 2 = 0))
include hruns hlen hzero hcounter hsource hchain

/-- R597 and R599: the counter is bound to its source and starts at 0. -/
theorem exec_diagCounterSelect_binds (hfree : chainedOdd (s.accept r).counters (field r.payload 0 2) = false) :
    exec (.diagCounterSelect r) s = .next (replied ⟨0x0D02, true, 2, false, .E, false⟩ r
      { s.accept r with
        counters := selectCounter (s.accept r).counters (field r.payload 0 2) (field r.payload 2 2) (field r.payload 4 1 == 1) } 0 []) := by
  have hchained : (field r.payload 4 1 == 0 || (field r.payload 4 1 == 1 && field r.payload 0 2 % 2 == 0)) = true := by
    simpa using hchain
  refine receive_replies hruns ?_
  simp only [sized_holds hlen, except_ok_bind, zeros_hold hzero, need_holds (decide_eq_true hcounter),
    need_holds hsource, need_holds hchained, need_holds (congrArg not hfree), ok]

/-- R599: the upper counter of a chain has no source of its own. -/
theorem exec_diagCounterSelect_chained (hodd : chainedOdd (s.accept r).counters (field r.payload 0 2) = true) :
    exec (.diagCounterSelect r) s = .next (replied ⟨0x0D02, true, 2, false, .E, false⟩ r (s.accept r) 0x0B errorPlain) := by
  have hchained : (field r.payload 4 1 == 0 || (field r.payload 4 1 == 1 && field r.payload 0 2 % 2 == 0)) = true := by
    simpa using hchain
  refine receive_refuses (e := wrongState) hruns ?_
  simp only [sized_holds hlen, except_ok_bind, zeros_hold hzero, need_holds (decide_eq_true hcounter),
    need_holds hsource, need_holds hchained, need_fails (congrArg not hodd), except_error_bind]

end

/-! ### Watchdogs -/

section
variable (hruns : s.fate ⟨0x0D03, true, 1, false, .E, false⟩ r = .runs) (hlen : r.payload.length = 4) (hzero : field r.payload 2 2 = 0)
include hruns hlen hzero

/-- R594: the watchdog of a privileged unit. -/
theorem exec_diagWatchdogRead_unit (hunit : 2048 ≤ field r.payload 0 2) (hlast : field r.payload 0 2 ≤ 2055) :
    exec (.diagWatchdogRead r) s = .next (replied ⟨0x0D03, true, 1, false, .E, false⟩ r (s.accept r) 0
      ((s.accept r).unitWatchdog (field r.payload 0 2 - 2048))) := by
  refine receive_replies hruns ?_
  simp only [sized_holds hlen, except_ok_bind, zeros_hold hzero, need_holds (decide_eq_true hlast), if_pos hunit, ok]

variable (htask : field r.payload 0 2 < 2048)
include htask

/-- R594: the watchdog of a task. -/
theorem exec_diagWatchdogRead_task {t : Task} (ht : (s.accept r).task (field r.payload 0 2) = some t) :
    exec (.diagWatchdogRead r) s = .next (replied ⟨0x0D03, true, 1, false, .E, false⟩ r (s.accept r) 0 ((s.accept r).taskWatchdog t)) := by
  have hlast : field r.payload 0 2 ≤ 2055 := by omega
  refine receive_replies hruns ?_
  simp only [sized_holds hlen, zeros_hold hzero, need_holds (decide_eq_true hlast), except_ok_bind, if_neg (Nat.not_le.mpr htask), ht, ok]

/-- R594: a task that does not exist. -/
theorem exec_diagWatchdogRead_no_task (ht : (s.accept r).task (field r.payload 0 2) = none) :
    exec (.diagWatchdogRead r) s = .next (replied ⟨0x0D03, true, 1, false, .E, false⟩ r (s.accept r) 0 (be 48 0)) := by
  have hlast : field r.payload 0 2 ≤ 2055 := by omega
  refine receive_replies hruns ?_
  simp only [sized_holds hlen, zeros_hold hzero, need_holds (decide_eq_true hlast), except_ok_bind, if_neg (Nat.not_le.mpr htask), ht, ok]

end

/-! ### Strands and speculation -/

/-- R35 and R215. -/
theorem exec_diagStrandStatus_reads (hruns : s.fate ⟨0x0D04, true, 1, false, .E, false⟩ r = .runs) (hlen : r.payload.length = 4)
    (hzero : field r.payload 1 3 = 0) (hstrand : field r.payload 0 1 ≤ 15) :
    exec (.diagStrandStatus r) s = .next (replied ⟨0x0D04, true, 1, false, .E, false⟩ r (s.accept r) 0
      (be 4 ((s.accept r).paceStatus (field r.payload 0 1)) ++ be 4 ((s.accept r).parallaxStatus (field r.payload 0 1))
        ++ be 4 (s.accept r).vcoreStatus)) := by
  refine receive_replies hruns ?_
  simp only [sized_holds hlen, except_ok_bind, zeros_hold hzero, need_holds (decide_eq_true hstrand), ok]

section
variable (hruns : s.fate ⟨0x0D05, true, 1, true, .E, false⟩ r = .runs) (hlen : r.payload.length = 4) (hzero : field r.payload 2 2 = 0)
  {t : Task} (ht : (s.accept r).task (field r.payload 0 2) = some t)
include hruns hlen hzero ht

/-- R200 and R468: a task of the request's tenant. -/
theorem exec_diagTaskSpec_own (htenant : t.tenant = r.tenant) :
    exec (.diagTaskSpec r) s = .next (replied ⟨0x0D05, true, 1, true, .E, false⟩ r (s.accept r) 0 (be 4 t.specStatus)) := by
  refine receive_replies hruns ?_
  simp only [sized_holds hlen, zeros_hold hzero, except_ok_bind, ht, if_pos htenant, ok]

/-- R468: another tenant's task. -/
theorem exec_diagTaskSpec_other (htenant : t.tenant ≠ r.tenant) :
    exec (.diagTaskSpec r) s = .next (replied ⟨0x0D05, true, 1, true, .E, false⟩ r (s.accept r) 5 (badParam 0).2) := by
  refine receive_refuses (e := badParam 0) hruns ?_
  simp only [sized_holds hlen, zeros_hold hzero, except_ok_bind, ht, if_neg htenant]

end

/-! ### Displaced frames and tags -/

/-- R226: a slot that holds no frame, which the tenant's gate admits. -/
theorem exec_diagDisplacedRead_empty (hruns : s.fate ⟨0x0D06, true, 2, true, .E, false⟩ r = .runs) (hlen : r.payload = [])
    (hslot : ((s.accept r).tenant r.tenant).slot = [])
    (hgate : (s.accept r).gateCheck ⟨15, r.tenant / 4, 0, (s.accept r).privOf r.session, if r.tenant < 512 then some r.tenant else none⟩ = none) :
    exec (.diagDisplacedRead r) s = .next (replied ⟨0x0D06, true, 2, true, .E, false⟩ r (s.accept r) 0 (be 64 0)) := by
  have hsize : sized r.payload 0 = .ok () := sized_holds (congrArg List.length hlen)
  refine receive_replies hruns ?_
  simp only [hsize, except_ok_bind, hslot, State.throughGate, hgate, List.isEmpty_nil, if_true, ok]

/-- R310. -/
theorem exec_diagTagRead_reads (hruns : s.fate ⟨0x0D07, true, 1, false, .E, false⟩ r = .runs) (hlen : r.payload.length = 4)
    (htag : field r.payload 0 4 < Config.tags (s.accept r).ident.variant) :
    exec (.diagTagRead r) s = .next (replied ⟨0x0D07, true, 1, false, .E, false⟩ r (s.accept r) 0
      ((s.accept r).tagWords (field r.payload 0 4))) := by
  refine receive_replies hruns ?_
  simp only [sized_holds hlen, except_ok_bind, need_holds (decide_eq_true htag), ok]

end

/-! ### The obligation -/

/-- Settles O49: each clause is the lemma of its command's outcome. -/
theorem diagnosticsCommands : Obligations.DiagnosticsCommands := by
  unfold Obligations.DiagnosticsCommands
  intro s r
  refine ⟨?counterRead, ?counterSelect, ?watchdog, exec_diagStrandStatus_reads, ?taskSpec, exec_diagDisplacedRead_empty, exec_diagTagRead_reads⟩
  case counterRead => exact fun hruns hlen => ⟨exec_diagCounterRead_reads hruns hlen, exec_diagCounterRead_beyond hruns hlen⟩
  case counterSelect =>
    exact fun hruns hlen hzero hcounter hsource hchain => ⟨exec_diagCounterSelect_binds hruns hlen hzero hcounter hsource hchain,
      exec_diagCounterSelect_chained hruns hlen hzero hcounter hsource hchain⟩
  case watchdog =>
    exact fun hruns hlen hzero => ⟨exec_diagWatchdogRead_unit hruns hlen hzero,
      fun t htask => exec_diagWatchdogRead_task hruns hlen hzero htask, exec_diagWatchdogRead_no_task hruns hlen hzero⟩
  case taskSpec =>
    exact fun t hruns hlen hzero ht => ⟨exec_diagTaskSpec_own hruns hlen hzero ht, exec_diagTaskSpec_other hruns hlen hzero ht⟩

end Sys2Proof.Machine
end

section
/-! PROOFS. Overruns (R88), publications at their instants (R72), and inputs that are published (R74): one lemma for each outcome of an event. -/
namespace Sys2Proof.Machine

section
variable {s : State} {n : Nat} {t : Task} (ht : s.task n = some t)
include ht

/-- R88: what the cycle gives up, the record, the counts, and the partner told. -/
theorem State.overrun_eq :
    let a := (s.modTask n fun t => { t.modLanes Lane.giveUp with atPub := { t.atPub with overrun := true } }).countN
      (0x0200 + t.strand) t.lane0.segs.length
    let b := (a.record 88 1 sevFault noSource t.tenant [(4, n), (8, t.cycle)]).count (0x0600 + t.strand)
    s.overrun n = if s.alone then b else b.send 3 (.overrunNotice n t.cycle) := by
  simp only [State.overrun, ht]

/-- R88: the cycle has not come to its transit 40 µs before its publication, the slack of 50 µs included (log 15). -/
theorem exec_budgetOverrun_late (hcycle : t.inCycle = true) (htransit : t.transited = false) (hoverrun : t.atPub.overrun = false)
    (hparallax : t.atPub.parallax = none) (hn : n ≠ lanternTask) (hlate : t.pubInstant ≤ s.clk.ring + 90000) :
    exec (.budgetOverrun n) s = .next (s.overrun n) := by
  change execBudgetOverrun n s = _
  simp [execBudgetOverrun, ht, hcycle, htransit, hoverrun, hparallax, hn, hlate]

/-- R72: a cycle whose outcome stands publishes at its instant. -/
theorem exec_publicationInstant_due (hidle : s.change.state ≠ 3) (hcycle : t.inCycle = true) (hdue : t.pubInstant ≤ s.clk.ring)
    (hn : n ≠ lanternTask)
    (hdecided : t.transited = true ∨ t.atPub.overrun = true ∨ t.atPub.parallax.isSome ∨ t.atPub.fault.isSome) :
    exec (.publicationInstant n) s = .next (s.publish t) := by
  change execPublicationInstant n s = _
  have hends : (t.transited || t.atPub.overrun || t.atPub.parallax.isSome || t.atPub.fault.isSome) = true := by
    simpa only [Bool.or_eq_true, or_assoc] using hdecided
  simp [execPublicationInstant, State.switchDue_unarmed hidle, ht, hcycle, hdue, hn, hends]

/-- R74 and R324. -/
theorem exec_inputPublication_agreed {p : Snapshot} (hp : t.snap = some p) (hagreed : p.agreed = true)
    (hdue : p.closeAt + 10000 ≤ s.clk.ring) :
    exec (.inputPublication n) s =
      .next { s with image := { s.image with inputs := (s.published t p).foldl sigPut s.image.inputs } } := by
  change execInputPublication n s = _
  have hwindow : p.closeAt + 10000 ≤ s.clk.ring + 50000 := by omega
  simp [execInputPublication, ht, hp, hagreed, hwindow]

end

/-! ### The obligation -/

/-- Settles O17: each clause is the lemma of its event's outcome. -/
theorem publicationAndOverrun : Obligations.PublicationAndOverrun := by
  unfold Obligations.PublicationAndOverrun
  intro n s t ht
  refine ⟨?overrun, exec_publicationInstant_due ht, fun p => exec_inputPublication_agreed ht⟩
  case overrun =>
    intro hcycle htransit hoverrun hparallax hn hlate
    exact (exec_budgetOverrun_late ht hcycle htransit hoverrun hparallax hn hlate).trans (congrArg _ (State.overrun_eq ht))

end Sys2Proof.Machine
end

section
/-! PROOFS. The test port (R619 to R622), the carrier management bus (R612, R613) and the checks of the pair (R84, R240): one lemma for each
outcome. -/
namespace Sys2Proof.Machine

/-! ### Instructions of the test port -/

section
variable {i : Instr} {s t : State} (hport : exec i s = .next (s.tapOn t))
include hport

theorem exec_tap_powered (hpower : s.front.powered = true) : exec i s = .next t := by
  rw [hport, State.tapOn, if_pos hpower]

theorem exec_tap_unpowered (hpower : s.front.powered = false) : exec i s = .next s := by
  rw [hport, State.tapOn, if_neg (Bool.eq_false_iff.mp hpower)]

end

section
variable {s : State}

section
variable {i : Instr} {code otherwise_ : Nat} {cells : List Bool} {deny : Tap → Tap} (hpower : s.front.powered = true)
include hpower

/-- R619: outside TEST-HOLD, EXTEST and its forms act as SAMPLE. -/
theorem exec_extest_denied (hport : exec i s = .next (s.tapOn (s.drive code 1 cells fun t => { t with extestDenied := true })))
    (hcells : cells ≠ []) (hmode : s.mode ≠ .testHold) :
    exec i s = .next ((s.modTap fun t => { t with extestDenied := true, boundary := cells }).tapSelect code 1) := by
  rw [exec_tap_powered hport hpower, State.drive, if_neg hmode]
  simp only [List.isEmpty_eq_false_iff.mpr hcells, Bool.false_eq_true, if_false]

/-- R619: outside TEST-HOLD, CLAMP and HIGHZ act as BYPASS. -/
theorem exec_clamp_denied (hport : exec i s = .next (s.tapOn (s.drive code 0xFF [] fun t => { t with driveDenied := true })))
    (hmode : s.mode ≠ .testHold) :
    exec i s = .next ((s.modTap fun t => { t with driveDenied := true }).tapSelect code 0xFF) :=
  (exec_tap_powered hport hpower).trans (congrArg _ (if_neg hmode))

/-- R622: in TEST-HOLD the cells are captured, and the instruction takes the outputs. -/
theorem exec_extest_taken (hport : exec i s = .next (s.tapOn (s.drive code otherwise_ cells deny))) (hcells : cells ≠ [])
    (hmode : s.mode = .testHold) :
    exec i s = .next ((s.modTap fun t => { t with boundary := cells }).tapSelect code code).driveTake := by
  rw [exec_tap_powered hport hpower, State.drive, if_pos hmode]
  simp only [List.isEmpty_eq_false_iff.mpr hcells, Bool.false_eq_true, if_false]

/-- R622: in TEST-HOLD the instruction takes the outputs, and the boundary register stands. -/
theorem exec_clamp_taken (hport : exec i s = .next (s.tapOn (s.drive code otherwise_ [] deny))) (hmode : s.mode = .testHold) :
    exec i s = .next ((s.modTap fun t => { t with boundary := t.boundary }).tapSelect code code).driveTake :=
  (exec_tap_powered hport hpower).trans (congrArg _ (if_pos hmode))

end

section
variable (hpower : s.front.powered = true)
include hpower

/-- R619. -/
theorem exec_ioloop_denied (hmode : s.mode ≠ .testHold) :
    exec .ioloop s = .next ((s.modTap fun t => { t with ioloopDenied := true }).tapSelect 0x20 0xFF) :=
  (exec_tap_powered rfl hpower).trans (congrArg _ (if_neg fun h => hmode h.1))

/-- R621 and R622; an NK-920 is denied IOLOOP (log 84). -/
theorem exec_ioloop_taken (hmode : s.mode = .testHold) (hvariant : s.ident.variant ≠ .nk920) :
    exec .ioloop s = .next ((s.modTap fun t => { t with ir := 0x20, selected := 0x20 }).driveTake).settleDo :=
  (exec_tap_powered rfl hpower).trans (congrArg _ (if_pos ⟨hmode, hvariant⟩))

variable (hselected : s.tap.selected = 0x20)
include hselected

/-- R621: DO k is switched by bit k. -/
theorem exec_updateDr_ioloop (v : BitVec 49) :
    exec (.updateDr v) s = .next (s.modTap fun t => { t with ioloop := (t.ioloop &&& ~~~ 0xFFFF#49) ||| (v &&& 0xFFFF#49) }).settleDo :=
  congrArg Host.Outcome.next (if_pos ⟨hpower, hselected⟩)

/-- R621: the readbacks, the inputs and LPLUS_OK are captured. -/
theorem exec_captureDr_ioloop (readback : BitVec 16) (di : BitVec 32) (lplus : Bool) :
    exec (.captureDr readback di lplus) s = .next (s.modTap fun t => { t with captured := (BitVec.ofBool lplus) ++ di ++ readback }) :=
  congrArg Host.Outcome.next (if_pos ⟨hpower, hselected⟩)

end

section
variable (hselected : s.tap.selected ≠ 0x20)
include hselected

theorem exec_updateDr_other_register (v : BitVec 49) : exec (.updateDr v) s = .next s :=
  congrArg Host.Outcome.next (if_neg fun h => hselected h.2)

theorem exec_captureDr_other_register (readback : BitVec 16) (di : BitVec 32) (lplus : Bool) :
    exec (.captureDr readback di lplus) s = .next s :=
  congrArg Host.Outcome.next (if_neg fun h => hselected h.2)

end

/-! ### The carrier -/

/-- R613: the block is made fresh while the bus is served. -/
theorem exec_cmBlockRefresh_served (temp : Int) (feed1 feed2 : Nat) (hserved : s.front.cmServed = true) :
    exec (.cmBlockRefresh temp feed1 feed2) s = .next { s with cmBlock := s.cmFresh temp feed1 feed2 } :=
  congrArg Host.Outcome.next (if_pos hserved)

theorem exec_cmBlockRefresh_unserved (temp : Int) (feed1 feed2 : Nat) (hserved : s.front.cmServed = false) :
    exec (.cmBlockRefresh temp feed1 feed2) s = .next s :=
  congrArg Host.Outcome.next (if_neg (Bool.eq_false_iff.mp hserved))

/-! ### A load judged by the standby -/

section
variable {tenant : Nat} {v : Version} {ns : List (Nat × Nat)} (hsolo : s.solo = false) (hmode : s.mode = .standby) (hup : s.up = true)
include hsolo hmode hup

/-- R84: the standby sends its figures and waits for the owner's. -/
theorem exec_recomputeRequest_load_good {a : Admitted} {shared : Nat} (hjudge : s.judgeLoad tenant v ns = .ok (a, shared)) :
    let f := figuresOf tenant 0 0 (some a) []
    exec (.recomputeRequest tenant 0 ⟨v, ns⟩) s =
      .next (({ s with checks := s.checks ++ [⟨tenant, 0, v, [], a, shared, f, none, none⟩] } : State).send 3 (.recomputeResult f)) := by
  change execRecomputeRequest tenant 0 ⟨v, ns⟩ s = _
  simp [execRecomputeRequest, hsolo, hmode, hup, hjudge]

/-- R84: the standby sends the code of what it found. -/
theorem exec_recomputeRequest_load_bad {e : Refused} (hjudge : s.judgeLoad tenant v ns = .error e) :
    exec (.recomputeRequest tenant 0 ⟨v, ns⟩) s =
      .next (s.send 3 (.recomputeResult (figuresOf tenant 0 (field e.2 1 1 + 256) none []))) := by
  change execRecomputeRequest tenant 0 ⟨v, ns⟩ s = _
  simp [execRecomputeRequest, hsolo, hmode, hup, hjudge]

end

/-! ### Figures compared -/

theorem exec_recomputeResult_unawaited {figures : CheckFigures}
    (hnone : (s.checks.find? fun w => w.tenant == figures.tenant && w.kind == figures.kind) = none) (hmode : s.mode ≠ .standby) :
    exec (.recomputeResult figures) s = .next s := by
  change execRecomputeResult figures s = _
  simp [execRecomputeResult, hnone, hmode]

section
variable {figures : CheckFigures} {w : CheckWait}
  (hw : (s.checks.find? fun w => w.tenant == figures.tenant && w.kind == figures.kind) = some w)
include hw

/-- R84 and R240: the owner tells its own figures and decides; what it found itself comes before the comparison (log 69). -/
theorem exec_recomputeResult_owner (hmode : s.mode = .owner) :
    let a : State := { s with checks := s.checks.filter fun x => !(x.tenant == w.tenant && x.kind == w.kind) }
    exec (.recomputeResult figures) s = .next (if w.figures = figures ∨ w.fail.isSome = true
      then (a.send 3 (.recomputeResult w.figures)).takeCheck w else (a.send 3 (.recomputeResult w.figures)).disagree w) := by
  change execRecomputeResult figures s = _
  simp only [execRecomputeResult, hw, hmode, if_true, Bool.or_eq_true, beq_iff_eq]

/-- R84 and R240: the standby takes up what it found itself. -/
theorem exec_recomputeResult_agreed (hmode : s.mode ≠ .owner) (hsame : w.figures = figures) :
    exec (.recomputeResult figures) s =
      .next (({ s with checks := s.checks.filter fun x => !(x.tenant == w.tenant && x.kind == w.kind) } : State).takeCheck w) := by
  change execRecomputeResult figures s = _
  simp only [execRecomputeResult, hw, hmode, hsame, if_false, beq_self_eq_true, if_true]

end
end

/-! ### The obligation -/

/-- Settles O37: each clause is the lemma of its outcome; an instruction that selects a register only is the port's act under power. -/
theorem testPortAndChecks : Obligations.TestPortAndChecks := by
  unfold Obligations.TestPortAndChecks
  refine ⟨fun s cells => ⟨fun hpower => ?port, fun hpower => ?unpowered⟩, fun s => ?pair⟩
  case unpowered =>
    exact ⟨exec_tap_unpowered rfl hpower, exec_tap_unpowered rfl hpower, exec_tap_unpowered rfl hpower⟩
  case port =>
    refine ⟨exec_tap_powered rfl hpower, exec_tap_powered rfl hpower, exec_tap_powered rfl hpower, exec_tap_powered rfl hpower,
      exec_tap_powered rfl hpower, exec_tap_powered rfl hpower, ?extestDenied, ?driveDenied, ?extestTaken, ?driveTaken, ?ioloop, ?otherRegister⟩
    case extestDenied =>
      intro hmode hcells
      exact ⟨exec_extest_denied hpower rfl hcells hmode, exec_extest_denied hpower rfl hcells hmode,
        exec_extest_denied hpower rfl hcells hmode⟩
    case driveDenied =>
      exact fun hmode => ⟨exec_clamp_denied hpower rfl hmode, exec_clamp_denied hpower rfl hmode, exec_ioloop_denied hpower hmode⟩
    case extestTaken =>
      intro hmode hcells
      exact ⟨exec_extest_taken hpower rfl hcells hmode, exec_extest_taken hpower rfl hcells hmode,
        exec_extest_taken hpower rfl hcells hmode⟩
    case driveTaken =>
      exact fun hmode => ⟨exec_clamp_taken hpower rfl hmode, exec_clamp_taken hpower rfl hmode, exec_ioloop_taken hpower hmode⟩
    case ioloop =>
      exact fun hselected => ⟨exec_updateDr_ioloop hpower hselected, exec_captureDr_ioloop hpower hselected⟩
    case otherRegister =>
      exact fun hselected => ⟨exec_updateDr_other_register hselected, exec_captureDr_other_register hselected⟩
  case pair =>
    refine ⟨fun offset data => rfl, ?carrier, ?good, ?bad, ?compared, fun figures => exec_recomputeResult_unawaited⟩
    case carrier => exact fun temp f1 f2 => ⟨exec_cmBlockRefresh_served temp f1 f2, exec_cmBlockRefresh_unserved temp f1 f2⟩
    case good => exact fun tenant v ns a shared hsolo hmode hup => exec_recomputeRequest_load_good hsolo hmode hup
    case bad => exact fun tenant v ns e hsolo hmode hup => exec_recomputeRequest_load_bad hsolo hmode hup
    case compared => exact fun figures w hw => ⟨exec_recomputeResult_owner hw, exec_recomputeResult_agreed hw⟩

end Sys2Proof.Machine
end

section
/-! PROOFS. What the commands of programs answer (R61, R67, R84, R90, R101, R213, R233, R391, R460): one lemma for each outcome of a command. -/
namespace Sys2Proof.Machine
open Sys2Proof.Claims

/-! ### Requests that run -/

/-- A request that runs and whose body replies later. -/
theorem receive_waits {s t : State} {c : Cmd} {v : Brought} {r : Req} {body : State → Ticket → Answer}
    (hruns : s.fate c r = .runs) (hbody : body (s.accept r) (r.ticket c) = .ok (.later t)) :
    Host.Outcome.next (φ := Fault) (ρ := Refusal) (s.receive c v r body) = .next (t.closeLast r.session) := by
  rw [State.receive_runs hruns, hbody]
  rfl

theorem sized_empty {p : List Byte} (hp : p = []) : sized p 0 = .ok () := sized_holds (congrArg List.length hp)

theorem State.noPairUpdate_holds {s : State} (hfree : s.pairUpdate = false) : s.noPairUpdate = .ok () :=
  if_neg (Bool.eq_false_iff.mp hfree)

section
variable {s : State} {r : Req}

/-! ### Loading -/

theorem exec_progLoadBegin_free (hruns : s.fate ⟨0x0301, true, 2, true, .O, false⟩ r = .runs) (hp : r.payload = [])
    (hstate : ((s.accept r).tenant r.tenant).state = .free) (hloading : ((s.accept r).tenant r.tenant).loading = none) :
    exec (.progLoadBegin r) s = .next (replied ⟨0x0301, true, 2, true, .O, false⟩ r
      { s.accept r with
        tenants := NMap.set (s.accept r).tenants r.tenant { (s.accept r).tenant r.tenant with loading := some ⟨r.session, [], false⟩ } } 0 []) := by
  refine receive_replies hruns ?_
  simp only [sized_empty hp, except_ok_bind, hstate, hloading, beq_self_eq_true, Bool.and_self, need_holds rfl, ok]

/-- R454 and R460: the chunk is added and goes on to the partner. -/
theorem exec_progLoadWrite_adds {k : Chunk} {l l1 : Loading} (hruns : s.fate ⟨0x0302, true, 2, true, .O, false⟩ r = .runs)
    (hchunk : chunkOf r.payload = .ok k) (hselect : k.select = 0) (hloading : (s.accept r).loadingOf r.tenant r.session = .ok l)
    (hadd : l.add k = .ok l1) :
    exec (.progLoadWrite r) s = .next (replied ⟨0x0302, true, 2, true, .O, false⟩ r
      (((s.accept r).modTenant r.tenant fun x => { x with loading := some l1 }).forwardChunk (0x200 + r.tenant) k) 0 []) := by
  refine receive_replies hruns ?_
  simp only [hchunk, except_ok_bind, need_holds (beq_iff_eq.mpr hselect), hloading, hadd, ok]

section
variable {v : Version} {l : Loading} (hruns : s.fate ⟨0x0303, true, 2, true, .O, false⟩ r = .runs) (hp : r.payload = [])
  (hloading : (s.accept r).loadingOf r.tenant r.session = .ok l) (hlast : l.last = true) (hfree : (s.accept r).pairUpdate = false)
include hruns hp hloading hlast hfree

/-- R84: the load is good here, and the reply waits for the partner's figures where one checks too. -/
theorem exec_progLoadCheck_good {x : Admitted × Nat} (hjudge : (s.accept r).judgeLoad r.tenant v [] = .ok x) :
    exec (.progLoadCheck r v) s = .next (((s.accept r).askPartner ⟨r.tenant, 0, v, [], x.1, x.2,
      figuresOf r.tenant 0 0 (some x.1) [], none, some (r.ticket ⟨0x0303, true, 2, true, .O, false⟩)⟩).closeLast r.session) := by
  refine receive_waits hruns ?_
  simp only [sized_empty hp, except_ok_bind, hloading, need_holds hlast, State.noPairUpdate_holds hfree, hjudge]

/-- R460: the tenant is FREE again. -/
theorem exec_progLoadCheck_bad {e : Refused} (hjudge : (s.accept r).judgeLoad r.tenant v [] = .error e) :
    exec (.progLoadCheck r v) s =
      .next (replied ⟨0x0303, true, 2, true, .O, false⟩ r ((s.accept r).failLoad r.tenant) e.1 e.2) := by
  refine receive_replies hruns ?_
  simp only [sized_empty hp, except_ok_bind, hloading, need_holds hlast, State.noPairUpdate_holds hfree, hjudge]

end

/-! ### Starting, stopping and unloading -/

section
variable {m : Nat} (hmask : (s.accept r).maskOf r.tenant r.payload = .ok m)
include hmask

/-- R67 and R213: the tasks start at an agreed instant, none on a retired strand; the partner starts them too (logs 71 and 113). -/
theorem exec_progStart_starts (hruns : s.fate ⟨0x0304, true, 2, true, .O, false⟩ r = .runs)
    (hstrands : (((s.accept r).maskTasks r.tenant m).all fun n =>
      !((s.accept r).strand ((((s.accept r).task n).map (·.strand)).getD 0)).retired) = true)
    (hstate : ((s.accept r).tenant r.tenant).state ≠ .frameDisplaced) :
    exec (.progStart r) s = .next (replied ⟨0x0304, true, 2, true, .O, false⟩ r
      (((s.accept r).startTasks r.tenant m (s.accept r).newStart).tellPartner (.start r.tenant m (s.accept r).newStart)) 0 []) := by
  refine receive_replies hruns ?_
  have hplaced : (((s.accept r).tenant r.tenant).state != .frameDisplaced || m == 0 || (s.accept r).frameOk r.tenant) = true := by
    simp [hstate]
  simp only [hmask, except_ok_bind, need_holds hstrands, need_holds hplaced, ok]

/-- R460; the partner stops them too (log 71). -/
theorem exec_progStop_stops (hruns : s.fate ⟨0x0305, true, 2, true, .O, false⟩ r = .runs) :
    exec (.progStop r) s = .next (replied ⟨0x0305, true, 2, true, .O, false⟩ r
      (((s.accept r).stopTasks r.tenant m).tellPartner (.stop r.tenant m)) 0 []) := by
  refine receive_replies hruns ?_
  simp only [hmask, except_ok_bind, ok]

end

/-- R61: a tenant that does not run, while the pair's slot is free; the partner unloads it too (log 71). -/
theorem exec_progUnload_unloads (hruns : s.fate ⟨0x0306, true, 2, true, .O, false⟩ r = .runs) (hp : r.payload = [])
    (hstate : ((s.accept r).tenant r.tenant).state = .loaded ∨ ((s.accept r).tenant r.tenant).state = .stopped)
    (hslot : (s.accept r).slot = none) :
    exec (.progUnload r) s = .next (replied ⟨0x0306, true, 2, true, .O, false⟩ r
      (((s.accept r).unload r.tenant).tellPartner (.unload r.tenant)) 0 []) := by
  refine receive_replies hruns ?_
  have hidle : (((s.accept r).tenant r.tenant).state == .loaded || ((s.accept r).tenant r.tenant).state == .stopped
      || ((s.accept r).tenant r.tenant).state == .frameDisplaced) = true := by
    rcases hstate with h | h <;> rw [h] <;> rfl
  simp only [sized_empty hp, except_ok_bind, need_holds hidle, hslot, ok]

/-! ### Status -/

/-- R233, R264 and R460. -/
theorem exec_progTenantStatus_reads (hruns : s.fate ⟨0x0307, true, 1, true, .E, false⟩ r = .runs) (hp : r.payload = []) :
    let a := s.accept r
    let t := a.tenant r.tenant
    let ts := byPosition ((a.tasks.map (·.2)).filter fun u => u.tenant == r.tenant)
    exec (.progTenantStatus r) s = .next (replied ⟨0x0307, true, 1, true, .E, false⟩ r a 0 (be 1 t.state.code
      ++ be 1 ((if a.dbg.map (·.tenant) = some r.tenant then 1 else 0) + if t.state = .frameDisplaced then 2 else 0)
      ++ be 2 ((t.version.map a.forcedSignals).getD 0) ++ be 4 ((t.version.map (·.versionId.toNat)).getD 0)
      ++ be 1 ts.length ++ [0, 0, 0] ++ ts.flatMap Task.status)) := by
  refine receive_replies hruns ?_
  simp only [sized_empty hp, except_ok_bind, beq_iff_eq, ok]

/-! ### The plant lantern program -/

section
variable {v : Version} {k : Chunk} {l1 : Loading} (hruns : s.fate ⟨0x030E, true, 2, false, .OL, false⟩ r = .runs)
  (hchunk : chunkOf r.payload = .ok k) (hselect : k.select = 0) (hfree : (s.accept r).pairUpdate = false)
  (hloading : (s.accept r).lantern.loading = none) (hadd : (⟨r.session, [], false⟩ : Loading).add k = .ok l1)
include hruns hchunk hselect hfree hloading hadd

theorem exec_progLanternLoad_adds (hlast : k.last = false) :
    exec (.progLanternLoad r v) s = .next (replied ⟨0x030E, true, 2, false, .OL, false⟩ r
      ((s.accept r).modLantern fun x => { x with loading := some l1 }) 0 []) := by
  refine receive_replies hruns ?_
  simp only [hchunk, except_ok_bind, need_holds (beq_iff_eq.mpr hselect), State.noPairUpdate_holds hfree, hloading, hadd, hlast,
    Bool.not_false, if_true, ok]

/-- R391: the program fails its checks. -/
theorem exec_progLanternLoad_bad {e : Refused} (hlast : k.last = true) (hjudge : (s.accept r).judgeLantern v = .error e) :
    exec (.progLanternLoad r v) s = .next (replied ⟨0x030E, true, 2, false, .OL, false⟩ r
      ((s.accept r).modLantern fun x => { x with loading := none }) e.1 e.2) := by
  refine receive_replies hruns ?_
  simp only [hchunk, except_ok_bind, need_holds (beq_iff_eq.mpr hselect), State.noPairUpdate_holds hfree, hloading, hadd, hlast,
    Bool.not_true, Bool.false_eq_true, if_false, hjudge]

/-- R391: the program takes effect at the next lantern cycle, and an owner gives it to its partner. -/
theorem exec_progLanternLoad_good {x : Unit} (hlast : k.last = true) (hjudge : (s.accept r).judgeLantern v = .ok x) :
    let a := s.accept r
    let b := (a.modLantern fun x => { x with loading := none }).modLantern fun x =>
      { x with plantProgram := some v, plantCrcOk := true, next := if a.mode = .lantern then some v else x.next }
    exec (.progLanternLoad r v) s = .next (replied ⟨0x030E, true, 2, false, .OL, false⟩ r
      (if a.mode = .owner then b.tellPartner (.lanternProgram v) else b) 0 (loadReply (failPlain 0) lanternWindows.edge 0)) := by
  refine receive_replies hruns ?_
  simp only [hchunk, except_ok_bind, need_holds (beq_iff_eq.mpr hselect), State.noPairUpdate_holds hfree, hloading, hadd, hlast,
    Bool.not_true, Bool.false_eq_true, if_false, hjudge, ok]

end
end

/-! ### The obligation -/

/-- Settles O41: each clause is the lemma of its command's outcome. -/
theorem programCommands : Obligations.ProgramCommands := by
  unfold Obligations.ProgramCommands
  intro s r
  refine ⟨exec_progLoadBegin_free, fun k l l1 => exec_progLoadWrite_adds, ?check, ?start, ?stop, exec_progUnload_unloads,
    exec_progTenantStatus_reads, ?lantern⟩
  case check =>
    exact fun v l hruns hp hloading hlast hfree => ⟨fun x => exec_progLoadCheck_good hruns hp hloading hlast hfree,
      fun e => exec_progLoadCheck_bad hruns hp hloading hlast hfree⟩
  case start => exact fun m hruns hmask => exec_progStart_starts hmask hruns
  case stop => exact fun m hruns hmask => exec_progStop_stops hmask hruns
  case lantern =>
    exact fun v k l1 hruns hchunk hselect hfree hloading hadd =>
      ⟨exec_progLanternLoad_adds hruns hchunk hselect hfree hloading hadd,
        fun e => exec_progLanternLoad_bad hruns hchunk hselect hfree hloading hadd,
        fun x => exec_progLanternLoad_good hruns hchunk hselect hfree hloading hadd⟩

end Sys2Proof.Machine
end

section
/-! PROOFS. What an instruction of the engine leaves once its body has completed or faulted, and what the operations do that the bit, branch-stack, move
and control instructions share (R98, R105 to R116, R139, R140, R181, R218): one lemma for each outcome of an operation. -/
namespace Sys2Proof.Machine
open Sys2Proof.Claims

/-! ### From the body to the state -/

section
variable {op : Nat} {body : Body} {x : Exec} {w : BitVec 24} {ext : Word} {s : State} {b : Start}

/-- `run_ok`, as an outcome. -/
theorem next_ends {l : Lane} (h : startOf op x w ext s = some b) (hbody : body b.env b.o1 b.o2 b.lane = .ok l) :
    Host.Outcome.next (φ := Fault) (ρ := Refusal) (runEngine op body x w ext s) = .next (b.ends l) :=
  congrArg _ (run_ok h hbody)

/-- `run_fault`, as an outcome. -/
theorem next_faults {c d : Nat} (h : startOf op x w ext s = some b) (hbody : body b.env b.o1 b.o2 b.lane = .error (.fault c d))
    (hc : c ≠ 11 := by decide) :
    Host.Outcome.next (φ := Fault) (ρ := Refusal) (runEngine op body x w ext s) = .next (b.faults w c d) :=
  congrArg _ (run_fault h hc hbody)

theorem startOf_form_ok {r : OpInfo} (hr : opInfo op = some r) (h : startOf op x w ext s = some b) : (formOf r w ext).ok = true := by
  unfold startOf at h
  simp only [hr] at h
  split at h
  · next hrow ht =>
    cases hrow
    split at h
    · split at h
      · next hchecks =>
        simp only [Bool.and_eq_true] at hchecks
        obtain ⟨⟨⟨⟨⟨⟨⟨_, hok⟩, _⟩, _⟩, _⟩, _⟩, _⟩, _⟩ := hchecks
        exact hok
      · cases h
    · cases h
  · cases h

/-- R98: in format L a count of zero is a reserved field that is set. -/
theorem startOf_count_ne_zero {cost : Nat} (hr : opInfo op = some (rowN op .L cost)) (h : startOf op x w ext s = some b) : fld w 0 16 ≠ 0 := by
  have hok : (fld w 16 8 == 0 && fld w 0 16 != 0 && fldE ext 22 10 == 0) = true := startOf_form_ok hr h
  simp only [Bool.and_eq_true, bne_iff_ne] at hok
  obtain ⟨⟨_, hcount⟩, _⟩ := hok
  exact hcount

end

/-! ### Fields and masks -/

theorem fld_eq_extractLsb' (w : BitVec 24) (lo n : Nat) : fld w lo n = (w.extractLsb' lo n).toNat := by
  rw [BitVec.extractLsb'_toNat, Nat.shiftRight_eq_div_pow, fld]

theorem targetOf_eq_setWidth (w : BitVec 24) : targetOf w = w.setWidth 22 := by
  apply BitVec.eq_of_toNat_eq
  simp [targetOf, fld]

theorem ofNat_fldE_eq_setWidth (e : Word) : BitVec.ofNat 22 (fldE e 0 22) = e.setWidth 22 := by
  apply BitVec.eq_of_toNat_eq
  simp [fldE]

/-- A word with the bits of a mask all set, or all cleared. -/
theorem overlay_all (old mask : Word) (v : Bool) :
    overlay old mask (if v then 0xFFFFFFFF else 0) = if v then old ||| mask else old &&& ~~~mask := by
  have hones : (0xFFFFFFFF : Word) = BitVec.allOnes 32 := by decide
  cases v with
  | false => simp [overlay]
  | true =>
    rw [if_pos rfl, if_pos rfl, hones, overlay, BitVec.allOnes_and]
    ext i hi
    simp only [BitVec.getElem_or, BitVec.getElem_and, BitVec.getElem_not]
    cases old[i] <;> cases mask[i] <;> rfl

/-! ### Bit operands and the branch stack -/

section
variable {e : Env} {o : Opnd} {l k : Lane} {v m : Bool}

/-- R105 and R218: ACC from the operand alone, with the operand's mark. -/
theorem accWith_operand {f : Bool → Bool → Bool} (hread : e.readBit l o = .ok (v, m, k)) :
    accWith f false e l o = .ok (k.setAcc (f k.regs.acc v) m) := by
  simp only [accWith, hread, except_ok_bind, Bool.false_and, Bool.or_false]

/-- R105 and R218: ACC from itself and the operand, with both marks. -/
theorem accWith_both {f : Bool → Bool → Bool} (hread : e.readBit l o = .ok (v, m, k)) :
    accWith f true e l o = .ok (k.setAcc (f k.regs.acc v) (m || k.regs.accMark)) := by
  simp only [accWith, hread, except_ok_bind, Bool.true_and]

theorem bodyTgl_taken {o2 : Opnd} {j : Lane} (hacc : l.regs.acc = true) (hread : e.readBit l o = .ok (v, m, k))
    (hstore : e.store k [e.bitWrite k o (!v) (k.regs.accMark || m)] = .ok j) : bodyTgl e o o2 l = .ok j := by
  simp only [bodyTgl, hacc, if_true, hread, except_ok_bind]
  exact hstore

/-- The lane with an entry pushed on its branch stack (R106, R110). -/
def Lane.pushed (l : Lane) (op : Nat) : Lane :=
  { l with regs := { l.regs with branch := ⟨l.regs.acc, l.regs.accMark, op⟩ :: l.regs.branch } }

theorem Lane.pushBranch_room (op : Nat) (hroom : l.regs.branch.length < 32) : l.pushBranch op = .ok (l.pushed op) :=
  if_neg (Nat.not_le.mpr hroom)

theorem Lane.pushBranch_full (op : Nat) (hfull : 32 ≤ l.regs.branch.length) : l.pushBranch op = .error fBranchOver := if_pos hfull

theorem openWith_room {op : Nat} (hroom : l.regs.branch.length < 32) (hread : e.readBit (l.pushed op) o = .ok (v, m, k)) :
    openWith op e l o = .ok (k.setAcc v m) := by
  simp only [openWith, Lane.pushBranch_room op hroom, hread, except_ok_bind]

theorem openWith_full (op : Nat) (hfull : 32 ≤ l.regs.branch.length) : openWith op e l o = .error fBranchOver := by
  simp only [openWith, Lane.pushBranch_full op hfull, except_error_bind]

theorem Lane.topBranch_visible {t : BranchEnt} {rest : List BranchEnt} (hbranch : l.regs.branch = t :: rest)
    (habove : l.branchFloor < l.regs.branch.length) : l.topBranch = .ok t := by
  rw [Lane.topBranch, if_pos habove, hbranch]

theorem Lane.topBranch_hidden (hbelow : ¬ l.branchFloor < l.regs.branch.length) : l.topBranch = .error fBranchUnder := if_neg hbelow

theorem Lane.popBranch_cons {t : BranchEnt} {rest : List BranchEnt} (hbranch : l.regs.branch = t :: rest) :
    l.popBranch = { l with regs := { l.regs with branch := rest } } := by
  rw [Lane.popBranch, hbranch, List.tail_cons]

section
variable {t : BranchEnt} {rest : List BranchEnt} (o2 : Opnd) (hbranch : l.regs.branch = t :: rest)
  (habove : l.branchFloor < l.regs.branch.length)
include hbranch habove

theorem bodyBpeek_visible : bodyBpeek e o o2 l = .ok (l.setAcc t.value t.mark) := by
  simp only [bodyBpeek, Lane.topBranch_visible hbranch habove, except_ok_bind]

theorem bodyBpop_visible : bodyBpop e o o2 l = .ok (({ l with regs := { l.regs with branch := rest } } : Lane).setAcc t.value t.mark) := by
  simp only [bodyBpop, Lane.topBranch_visible hbranch habove, Lane.popBranch_cons hbranch, except_ok_bind]

theorem bodyClose_visible : bodyClose e o o2 l = .ok (({ l with regs := { l.regs with branch := rest } } : Lane).setAcc
    (branchOp t.op t.value l.regs.acc) (l.regs.accMark || (t.op != 0 && t.mark))) := by
  simp only [bodyClose, Lane.topBranch_visible hbranch habove, Lane.popBranch_cons hbranch, except_ok_bind]

end

theorem branchOp_none (v acc : Bool) : branchOp 0 v acc = acc := rfl

/-- R109: the operators of the parenthesis opcodes by their codes. -/
theorem branchOp_of_code {op : Nat} {f : Bool → Bool → Bool}
    (hop : (op = 1 ∧ f = fun v a => v && a) ∨ (op = 2 ∧ f = fun v a => v && !a) ∨ (op = 3 ∧ f = fun v a => v || a)
      ∨ (op = 4 ∧ f = fun v a => v || !a) ∨ (op = 5 ∧ f = fun v a => v ^^ a) ∨ (op = 6 ∧ f = fun v a => v ^^ !a)) :
    op ≠ 0 ∧ branchOp op = f := by
  rcases hop with ⟨rfl, rfl⟩ | ⟨rfl, rfl⟩ | ⟨rfl, rfl⟩ | ⟨rfl, rfl⟩ | ⟨rfl, rfl⟩ | ⟨rfl, rfl⟩ <;> exact ⟨by decide, rfl⟩

theorem branch_hidden_faults {α : Type} (f : BranchEnt → Except Stop α) (hbelow : ¬ l.branchFloor < l.regs.branch.length) :
    (l.topBranch >>= f) = .error fBranchUnder := by
  rw [Lane.topBranch_hidden hbelow, except_error_bind]

end

/-! ### Qualities and moves -/

section
variable {e : Env} {o : Opnd} {l k : Lane}

/-- R107: the signal that holds the bit is tested, and a quality carries no mark. -/
theorem accQuality_read {f : Quality → Bool} {v : Word} (hread : e.readI l o.word true = .ok (v, k)) :
    accQuality f e l o = .ok (k.setAcc (f (e.ver.bitQuality e.qualities o.word (o.index % 32))) false) := by
  simp only [accQuality, hread, except_ok_bind]

theorem bodyLdqw_read {o2 : Opnd} {v : Word} (hread : e.readI l o.word true = .ok (v, k)) :
    bodyLdqw e o o2 l = .ok (k.setWacc (BitVec.ofNat 32 (e.ver.wordQuality e.qualities o.word).code) false) := by
  simp only [bodyLdqw, hread, except_ok_bind]

theorem bodyLdw_read {o2 : Opnd} {v : Word} {m : Bool} (hread : e.readOp l o = .ok (v, m, k)) :
    bodyLdw e o o2 l = .ok (k.setWacc v m) := by
  simp only [bodyLdw, waccWith, hread, except_ok_bind, Bool.false_and, Bool.or_false]

theorem bodySelw_taken {o2 : Opnd} {v : Word} {m : Bool} (hread : e.readOp l o = .ok (v, m, k)) (hacc : l.regs.acc = true) :
    bodySelw e o o2 l = .ok (k.setWacc v (m || k.regs.accMark)) := by
  simp only [bodySelw, hacc, if_true, hread, except_ok_bind]

theorem bodySelw_kept {o2 : Opnd} (hacc : l.regs.acc = false) :
    bodySelw e o o2 l = .ok (l.setWacc l.regs.wacc (l.regs.waccMark || l.regs.accMark)) := by
  simp only [bodySelw, hacc, Bool.false_eq_true, if_false]

theorem bodyMovw_read {src : Opnd} {j : Lane} {v : Word} {m : Bool} (hread : e.readOp l src = .ok (v, m, k))
    (hstore : e.storeWord k o v m = .ok j) : bodyMovw e o src l = .ok j := by
  simp only [bodyMovw, hread, except_ok_bind]
  exact hstore

end

/-! ### Jumps, calls and returns -/

/-- A conditional instruction completes either way, where what it does when taken completes. -/
theorem ok_if_acc {c : Bool} {r : Except Stop Lane} {taken other : Lane} (h : r = .ok taken) :
    (if c then r else .ok other) = .ok (if c then taken else other) := by
  cases c with
  | false => rfl
  | true => exact h

/-- The same of an instruction that is taken where ACC is 0. -/
theorem ok_unless_acc {c : Bool} {r : Except Stop Lane} {taken other : Lane} (h : r = .ok taken) :
    (if c then .ok other else r) = .ok (if c then other else taken) := by
  cases c with
  | false => exact h
  | true => rfl

/-- A conditional instruction that is taken where ACC is 1 faults as what it does. -/
theorem error_if_acc {c : Bool} {r other : Except Stop Lane} {st : Stop} (hc : c = true) (h : r = .error st) :
    (if c then r else other) = .error st := by rw [if_pos hc, h]

theorem error_unless_acc {c : Bool} {r other : Except Stop Lane} {st : Stop} (hc : c = false) (h : r = .error st) :
    (if c then other else r) = .error st := by rw [hc]; exact h

section
variable {l : Lane}

theorem callTo_room (w : BitVec 24) (hroom : l.regs.calls.length < 16) :
    callTo l w = .ok { l with regs := { l.regs with
      calls := ⟨l.regs.pc, l.regs.branch.length, l.regs.loops.length⟩ :: l.regs.calls, pc := w.setWidth 22 } } := by
  rw [callTo, if_neg (Nat.not_le.mpr hroom), targetOf_eq_setWidth]

theorem callTo_full (w : BitVec 24) (hfull : 16 ≤ l.regs.calls.length) : callTo l w = .error fCallOver := if_pos hfull

/-- R111: PC stands after the instruction, so the cycle ends at the offset before it. -/
theorem endCycle_empty (hbranch : l.regs.branch = []) : endCycle l = .ok { l with endAt := some (l.regs.pc - 1) } := by
  rw [endCycle, hbranch, List.isEmpty_nil, if_pos rfl]

theorem endCycle_left (hleft : l.regs.branch ≠ []) : endCycle l = .error fBranchOver := by
  rw [endCycle, if_neg (mt List.isEmpty_iff.mp hleft)]

theorem returnFrom_frame {f : CallFrame} {rest : List CallFrame} (hcalls : l.regs.calls = f :: rest)
    (hbranch : l.regs.branch.length ≤ f.branchDepth) (hloops : l.regs.loops.length ≤ f.loopDepth) :
    returnFrom l = .ok { l with regs := { l.regs with calls := rest, pc := f.ret } } := by
  simp only [returnFrom, hcalls, if_neg (Nat.not_lt.mpr hbranch), if_neg (Nat.not_lt.mpr hloops)]

theorem returnFrom_outermost (hcalls : l.regs.calls = []) (hbranch : l.regs.branch = []) :
    returnFrom l = .ok { l with endAt := some (l.regs.pc - 1) } := by
  simp only [returnFrom, hcalls, endCycle_empty hbranch]

/-- R111: entries above the depth that the frame records, or any entry where there is no frame. -/
theorem returnFrom_left (hleft : l.branchFloor < l.regs.branch.length) : returnFrom l = .error fBranchOver := by
  unfold Lane.branchFloor at hleft
  cases hcalls : l.regs.calls with
  | nil => simp only [returnFrom, hcalls, endCycle_left (List.ne_nil_of_length_pos (Nat.zero_lt_of_lt hleft))]
  | cons f rest =>
    rw [hcalls] at hleft
    simp only [returnFrom, hcalls]
    exact if_pos hleft

end

/-! ### Loops -/

section
variable {l : Lane} {count : Nat}

theorem openLoop_zero (l : Lane) (ext : Word) : openLoop l 0 ext = .ok (l.setPc (ext.setWidth 22)) := by
  rw [openLoop, ofNat_fldE_eq_setWidth, if_pos rfl]

/-- The lane with a loop of `count` passes opened, after FOR or FORW (R115). -/
def Lane.opened (l : Lane) (count : Nat) (ext : Word) : Lane :=
  { l with regs := { l.regs with loops := ⟨BitVec.ofNat 32 count, 0, l.regs.pc, ext.setWidth 22⟩ :: l.regs.loops } }

theorem openLoop_room (ext : Word) (hcount : count ≠ 0) (hroom : l.regs.loops.length < 8) :
    openLoop l count ext = .ok (l.opened count ext) := by
  rw [openLoop, ofNat_fldE_eq_setWidth, if_neg hcount, if_neg (Nat.not_le.mpr hroom)]
  rfl

theorem openLoop_full (ext : Word) (hcount : count ≠ 0) (hfull : 8 ≤ l.regs.loops.length) : openLoop l count ext = .error fLoop := by
  rw [openLoop, if_neg hcount, if_pos hfull]

section
variable {e : Env} {o o2 : Opnd} {w : BitVec 24} {ext : Word}

/-- R115: FORW with a WACC of zero opens no frame. -/
theorem bodyForw_zero (hwacc : l.regs.wacc = 0) :
    bodyForw w ext e o o2 l = .ok ((l.pathOn l.regs.waccMark).setPc (ext.setWidth 22)) := by
  have hzero : l.regs.wacc.toNat = 0 := by rw [hwacc]; rfl
  simp only [bodyForw, hzero, Nat.zero_min, openLoop_zero, except_ok_bind, if_neg (Nat.not_lt_zero _)]

theorem toNat_wacc_ne_zero (hwacc : l.regs.wacc ≠ 0) : l.regs.wacc.toNat ≠ 0 := fun h => hwacc (BitVec.eq_of_toNat_eq h)

/-- R115: FORW takes WACC passes where MAX allows them. -/
theorem bodyForw_within (hwacc : l.regs.wacc ≠ 0) (hroom : l.regs.loops.length < 8) (hmax : l.regs.wacc.toNat ≤ fld w 0 16) :
    bodyForw w ext e o o2 l = .ok ((l.pathOn l.regs.waccMark).opened l.regs.wacc.toNat ext) := by
  have hopen := openLoop_room (l := l.pathOn l.regs.waccMark) ext (toNat_wacc_ne_zero hwacc) hroom
  simp only [bodyForw, Nat.min_eq_left hmax, hopen, except_ok_bind, if_neg (Nat.not_lt.mpr hmax)]

/-- R115: FORW takes MAX passes of a longer WACC, and sets LOOP_CLAMPED. -/
theorem bodyForw_clamped (hcount : fld w 0 16 ≠ 0) (hroom : l.regs.loops.length < 8) (hmax : fld w 0 16 < l.regs.wacc.toNat) :
    bodyForw w ext e o o2 l = .ok { (l.pathOn l.regs.waccMark).opened (fld w 0 16) ext with flags := l.flags ||| 2 } := by
  have hopen := openLoop_room (l := l.pathOn l.regs.waccMark) ext hcount hroom
  simp only [bodyForw, Nat.min_eq_right (Nat.le_of_lt hmax), hopen, except_ok_bind, if_pos hmax]
  rfl

theorem bodyForw_full (hcount : fld w 0 16 ≠ 0) (hwacc : l.regs.wacc ≠ 0) (hfull : 8 ≤ l.regs.loops.length) :
    bodyForw w ext e o o2 l = .error fLoop := by
  have hpasses : min l.regs.wacc.toNat (fld w 0 16) ≠ 0 := by
    have := toNat_wacc_ne_zero hwacc
    omega
  have hopen := openLoop_full (l := l.pathOn l.regs.waccMark) ext hpasses hfull
  simp only [bodyForw, hopen, except_error_bind]

end

theorem loopFrame_visible {f : LoopFrame} {rest : List LoopFrame} (hloops : l.regs.loops = f :: rest)
    (habove : l.loopFloor < l.regs.loops.length) : loopFrame l = .ok f := by
  simp only [loopFrame, Lane.loop, if_pos habove]
  rw [hloops, List.head?_cons]

theorem loopFrame_hidden (hbelow : ¬ l.loopFloor < l.regs.loops.length) : loopFrame l = .error fLoop := by
  simp only [loopFrame, Lane.loop, if_neg hbelow]

theorem loop_hidden_faults {α : Type} (f : LoopFrame → Except Stop α) (hbelow : ¬ l.loopFloor < l.regs.loops.length) :
    (loopFrame l >>= f) = .error fLoop := by
  rw [loopFrame_hidden hbelow, except_error_bind]

section
variable {e : Env} {o o2 : Opnd} {f : LoopFrame} {rest : List LoopFrame} (hloops : l.regs.loops = f :: rest)
  (habove : l.loopFloor < l.regs.loops.length)
include hloops habove

/-- R116: the last iteration drops the frame. -/
theorem bodyNext_last (hlast : f.remaining = 1) : bodyNext e o o2 l = .ok { l with regs := { l.regs with loops := rest } } := by
  have hzero : f.remaining - 1 = 0 := by rw [hlast]; rfl
  simp only [bodyNext, loopFrame_visible hloops habove, except_ok_bind]
  rw [if_pos hzero, hloops, List.tail_cons]

/-- R116: another iteration counts and returns to BODY. -/
theorem bodyNext_more (hmore : f.remaining ≠ 1) :
    bodyNext e o o2 l = .ok { l with regs := { l.regs with
      loops := { f with index := f.index + 1, remaining := f.remaining - 1 } :: rest, pc := f.body } } := by
  have hne : f.remaining - 1 ≠ 0 := by bv_omega
  simp only [bodyNext, loopFrame_visible hloops habove, except_ok_bind]
  rw [if_neg hne, hloops, List.tail_cons]

theorem bodyLeave_visible : bodyLeave e o o2 l = .ok { l with regs := { l.regs with loops := rest, pc := f.exit } } := by
  simp only [bodyLeave, loopFrame_visible hloops habove, except_ok_bind]
  rw [hloops, List.tail_cons]

theorem bodyLidx_visible : bodyLidx e o o2 l = .ok (l.setWacc f.index false) := by
  simp only [bodyLidx, loopFrame_visible hloops habove, except_ok_bind]

end
end

end Sys2Proof.Machine
end

section
/-! PROOFS. Calls, jumps and loops (R111 to R116), and the faults of a lane's three stacks: each clause is the law of the operation behind it. -/
namespace Sys2Proof.Machine
open Sys2Proof.Claims

/-- Settles O13. -/
theorem flowInstructions : Obligations.FlowInstructions := by
  unfold Obligations.FlowInstructions
  refine ⟨fun x w s b => ⟨?jmp, ?jmpc, ?jmpcn, ?calls, ?returns, ?ends⟩, fun x w e s b => ⟨?forLoop, ?forwZero, ?forwLoop, ?frame⟩⟩
  case jmp => exact fun h => next_ends h (by rw [bodyJmp, targetOf_eq_setWidth])
  case jmpc => exact fun h => next_ends h (by rw [bodyJmpc, targetOf_eq_setWidth]; rfl)
  case jmpcn => exact fun h => next_ends h (by rw [bodyJmpcn, targetOf_eq_setWidth]; rfl)
  case calls =>
    exact fun hroom => ⟨fun h => next_ends h (callTo_room w hroom),
      fun h => next_ends h (ok_if_acc (callTo_room w hroom)),
      fun h => next_ends h (ok_unless_acc (callTo_room w hroom))⟩
  case returns =>
    exact fun f rest hcalls hbranch hloops => ⟨fun h => next_ends h (returnFrom_frame hcalls hbranch hloops),
      fun h => next_ends h (ok_if_acc (returnFrom_frame hcalls hbranch hloops)),
      fun h => next_ends h (ok_unless_acc (returnFrom_frame hcalls hbranch hloops))⟩
  case ends =>
    exact fun hcalls hbranch => ⟨fun h => next_ends h (returnFrom_outermost hcalls hbranch),
      fun h => next_ends h (ok_if_acc (returnFrom_outermost hcalls hbranch)),
      fun h => next_ends h (ok_unless_acc (returnFrom_outermost hcalls hbranch))⟩
  case forLoop =>
    rw [← fld_eq_extractLsb']
    exact fun hroom h => next_ends h (openLoop_room e (startOf_count_ne_zero rfl h) hroom)
  case forwZero => exact fun hwacc h => next_ends h (bodyForw_zero hwacc)
  case forwLoop =>
    rw [← fld_eq_extractLsb']
    exact fun hroom hwacc h => ⟨fun hmax => next_ends h (bodyForw_within hwacc hroom hmax),
      fun hmax => next_ends h (bodyForw_clamped (startOf_count_ne_zero rfl h) hroom hmax)⟩
  case frame =>
    exact fun f rest hloops habove => ⟨fun hlast h => next_ends h (bodyNext_last hloops habove hlast),
      fun hmore h => next_ends h (bodyNext_more hloops habove hmore),
      fun h => next_ends h (bodyLeave_visible hloops habove), fun h => next_ends h (bodyLidx_visible hloops habove)⟩

/-- Settles O60. -/
theorem stackFaults : Obligations.StackFaults := by
  unfold Obligations.StackFaults
  intro x w ext s b r left seen
  refine ⟨?returns, ?ends, ?pushes, ?pops, ?calls, ?forLoop, ?forwLoop, ?loops⟩
  case returns =>
    exact fun hleft => ⟨fun h => next_faults h (returnFrom_left hleft),
      fun hacc h => next_faults h (error_if_acc hacc (returnFrom_left hleft)),
      fun hacc h => next_faults h (error_unless_acc hacc (returnFrom_left hleft))⟩
  case ends =>
    exact fun hleft => ⟨fun h => next_faults h (endCycle_left hleft),
      fun hacc h => next_faults h (error_if_acc hacc (endCycle_left hleft))⟩
  case pushes =>
    exact fun hfull => ⟨fun h => next_faults h (Lane.pushBranch_full 0 hfull),
      fun h => next_faults h (openWith_full 1 hfull), fun h => next_faults h (openWith_full 2 hfull),
      fun h => next_faults h (openWith_full 3 hfull), fun h => next_faults h (openWith_full 4 hfull),
      fun h => next_faults h (openWith_full 5 hfull), fun h => next_faults h (openWith_full 6 hfull)⟩
  case pops =>
    exact fun hbelow => ⟨fun h => next_faults h (branch_hidden_faults _ hbelow),
      fun h => next_faults h (branch_hidden_faults _ hbelow),
      fun h => next_faults h (branch_hidden_faults _ hbelow)⟩
  case calls =>
    exact fun hfull => ⟨fun h => next_faults h (callTo_full w hfull),
      fun hacc h => next_faults h (error_if_acc hacc (callTo_full w hfull)),
      fun hacc h => next_faults h (error_unless_acc hacc (callTo_full w hfull))⟩
  case forLoop =>
    exact fun hfull _ h => next_faults h (openLoop_full ext (startOf_count_ne_zero rfl h) hfull)
  case forwLoop =>
    exact fun hfull _ hwacc h => next_faults h (bodyForw_full (startOf_count_ne_zero rfl h) hwacc hfull)
  case loops =>
    exact fun hbelow => ⟨fun h => next_faults h (loop_hidden_faults _ hbelow),
      fun h => next_faults h (loop_hidden_faults _ hbelow),
      fun h => next_faults h (loop_hidden_faults _ hbelow)⟩

end Sys2Proof.Machine
end

section
/-! PROOFS. The bit instructions, the branch stack, the quality reads and the word moves (R105 to R110, R112, R139, R140): each clause is the law of
the operation behind it. -/
namespace Sys2Proof.Machine
open Sys2Proof.Claims

/-- Settles O1. -/
theorem accumulatorInstructions : Obligations.AccumulatorInstructions := by
  unfold Obligations.AccumulatorInstructions
  intro x w s b
  refine ⟨fun h => next_ends h rfl, fun h => next_ends h rfl, fun h => next_ends h rfl, ?ldwb, ?stwb, fun h => next_ends h rfl⟩
  case ldwb =>
    rw [← fld_eq_extractLsb']
    exact fun h => next_ends h rfl
  case stwb =>
    rw [← fld_eq_extractLsb', ← overlay_all]
    exact fun h => next_ends h rfl

/-- Settles O2. -/
theorem bitInstructions : Obligations.BitInstructions := by
  unfold Obligations.BitInstructions
  refine ⟨?reads, fun x w s b => ⟨?st, ?stn, ?setb, ?setbKept, ?rstb, ?rstbKept, ?tgl, ?tglKept⟩⟩
  case reads =>
    exact fun x w s b v m l hread => ⟨fun h => next_ends h (accWith_operand hread), fun h => next_ends h (accWith_operand hread),
      fun h => next_ends h (accWith_both hread), fun h => next_ends h (accWith_both hread), fun h => next_ends h (accWith_both hread),
      fun h => next_ends h (accWith_both hread), fun h => next_ends h (accWith_both hread), fun h => next_ends h (accWith_both hread)⟩
  case st => exact fun l h hstore => next_ends h hstore
  case stn => exact fun l h hstore => next_ends h hstore
  case setb => exact fun l h hacc hstore => next_ends h ((if_pos hacc).trans hstore)
  case setbKept => exact fun h hacc => next_ends h (if_neg (Bool.eq_false_iff.mp hacc))
  case rstb => exact fun l h hacc hstore => next_ends h ((if_pos hacc).trans hstore)
  case rstbKept => exact fun h hacc => next_ends h (if_neg (Bool.eq_false_iff.mp hacc))
  case tgl => exact fun v m l k h hacc hread hstore => next_ends h (bodyTgl_taken hacc hread hstore)
  case tglKept => exact fun h hacc => next_ends h (if_neg (Bool.eq_false_iff.mp hacc))

/-- Settles O3. -/
theorem branchStackInstructions : Obligations.BranchStackInstructions := by
  unfold Obligations.BranchStackInstructions
  intro x w s b pushed
  refine ⟨fun v m l hroom => ?pushes, fun t rest hbranch habove => ⟨?peek, ?pop, ?closePlain, ?closeWith⟩⟩
  case pushes =>
    exact ⟨fun hread h => next_ends h (openWith_room hroom hread), fun hread h => next_ends h (openWith_room hroom hread),
      fun hread h => next_ends h (openWith_room hroom hread), fun hread h => next_ends h (openWith_room hroom hread),
      fun hread h => next_ends h (openWith_room hroom hread), fun hread h => next_ends h (openWith_room hroom hread),
      fun h => next_ends h (Lane.pushBranch_room 0 hroom)⟩
  case peek => exact fun h => next_ends h (bodyBpeek_visible _ hbranch habove)
  case pop => exact fun h => next_ends h (bodyBpop_visible _ hbranch habove)
  case closePlain =>
    intro h hop
    refine next_ends h ((bodyClose_visible _ hbranch habove).trans ?_)
    rw [hop, branchOp_none, bne_self_eq_false, Bool.false_and, Bool.or_false]
  case closeWith =>
    intro f hf h
    obtain ⟨hop, hfun⟩ := branchOp_of_code hf
    refine next_ends h ((bodyClose_visible _ hbranch habove).trans ?_)
    rw [hfun, bne_iff_ne.mpr hop, Bool.true_and]

/-- Settles O4. -/
theorem qualityAndMoveInstructions : Obligations.QualityAndMoveInstructions := by
  unfold Obligations.QualityAndMoveInstructions
  refine ⟨?qualities, fun x w e s b => ⟨?ldw, ?stw, fun h => next_ends h rfl, fun h => next_ends h rfl, ?selw, ?selwKept, ?movw⟩⟩
  case qualities =>
    intro x w s b v l hread q
    have hgood : decide (q = .good) = (q == .good) := rfl
    have husable : decide (q = .good ∨ q = .forced) = (q == .good || q == .forced) := Bool.decide_or ..
    rw [hgood, husable]
    exact ⟨fun h => next_ends h (accQuality_read hread), fun h => next_ends h (accQuality_read hread), fun h => next_ends h (bodyLdqw_read hread)⟩
  case ldw => exact fun v m l hread h => next_ends h (bodyLdw_read hread)
  case stw => exact fun l h hstore => next_ends h hstore
  case selw => exact fun v m l hread hacc h => next_ends h (bodySelw_taken hread hacc)
  case selwKept => exact fun hacc h => next_ends h (bodySelw_kept hacc)
  case movw => exact fun v m l k hread h hstore => next_ends h (bodyMovw_read hread hstore)

end Sys2Proof.Machine
end

section
/-! PROOFS. Instructions that fault before they have any effect (R98, R100, R131, R166, R192, R222, R232): an undefined opcode, and a reserved field
that is set in any instruction of the opcode table. -/
namespace Sys2Proof.Machine
open Sys2Proof.Claims

/-! ### A fault on a lane -/

@[simp] theorem Lane.modSeg_regs (l : Lane) (f : SegRec → SegRec) : (l.modSeg f).regs = l.regs := by
  unfold Lane.modSeg; split <;> rfl

@[simp] theorem Lane.modSeg_shadow (l : Lane) (f : SegRec → SegRec) : (l.modSeg f).shadow = l.shadow := by
  unfold Lane.modSeg; split <;> rfl

@[simp] theorem Lane.modSeg_drained (l : Lane) (f : SegRec → SegRec) : (l.modSeg f).drained = l.drained := by
  unfold Lane.modSeg; split <;> rfl

@[simp] theorem Lane.modSeg_raised (l : Lane) (f : SegRec → SegRec) : (l.modSeg f).raised = l.raised := by
  unfold Lane.modSeg; split <;> rfl

@[simp] theorem Lane.fault_regs (l : Lane) (i : FaultInfo) : (l.fault i).regs = l.regs := by
  unfold Lane.fault; split <;> simp

@[simp] theorem Lane.fault_shadow (l : Lane) (i : FaultInfo) : (l.fault i).shadow = l.shadow := by
  unfold Lane.fault; split <;> simp

@[simp] theorem Lane.fault_drained (l : Lane) (i : FaultInfo) : (l.fault i).drained = l.drained := by
  unfold Lane.fault; split <;> simp

/-- R192: in an unverified segment the fault is held pending. -/
theorem Lane.fault_pending {l : Lane} (i : FaultInfo) (hspec : l.spec = .speculating) :
    (l.fault i).spec = .waitFault ∧ (l.fault i).raised = l.raised := by
  rw [Lane.fault, if_pos hspec]
  exact ⟨rfl, Lane.modSeg_raised ..⟩

/-- R192: admitted work raises it at once. -/
theorem Lane.fault_raised {l : Lane} (i : FaultInfo) (hspec : l.spec ≠ .speculating) :
    (l.fault i).spec = l.spec ∧ (l.fault i).raised = some i := by
  rw [Lane.fault, if_neg hspec]
  exact ⟨rfl, rfl⟩

/-! ### The state that such a fault leaves -/

/-- The state after the lane that `x` names has faulted without a formed operand. -/
def State.faultsEarly (s : State) (t : Task) (x : Exec) (op : Nat) (w : BitVec 24) (code : Nat) : State :=
  let e := s.env t x.lane
  let b := if e.dbg.isSome then s else s.takeStrand t.no t x.lane (e.ctx.spec == .notSpeculating)
  let a := b.putLane e (e.ctx.fault (faultInfo e.ctx op w noOpnd code 0 (e.ctx.spec == .speculating)))
  if e.dbg.isSome then a.debugRan else a

theorem State.stopLane_without_operand (s : State) (e : Env) (op : Nat) (w : BitVec 24) (named : Bool) (code detail : Nat) :
    s.stopLane e op w ⟨named, noOpnd, noOpnd⟩ (.fault code detail) =
      s.putLane e (e.ctx.fault (faultInfo e.ctx op w noOpnd code detail (e.ctx.spec == .speculating))) := by
  have hformed : e.ctx.formed ⟨named, noOpnd, noOpnd⟩ = (noOpnd, noOpnd) := rfl
  simp only [State.stopLane, hformed, ite_self]

theorem retryShadow_fault {run : State → Except Stop Lane} {s : State} {code detail : Nat} (hrun : run s = .error (.fault code detail))
    (t : Task) (k : Nat) : retryShadow run t k s = (s, .error (.fault code detail)) := by
  cases k with
  | zero => rw [retryShadow, hrun]
  | succ k => simp only [retryShadow, hrun]

section
variable {x : Exec} {w : BitVec 24} {s : State} {t : Task} (ht : s.task x.task = some t) (hcan : (s.env t x.lane).canRun = true)
include ht hcan

section
variable (hbreak : (s.env t x.lane).dbg.map (·.atBreak) ≠ some true)
include hbreak

/-- R131 and R166. -/
theorem runUndefined_faults {op : Nat} (hop : opInfo op = none) : runUndefined op x w s = s.faultsEarly t x op w 1 := by
  simp only [runUndefined, ht, hcan, hop, beq_eq_false_iff_ne.mpr hbreak, Option.isNone_none, Bool.and_self, Bool.and_false,
    Bool.false_eq_true, if_false, if_true, fUndefined, State.stopLane_without_operand, State.faultsEarly]

/-- R98 and R100: whatever the instruction would do. -/
theorem runEngine_reserved {op : Nat} {r : OpInfo} {ext : Word} (body : Body) (hr : opInfo op = some r) (hform : (formOf r w ext).ok = false) :
    runEngine op body x w ext s = s.faultsEarly t x r.op w 2 := by
  have hchecks (e : Env) : checkAndRun r (formOf r w ext) r.fmt.words body e (s.env t x.lane).ctx = .error (.fault 2 0) := by
    simp only [checkAndRun, hform, Bool.false_and, Bool.not_false, if_true]
    rfl
  simp only [runEngine, hr, ht, runOn, hcan, beq_eq_false_iff_ne.mpr hbreak, Bool.and_false, Bool.false_eq_true, if_false, if_true,
    retryShadow_fault (run := fun s' => checkAndRun r (formOf r w ext) r.fmt.words body { s.env t x.lane with s := s' } _) (hchecks _),
    Form.named, hform, Bool.false_and, State.stopLane_without_operand, State.faultsEarly]

end

/-- R232: a breakpoint on an undefined opcode halts lane 1 first. -/
theorem runUndefined_halts {op : Nat} (hop : opInfo op = none) (hbreak : (s.env t x.lane).dbg.map (·.atBreak) = some true) :
    runUndefined op x w s = { s with dbg := s.dbg.map fun d => { d with halted := true } } := by
  simp only [runUndefined, ht, hcan, hop, hbreak, Option.isNone_none, beq_self_eq_true, Bool.and_self, if_true]

end

/-- R98: format N has no field but the opcode. -/
theorem formOf_N_reserved {op cost : Nat} {w : BitVec 24} (ext : Word) (hw : w ≠ 0) : (formOf (rowN op .N cost) w ext).ok = false := by
  have hfield : fld w 0 24 ≠ 0 := by
    rw [fld_eq_extractLsb', BitVec.extractLsb'_eq_self]
    exact fun h => hw (BitVec.eq_of_toNat_eq h)
  exact beq_eq_false_iff_ne.mpr hfield

/-! ### The obligation -/

/-- Settles O15. -/
theorem undefinedAndReservedFault : Obligations.UndefinedAndReservedFault := by
  unfold Obligations.UndefinedAndReservedFault
  intro x w s t ht hcan e b faulted after
  refine ⟨fun hbreak => ⟨?undefined, ?reserved⟩, ?breakpoint, ?lane⟩
  case undefined => exact fun op hop => congrArg _ (runUndefined_faults ht hcan hbreak hop)
  case reserved => exact fun hw => congrArg _ (runEngine_reserved ht hcan hbreak bodyNot rfl (formOf_N_reserved 0 hw))
  case breakpoint => exact fun hbreak op hop => congrArg _ (runUndefined_halts ht hcan hop hbreak)
  case lane =>
    intro op code
    refine ⟨Lane.fault_regs .., Lane.fault_shadow .., Lane.fault_drained .., Lane.fault_pending _, fun hspec => ?_⟩
    obtain ⟨hkept, hraised⟩ := Lane.fault_raised (faultInfo e.ctx op w noOpnd code 0 (e.ctx.spec == .speculating)) hspec
    exact ⟨hkept, by rw [hraised]; rfl⟩

end Sys2Proof.Machine
end

section
/-! PROOFS. What the commands of a debug session answer (R91, R230 to R232, R234, R468): one lemma for each outcome of a command. -/
namespace Sys2Proof.Machine
open Sys2Proof.Claims

section
variable {s : State} {r : Req}

/-! ### Opening and closing -/

section
variable (hruns : s.fate ⟨0x0D08, true, 2, true, .SB, false⟩ r = .runs) (hp : r.payload = []) (hslot : (s.accept r).slot = none)
  (hdbg : (s.accept r).dbg = none) (hversion : ((s.accept r).tenant r.tenant).version.isSome = true)
include hruns hp hslot hdbg hversion

/-- R230: with a key of privilege P2 at the module. -/
theorem exec_debugOpen_opens (hkey : (s.accept r).keyAt 2 = true) :
    exec (.debugOpen r) s = .next (replied ⟨0x0D08, true, 2, true, .SB, false⟩ r
      (((s.accept r).openDebug r.tenant r.session).useKey r.session) 0 []) := by
  refine receive_replies hruns ?_
  simp only [sized_empty hp, State.slotFree, hslot, hdbg, hversion, Option.isNone_none, Bool.and_self, need_holds rfl, State.needKey,
    need_holds hkey, except_ok_bind, ok]

/-- R230: KEY-REQUIRED. -/
theorem exec_debugOpen_no_key (hkey : (s.accept r).keyAt 2 = false) :
    exec (.debugOpen r) s = .next (replied ⟨0x0D08, true, 2, true, .SB, false⟩ r (s.accept r) 8 (denied 3).2) := by
  refine receive_refuses (e := denied 3) hruns ?_
  simp only [sized_empty hp, State.slotFree, hslot, hdbg, hversion, Option.isNone_none, Bool.and_self, need_holds rfl, State.needKey,
    need_fails hkey, except_ok_bind, except_error_bind]

end

section
variable (hruns : s.fate ⟨0x0D0C, true, 2, true, .SB, false⟩ r = .runs) (hp : r.payload = [])
include hruns hp

/-- R234. -/
theorem exec_debugClose_ends {d : DebugSt} (hd : (s.accept r).debugOf r = .ok d) :
    exec (.debugClose r) s = .next (replied ⟨0x0D0C, true, 2, true, .SB, false⟩ r (s.accept r).endDebug 0 []) := by
  refine receive_replies hruns ?_
  simp only [sized_empty hp, hd, except_ok_bind, ok]

/-- R468: there must be a session. -/
theorem exec_debugClose_no_session (hdbg : (s.accept r).dbg = none) :
    exec (.debugClose r) s = .next (replied ⟨0x0D0C, true, 2, true, .SB, false⟩ r (s.accept r) 0x0B errorPlain) := by
  refine receive_refuses (e := wrongState) hruns ?_
  simp only [sized_empty hp, State.debugOf, hdbg, except_ok_bind, except_error_bind]

end

/-! ### Control of lane 1 -/

/-- The state after a `DEBUG.CONTROL` that has passed its checks. -/
def State.debugControlled (s : State) (r : Req) (d : DebugSt) : State :=
  let k := r.ticket ⟨0x0D09, true, 2, true, .SB, false⟩
  ((s.accept r).answer k ((s.accept r).debugDo k d (field r.payload 0 1) (field r.payload 2 2) (field r.payload 4 4))).closeLast r.session

/-- The state after a `DEBUG.CONTROL` that leaves the session as `d` and has replied with lane 1's state. -/
def State.debugLeft (s : State) (r : Req) (d : DebugSt) : State :=
  replied ⟨0x0D09, true, 2, true, .SB, false⟩ r { s.accept r with dbg := some d } 0 d.body

section
variable {d : DebugSt}

theorem State.debugControlled_halts (hop : field r.payload 0 1 = 1) : s.debugControlled r d = s.debugLeft r { d with halted := true } := by
  rw [State.debugControlled, hop]; rfl

/-- R232: a single step replies when lane 1 has executed its instruction. -/
theorem State.debugControlled_steps (hop : field r.payload 0 1 = 2) (hcycle : d.inCycle = true) :
    s.debugControlled r d = State.closeLast { s.accept r with
      dbg := some { d with halted := false, leaving := true, step := some (r.ticket ⟨0x0D09, true, 2, true, .SB, false⟩) } } r.session := by
  simp only [State.debugControlled, hop, State.debugDo, hcycle]; rfl

/-- Lane 1 has no instruction to execute (log 82). -/
theorem State.debugControlled_step_halts (hop : field r.payload 0 1 = 2) (hcycle : d.inCycle = false) :
    s.debugControlled r d = s.debugLeft r { d with halted := true } := by
  simp only [State.debugControlled, hop, State.debugDo, hcycle]; rfl

theorem State.debugControlled_runs (hop : field r.payload 0 1 = 3) :
    s.debugControlled r d = s.debugLeft r { d with halted := false, leaving := d.halted } := by
  rw [State.debugControlled, hop]; rfl

section
variable (hop : field r.payload 0 1 = 4)
include hop

theorem State.debugControlled_break_set (hmem : (field r.payload 2 2, field r.payload 4 4) ∈ d.breaks) :
    s.debugControlled r d = s.debugLeft r d := by
  simp only [State.debugControlled, hop, State.debugDo, List.contains_iff_mem.mpr hmem]; rfl

variable (hnew : (field r.payload 2 2, field r.payload 4 4) ∉ d.breaks)
include hnew

theorem State.debugControlled_break_added (hroom : d.breaks.length < 16) :
    s.debugControlled r d = s.debugLeft r { d with breaks := d.breaks ++ [(field r.payload 2 2, field r.payload 4 4)] } := by
  simp only [State.debugControlled, hop, State.debugDo, List.contains_iff_mem, hnew, if_neg (Nat.not_le.mpr hroom)]; rfl

/-- R468: sixteen breakpoints stand already. -/
theorem State.debugControlled_breaks_full (hfull : 16 ≤ d.breaks.length) :
    s.debugControlled r d = replied ⟨0x0D09, true, 2, true, .SB, false⟩ r (s.accept r) 0x0B errorPlain := by
  simp only [State.debugControlled, hop, State.debugDo, List.contains_iff_mem, hnew, if_pos hfull]; rfl

end

theorem State.debugControlled_break_cleared (hop : field r.payload 0 1 = 5) : s.debugControlled r d =
    s.debugLeft r { d with breaks := d.breaks.filter fun b => b != (field r.payload 2 2, field r.payload 4 4) } := by
  rw [State.debugControlled, hop]; rfl

section
variable (hruns : s.fate ⟨0x0D09, true, 2, true, .SB, false⟩ r = .runs) (hlen : r.payload.length = 8)
  (hzero : field r.payload 1 1 = 0) (hd : (s.accept r).debugOf r = .ok d)
include hruns hlen hzero hd

/-- An operation that names no breakpoint. -/
theorem State.debugControl_lane (hlow : 1 ≤ field r.payload 0 1) (hop : field r.payload 0 1 < 4) :
    s.debugControl r = s.debugControlled r d := by
  have hrange : (decide (1 ≤ field r.payload 0 1) && decide (field r.payload 0 1 ≤ 5)) = true := by simp; omega
  rw [State.debugControl, State.receive_runs hruns]
  simp only [sized_holds hlen, zeros_hold hzero, need_holds hrange, decide_eq_true hop, Bool.true_or, need_holds rfl, hd, except_ok_bind]
  rfl

/-- An operation on a breakpoint: at an offset in the code of a task of the tenant. -/
theorem State.debugControl_break {t : Task} {v : Version} (ht : (s.accept r).task (field r.payload 2 2) = some t)
    (htenant : t.tenant = r.tenant) (hv : ((s.accept r).tenant r.tenant).version = some v) (hcode : field r.payload 4 4 < v.code.length)
    (hlow : 4 ≤ field r.payload 0 1) (hop : field r.payload 0 1 ≤ 5) : s.debugControl r = s.debugControlled r d := by
  have hrange : (decide (1 ≤ field r.payload 0 1) && decide (field r.payload 0 1 ≤ 5)) = true := by simp; omega
  rw [State.debugControl, State.receive_runs hruns]
  simp only [sized_holds hlen, zeros_hold hzero, need_holds hrange, ht, hv, Option.map_some, Option.getD_some, htenant, beq_self_eq_true,
    decide_eq_true hcode, Bool.or_true, need_holds rfl, hd, except_ok_bind]
  rfl

end
end

/-! ### Reading and writing -/

section
variable {d : DebugSt} (hruns : s.fate ⟨0x0D0A, true, 2, true, .SB, false⟩ r = .runs) (hlen : r.payload.length = 8)
  (hzero : field r.payload 1 1 = 0) (hreply : 36 + 4 * field r.payload 2 2 ≤ 16384) (hd : (s.accept r).debugOf r = .ok d)
include hruns hlen hzero hreply hd

/-- R232: registers and stacks of lane 1. -/
theorem exec_debugRead_registers (hwhat : field r.payload 0 1 = 0) (hsize : field r.payload 4 4 + field r.payload 2 2 ≤ 100) :
    exec (.debugRead r) s = .next (replied ⟨0x0D0A, true, 2, true, .SB, false⟩ r (s.accept r) 0
      (((d.lane.debugWords.drop (field r.payload 4 4)).take (field r.payload 2 2)).flatMap fun w => be 4 w.toNat)) := by
  refine receive_replies hruns ?_
  simp only [sized_holds hlen, zeros_hold hzero, need_holds (decide_eq_true hreply), hwhat, need_holds (decide_eq_true (Nat.zero_le 5)),
    if_true, need_holds (decide_eq_true hsize), hd, except_ok_bind, ok]

/-- R232: words of Q, M, T or L of the debug copy, which gate 9 admits. -/
theorem exec_debugRead_copy (hlow : 2 ≤ field r.payload 0 1) (hhigh : field r.payload 0 1 ≤ 5)
    (hsize : field r.payload 4 4 + field r.payload 2 2 ≤ ((s.accept r).tenant r.tenant).windowBytes (field r.payload 0 1 - 1) / 4)
    (hgate : (s.accept r).copyDenial r ((s.accept r).tenant r.tenant) 0 (field r.payload 0 1 - 1) (field r.payload 4 4)
      (field r.payload 2 2) = none) :
    exec (.debugRead r) s = .next (replied ⟨0x0D0A, true, 2, true, .SB, false⟩ r (s.accept r) 0
      (((List.range (field r.payload 2 2)).map fun k => Cells.readWord d.copy
        (((s.accept r).tenant r.tenant).copyAddr (field r.payload 0 1 - 1) (field r.payload 4 4 + k))).flatMap fun w => be 4 w.toNat)) := by
  have hregisters : field r.payload 0 1 ≠ 0 := by omega
  have hinputs : field r.payload 0 1 ≠ 1 := by omega
  refine receive_replies hruns ?_
  simp only [sized_holds hlen, zeros_hold hzero, need_holds (decide_eq_true hreply), need_holds (decide_eq_true hhigh),
    if_neg hregisters, if_neg hinputs, need_holds (decide_eq_true hsize), hd, hgate, except_ok_bind, ok]

end

/-- R232: words of Q, M, T or L of the debug copy, which gate 9 admits. -/
theorem exec_debugWrite_writes {d : DebugSt} (hruns : s.fate ⟨0x0D0B, true, 2, true, .SB, false⟩ r = .runs)
    (hlen : r.payload.length = 8 + 4 * field r.payload 2 2) (hzero : field r.payload 1 1 = 0) (hlow : 1 ≤ field r.payload 0 1)
    (hhigh : field r.payload 0 1 ≤ 4)
    (hsize : 4 * (field r.payload 4 4 + field r.payload 2 2) ≤ ((s.accept r).tenant r.tenant).windowBytes (field r.payload 0 1))
    (hd : (s.accept r).debugOf r = .ok d)
    (hgate : (s.accept r).copyDenial r ((s.accept r).tenant r.tenant) 1 (field r.payload 0 1) (field r.payload 4 4)
      (field r.payload 2 2) = none) :
    exec (.debugWrite r) s = .next (replied ⟨0x0D0B, true, 2, true, .SB, false⟩ r { s.accept r with
      dbg := some { d with copy := (List.range (field r.payload 2 2)).foldl (fun m k =>
        Cells.writeWord m (((s.accept r).tenant r.tenant).copyAddr (field r.payload 0 1) (field r.payload 4 4 + k))
          (BitVec.ofNat 32 (field r.payload (8 + 4 * k) 4))) d.copy } } 0 []) := by
  have hheader : 8 ≤ 8 + 4 * field r.payload 2 2 := by omega
  refine receive_replies hruns ?_
  simp only [hlen, decide_eq_true hheader, beq_self_eq_true, Bool.and_self, need_holds rfl, zeros_hold hzero, decide_eq_true hlow,
    decide_eq_true hhigh, need_holds (decide_eq_true hsize), hd, hgate, except_ok_bind, ok]

end

/-! ### The obligation -/

/-- Settles O50: each clause is the lemma of its command's outcome. -/
theorem debugCommands : Obligations.DebugCommands := by
  unfold Obligations.DebugCommands
  intro s r
  refine ⟨?opens, ?control, ?reads, fun d => exec_debugWrite_writes, ?closes⟩
  case opens =>
    exact fun hruns hp hslot hdbg hversion => ⟨exec_debugOpen_opens hruns hp hslot hdbg hversion,
      exec_debugOpen_no_key hruns hp hslot hdbg hversion⟩
  case control =>
    intro c op left d hruns hlen hzero hd
    have hlane (hlow : 1 ≤ op) (hop : op < 4) := State.debugControl_lane hruns hlen hzero hd hlow hop
    refine ⟨fun hop => congrArg Host.Outcome.next ?halt, fun hop hcycle => congrArg Host.Outcome.next ?step,
      fun hop hcycle => congrArg Host.Outcome.next ?stepHalts,
      fun hop => congrArg Host.Outcome.next ?run, fun t v ht htenant hv hcode => ?breaks⟩
    case halt => exact (hlane (by omega) (by omega)).trans (State.debugControlled_halts hop)
    case step => exact (hlane (by omega) (by omega)).trans (State.debugControlled_steps hop hcycle)
    case stepHalts => exact (hlane (by omega) (by omega)).trans (State.debugControlled_step_halts hop hcycle)
    case run => exact (hlane (by omega) (by omega)).trans (State.debugControlled_runs hop)
    case breaks =>
      have hbreak (hlow : 4 ≤ op) (hop : op ≤ 5) := State.debugControl_break hruns hlen hzero hd ht htenant hv hcode hlow hop
      exact ⟨fun hop hmem => congrArg Host.Outcome.next ((hbreak (by omega) (by omega)).trans (State.debugControlled_break_set hop hmem)),
        fun hop hnew hroom => congrArg Host.Outcome.next ((hbreak (by omega) (by omega)).trans (State.debugControlled_break_added hop hnew hroom)),
        fun hop hnew hfull => congrArg Host.Outcome.next ((hbreak (by omega) (by omega)).trans (State.debugControlled_breaks_full hop hnew hfull)),
        fun hop => congrArg Host.Outcome.next ((hbreak (by omega) (by omega)).trans (State.debugControlled_break_cleared hop))⟩
  case reads =>
    exact fun d hruns hlen hzero hreply hd => ⟨exec_debugRead_registers hruns hlen hzero hreply hd,
      exec_debugRead_copy hruns hlen hzero hreply hd⟩
  case closes =>
    exact fun hruns hp => ⟨fun d => exec_debugClose_ends hruns hp, exec_debugClose_no_session hruns hp⟩

end Sys2Proof.Machine
end

section
/-! PROOFS. The word instructions on WACC (R137 to R139, R218): checked and modular arithmetic, logic, shifts and comparisons. One law for each form of
instruction, and one for each number rule behind it. -/
namespace Sys2Proof.Machine
open Sys2Proof.Claims

/-! ### WACC and the operand -/

section
variable {e : Env} {o : Opnd} {l k : Lane} {v r : Word} {m : Bool} {st : Stop} {f : Word → Word → Except Stop Word}

/-- R218: WACC from itself and the operand, with both marks. -/
theorem waccWith_both (hread : e.readOp l o = .ok (v, m, k)) (hf : f k.regs.wacc v = .ok r) :
    waccWith f true e l o = .ok (k.setWacc r (m || k.regs.waccMark)) := by
  simp only [waccWith, hread, hf, except_ok_bind, Bool.true_and]

theorem waccWith_faults {keepsMark : Bool} (hread : e.readOp l o = .ok (v, m, k)) (hf : f k.regs.wacc v = .error st) :
    waccWith f keepsMark e l o = .error st := by
  simp only [waccWith, hread, hf, except_ok_bind, except_error_bind]

theorem compareWith_read (test : Word → Word → Bool) (hread : e.readOp l o = .ok (v, m, k)) :
    compareWith test e l o = .ok (k.setAcc (test k.regs.wacc v) (m || k.regs.waccMark)) := by
  simp only [compareWith, hread, except_ok_bind]

end

section
variable {l : Lane} {r : Word} {st : Stop} {f : Word → Except Stop Word}

theorem waccMap_ok (hf : f l.regs.wacc = .ok r) : waccMap f l = .ok (l.setWacc r l.regs.waccMark) := by
  rw [waccMap, hf, except_ok_bind]

theorem waccMap_faults (hf : f l.regs.wacc = .error st) : waccMap f l = .error st := by
  rw [waccMap, hf, except_error_bind]

end

/-! ### The number rules -/

theorem checked_fits {i : Int} (h : -2147483648 ≤ i ∧ i ≤ 2147483647) : checked i = .ok (BitVec.ofInt 32 i) := if_pos h

theorem checked_overflows {i : Int} (h : i < -2147483648 ∨ 2147483647 < i) : checked i = .error fOverflow := if_neg (by omega)

theorem divChecked_fits {a b : Int} (hb : b ≠ 0) (h : -2147483648 ≤ a.tdiv b ∧ a.tdiv b ≤ 2147483647) :
    divChecked a b = .ok (BitVec.ofInt 32 (a.tdiv b)) := (if_neg hb).trans (checked_fits h)

theorem divChecked_overflows {a b : Int} (hb : b ≠ 0) (h : a.tdiv b < -2147483648 ∨ 2147483647 < a.tdiv b) :
    divChecked a b = .error fOverflow := (if_neg hb).trans (checked_overflows h)

theorem divChecked_zero (a : Int) : divChecked a 0 = .error fDivZero := if_pos rfl

theorem modChecked_zero (a : Int) : modChecked a 0 = .error fDivZero := if_pos rfl

theorem toInt_ne_zero {v : Word} (hv : v ≠ 0) : v.toInt ≠ 0 := mt (fun h => BitVec.toInt_inj.mp (h.trans BitVec.toInt_zero.symm)) hv

theorem toInt_fits (a : Word) : -2147483648 ≤ a.toInt ∧ a.toInt ≤ 2147483647 := ⟨BitVec.le_toInt a, BitVec.toInt_le⟩

/-- R138: a remainder is smaller than its divisor, so it always fits. -/
theorem modChecked_fits (a : Word) {b : Word} (hb : b ≠ 0) :
    modChecked a.toInt b.toInt = .ok (BitVec.ofInt 32 (a.toInt.tmod b.toInt)) := by
  have hdivisor := toInt_ne_zero hb
  have hrange := toInt_fits b
  have hsmaller : (a.toInt.tmod b.toInt).natAbs < b.toInt.natAbs := by
    rw [Int.natAbs_tmod]
    exact Nat.mod_lt _ (Int.natAbs_pos.mpr hdivisor)
  exact (if_neg hdivisor).trans (checked_fits (by omega))

/-- The smaller of two signed words. -/
theorem minWord_eq (a v : Word) : (if v.slt a then v else a) = BitVec.ofInt 32 (min a.toInt v.toInt) := by
  simp only [BitVec.slt_iff_toInt_lt]
  split
  · next h => rw [Int.min_eq_right (Int.le_of_lt h), BitVec.ofInt_toInt]
  · next h => rw [Int.min_eq_left (Int.not_lt.mp h), BitVec.ofInt_toInt]

/-- The larger of two signed words. -/
theorem maxWord_eq (a v : Word) : (if a.slt v then v else a) = BitVec.ofInt 32 (max a.toInt v.toInt) := by
  simp only [BitVec.slt_iff_toInt_lt]
  split
  · next h => rw [Int.max_eq_right (Int.le_of_lt h), BitVec.ofInt_toInt]
  · next h => rw [Int.max_eq_left (Int.not_lt.mp h), BitVec.ofInt_toInt]

/-- A signed word between two limits in order. -/
theorem limitWord_eq (a : Word) {lo hi : Word} (h : lo.toInt ≤ hi.toInt) :
    (if a.slt lo then lo else if hi.slt a then hi else a) = BitVec.ofInt 32 (max lo.toInt (min hi.toInt a.toInt)) := by
  simp only [BitVec.slt_iff_toInt_lt]
  split
  · next hlow => rw [show max lo.toInt (min hi.toInt a.toInt) = lo.toInt by omega, BitVec.ofInt_toInt]
  · next hlow =>
    split
    · next hhigh => rw [show max lo.toInt (min hi.toInt a.toInt) = hi.toInt by omega, BitVec.ofInt_toInt]
    · next hhigh => rw [show max lo.toInt (min hi.toInt a.toInt) = a.toInt by omega, BitVec.ofInt_toInt]

/-! ### LIMW -/

section
variable {e : Env} {o o2 : Opnd} {l k : Lane} {lo hi : Word} {m : Bool} (hread : e.readWords l o = .ok ([lo, hi], m, k))
include hread

theorem bodyLimw_crossed (h : hi.toInt < lo.toInt) : bodyLimw e o o2 l = .ok (k.setWacc lo (m || k.regs.waccMark)) := by
  have hcrossed : hi.slt lo = true := BitVec.slt_iff_toInt_lt.mpr h
  simp only [bodyLimw, hread, except_ok_bind, List.getElem?_cons_zero, List.getElem?_cons_succ, Option.getD_some, hcrossed, if_true]

theorem bodyLimw_limits (h : lo.toInt ≤ hi.toInt) : bodyLimw e o o2 l =
    .ok (k.setWacc (BitVec.ofInt 32 (max lo.toInt (min hi.toInt k.regs.wacc.toInt))) (m || k.regs.waccMark)) := by
  have hordered : hi.slt lo = false := by rw [BitVec.slt_eq_decide, decide_eq_false (Int.not_lt.mpr h)]
  simp only [bodyLimw, hread, except_ok_bind, List.getElem?_cons_zero, List.getElem?_cons_succ, Option.getD_some, hordered,
    Bool.false_eq_true, if_false, limitWord_eq _ h]

end

/-! ### The obligations -/

/-- Settles O5. -/
theorem checkedArithmetic : Obligations.CheckedArithmetic := by
  unfold Obligations.CheckedArithmetic
  refine ⟨fun x w s b => ⟨fun v m l hread => ?results, ?alone⟩, fun x w s b => ⟨fun v m l hread => ?faults, ?aloneFaults, ?addkFaults⟩⟩
  case results =>
    exact ⟨fun hfits h => next_ends h (waccWith_both hread (checked_fits hfits)),
      fun hfits h => next_ends h (waccWith_both hread (checked_fits hfits)),
      fun hfits h => next_ends h (waccWith_both hread (checked_fits hfits)),
      fun hv hfits h => next_ends h (waccWith_both hread (divChecked_fits (toInt_ne_zero hv) hfits)),
      fun hv h => next_ends h (waccWith_both hread (modChecked_fits _ hv))⟩
  case alone =>
    exact ⟨fun hfits h => next_ends h (waccMap_ok (checked_fits hfits)), fun hfits h => next_ends h (waccMap_ok (checked_fits hfits)),
      fun hfits h => next_ends h (waccMap_ok (checked_fits hfits))⟩
  case faults =>
    refine ⟨fun hout h => next_faults h (waccWith_faults hread (checked_overflows hout)),
      fun hout h => next_faults h (waccWith_faults hread (checked_overflows hout)),
      fun hout h => next_faults h (waccWith_faults hread (checked_overflows hout)), ?divZero, ?divOverflow, ?modZero⟩
    case divZero =>
      rintro rfl h
      exact next_faults h (waccWith_faults hread (divChecked_zero _))
    case divOverflow =>
      rintro rfl hwacc h
      exact next_faults h (waccWith_faults hread (by rw [hwacc]; exact divChecked_overflows (by decide) (by decide)))
    case modZero =>
      rintro rfl h
      exact next_faults h (waccWith_faults hread (modChecked_zero _))
  case aloneFaults =>
    exact fun hwacc => ⟨fun h => next_faults h (waccMap_faults (by rw [hwacc]; exact checked_overflows (by decide))),
      fun h => next_faults h (waccMap_faults (by rw [hwacc]; exact checked_overflows (by decide)))⟩
  case addkFaults => exact fun hout h => next_faults h (waccMap_faults (checked_overflows hout))

/-- Settles O6. -/
theorem modularAndLogicArithmetic : Obligations.ModularAndLogicArithmetic := by
  unfold Obligations.ModularAndLogicArithmetic
  intro x w s b
  refine ⟨fun v m l hread => ?operand, ?alone, fun lo hi m l hread h => ?limw⟩
  case operand =>
    exact ⟨fun h => next_ends h (waccWith_both hread rfl), fun h => next_ends h (waccWith_both hread rfl),
      fun h => next_ends h (waccWith_both hread rfl), fun h => next_ends h (waccWith_both hread rfl),
      fun h => next_ends h (waccWith_both hread rfl), fun h => next_ends h (waccWith_both hread (congrArg _ (minWord_eq ..))),
      fun h => next_ends h (waccWith_both hread (congrArg _ (maxWord_eq ..)))⟩
  case alone =>
    rw [← fld_eq_extractLsb']
    exact ⟨fun h => next_ends h (waccMap_ok rfl), fun h => next_ends h (waccMap_ok rfl), fun h => next_ends h (waccMap_ok rfl),
      fun h => next_ends h (waccMap_ok rfl), fun h => next_ends h (waccMap_ok rfl)⟩
  case limw => exact ⟨fun hlt => next_ends h (bodyLimw_crossed hread hlt), fun hle => next_ends h (bodyLimw_limits hread hle)⟩

/-- Settles O7. -/
theorem comparisonInstructions : Obligations.ComparisonInstructions := by
  unfold Obligations.ComparisonInstructions
  intro x w s b v m l hread
  simp only [decide_not]
  exact ⟨fun h => next_ends h (compareWith_read _ hread), fun h => next_ends h (compareWith_read _ hread),
    fun h => next_ends h (compareWith_read _ hread), fun h => next_ends h (compareWith_read _ hread),
    fun h => next_ends h (compareWith_read _ hread), fun h => next_ends h (compareWith_read _ hread),
    fun h => next_ends h (compareWith_read _ hread), fun h => next_ends h (compareWith_read _ hread)⟩

end Sys2Proof.Machine
end

section
/-! PROOFS. Timers (R142 to R147), counters (R148, R149), edges (R150 to R152) and shift registers (R153, R154): what the rules of R145 make of a timer,
and what each form of instruction leaves of its block. -/
namespace Sys2Proof.Machine
open Sys2Proof.Claims

/-! ### What the rules make of a timer -/

theorem limitEt_et_le (u : TimerBlock) : (limitEt u).et ≤ u.pt := Nat.min_le_right ..

/-- A timer that has timed out stops, with Q = 0 (TOF and TP of R145). -/
def TimerBlock.expire (b : TimerBlock) : TimerBlock := if b.running ∧ b.pt ≤ b.et then { b with q := false, running := false } else b

@[simp] theorem TimerBlock.expire_et (b : TimerBlock) : b.expire.et = b.et := by
  unfold TimerBlock.expire
  split <;> rfl

theorem TimerBlock.q_of_expire {b : TimerBlock} (h : b.expire.q = true) : b.q = true := by
  unfold TimerBlock.expire at h
  split at h
  · cases h
  · exact h

theorem TimerBlock.expire_early {b : TimerBlock} (h : b.et < b.pt) : b.expire = b := if_neg fun hout => Nat.not_le.mpr h hout.2

section
variable (now : Word) {t : TimerBlock}

theorem accumulate_et_le (t : TimerBlock) : (accumulate now t).et ≤ t.pt := Nat.min_le_right ..

/-! #### TON -/

theorem tonStep_off (t : TimerBlock) : tonStep now false t = { t with et := 0, rem := 0, q := false, running := false } := rfl

theorem tonStep_times (hrun : t.running = true) :
    tonStep now true t = { accumulate now t with q := decide (t.pt ≤ (accumulate now t).et) } := by
  simp [tonStep, accumulate, hrun]

theorem tonStep_starts (hrun : t.running = false) : tonStep now true t = { startTimer now t with q := decide (t.pt ≤ 0) } := by
  simp [tonStep, startTimer, hrun]

/-- R145 and R147: what TON makes of ET, RUNNING and Q. -/
theorem tonStep_spec (inp : Bool) (t : TimerBlock) : (tonStep now inp t).et ≤ t.pt ∧ (tonStep now inp t).running = inp ∧
    (tonStep now inp t).q = (inp && decide (t.pt ≤ (tonStep now inp t).et)) := by
  cases inp with
  | false => rw [tonStep_off]; exact ⟨Nat.zero_le _, rfl, rfl⟩
  | true =>
    cases hrun : t.running with
    | false => rw [tonStep_starts now hrun]; exact ⟨Nat.zero_le _, rfl, rfl⟩
    | true => rw [tonStep_times now hrun]; exact ⟨accumulate_et_le now t, hrun, rfl⟩

/-! #### TONR -/

theorem tonrStep_off (t : TimerBlock) : tonrStep now false t = { t with running := false, q := decide (t.pt ≤ t.et) } := rfl

theorem tonrStep_times (hrun : t.running = true) :
    tonrStep now true t = { accumulate now t with q := decide (t.pt ≤ (accumulate now t).et) } := by
  simp [tonrStep, accumulate, hrun]

theorem tonrStep_starts (hrun : t.running = false) :
    tonrStep now true t = { t with running := true, stamp := now, q := decide (t.pt ≤ t.et) } := by
  simp [tonrStep, hrun]

/-- R145 and R147: what TONR makes of ET, RUNNING and Q. -/
theorem tonrStep_spec (inp : Bool) (ht : t.et ≤ t.pt) : (tonrStep now inp t).et ≤ t.pt ∧ (tonrStep now inp t).running = inp ∧
    (tonrStep now inp t).q = decide (t.pt ≤ (tonrStep now inp t).et) := by
  cases inp with
  | false => rw [tonrStep_off]; exact ⟨ht, rfl, rfl⟩
  | true =>
    cases hrun : t.running with
    | false => rw [tonrStep_starts now hrun]; exact ⟨ht, rfl, rfl⟩
    | true => rw [tonrStep_times now hrun]; exact ⟨accumulate_et_le now t, hrun, rfl⟩

/-! #### TOF -/

theorem tofStep_on (t : TimerBlock) : tofStep now true t = { t with q := true, et := 0, rem := 0, running := false } := by
  simp [tofStep]

theorem tofStep_off (t : TimerBlock) :
    tofStep now false t = (if t.running then accumulate now t else if t.q then startTimer now t else t).expire := rfl

theorem tofStep_et_le (inp : Bool) (ht : t.et ≤ t.pt) : (tofStep now inp t).et ≤ t.pt := by
  cases inp with
  | true => rw [tofStep_on]; exact Nat.zero_le _
  | false =>
    rw [tofStep_off, TimerBlock.expire_et]
    split
    · exact accumulate_et_le now t
    · split
      · exact Nat.zero_le _
      · exact ht

/-! #### TP -/

theorem tpStep_times (inp : Bool) (hrun : t.running = true) : tpStep now inp t = (accumulate now t).expire := by
  simp [tpStep, TimerBlock.expire, accumulate, hrun]

theorem tpStep_rises (hrun : t.running = false) (hprev : t.inPrev = false) :
    tpStep now true t = ({ startTimer now t with q := true } : TimerBlock).expire := by
  simp [tpStep, TimerBlock.expire, startTimer, hrun, hprev]

theorem tpStep_holds (hrun : t.running = false) (hprev : t.inPrev = true) : tpStep now true t = t := by
  simp [tpStep, hrun, hprev]

theorem tpStep_off (hrun : t.running = false) : tpStep now false t = { t with et := 0 } := by
  simp [tpStep, hrun]

theorem tpStep_et_le (inp : Bool) (ht : t.et ≤ t.pt) : (tpStep now inp t).et ≤ t.pt := by
  cases hrun : t.running with
  | true => rw [tpStep_times now inp hrun, TimerBlock.expire_et]; exact accumulate_et_le now t
  | false =>
    cases inp with
    | false => rw [tpStep_off now hrun]; exact Nat.zero_le _
    | true =>
      cases hprev : t.inPrev with
      | false => rw [tpStep_rises now hrun hprev, TimerBlock.expire_et]; exact Nat.zero_le _
      | true => rw [tpStep_holds now hrun hprev]; exact ht

end

/-! ### Timer instructions -/

/-- The block that a timer instruction stores (R143, R147): its rule on the block as it is read, and IN_PREV last of all. -/
def timerRan (f : Word → Bool → TimerBlock → TimerBlock) (e : Env) (l : Lane) (vs : List Word) : TimerBlock :=
  { f e.now l.regs.acc (limitEt (timerOf vs)) with inPrev := l.regs.acc }

section
variable {e : Env} {o o2 : Opnd} {l k j : Lane} {vs : List Word} {m : Bool}

theorem timerWith_stores {f : Word → Bool → TimerBlock → TimerBlock} (hread : e.readWords l o = .ok (vs, m, k))
    (hstore : e.store k (e.wordWrites o.area (o.word + 1) (timerWords (timerRan f e k vs)) (m || k.regs.accMark)) = .ok j) :
    timerWith f e l o = .ok (j.setAcc (timerRan f e k vs).q (m || k.regs.accMark)) := by
  rw [timerRan] at hstore
  simp only [timerWith, hread, hstore, except_ok_bind]
  rfl

theorem bodyTrst_clears (hacc : l.regs.acc = true) (hread : e.readWords l o = .ok (vs, m, k))
    (hstore : e.store k (e.wordWrites o.area (o.word + 1)
      (timerWords { timerOf vs with et := 0, rem := 0, q := false, running := false }) (m || k.regs.accMark)) = .ok j) :
    bodyTrst e o o2 l = .ok j := by
  simp only [bodyTrst, hacc, if_true, hread, except_ok_bind]
  exact hstore

/-! ### Counter instructions -/

theorem clamp32_eq (i : Int) : clamp32 i = max (-2147483648) (min 2147483647 i) := by
  unfold clamp32
  omega

theorem counterWith_stores {f : Bool → CounterBlock → CounterBlock} {c : CounterBlock} (out : CounterBlock → Bool)
    (hread : e.readWords l o = .ok (vs, m, k)) (hcount : f k.regs.acc (counterOf vs) = c)
    (hstore : e.store k (e.wordWrites o.area (o.word + 1) (counterWords c) (m || k.regs.accMark)) = .ok j) :
    counterWith f out e l o = .ok (j.setAcc (out c) (m || k.regs.accMark)) := by
  simp only [counterWith, hread, hcount, hstore, except_ok_bind]

/-- A count that is taken or not. -/
theorem countBy_if (b : CounterBlock) (edge : Bool) (n : Int) :
    (if edge then countBy b n else b) = { b with cv := if edge then max (-2147483648) (min 2147483647 (b.cv + n)) else b.cv } := by
  cases edge with
  | false => rfl
  | true => simp only [if_true, countBy, clamp32_eq]

section
variable {pv cv c r : Word} {n : Int} (hread : e.readWords l o = .ok ([pv, cv, c, r], m, k))
include hread

/-- R149: CU is ACC. -/
theorem bodyCtu_counts
    (hcount : (if k.regs.acc && !c.getLsbD 0 then max (-2147483648) (min 2147483647 (cv.toInt + 1)) else cv.toInt) = n)
    (hstore : e.store k (e.wordWrites o.area (o.word + 1) (counterWords ⟨pv.toInt, n, k.regs.acc, c.getLsbD 1⟩) (m || k.regs.accMark)) = .ok j) :
    bodyCtu e o o2 l = .ok (j.setAcc (decide (pv.toInt ≤ n)) (m || k.regs.accMark)) := by
  refine counterWith_stores _ hread ?_ hstore
  rw [countBy_if, ← hcount]
  rfl

/-- R149: CD is ACC. -/
theorem bodyCtd_counts
    (hcount : (if k.regs.acc && !c.getLsbD 1 then max (-2147483648) (min 2147483647 (cv.toInt - 1)) else cv.toInt) = n)
    (hstore : e.store k (e.wordWrites o.area (o.word + 1) (counterWords ⟨pv.toInt, n, c.getLsbD 0, k.regs.acc⟩) (m || k.regs.accMark)) = .ok j) :
    bodyCtd e o o2 l = .ok (j.setAcc (decide (n ≤ 0)) (m || k.regs.accMark)) := by
  refine counterWith_stores _ hread ?_ hstore
  rw [countBy_if, ← hcount]
  rfl

/-- R149: CU is ACC and CD is WACC[0]; an edge of each leaves CV as it is. -/
theorem bodyCtud_counts
    (hcount : max (-2147483648) (min 2147483647 (cv.toInt
      + if k.regs.acc && !c.getLsbD 0 then (if k.regs.wacc.getLsbD 0 && !c.getLsbD 1 then 0 else 1)
        else if k.regs.wacc.getLsbD 0 && !c.getLsbD 1 then -1 else 0)) = n)
    (hstore : e.store k (e.wordWrites o.area (o.word + 1) (counterWords ⟨pv.toInt, n, k.regs.acc, k.regs.wacc.getLsbD 0⟩)
      (m || k.regs.accMark || k.regs.waccMark)) = .ok j) :
    bodyCtud e o o2 l = .ok ((j.setAcc (decide (pv.toInt ≤ n)) (m || k.regs.accMark || k.regs.waccMark)).setWacc
      (overlay j.regs.wacc 1 (if n ≤ 0 then 1 else 0)) (m || k.regs.accMark || k.regs.waccMark)) := by
  have hedges (up down : Bool) : ((if up then 1 else 0) - (if down then 1 else 0) : Int) =
      if up then (if down then 0 else 1) else if down then -1 else 0 := by
    cases up <;> cases down <;> rfl
  have hblock : counterOf [pv, cv, c, r] = ⟨pv.toInt, cv.toInt, c.getLsbD 0, c.getLsbD 1⟩ := rfl
  simp only [bodyCtud, hread, except_ok_bind, hblock, countBy, hedges, clamp32_eq, hcount, hstore]

end

theorem bodyCrst_clears (hacc : l.regs.acc = true)
    (hstore : e.store l [⟨e.addr o.area (o.word + 1), 0xFFFFFFFF, 0, l.regs.accMark⟩] = .ok j) : bodyCrst e o o2 l = .ok j :=
  (if_pos hacc).trans hstore

theorem bodyCldv_loads {v : Word} (hacc : l.regs.acc = true) (hread : e.readOp l o = .ok (v, m, k))
    (hstore : e.store k [⟨e.addr o.area (o.word + 1), 0xFFFFFFFF, v, m || k.regs.accMark⟩] = .ok j) : bodyCldv e o o2 l = .ok j := by
  simp only [bodyCldv, hacc, if_true, hread, except_ok_bind]
  exact hstore

/-! ### Edges and shift registers -/

/-- R150: the committed bit, where the bank's gate admits the read. -/
theorem edgePrev_admitted {no : Nat} (hgate : e.dbg = none → e.gate (e.win.edge + no / 8) 0 = none) :
    edgePrev e no = .ok ((Cells.read e.s.image.base (e.win.edge + no / 8)).getLsbD (no % 8)) := by
  have hdenial : (if e.dbg.isSome then none else e.gate (e.win.edge + no / 8) 0) = none := by
    cases hdbg : e.dbg with
    | none => exact hgate hdbg
    | some d => rfl
  simp only [edgePrev, hdenial]

theorem edgeWith_read {f : Bool → Bool → Bool} {w : BitVec 24} {prev : Bool} (hprev : edgePrev e (fld w 0 16) = .ok prev) :
    edgeWith f w e l = .ok ((l.hold (.edge (fld w 0 16) l.regs.acc l.regs.accMark)).setAcc (f l.regs.acc prev) l.regs.accMark) := by
  simp only [edgeWith, hprev, except_ok_bind]

theorem fldE_eq_extractLsb' (e : Word) (lo n : Nat) : fldE e lo n = (e.extractLsb' lo n).toNat := by
  rw [BitVec.extractLsb'_toNat, Nat.shiftRight_eq_div_pow, fldE]

/-- R154: the lowest `len` bits shifted one place towards `len - 1`, with `low` at bit 0; bits above them stay. -/
def shiftIn (len v : Nat) (low : Bool) : Nat := (2 * (v % 2 ^ len) + (if low then 1 else 0)) % 2 ^ len + v / 2 ^ len * 2 ^ len

theorem bodyShfb_shifts {ext : Word} {len : Nat} (hlen : fldE ext 0 13 + 1 = len) (hread : e.readWords l o = .ok (vs, m, k))
    (hstore : e.store k (e.wordWrites o.area o.word (natWords o.words (shiftIn len (wordsNat vs) k.regs.acc)) (m || k.regs.accMark)) = .ok j) :
    bodyShfb ext e o o2 l = .ok (j.setAcc ((wordsNat vs % 2 ^ len).testBit (len - 1)) (m || k.regs.accMark)) := by
  rw [shiftIn] at hstore
  simp only [bodyShfb, hread, hlen, hstore, except_ok_bind]

theorem bodyShfw_shifts {last : Word} (hread : e.readWords l o = .ok (vs ++ [last], m, k))
    (hstore : e.store k (e.wordWrites o.area o.word (k.regs.wacc :: vs) (m || k.regs.waccMark)) = .ok j) :
    bodyShfw e o o2 l = .ok (j.setWacc last (m || k.regs.waccMark)) := by
  simp only [bodyShfw, hread, List.dropLast_concat, hstore, List.getLast?_concat, Option.getD_some, except_ok_bind]

end

/-- The strand runs the task in the state that the instruction sees (R100, R176). -/
theorem startOf_env_s {op : Nat} {x : Exec} {w : BitVec 24} {ext : Word} {s : State} {b : Start} (h : startOf op x w ext s = some b) :
    b.env.s = b.base := by
  obtain ⟨_, _, _, _, _, henv, _⟩ := run_split h
  rw [henv]

/-! ### The obligations -/

/-- Settles O10. -/
theorem timerInstructions : Obligations.TimerInstructions := by
  unfold Obligations.TimerInstructions
  refine ⟨fun x w s b => ⟨fun vs m l f k hread hstore => ?timers, ?trst, ?trstKept⟩, fun now inp u => ?rules⟩
  case timers =>
    refine ⟨?ton, ?tof, ?tp, ?tonr⟩
    all_goals
      rintro rfl h
      exact next_ends h (timerWith_stores hread hstore)
  case trst => exact fun vs m l k hread hacc hstore h => next_ends h (bodyTrst_clears hacc hread hstore)
  case trstKept => exact fun hacc h => next_ends h (if_neg (Bool.eq_false_iff.mp hacc))
  case rules =>
    intro t
    have ht : t.et ≤ t.pt := limitEt_et_le u
    obtain ⟨honEt, honRunning, honQ⟩ := tonStep_spec now inp t
    obtain ⟨honrEt, honrRunning, honrQ⟩ := tonrStep_spec now inp ht
    refine ⟨honEt, tofStep_et_le now inp ht, tpStep_et_le now inp ht, honrEt, honRunning, honQ, honrQ, honrRunning, ?zero, ?tofOn, ?rises, ?times⟩
    case zero =>
      intro hpt hinp
      have hdue (n : Nat) : decide (t.pt ≤ n) = true := decide_eq_true (by rw [show t.pt = 0 from hpt]; exact Nat.zero_le n)
      rw [honQ, honrQ, hinp, hdue, hdue]
      exact ⟨rfl, rfl⟩
    case tofOn =>
      rintro rfl
      rw [tofStep_on]
      exact ⟨rfl, rfl, rfl⟩
    case rises =>
      rintro hrun rfl hprev hpt
      rw [tpStep_rises (t := t) now hrun hprev, TimerBlock.expire_early (b := { startTimer now t with q := true }) hpt]
      exact ⟨rfl, rfl, rfl, rfl⟩
    case times =>
      intro hrun hq
      rw [tpStep_times (t := t) now inp hrun] at hq
      have hkept : (accumulate now t).q = true := TimerBlock.q_of_expire hq
      exact hkept

/-- Settles O11. -/
theorem counterInstructions : Obligations.CounterInstructions := by
  unfold Obligations.CounterInstructions
  intro x w s b sat words
  refine ⟨fun pv cv c r m l hread => ⟨?ctu, ?ctd, ?ctud⟩, ?crst, ?crstKept, ?cldv, ?cldvKept⟩
  case ctu => exact fun k hstore h => next_ends h (bodyCtu_counts hread rfl hstore)
  case ctd => exact fun k hstore h => next_ends h (bodyCtd_counts hread rfl hstore)
  case ctud => exact fun k hstore h => next_ends h (bodyCtud_counts hread rfl hstore)
  case crst => exact fun k hstore hacc h => next_ends h (bodyCrst_clears hacc hstore)
  case crstKept => exact fun hacc h => next_ends h (if_neg (Bool.eq_false_iff.mp hacc))
  case cldv => exact fun v m l k hread hacc hstore h => next_ends h (bodyCldv_loads hacc hread hstore)
  case cldvKept => exact fun hacc h => next_ends h (if_neg (Bool.eq_false_iff.mp hacc))

/-- Settles O12. -/
theorem edgeAndShiftInstructions : Obligations.EdgeAndShiftInstructions := by
  unfold Obligations.EdgeAndShiftInstructions
  intro x w e s b
  rw [← fld_eq_extractLsb', ← fldE_eq_extractLsb']
  refine ⟨fun hgate => ?edges, fun vs m l k hread hstore h => ?shfb, fun vs last m l k hread hstore h => ?shfw⟩
  case edges =>
    have hprev {op : Nat} (h : startOf op x w 0 s = some b) : edgePrev b.env (fld w 0 16) =
        .ok ((Cells.read b.base.image.base (b.env.win.edge + fld w 0 16 / 8)).getLsbD (fld w 0 16 % 8)) := by
      rw [← startOf_env_s h]
      exact edgePrev_admitted hgate
    exact ⟨fun h => next_ends h (edgeWith_read (hprev h)), fun h => next_ends h (edgeWith_read (hprev h))⟩
  case shfb => exact next_ends h (bodyShfb_shifts rfl hread hstore)
  case shfw => exact next_ends h (bodyShfw_shifts hread hstore)

end Sys2Proof.Machine
end

section
/-! PROOFS. The math coprocessor (R156 to R165, R222): what each form of instruction does with the number that its operation gives or with the fault that
it ends in, which operations fault, and the control blocks. -/
namespace Sys2Proof.Machine
open Sys2Proof.Claims

/-! ### Binary32 on WACC -/

section
variable {e : Env} {o : Opnd} {l k : Lane} {v : Word} {m : Bool} {st : Stop}

section
variable {f : Nat → Nat → Except Stop Nat} (hread : e.readOp l o = .ok (v, m, k))
include hread

theorem floatWith_ok {r : Nat} (hf : f k.regs.wacc.toNat v.toNat = .ok r) :
    floatWith f e l o = .ok (k.setWacc (BitVec.ofNat 32 r) (m || k.regs.waccMark)) := by
  simp only [floatWith, hread, hf, except_ok_bind]

theorem floatWith_faults (hf : f k.regs.wacc.toNat v.toNat = .error st) : floatWith f e l o = .error st := by
  simp only [floatWith, hread, hf, except_ok_bind, except_error_bind]

end

section
variable {f : Nat → Nat → Except Stop Bool} (hread : e.readOp l o = .ok (v, m, k))
include hread

theorem floatTest_ok {p : Bool} (hf : f k.regs.wacc.toNat v.toNat = .ok p) :
    floatTest f e l o = .ok (k.setAcc p (m || k.regs.waccMark)) := by
  simp only [floatTest, hread, hf, except_ok_bind]

theorem floatTest_faults (hf : f k.regs.wacc.toNat v.toNat = .error st) : floatTest f e l o = .error st := by
  simp only [floatTest, hread, hf, except_ok_bind, except_error_bind]

end

theorem floatMap_ok {f : Word → Except Stop Word} {r : Word} (hf : f l.regs.wacc = .ok r) :
    floatMap f l = .ok (l.setWacc r l.regs.waccMark) := by
  rw [floatMap, hf, except_ok_bind]

theorem floatMap_faults {f : Word → Except Stop Word} (hf : f l.regs.wacc = .error st) : floatMap f l = .error st := by
  rw [floatMap, hf, except_error_bind]

/-- The bits of a number as a word. -/
theorem wordOf_ok {x : Except Stop Nat} {r : Nat} (hx : x = .ok r) :
    (do .ok (BitVec.ofNat 32 (← x)) : Except Stop Word) = .ok (BitVec.ofNat 32 r) := by
  rw [hx, except_ok_bind]

theorem wordOf_faults {x : Except Stop Nat} (hx : x = .error st) :
    (do .ok (BitVec.ofNat 32 (← x)) : Except Stop Word) = .error st := by
  rw [hx, except_error_bind]

end

/-! ### Binary64 from memory to memory -/

section
variable {e : Env} {dst src : Opnd} {l j k i : Lane} {a c r : Nat} {m n : Bool} {st : Stop}

section
variable (hdst : e.readWide l dst = .ok (a, m, j)) (hsrc : e.readWide j src = .ok (c, n, k))
include hdst hsrc

theorem wideWith_stores {f : Nat → Nat → Except Stop Nat} (hstore : e.storeWide k dst r (m || n) = .ok i) (hf : f a c = .ok r) :
    wideWith f e dst src l = .ok i := by
  simp only [wideWith, hdst, hsrc, hf, except_ok_bind]
  exact hstore

theorem wideWith_faults {f : Nat → Nat → Except Stop Nat} (hf : f a c = .error st) : wideWith f e dst src l = .error st := by
  simp only [wideWith, hdst, hsrc, hf, except_ok_bind, except_error_bind]

theorem bodyDlt_ok {p : Bool} (hf : binary64.lt a c = .ok p) : bodyDlt e dst src l = .ok (k.setAcc p (m || n)) := by
  simp only [bodyDlt, hdst, hsrc, hf, except_ok_bind]

theorem bodyDlt_faults (hf : binary64.lt a c = .error st) : bodyDlt e dst src l = .error st := by
  simp only [bodyDlt, hdst, hsrc, hf, except_ok_bind, except_error_bind]

end

theorem wideMap_stores {f : Nat → Except Stop Nat} (hsrc : e.readWide l src = .ok (c, n, k)) (hstore : e.storeWide k dst r n = .ok i)
    (hf : f c = .ok r) : wideMap f e dst src l = .ok i := by
  simp only [wideMap, hsrc, hf, except_ok_bind]
  exact hstore

theorem wideMap_faults {f : Nat → Except Stop Nat} (hsrc : e.readWide l src = .ok (c, n, k)) (hf : f c = .error st) :
    wideMap f e dst src l = .error st := by
  simp only [wideMap, hsrc, hf, except_ok_bind, except_error_bind]

end

/-! ### Operations that fault -/

section
variable {f : Fmt} {a c : Nat} {p q : Dy}

theorem Fmt.operand_finite (h : f.decode a = some p) : f.operand a = .ok p := by rw [Fmt.operand, h]

/-- R157: whatever the operation, its first operand being NaN or infinity. -/
theorem operand_not_finite_faults {α : Type} (g : Dy → Except Stop α) (h : f.decode a = none) : (f.operand a >>= g) = .error fNan := by
  rw [Fmt.operand, h, except_error_bind]

section
variable (hp : f.decode a = some p) (hq : f.decode c = some q) (hzero : q.m = 0)
include hp hq hzero

theorem Fmt.div_zero_by_zero (hm : p.m = 0) : f.div a c = .error fInvalid := by
  simp only [Fmt.div, Fmt.operand_finite hp, Fmt.operand_finite hq, except_ok_bind, if_pos hzero, if_pos hm]

theorem Fmt.div_by_zero (hm : p.m ≠ 0) : f.div a c = .error fDivZero := by
  simp only [Fmt.div, Fmt.operand_finite hp, Fmt.operand_finite hq, except_ok_bind, if_pos hzero, if_neg hm]

end

theorem Fmt.sqrt_negative (hp : f.decode a = some p) (hneg : p.neg = true) (hm : p.m ≠ 0) : f.sqrt a = .error fInvalid := by
  simp only [Fmt.sqrt, Fmt.operand_finite hp, except_ok_bind, if_neg hm, if_pos hneg]

end

/-! ### Control blocks -/

/-- The words that PID stores, as one unit (R155, R163). -/
def PidOut.writes (e : Env) (o : Opnd) (p : PidOut) (m : Bool) : List WriteRec :=
  e.wordWrites o.area (o.word + 8) [p.out] m
    ++ e.wordWrites o.area (o.word + 11) [p.xPrev, BitVec.ofNat 32 p.iState, BitVec.ofNat 32 (p.iState / 4294967296), p.dState] m

section
variable {e : Env} {o o2 : Opnd} {l k j : Lane} {vs : List Word} {m : Bool} {dt : Nat} {r : Word}
  (hread : e.readWords l o = .ok (vs, m, k)) (hdt : e.dt = .ok dt)
include hread hdt

theorem bodyPid_stores {p : PidOut} (hp : pidStep dt vs = .ok p) (hstore : e.store k (p.writes e o m) = .ok j) :
    bodyPid e o o2 l = .ok ((j.setAcc p.limited m).setWacc p.out m) := by
  rw [PidOut.writes] at hstore
  simp only [bodyPid, hread, hdt, hp, hstore, except_ok_bind]

theorem bodyLag_stores (hr : lagStep dt vs = .ok r) (hstore : e.store k (e.wordWrites o.area (o.word + 2) [r] m) = .ok j) :
    bodyLag e o o2 l = .ok (j.setWacc r m) := by
  simp only [bodyLag, hread, hdt, hr, hstore, except_ok_bind]

theorem bodyRlim_stores {p : Bool} (hr : rlimStep dt vs = .ok (r, p))
    (hstore : e.store k (e.wordWrites o.area (o.word + 3) [r] m) = .ok j) :
    bodyRlim e o o2 l = .ok ((j.setAcc p m).setWacc r m) := by
  simp only [bodyRlim, hread, hdt, hr, hstore, except_ok_bind]

end

/-! ### The obligations -/

/-- Settles O8. -/
theorem floatInstructions : Obligations.FloatInstructions := by
  unfold Obligations.FloatInstructions
  refine ⟨fun x w s b => ⟨fun v m l hread => ?single, ?wacc⟩, fun x w e s b a c m n l1 l2 hdst hsrc => ?double,
    fun x w e s b code detail hcode => ⟨fun v m l hread => ?singleFaults, ?sqrtFaults, ?toIntFaults, fun a c m n l1 l2 hdst hsrc => ?doubleFaults,
      fun d k l hsrc => ?convertFaults, fun f a c h => ?notFinite, fun f a c p q hp hq hzero => ?division, fun f a p => Fmt.sqrt_negative⟩⟩
  case single =>
    exact ⟨fun r hf h => next_ends h (floatWith_ok hread hf), fun r hf h => next_ends h (floatWith_ok hread hf),
      fun r hf h => next_ends h (floatWith_ok hread hf), fun r hf h => next_ends h (floatWith_ok hread hf),
      fun p hf h => next_ends h (floatTest_ok hread hf), fun p hf h => next_ends h (floatTest_ok hread hf)⟩
  case wacc =>
    exact ⟨fun r hf h => next_ends h (floatMap_ok (wordOf_ok hf)), fun r hf h => next_ends h (floatMap_ok (wordOf_ok hf)),
      fun r hf h => next_ends h (floatMap_ok hf)⟩
  case double =>
    refine ⟨fun r l hstore => ?arithmetic, fun p hf h => next_ends h (bodyDlt_ok hdst hsrc hf), fun d k l3 r l hread hstore => ?functions⟩
    case arithmetic =>
      exact ⟨fun hf h => next_ends h (wideWith_stores hdst hsrc hstore hf), fun hf h => next_ends h (wideWith_stores hdst hsrc hstore hf),
        fun hf h => next_ends h (wideWith_stores hdst hsrc hstore hf), fun hf h => next_ends h (wideWith_stores hdst hsrc hstore hf)⟩
    case functions =>
      exact ⟨fun hf h => next_ends h (wideMap_stores hread hstore hf), fun hf h => next_ends h (wideMap_stores hread hstore hf),
        fun hf h => next_ends h (wideMap_stores hread hstore hf)⟩
  case singleFaults =>
    exact ⟨fun hf h => next_faults h (floatWith_faults hread hf) hcode, fun hf h => next_faults h (floatWith_faults hread hf) hcode,
      fun hf h => next_faults h (floatWith_faults hread hf) hcode, fun hf h => next_faults h (floatWith_faults hread hf) hcode,
      fun hf h => next_faults h (floatTest_faults hread hf) hcode, fun hf h => next_faults h (floatTest_faults hread hf) hcode⟩
  case sqrtFaults => exact fun hf h => next_faults h (floatMap_faults (wordOf_faults hf)) hcode
  case toIntFaults => exact fun hf h => next_faults h (floatMap_faults hf) hcode
  case doubleFaults =>
    exact ⟨fun hf h => next_faults h (wideWith_faults hdst hsrc hf) hcode, fun hf h => next_faults h (wideWith_faults hdst hsrc hf) hcode,
      fun hf h => next_faults h (wideWith_faults hdst hsrc hf) hcode, fun hf h => next_faults h (wideWith_faults hdst hsrc hf) hcode,
      fun hf h => next_faults h (bodyDlt_faults hdst hsrc hf) hcode⟩
  case convertFaults =>
    exact ⟨fun hf h => next_faults h (wideMap_faults hsrc hf) hcode, fun hf h => next_faults h (wideMap_faults hsrc hf) hcode⟩
  case notFinite =>
    exact ⟨operand_not_finite_faults _ h, operand_not_finite_faults _ h, operand_not_finite_faults _ h, operand_not_finite_faults _ h,
      operand_not_finite_faults _ h, operand_not_finite_faults _ h, operand_not_finite_faults _ h, operand_not_finite_faults _ h⟩
  case division => exact ⟨Fmt.div_zero_by_zero hp hq hzero, Fmt.div_by_zero hp hq hzero⟩

/-- Settles O9. -/
theorem controlBlockInstructions : Obligations.ControlBlockInstructions := by
  unfold Obligations.ControlBlockInstructions
  intro x w s b vs m l k dt hread hdt
  refine ⟨fun p hp => ?pid, fun r hr hstore h => next_ends h (bodyLag_stores hread hdt hr hstore),
    fun r p hr hstore h => next_ends h (bodyRlim_stores hread hdt hr hstore)⟩
  case pid => exact fun hstore h => next_ends h (bodyPid_stores hread hdt hp hstore)

end Sys2Proof.Machine
end

section
/-! PROOFS. What an instruction of the engine leaves as it is (R181, R329), and an event that writes the process image although the named events are
said to write none: a change that its partner has not confirmed is given up, and its windows are cleared (R248). -/
namespace Sys2Proof.Machine
open Sys2Proof.Claims

/-! ### The engine's instructions -/

/-- Whatever instruction of the engine executes, it leaves a next state that agrees with the one before it on everything frozen. -/
theorem exec_engine_frozen {i : Instr} {x : Exec} {s : State} (hi : engineOf i = some x) :
    Leaves (fun t => t.frozen = s.frozen) (exec i s) := by
  cases i
  all_goals first | contradiction | refine .next ?_
  case squashedCoprocComplete => exact State.modTask_frozen ..
  case opAgree => exact runTogether_frozen ..
  case opImmin | opImminw =>
    split
    · exact runTogether_frozen ..
    · exact runEngine_frozen ..
  case undefinedOpcode => exact runUndefined_frozen ..
  all_goals exact runEngine_frozen ..

/-- The frame of the engine's instructions, the first half of O58, holds: the obligation fails by its events alone. -/
theorem exec_engine_frame {i : Instr} {x : Exec} {s t : State} (hi : engineOf i = some x) (ht : exec i s = .next t) :
    t = { s with
      tasks := t.tasks, strands := t.strands, counters := t.counters, gates := t.gates, almanac := t.almanac, fires := t.fires,
      peerFires := t.peerFires, link := t.link, dbg := t.dbg, gelit := t.gelit } :=
  State.frozen_eq (exec_engine_frozen hi t ht)

/-! ### A change that is not confirmed -/

/-- R248: the deadline of a change that the partner has not confirmed. -/
theorem exec_changeConfirmDeadline_aborts {s : State} (hstate : s.change.state = 3) (hconfirmed : s.change.confirmed = false)
    (hdue : s.change.switchAt ≤ s.clk.ring + 5000000) :
    exec .changeConfirmDeadline s = .next (((s.tellPartner (.changeAbort 0x0A)).releaseSlot 4).abortChange 0x0A) :=
  congrArg _ (if_pos ⟨hstate, hconfirmed, hdue⟩)

/-- A version of one word of M whose initial value is 1, and its windows in the tenants' part of bank 0. -/
def oneWordVersion : Version := { Version.empty with initial := [⟨2, 0, 1⟩], sizeM := 4 }
def oneWordWindows : Windows := ⟨0, 0xC0000, 0xC0000, 0xC0100, 0, 0xC0100, 0xC0100⟩

/-- An owner 5 ms before the switch to that version, which its partner has not confirmed; the published state stands converted in the new version's
windows as the arming left it (R250). -/
def unconfirmedChange : State :=
  State.convertBase { State.reset with
    mode := .owner, clk := { State.reset.clk with ring := 15000000 }
    change := { changeReset with state := 3, switchAt := 20000000, version := some oneWordVersion, win := oneWordWindows } }

/-- Before the deadline the word's first byte reads 1, after it 0. -/
theorem unconfirmedChange_read : Cells.read unconfirmedChange.image.base 0xC0000 = 1 := by decide

theorem unconfirmedChange_aborted_read :
    Cells.read (((unconfirmedChange.tellPartner (.changeAbort 0x0A)).releaseSlot 4).abortChange 0x0A).image.base 0xC0000 = 0 := by decide

/-! ### The obligation -/

/-- Refutes O58: CHANGE_CONFIRM_DEADLINE is named among the events that write no byte of the image, but the change that it aborts frees the windows
of the new version, and their bytes read as cleared. -/
theorem not_engineFrame : ¬ Obligations.EngineFrame := by
  unfold Obligations.EngineFrame
  rintro ⟨-, himage⟩
  have hkept := (himage .changeConfirmDeadline unconfirmedChange _ rfl (exec_changeConfirmDeadline_aborts rfl rfl (by decide))).2 0xC0000
  rw [unconfirmedChange_aborted_read, unconfirmedChange_read] at hkept
  exact absurd hkept (by decide)

end Sys2Proof.Machine
end

section
/-! PROOFS. What the commands of process data and forces answer (R199, R258, R259, R462, R463): one lemma for each outcome of a command. -/
namespace Sys2Proof.Machine
open Sys2Proof.Claims

section
variable {s : State} {r : Req}

/-! ### Reading -/

section
variable {is : List Item} {prov : Bool} (hitems : itemsOf false r.payload = .ok is) (hreach : (s.tenant r.tenant).reaches is = .ok ())
include hitems hreach

/-- R462: the values of the items, in order. -/
theorem State.readData_reads {v : Version} (hflag : (!prov || r.flags / 2 % 2 == 1) = true) (hversion : (s.tenant r.tenant).version = some v)
    (hgate : s.firstDenial r.tenant (s.privOf r.session) 0 is = none) :
    s.readData r prov = ok s (be 2 (is.map (·.words)).sum ++ [0, 0] ++ is.flatMap fun i => (List.range i.words).flatMap fun k =>
      s.valueEntry r.tenant v (s.tenant r.tenant).win prov i.area (i.index + k)) := by
  simp only [State.readData, hitems, hreach, need_holds hflag, hgate, hversion, except_ok_bind]

/-- R199: provisional values are read with the flag PROVISIONAL only. -/
theorem State.readData_flag_missing (hflag : r.flags / 2 % 2 = 0) : s.readData r true = .error (0x10, errorPlain) := by
  have hmissing : (!true || r.flags / 2 % 2 == 1) = false := by rw [hflag]; rfl
  simp only [State.readData, hitems, hreach, need_fails hmissing, except_ok_bind, except_error_bind]

end

section
variable {is : List Item} (hitems : itemsOf false r.payload = .ok is)
  (hreach : ((s.accept r).tenant r.tenant).reaches is = .ok ())
include hitems hreach

theorem exec_dataRead_reads {v : Version} (hruns : s.fate ⟨0x0401, true, 1, true, .E, false⟩ r = .runs)
    (hversion : ((s.accept r).tenant r.tenant).version = some v)
    (hgate : (s.accept r).firstDenial r.tenant ((s.accept r).privOf r.session) 0 is = none) :
    exec (.dataRead r) s = .next (replied ⟨0x0401, true, 1, true, .E, false⟩ r (s.accept r) 0
      (be 2 (is.map (·.words)).sum ++ [0, 0] ++ is.flatMap fun i => (List.range i.words).flatMap fun k =>
        (s.accept r).valueEntry r.tenant v ((s.accept r).tenant r.tenant).win false i.area (i.index + k))) :=
  receive_replies hruns (State.readData_reads hitems hreach rfl hversion hgate)

variable (hruns : s.fate ⟨0x0402, true, 1, true, .E, false⟩ r = .runs)
include hruns

theorem exec_dataReadProvisional_flag_missing (hflag : r.flags / 2 % 2 = 0) :
    exec (.dataReadProvisional r) s = .next (replied ⟨0x0402, true, 1, true, .E, false⟩ r (s.accept r) 0x10 errorPlain) :=
  receive_refuses (e := (0x10, errorPlain)) hruns (State.readData_flag_missing hitems hreach hflag)

theorem exec_dataReadProvisional_reads {v : Version} (hflag : r.flags / 2 % 2 = 1)
    (hversion : ((s.accept r).tenant r.tenant).version = some v)
    (hgate : (s.accept r).firstDenial r.tenant ((s.accept r).privOf r.session) 0 is = none) :
    exec (.dataReadProvisional r) s = .next (replied ⟨0x0402, true, 1, true, .E, false⟩ r (s.accept r) 0
      (be 2 (is.map (·.words)).sum ++ [0, 0] ++ is.flatMap fun i => (List.range i.words).flatMap fun k =>
        (s.accept r).valueEntry r.tenant v ((s.accept r).tenant r.tenant).win true i.area (i.index + k))) :=
  receive_replies hruns (State.readData_reads hitems hreach (beq_iff_eq.mpr hflag) hversion hgate)

end

/-! ### Writing -/

section
variable {is : List Item} (hruns : s.fate ⟨0x0403, true, 1, true, .O, false⟩ r = .runs) (hitems : itemsOf true r.payload = .ok is)
  (harea : (is.find? fun i => i.area != 2) = none) (hreach : ((s.accept r).tenant r.tenant).reaches is = .ok ())
  (hchange : (s.accept r).change.state = 0)
include hruns hitems harea hreach hchange

/-- R452: the gate denies a word of the request, and no word is written. -/
theorem exec_dataWrite_denied {d : Denial}
    (hgate : (s.accept r).firstDenial r.tenant ((s.accept r).privOf r.session) 1 is = some d) :
    exec (.dataWrite r) s = .next (replied ⟨0x0403, true, 1, true, .O, false⟩ r ((s.accept r).deny d) 8 (denied 4).2) := by
  refine receive_replies hruns ?_
  simp [hitems, harea, hreach, hchange, hgate, except_ok_bind, need_holds]

/-- R463: the write takes effect at the tick after 2 ms, on both modules. -/
theorem exec_dataWrite_takes (hgate : (s.accept r).firstDenial r.tenant ((s.accept r).privOf r.session) 1 is = none) :
    let a := s.accept r
    let at_ := a.tickIn 2000000
    let ws := is.flatMap fun i => i.values.zipIdx.map fun q =>
      (⟨(a.tenant r.tenant).win.m + 4 * (i.index + q.2), 0xFFFFFFFF, q.1, false⟩ : WriteRec)
    exec (.dataWrite r) s = .next (replied ⟨0x0403, true, 1, true, .O, false⟩ r
      ((({ a with hostWrites := a.hostWrites ++ [⟨at_, r.tenant, r.session, ws⟩] } : State).tellPartner
        (.hostWrite at_ r.tenant ws)).record 463 1 sevInfo noSource r.tenant [(4, r.session), (4, r.tenant), (4, ws.length)]) 0 (be 8 at_)) := by
  refine receive_replies hruns ?_
  simp [hitems, harea, hreach, hchange, hgate, except_ok_bind, need_holds, ok]

end

/-! ### Forces -/

/-- R263: no change is under way. -/
theorem State.forcesFree_holds (hchange : s.change.state = 0) : s.forcesFree = .ok () :=
  need_holds (by rw [hchange]; rfl) _

theorem allGood_single {α : Type} {x : α} {bad : α → Bool} (hx : bad x = false) (err : Nat → Refused) : allGood [x] bad err = .ok () := by
  simp [allGood, firstBad, hx]

section
variable {g : Word} (hcount : field r.payload 0 2 = 1) (hzero : field r.payload 2 2 = 0) (hchange : (s.accept r).change.state = 0)
  (hsignal : BitVec.ofNat 32 (field r.payload 4 4) = g)
include hcount hzero hchange hsignal

/-- R258 and R259: one entry; its value is cut to the width of its signal (log 74). -/
theorem exec_forceSet_takes {w : Nat} (hruns : s.fate ⟨0x0404, true, 2, false, .O, false⟩ r = .runs) (hlen : r.payload.length = 16)
    (hentry : field r.payload 13 3 = 0) (hwidth : field r.payload 12 1 = w)
    (hgood : ((s.accept r).setResults (s.accept r).forcedAfter [(g, w)]).all (· == 0) = true) :
    let a := s.accept r
    exec (.forceSet r) s = .next (replied ⟨0x0404, true, 2, false, .O, false⟩ r (a.takeForces ⟨a.tickIn 2000000,
      [⟨g, cutTo w (field r.payload 8 4), w, ((a.signalKind g).map (·.1)).getD false, a.privOf r.session, 0⟩], [], r.session⟩) 0
        (forceReply (a.tickIn 2000000) (a.setResults a.forcedAfter [(g, w)]))) := by
  refine receive_replies hruns ?_
  have hfields : allGood [0] (fun k => field r.payload (13 + 12 * k) 3 != 0) (fun k => reservedAt (13 + 12 * k)) = .ok () :=
    allGood_single (bne_eq_false_iff_eq.mpr hentry) _
  simp only [hcount, need_holds (beq_iff_eq.mpr hlen), zeros_hold hzero, List.range_one, hfields, List.map_cons, List.map_nil, Nat.reduceMul,
    Nat.reduceAdd, hsignal, hwidth, need_holds hgood, State.forcesFree_holds hchange, except_ok_bind, ok]

/-- R259: one signal, which a map in force or the module's own units have. -/
theorem exec_forceClear_takes (hruns : s.fate ⟨0x0405, true, 2, false, .O, false⟩ r = .runs) (hlen : r.payload.length = 8)
    (hfitted : (s.accept r).signalAbsent g = false) (hkind : ((s.accept r).signalKind g).isSome = true) :
    let a := s.accept r
    exec (.forceClear r) s = .next (replied ⟨0x0405, true, 2, false, .O, false⟩ r
      (a.takeForces ⟨a.tickIn 2000000, [], [g], r.session⟩) 0 (forceReply (a.tickIn 2000000) [0])) := by
  refine receive_replies hruns ?_
  simp only [hcount, need_holds (beq_iff_eq.mpr hlen), zeros_hold hzero, List.range_one, List.map_cons, List.map_nil, Nat.reduceMul,
    Nat.reduceAdd, hsignal, hfitted, hkind, Bool.true_or, Bool.false_eq_true, if_true, if_false, need_holds (b := List.all [0] (· == 0)) rfl,
    State.forcesFree_holds hchange, except_ok_bind, ok]

end

/-- R259: every signal that the table will hold. -/
theorem exec_forceClearAll_takes (hruns : s.fate ⟨0x0406, true, 2, false, .O, false⟩ r = .runs) (hp : r.payload = [])
    (hchange : (s.accept r).change.state = 0) :
    let a := s.accept r
    exec (.forceClearAll r) s = .next (replied ⟨0x0406, true, 2, false, .O, false⟩ r
      (a.takeForces ⟨a.tickIn 2000000, [], a.forcedAfter, r.session⟩) 0
        (be 8 (a.tickIn 2000000) ++ be 2 a.forcedAfter.length ++ [0, 0])) := by
  refine receive_replies hruns ?_
  simp only [sized_empty hp, State.forcesFree_holds hchange, except_ok_bind, ok]

/-- R258 and R259: the entries from FIRST on. -/
theorem exec_forceList_lists (hruns : s.fate ⟨0x0407, true, 1, false, .E, false⟩ r = .runs) (hlen : r.payload.length = 4) :
    let a := s.accept r
    let es := (a.forces.drop (field r.payload 0 2)).take (min (field r.payload 2 2) 1021)
    exec (.forceList r) s = .next (replied ⟨0x0407, true, 1, false, .E, false⟩ r a 0
      (be 2 a.forces.length ++ be 2 es.length ++ es.flatMap Force.bytes)) := by
  refine receive_replies hruns ?_
  simp only [sized_holds hlen, except_ok_bind, ok]

end

/-! ### The obligation -/

/-- Settles O43: each clause is the lemma of its command's outcome. -/
theorem processCommands : Obligations.ProcessCommands := by
  unfold Obligations.ProcessCommands
  intro s r
  refine ⟨fun is v hruns hitems hreach => exec_dataRead_reads hitems hreach hruns, ?provisional, ?write, ?set, ?clear,
    exec_forceClearAll_takes, exec_forceList_lists⟩
  case provisional =>
    exact fun is hruns hitems hreach => ⟨exec_dataReadProvisional_flag_missing hitems hreach hruns,
      fun v => exec_dataReadProvisional_reads hitems hreach hruns⟩
  case write =>
    exact fun is hruns hitems harea hreach hchange => ⟨fun d => exec_dataWrite_denied hruns hitems harea hreach hchange,
      exec_dataWrite_takes hruns hitems harea hreach hchange⟩
  case set => exact fun hruns hlen hcount hzero hentry hchange => exec_forceSet_takes hcount hzero hchange rfl hruns hlen hentry rfl
  case clear => exact fun hruns hlen hcount hzero hchange => exec_forceClear_takes hcount hzero hchange rfl hruns hlen

end Sys2Proof.Machine
end

section
/-! PROOFS. What the commands of an online change answer (R238 to R241, R248, R250, R460): one lemma for each outcome of a command. -/
namespace Sys2Proof.Machine
open Sys2Proof.Claims

/-! ### What the commands ask of the change -/

/-- The change is in a state that the command asks for, and its tenant is the request's. -/
theorem State.changeIn_holds {s : State} {tenant : Nat} {states : List Nat} (hstate : s.change.state ∈ states)
    (htenant : s.change.tenant = tenant) : s.changeIn tenant states = .ok () :=
  need_holds (Bool.and_eq_true_iff.mpr ⟨List.contains_iff_mem.mpr hstate, beq_iff_eq.mpr htenant⟩) _

/-- R238: no change is under way. -/
theorem State.changeIdle_holds {s : State} (hidle : s.change.state = 0 ∨ 5 ≤ s.change.state) :
    need (s.change.state == 0 || decide (5 ≤ s.change.state)) wrongState = .ok () :=
  need_holds (by simpa using hidle) _

theorem State.slotFree_holds {s : State} (hslot : s.slot = none) : s.slotFree = .ok () := by
  rw [State.slotFree, hslot]

theorem State.slotFree_held {s : State} {x : Slot} (hslot : s.slot = some x) : s.slotFree = .error (busyMaint x.holder x.side x.id) := by
  rw [State.slotFree, hslot]

theorem State.filter_no_checks {s : State} (hchecks : s.checks = []) (p : CheckWait → Bool) :
    ({ s with checks := s.checks.filter p } : State) = s :=
  congrArg (fun l => ({ s with checks := l } : State)) (by rw [hchecks, List.filter_nil])

section
variable {s : State} {r : Req}

/-! ### Beginning -/

section
variable (hruns : s.fate ⟨0x0308, true, 2, true, .O, false⟩ r = .runs) (hp : r.payload = [])
  (hidle : (s.accept r).change.state = 0 ∨ 5 ≤ (s.accept r).change.state)
include hruns hp hidle

/-- R238: no change is under way, and the pair's maintenance slot is free. -/
theorem exec_progChangeBegin_begins (hslot : (s.accept r).slot = none) :
    exec (.progChangeBegin r) s = .next (replied ⟨0x0308, true, 2, true, .O, false⟩ r
      (({ s.accept r with change := { changeReset with state := 1, tenant := r.tenant, session := r.session } } : State).takeSlot 4 r.tenant)
        0 []) := by
  refine receive_replies hruns ?_
  simp only [sized_empty hp, State.changeIdle_holds hidle, State.slotFree_holds hslot, except_ok_bind, ok]

/-- R238: BUSY-MAINT names the slot's holder. -/
theorem exec_progChangeBegin_busy {x : Slot} (hslot : (s.accept r).slot = some x) :
    exec (.progChangeBegin r) s = .next (replied ⟨0x0308, true, 2, true, .O, false⟩ r (s.accept r)
      (busyMaint x.holder x.side x.id).1 (busyMaint x.holder x.side x.id).2) := by
  refine receive_refuses (e := busyMaint x.holder x.side x.id) hruns ?_
  simp only [sized_empty hp, State.changeIdle_holds hidle, State.slotFree_held hslot, except_ok_bind, except_error_bind]

end

/-! ### Writing -/

section
variable {k : Chunk} {cs : List (Nat × List Byte)} (hruns : s.fate ⟨0x0309, true, 2, true, .O, false⟩ r = .runs)
  (hchunk : chunkOf r.payload = .ok k) (hstate : (s.accept r).change.state = 1) (htenant : (s.accept r).change.tenant = r.tenant)
  (hchecks : (s.accept r).changeChecks = false)
include hruns hchunk hstate htenant hchecks

/-- R238: a chunk of the new version, which goes on to the partner. -/
theorem exec_progChangeWrite_version (hselect : k.select = 0)
    (hadd : addChunk (s.accept r).change.versionBytes (s.accept r).change.versionLast k = .ok cs) :
    exec (.progChangeWrite r) s = .next (replied ⟨0x0309, true, 2, true, .O, false⟩ r
      (({ s.accept r with change := { (s.accept r).change with versionBytes := cs, versionLast := k.last } } : State).forwardChunk 0x100 k)
        0 []) := by
  refine receive_replies hruns ?_
  have hpart : k.select ≤ 1 := by omega
  simp only [hchunk, need_holds (decide_eq_true hpart), State.changeIn_holds (List.mem_singleton.mpr hstate) htenant,
    need_holds (congrArg not hchecks), if_pos hselect, hadd, except_ok_bind, ok]

/-- R238: a chunk of the carry-over map. -/
theorem exec_progChangeWrite_map (hselect : k.select = 1)
    (hadd : addChunk (s.accept r).change.mapBytes (s.accept r).change.mapLast k = .ok cs) :
    exec (.progChangeWrite r) s = .next (replied ⟨0x0309, true, 2, true, .O, false⟩ r
      (({ s.accept r with change := { (s.accept r).change with mapBytes := cs, mapLast := k.last } } : State).forwardChunk 0x101 k) 0 []) := by
  refine receive_replies hruns ?_
  have hmap : k.select ≠ 0 := by omega
  simp only [hchunk, need_holds (decide_eq_true (Nat.le_of_eq hselect)), State.changeIn_holds (List.mem_singleton.mpr hstate) htenant,
    need_holds (congrArg not hchecks), if_neg hmap, hadd, except_ok_bind, ok]

end

/-! ### Checking -/

section
variable {v : Version} (hruns : s.fate ⟨0x030A, true, 2, true, .O, false⟩ r = .runs) (hp : r.payload = [])
  (hstate : (s.accept r).change.state = 1) (htenant : (s.accept r).change.tenant = r.tenant) (hchecks : (s.accept r).changeChecks = false)
include hruns hp hstate htenant hchecks

/-- R240: the check fails here, and its first failure is what this module holds against the partner's figures. -/
theorem exec_progChangeCheck_bad {f : ChangeFail}
    (hjudge : (s.accept r).judgeChange r.tenant v (wordsOf (assemble (s.accept r).change.mapBytes)) [] = .error f) :
    let a := s.accept r
    exec (.progChangeCheck r v) s = .next ((a.askPartner ⟨r.tenant, 1, v, [], Admitted.none, 0,
      figuresOf r.tenant 1 f.result none (assemble a.change.versionBytes ++ assemble a.change.mapBytes), some (f.result, f.detail, f.offset),
      some (r.ticket ⟨0x030A, true, 2, true, .O, false⟩)⟩).closeLast r.session) := by
  refine receive_waits hruns ?_
  simp only [sized_empty hp, State.changeIn_holds (List.mem_singleton.mpr hstate) htenant, need_holds (congrArg not hchecks), hjudge, except_ok_bind]

/-- R240: the change is good here. -/
theorem exec_progChangeCheck_good {x : Admitted × List (List Word)}
    (hjudge : (s.accept r).judgeChange r.tenant v (wordsOf (assemble (s.accept r).change.mapBytes)) [] = .ok x) :
    let a := s.accept r
    exec (.progChangeCheck r v) s = .next ((a.askPartner ⟨r.tenant, 1, v, x.2, x.1, 0,
      figuresOf r.tenant 1 0 (some x.1) (assemble a.change.versionBytes ++ assemble a.change.mapBytes), none,
      some (r.ticket ⟨0x030A, true, 2, true, .O, false⟩)⟩).closeLast r.session) := by
  refine receive_waits hruns ?_
  simp only [sized_empty hp, State.changeIn_holds (List.mem_singleton.mpr hstate) htenant, need_holds (congrArg not hchecks), hjudge, except_ok_bind]

end

/-! ### Arming -/

/-- R248: the instant is the first tick at least 20 ms ahead, or the one that is asked for, between 20 ms and 10 min ahead; the published state is
converted (R250), sections that wait are built again (log 105), and the partner learns the instant. -/
theorem exec_progChangeArm_arms (hruns : s.fate ⟨0x030B, true, 2, true, .O, false⟩ r = .runs) (hlen : r.payload.length = 8)
    (hat : let a := s.accept r
      let at_ := field r.payload 0 8
      at_ = 0 ∨ (at_ % 50000 = 0 ∧ a.clk.ring + 20000000 ≤ at_ ∧ at_ ≤ a.clk.ring + 600000000000))
    (hstate : (s.accept r).change.state = 2) (htenant : (s.accept r).change.tenant = r.tenant) :
    let a := s.accept r
    let at_ := field r.payload 0 8
    let i := if at_ = 0 then a.tickIn 20000000 else at_
    let b := ((a.modChange fun c => { c with state := 3, switchAt := i, confirmed := a.alone }).convertAll).rebuildQueues i
    let d := if a.solo then b else b.send 3 (.switchAt i)
    exec (.progChangeArm r) s = .next (replied ⟨0x030B, true, 2, true, .O, false⟩ r d 0 d.change.words) := by
  refine receive_replies hruns ?_
  have hinstant : (field r.payload 0 8 == 0 || (field r.payload 0 8 % 50000 == 0 && decide ((s.accept r).clk.ring + 20000000 ≤ field r.payload 0 8)
      && decide (field r.payload 0 8 ≤ (s.accept r).clk.ring + 600000000000))) = true := by simpa [and_assoc] using hat
  simp only [sized_holds hlen, need_holds hinstant, State.changeIn_holds (List.mem_singleton.mpr hstate) htenant, except_ok_bind, ok]

/-! ### Giving up -/

section
variable (hruns : s.fate ⟨0x030C, true, 2, true, .O, false⟩ r = .runs) (hp : r.payload = []) (htenant : (s.accept r).change.tenant = r.tenant)
include hruns hp htenant

/-- R248: a change that is not armed, or whose instant is 5 ms away or more, is given up. -/
theorem exec_progChangeAbort_aborts
    (hstate : (s.accept r).change.state = 1 ∨ (s.accept r).change.state = 2 ∨ (s.accept r).change.state = 3)
    (hremain : (s.accept r).change.state = 3 → (s.accept r).clk.ring + 5000000 ≤ (s.accept r).change.switchAt)
    (hchecks : (s.accept r).checks = []) :
    let a := s.accept r
    exec (.progChangeAbort r) s = .next (replied ⟨0x030C, true, 2, true, .O, false⟩ r
      ((a.releaseSlot 4).abortChange a.change.lastResult) 0 []) := by
  refine receive_replies hruns ?_
  have hunder : (s.accept r).change.state ∈ [1, 2, 3] := by simpa using hstate
  have htime : ((s.accept r).change.state != 3 || decide ((s.accept r).clk.ring + 5000000 ≤ (s.accept r).change.switchAt)) = true := by
    rw [Bool.or_eq_true, bne_iff_ne, decide_eq_true_iff]
    exact Decidable.imp_iff_not_or.mp hremain
  have hended : ((s.accept r).checks.filter fun w => w.kind == 1).filterMap (·.ticket) = [] := by rw [hchecks]; rfl
  simp only [sized_empty hp, State.changeIn_holds hunder htenant, need_holds htime, hended, List.foldl_nil, State.filter_no_checks hchecks,
    except_ok_bind, ok]

/-- R248: less than 5 ms remain. -/
theorem exec_progChangeAbort_late (hstate : (s.accept r).change.state = 3)
    (hlate : (s.accept r).change.switchAt < (s.accept r).clk.ring + 5000000) :
    exec (.progChangeAbort r) s = .next (replied ⟨0x030C, true, 2, true, .O, false⟩ r (s.accept r) 0x0B errorPlain) := by
  refine receive_refuses (e := wrongState) hruns ?_
  have hunder : (s.accept r).change.state ∈ [1, 2, 3] := by rw [hstate]; decide
  have htime : ((s.accept r).change.state != 3 || decide ((s.accept r).clk.ring + 5000000 ≤ (s.accept r).change.switchAt)) = false := by
    simpa [hstate] using hlate
  simp only [sized_empty hp, State.changeIn_holds hunder htenant, need_fails htime, except_ok_bind, except_error_bind]

end

/-! ### Status -/

/-- R239. -/
theorem exec_progChangeStatus_reads (hruns : s.fate ⟨0x030D, true, 1, true, .E, false⟩ r = .runs) (hp : r.payload = []) :
    exec (.progChangeStatus r) s = .next (replied ⟨0x030D, true, 1, true, .E, false⟩ r (s.accept r) 0 (s.accept r).change.words) := by
  refine receive_replies hruns ?_
  simp only [sized_empty hp, except_ok_bind, ok]

end

/-! ### The obligation -/

/-- Settles O42: each clause is the lemma of its command's outcome. -/
theorem changeCommands : Obligations.ChangeCommands := by
  unfold Obligations.ChangeCommands
  intro s r
  refine ⟨?begin, ?write, ?check, exec_progChangeArm_arms, ?abort, ?late, exec_progChangeStatus_reads⟩
  case begin =>
    exact fun hruns hp hidle => ⟨exec_progChangeBegin_begins hruns hp hidle, fun x => exec_progChangeBegin_busy hruns hp hidle⟩
  case write =>
    exact fun k hruns hchunk hstate htenant hchecks => ⟨fun cs => exec_progChangeWrite_version hruns hchunk hstate htenant hchecks,
      fun cs => exec_progChangeWrite_map hruns hchunk hstate htenant hchecks⟩
  case check =>
    exact fun v hruns hp hstate htenant hchecks => ⟨fun f => exec_progChangeCheck_bad hruns hp hstate htenant hchecks,
      fun x => exec_progChangeCheck_good hruns hp hstate htenant hchecks⟩
  case abort => exact fun hruns hp hstate htenant => exec_progChangeAbort_aborts hruns hp htenant hstate
  case late => exact fun hruns hp hstate htenant => exec_progChangeAbort_late hruns hp htenant hstate

end Sys2Proof.Machine
end

section
/-! PROOFS. What takes effect at an instant of ring time (R259, R262, R346, R463, R465, R471, R538, R548), the switch of an online change (R248 to
R250) and a quiesced unit's lease (R470): one lemma for each outcome of an event. -/
namespace Sys2Proof.Machine

/-- What is not yet due stays for its instant. -/
theorem filter_not_due {α : Type} (l : List α) (at_ : α → Nat) (now : Nat) :
    (l.filter fun x => !decide (at_ x ≤ now)) = l.filter fun x => decide (now < at_ x) :=
  List.filter_congr fun _ _ => by rw [← decide_not, decide_eq_decide, Nat.not_le]

section
variable {s : State}

/-! ### Forces, host writes, settings, gate entries and revocations -/

/-- R259 and R262. -/
theorem exec_forceEffective_due : exec .forceEffective s = .next ((s.forceReqs.filter fun q => decide (q.at_ ≤ s.clk.ring)).foldl State.applyForces
    { s with forceReqs := s.forceReqs.filter fun q => decide (s.clk.ring < q.at_) }) := by
  rw [← filter_not_due]
  rfl

/-- R262: a module that is not the owner keeps the owner's request for its instant. -/
theorem exec_forceTableExchange_keeps {req : ForceReq} (hsolo : s.solo = false) (hmode : s.mode ≠ .owner) (hup : s.up = true) :
    exec (.forceTableExchange req) s = .next { s with forceReqs := s.forceReqs ++ [req] } := by
  have hkeeps : (s.solo || s.mode == .owner || !s.up) = false := by simp [hsolo, hmode, hup]
  change execForceTableExchange req s = _
  rw [execForceTableExchange, hkeeps, if_neg Bool.false_ne_true]

/-- R463: from ARMED on, what is written to the tenant of a change is converted for the new version (R250). -/
theorem exec_hostWriteEffective_due :
    let due := s.hostWrites.filter fun w => decide (w.at_ ≤ s.clk.ring)
    let a : State := { s with
      image := { s.image with
        log := due.foldl (fun l w => w.writes.foldl (fun l r => logInsert l ⟨r.addr, r.mask, r.value, hostRank, w.at_⟩) l) s.image.log }
      hostWrites := s.hostWrites.filter fun w => decide (s.clk.ring < w.at_) }
    exec .hostWriteEffective s = .next ((due.filter fun w => decide (s.change.state = 3 ∨ s.change.state = 4) && s.change.tenant == w.tenant).foldl
      (fun s w => s.convertPub hostRank w.at_ (w.writes.map (·.addr))) a) := by
  have hswitching : decide (s.change.state = 3 ∨ s.change.state = 4) = (s.change.state == 3 || s.change.state == 4) := Bool.decide_or ..
  rw [hswitching, ← filter_not_due]
  rfl

/-- R346 and R471. -/
theorem exec_pairSettingsApply_due : exec .pairSettingsApply s = .next ((s.settings.applies.filter fun a => decide (a.1 ≤ s.clk.ring)).foldl
    (fun s a => s.applyPair a.2.1 a.2.2)
    (s.modSettings fun c => { c with applies := c.applies.filter fun a => decide (s.clk.ring < a.1) })) := by
  simp only [← filter_not_due]
  rfl

/-- R538. -/
theorem exec_gateEntryApply_due : exec .gateEntryApply s = .next ((s.gateWrites.filter fun w => decide (w.at_ ≤ s.clk.ring)).foldl State.applyGate
    { s with gateWrites := s.gateWrites.filter fun w => decide (s.clk.ring < w.at_) }) := by
  rw [← filter_not_due]
  rfl

/-- R548. -/
theorem exec_revocationApply_due : exec .revocationApply s = .next ((s.keys.revoking.filter fun x => decide (x.1 ≤ s.clk.ring)).foldl
    (fun s x => (s.applyRevoke x.2.1).finishOpt x.2.2 0 [])
    (s.modKeys fun k => { k with revoking := k.revoking.filter fun x => decide (s.clk.ring < x.1) })) := by
  simp only [← filter_not_due]
  rfl

/-! ### Station tables -/

section
variable {ring : Fin 4} {at_ : Nat} {table : List StationCfg} (hstaged : (s.ring ring).staged = some (at_, table))
include hstaged

/-- R465: the table takes effect, and the stations that it changes are absent. -/
theorem exec_stationTableApply_due (hdue : at_ ≤ s.clk.ring) :
    exec (.stationTableApply ring) s = .next ((((s.ring ring).changedBy table).foldl
      (fun (s : State) k => s.setStation ring k .absent) s).modRing ring fun r => { r.setTable table with staged := none }) := by
  change execStationTableApply ring s = _
  simp only [execStationTableApply, hstaged, if_pos hdue]

theorem exec_stationTableApply_early (hearly : s.clk.ring < at_) : exec (.stationTableApply ring) s = .next s := by
  change execStationTableApply ring s = _
  simp only [execStationTableApply, hstaged, if_neg (Nat.not_le.mpr hearly)]

end

/-! ### The switch of an online change -/

/-- R249: nothing switches before the instant; `State.switchDue_unarmed` has the states without one. -/
theorem State.switchDue_early (hearly : s.clk.ring < s.change.switchAt) : s.switchDue = s :=
  if_neg fun ⟨_, _, hdue⟩ => Nat.not_le.mpr hearly hdue

/-- R248: the standby that has checked the change converts the published state and confirms the instant; sections that wait
are built again (log 105). -/
theorem exec_switchAtProposal_confirms {i : Nat} (hstate : s.change.state = 2) (hmode : s.mode ≠ .owner) (hsolo : s.solo = false) :
    exec (.switchAtProposal i) s = .next ((((s.modChange fun c =>
      { c with state := 3, switchAt := i, confirmed := true }).convertAll).rebuildQueues i).send 3 (.switchConfirm i)) :=
  congrArg _ (if_pos ⟨hstate, hmode, Bool.eq_false_iff.mp hsolo⟩)

theorem exec_switchAtProposal_ignored {i : Nat} (hs : s.change.state ≠ 2 ∨ s.mode = .owner ∨ s.solo = true) :
    exec (.switchAtProposal i) s = .next s :=
  congrArg _ (if_neg fun ⟨hstate, hmode, hsolo⟩ => hs.elim (· hstate) (·.elim hmode hsolo))

/-- R248. -/
theorem exec_switchAtConfirm_confirms (hstate : s.change.state = 3) :
    exec (.switchAtConfirm s.change.switchAt) s = .next (s.modChange fun c => { c with confirmed := true }) :=
  congrArg _ (if_pos ⟨hstate, rfl⟩)

/-- R248: a change that is confirmed goes on to its instant; `exec_changeConfirmDeadline_aborts` has the other outcome. -/
theorem exec_changeConfirmDeadline_confirmed (hconfirmed : s.change.confirmed = true) : exec .changeConfirmDeadline s = .next s :=
  congrArg _ (if_neg fun ⟨_, hnot, _⟩ => Bool.false_ne_true (hnot.symm.trans hconfirmed))

/-! ### A quiesced unit's lease -/

section
variable {unit : Nat} {q : Quiesced} (hq : s.quiesce unit = some q)
include hq

/-- R470. -/
theorem exec_quiesceLeaseExpiry_ended (hended : q.lease ≤ s.clk.local_) :
    exec (.quiesceLeaseExpiry unit) s = .next (s.loseQuiesce unit) := by
  change execQuiesceLeaseExpiry unit s = _
  simp only [execQuiesceLeaseExpiry, hq, if_pos (Nat.le_add_right_of_le hended)]

/-- R470; the margin of 50 us is the model's (log 15). -/
theorem exec_quiesceLeaseExpiry_early (hearly : s.clk.local_ + 50000 < q.lease) : exec (.quiesceLeaseExpiry unit) s = .next s := by
  change execQuiesceLeaseExpiry unit s = _
  simp only [execQuiesceLeaseExpiry, hq, if_neg (Nat.not_le.mpr hearly)]

end
end

/-! ### The obligation -/

/-- Settles O25: each clause is the lemma of its event's outcome. -/
theorem effectsAtInstants : Obligations.EffectsAtInstants := by
  unfold Obligations.EffectsAtInstants
  refine ⟨fun s => ?effects, fun s => ?change⟩
  case effects =>
    exact ⟨exec_forceEffective_due, fun req => exec_forceTableExchange_keeps, exec_hostWriteEffective_due, exec_pairSettingsApply_due,
      fun ring at_ table hstaged => ⟨exec_stationTableApply_due hstaged, exec_stationTableApply_early hstaged⟩,
      exec_gateEntryApply_due, exec_revocationApply_due⟩
  case change =>
    refine ⟨rfl, ?early, fun i => exec_switchAtProposal_confirms, fun i => exec_switchAtProposal_ignored, exec_switchAtConfirm_confirms,
      exec_changeConfirmDeadline_aborts, exec_changeConfirmDeadline_confirmed,
      fun unit q hq => ⟨exec_quiesceLeaseExpiry_ended hq, exec_quiesceLeaseExpiry_early hq⟩⟩
    case early => exact fun hearly _ => hearly.elim State.switchDue_unarmed State.switchDue_early

end Sys2Proof.Machine
end

section
/-! PROOFS. Immediate and acyclic frames that leave their ports (R281, R291), and the background train (R283, R287): one lemma for each outcome of an
event. -/
namespace Sys2Proof.Machine

section
variable {s : State} {port : Fin 8}

/-! ### Frames that leave -/

/-- A port that does not transmit keeps its immediate frames. -/
theorem exec_immediateFrameSend_quiet (hquiet : s.transmits = false ∨ s.portOn port = false) : exec (.immediateFrameSend port) s = .next s := by
  have hoff : (s.transmits && s.portOn port) = false := Bool.and_eq_false_iff.mpr hquiet
  change execImmediateFrameSend port s = _
  rw [execImmediateFrameSend]
  cases (s.port port).immQueue with
  | nil => rfl
  | cons f fs => simp only [hoff, Bool.false_and, Bool.false_eq_true, if_false]

/-- A port that does not transmit keeps its acyclic frames. -/
theorem exec_acyclicFrameSend_quiet (hquiet : s.transmits = false ∨ s.portOn port = false) : exec (.acyclicFrameSend port) s = .next s := by
  have hoff : (s.transmits && s.portOn port) = false := Bool.and_eq_false_iff.mpr hquiet
  change execAcyclicFrameSend port s = _
  rw [execAcyclicFrameSend]
  split
  · simp only [hoff, Bool.false_and, Bool.false_eq_true, if_false]
  · rfl

section
variable {f : OutFrame} {fs : List OutFrame}

section
variable (himm : (s.port port).immQueue = f :: fs)
include himm

/-- R291: an immediate frame leaves with the forces of now (R261). -/
theorem exec_immediateFrameSend_sends (htransmits : s.transmits = true) (hon : s.portOn port = true)
    (hgap : s.fitsGap port { s.stamp f with sections := f.sections.map (s.forceSection (port / 2) s.clk.ring) } = true) :
    exec (.immediateFrameSend port) s = .next ((s.modPort port fun p => { p with immQueue := fs }).emit
      { s.stamp f with sections := f.sections.map (s.forceSection (port / 2) s.clk.ring) }) := by
  change execImmediateFrameSend port s = _
  simp only [execImmediateFrameSend, himm, htransmits, hon, hgap, Bool.and_self, if_true]

/-- R291: the gap is too short. -/
theorem exec_immediateFrameSend_waits
    (hgap : s.fitsGap port { s.stamp f with sections := f.sections.map (s.forceSection (port / 2) s.clk.ring) } = false) :
    exec (.immediateFrameSend port) s = .next s := by
  change execImmediateFrameSend port s = _
  simp only [execImmediateFrameSend, himm, hgap, Bool.and_false, Bool.false_eq_true, if_false]

end

section
variable (himm : (s.port port).immQueue = []) (hacyc : (s.port port).acycQueue = f :: fs)
include himm hacyc

/-- R291: an acyclic frame leaves behind the immediate ones, and its requests' 100 ms run (R315). -/
theorem exec_acyclicFrameSend_sends (htransmits : s.transmits = true) (hon : s.portOn port = true) (hgap : s.fitsGap port (s.stamp f) = true) :
    exec (.acyclicFrameSend port) s =
      .next (((s.modPort port fun p => { p with acycQueue := fs }).awaitAnswers (port / 2) (s.stamp f)).emit (s.stamp f)) := by
  change execAcyclicFrameSend port s = _
  simp only [execAcyclicFrameSend, himm, hacyc, htransmits, hon, hgap, Bool.and_self, if_true]

/-- R291: the gap is too short. -/
theorem exec_acyclicFrameSend_waits (hgap : s.fitsGap port (s.stamp f) = false) : exec (.acyclicFrameSend port) s = .next s := by
  change execAcyclicFrameSend port s = _
  simp only [execAcyclicFrameSend, himm, hacyc, hgap, Bool.and_false, Bool.false_eq_true, if_false]

end

/-- R52: an open crossing puts a frame on its port's wire. -/
theorem State.emit_passes (hpasses : (s.crossing (0x10 + f.port)).passes = true) : s.emit f = s.putSent [s.sealed f] := if_pos hpasses

end
end

/-! ### The background train -/

/-- R283 and R287: at a multiple of the period (log 63) each station's section takes its next sequence number, whether or not this module sends it
(logs 30, 31 and 115). -/
theorem exec_backgroundCycle_due {s : State} {ring : Fin 4} (hcomputes : s.computes = true) (hmode : s.mode ≠ .lantern)
    (hperiod : s.settingNat (0x10 + 2 * ring) 4 0 * 1000 ≠ 0) (hdue : s.clk.tick * 50000 % (s.settingNat (0x10 + 2 * ring) 4 0 * 1000) = 0)
    (hnew : (s.ring ring).backgroundAt ≠ some (s.clk.tick * 50000)) :
    let secs := s.backgroundSections ring
    let a := ((secs.map (·.station)).foldl (fun (s : State) k =>
      s.modStation ring k fun v => { v with outSeq := (v.outSeq + 1) % 65536 }) s).modRing ring fun r =>
        { r with backgroundAt := some (s.clk.tick * 50000) }
    exec (.backgroundCycle ring) s = .next (if s.transmits && s.portOn (2 * ring) then
      ((packSections secs [] 0).map fun xs => s.frame (2 * ring) 2 xs []).foldl State.emit a else a) := by
  have hguard : (!s.computes || s.mode == .lantern || decide (s.settingNat (0x10 + 2 * ring) 4 0 * 1000 = 0)
      || decide (s.clk.tick * 50000 % (s.settingNat (0x10 + 2 * ring) 4 0 * 1000) ≠ 0)
      || decide ((s.ring ring).backgroundAt = some (s.clk.tick * 50000))) = false := by
    simp only [hcomputes, beq_eq_false_iff_ne.mpr hmode, decide_eq_false hperiod, hdue, decide_eq_false hnew, ne_eq, not_true, decide_false,
      Bool.not_true, Bool.or_self]
  change execBackgroundCycle ring s = _
  rw [execBackgroundCycle]
  exact congrArg _ (if_neg (Bool.eq_false_iff.mp hguard))

/-! ### The obligation -/

/-- Settles O21: each clause is the lemma of its event's outcome. -/
theorem framesAndBackground : Obligations.FramesAndBackground := by
  unfold Obligations.FramesAndBackground
  refine ⟨fun port s f fs => ⟨?immediate, ?acyclic, ?quiet, ⟨rfl, rfl, rfl, rfl, rfl⟩, State.emit_passes⟩, fun ring s => ?background⟩
  case immediate => exact fun himm => ⟨exec_immediateFrameSend_sends himm, exec_immediateFrameSend_waits himm⟩
  case acyclic => exact fun himm hacyc => ⟨exec_acyclicFrameSend_sends himm hacyc, exec_acyclicFrameSend_waits himm hacyc⟩
  case quiet => exact fun hquiet => ⟨exec_immediateFrameSend_quiet hquiet, exec_acyclicFrameSend_quiet hquiet⟩
  case background => exact exec_backgroundCycle_due

end Sys2Proof.Machine
end

section
/-! PROOFS. DISCOVER and its responses (R297, R299, R300, R370), and what the events of stations and ports do (R295, R298, R304, R374): one lemma for
each outcome of an event. -/
namespace Sys2Proof.Machine

section
variable {s : State}

/-! ### DISCOVER -/

section
variable {ring : Fin 4} {t : Nat} (hlast : (s.ring ring).discovered = some t)
include hlast

/-- R297 and R299: 100 ms after the last DISCOVER the next one leaves, and the stations that did not answer are gone, but not one beyond a cut whose
frames the partner receives (R303; log 62). -/
theorem exec_discoverSend_due (hdue : t + 100000000 ≤ s.clk.ring) (htransmits : s.transmits = true)
    (hfitted : ring.val < Config.rings s.ident.variant) :
    let silent := (List.range (s.ring ring).table.length).filter fun k =>
      (s.station ring k).state != .absent && !(s.station ring k).answered && (s.reaches ring k || s.alone || (s.station ring k).missing)
    let a := (silent.foldl (fun (s : State) k => s.stationGone ring k) s).modRing ring fun r =>
      { r with discovered := some s.clk.ring, stations := r.stations.map fun v => { v with answered := false } }
    exec (.discoverSend ring) s = .next (if a.portOn (2 * ring) then a.emit (a.frame (2 * ring) 5 [] s.discoverBody) else a) := by
  change execDiscoverSend ring s = _
  simp only [execDiscoverSend, hlast, htransmits, decide_eq_true hdue, decide_eq_true hfitted, Bool.true_or, Bool.not_true, Bool.or_self,
    Bool.false_eq_true, if_false, if_true, Option.isSome_some]

/-- R297: nothing leaves before, but from an owner that is ISOLATED (R370). -/
theorem exec_discoverSend_early (hearly : s.clk.ring < t + 100000000) (hjoined : s.mode ≠ .owner ∨ s.isolated = false) :
    exec (.discoverSend ring) s = .next s := by
  have halways : (s.mode == .owner && s.isolated) = false := by simpa [← Decidable.imp_iff_not_or] using hjoined
  change execDiscoverSend ring s = _
  simp only [execDiscoverSend, hlast, decide_eq_false (Nat.not_le.mpr hearly), halways, Bool.or_self, Bool.not_false, Bool.or_true, Bool.true_or,
    if_true]

end

section
variable {f : DiscRsp} (hon : s.portOn f.hdr.port = true) (hup : s.up = true)
include hon hup

theorem exec_discoverResponse_bad (hbad : f.hdr.good = false ∨ f.hdr.frameType ≠ 0x83) :
    exec (.discoverResponse f) s = .next (s.discardFrame f.hdr.port) := by
  have hguard : (!f.hdr.good || decide (f.hdr.frameType ≠ 0x83)) = true := by simpa using hbad
  change execDiscoverResponse f s = _
  simp only [execDiscoverResponse, hon, hup, hguard, Bool.not_true, Bool.or_self, Bool.false_eq_true, if_false, if_true]

/-- R299 and R300: a station that was absent and now answers is found at the position of its hops, and checked. -/
theorem exec_discoverResponse_found {pos : Nat} (hgood : f.hdr.good = true) (htype : f.hdr.frameType = 0x83) :
    let a := s.seePair f.hdr.epoch f.hdr.ownerSide
    let g := f.hdr.port / 2
    hopPosition (a.ring g).table.length f.hopA f.hopB = some (pos, false) →
    (a.station g pos).state = .absent →
    let path := match (a.ring g).discovered with | some t => (f.rxTime - t) / 8 | none => 0
    exec (.discoverResponse f) s = .next (((a.modStation g pos fun v =>
      { v with
        typeId := f.typeId, serial := f.serial, linkBits := f.link, answered := true
        delayA := if s.front.side = .a ∧ f.hopA ≠ 0xFFFF then path else v.delayA
        delayB := if s.front.side = .b ∧ f.hopB ≠ 0xFFFF then path else v.delayB }).setStation g pos .found).checkStation g pos) := by
  intro a g hpos habsent path
  change execDiscoverResponse f s = _
  simp only [execDiscoverResponse, hon, hup, hgood, htype, hpos, habsent, Bool.not_true, Bool.or_self, ne_eq, not_true, decide_false, decide_true,
    Bool.true_or, Bool.false_eq_true, if_false, if_true, a, g, path] <;> rfl

end

/-! ### Segment delays and resynchronisation -/

/-- R295 and R298: the owner measures and its partner takes the measurement from it; the planned delays stay as first measured (log 62). -/
theorem exec_segmentDelayMeasure_takes {ring : Fin 4} {delays : List Nat} (hcomputes : s.computes = true) (howns : s.owns = true ∨ s.solo = true) :
    exec (.segmentDelayMeasure ring delays) s =
      .next (if s.solo then s.takeDelays ring delays else (s.takeDelays ring delays).send 3 (.mirror (.delays ring delays))) := by
  have hguard : (!s.computes || !(s.owns || s.solo)) = false := by simpa [hcomputes, Decidable.imp_iff_not_or] using howns
  exact congrArg Host.Outcome.next (if_neg (Bool.eq_false_iff.mp hguard))

section
variable {ring : Fin 4} {station t : Nat} (hresync : (s.station ring station).state = .resync)
  (hsince : (s.station ring station).resyncAt = some t)
include hresync hsince

/-- R295: cause 4 is DELAY. -/
theorem exec_resyncTimeout_refuses (hended : t + 200000000 ≤ s.clk.local_) :
    exec (.resyncTimeout ring station) s = .next (s.refuseStation ring station 4) := by
  change execResyncTimeout ring station s = _
  simp only [execResyncTimeout, hresync, hsince, if_pos (Nat.le_add_right_of_le hended)]

/-- R295; the margin of 50 us is the model's (log 15). -/
theorem exec_resyncTimeout_early (hearly : s.clk.local_ + 50000 < t + 200000000) : exec (.resyncTimeout ring station) s = .next s := by
  change execResyncTimeout ring station s = _
  simp only [execResyncTimeout, hresync, hsince, if_neg (Nat.not_le.mpr hearly)]

end

/-! ### Ports -/

section
variable {port : Fin 8}

/-- R304. -/
theorem exec_portLinkChange_changes {up : Bool} (hnew : (s.port port).linkUp ≠ up) :
    exec (.portLinkChange port up) s = .next (((s.modPort port fun p => { p with linkUp := up }).record 304 1
      (if up then sevInfo else sevWarning) (864 + 2 * port) noSource [(4, port), (4, if up then 1 else 0)]).fire (864 + 2 * port)) :=
  congrArg Host.Outcome.next (if_neg hnew)

theorem exec_portLinkChange_same {up : Bool} (hsame : (s.port port).linkUp = up) : exec (.portLinkChange port up) s = .next s :=
  congrArg Host.Outcome.next (if_pos hsame)

/-- R374, item 4: a port that is off, or a closure port that is open, carries no traffic. -/
def State.portQuiet (s : State) (port : Nat) : Bool := !s.portOn port || (port % 2 == 1 && s.setting (0x10 + port) 3 0 == 0)

theorem State.portQuiet_iff {port : Nat} :
    s.portQuiet port = true ↔ s.portOn port = false ∨ (port % 2 = 1 ∧ s.setting (0x10 + port) 3 0 = 0) := by
  simp [State.portQuiet]

section
variable (hup : s.up = true)
include hup

/-- R374: the pass advances SELFTEST_ROUND and clears LOOPBACK_FAIL of a quiet port. -/
theorem exec_portLoopbackTest_pass : exec (.portLoopbackTest port true) s =
    .next (s.modPort port fun p => { p with loopbackFail := if s.portQuiet port then false else p.loopbackFail }).selftestPass := by
  change execPortLoopbackTest port true s = _
  rw [execPortLoopbackTest, hup]
  rfl

/-- R374: a failure of a quiet port is one of the self-test, that of a port in use is a port failure. -/
theorem exec_portLoopbackTest_fail : exec (.portLoopbackTest port false) s =
    .next (if s.portQuiet port then ((s.modPort port fun p => { p with loopbackFail := true }).fire (865 + 2 * port)).selftestFail
      else ((s.modPort port fun p => { p with fault := true }).record 374 2 sevFault (865 + 2 * port) noSource [(4, port)]).fire
        (865 + 2 * port)) := by
  change execPortLoopbackTest port false s = _
  rw [execPortLoopbackTest, hup]
  rfl

end
end
end

/-! ### The obligation -/

/-- Settles O22: each clause is the lemma of its event's outcome. -/
theorem discoveryAndStations : Obligations.DiscoveryAndStations := by
  unfold Obligations.DiscoveryAndStations
  refine ⟨fun ring s => ⟨?send, ?early, fun f => exec_discoverResponse_bad, ?found⟩, fun s =>
    ⟨fun ring delays => exec_segmentDelayMeasure_takes, ?resync, fun port up => exec_portLinkChange_changes,
      fun port up => exec_portLinkChange_same, fun port hup => ⟨?used, ?quiet⟩⟩⟩
  case send => exact fun t hlast hdue htransmits hfitted _ => exec_discoverSend_due hlast hdue htransmits hfitted
  case early => exact fun t hlast => exec_discoverSend_early hlast
  case found => exact fun f pos hon hup hgood htype => exec_discoverResponse_found hon hup hgood htype
  case resync =>
    exact fun ring station t hresync hsince => ⟨exec_resyncTimeout_refuses hresync hsince, exec_resyncTimeout_early hresync hsince⟩
  case used =>
    intro hused
    have hnot : ¬ s.portQuiet port = true := mt State.portQuiet_iff.mp hused
    rw [exec_portLoopbackTest_pass hup, exec_portLoopbackTest_fail hup]
    simp only [if_neg hnot, and_self]
  case quiet =>
    intro hquiet
    have hoff : s.portQuiet port = true := State.portQuiet_iff.mpr hquiet
    rw [exec_portLoopbackTest_pass hup, exec_portLoopbackTest_fail hup]
    simp only [if_pos hoff, and_self]

end Sys2Proof.Machine
end

section
/-! PROOFS. What the commands of rings and stations answer, and what becomes of an acyclic request (R293, R296, R305, R311 to R315, R464, R465): one
lemma for each outcome of a command. -/
namespace Sys2Proof.Machine
open Sys2Proof.Claims

/-! ### What the commands ask -/

/-- R3: the ring is fitted. -/
theorem State.ringThere_holds {s : State} {ring : Nat} (hfitted : ring < Config.rings s.ident.variant) (off : Nat) : s.ringThere off ring = .ok () :=
  if_neg fun habsent => Nat.not_le.mpr hfitted habsent.2

theorem State.ringField_holds {s : State} {ring : Nat} (hring : ring < 4) (hfitted : ring < Config.rings s.ident.variant) (off : Nat) :
    s.ringField off ring = .ok () := by
  rw [State.ringField, State.ringThere_holds hfitted, except_ok_bind]
  exact need_holds (decide_eq_true hring) _

/-- R540: the gate admits the access. -/
theorem State.throughGate_admits {s : State} {r : Req} {gate granule kind : Nat}
    (hgate : s.gateCheck ⟨gate, granule, kind, s.privOf r.session, if r.tenant < 512 then some r.tenant else none⟩ = none) (run : Answer) :
    s.throughGate r gate granule kind run = run := by
  rw [State.throughGate, hgate]

section
variable {s : State} {r : Req}

/-! ### Figures of a ring, and words of a station -/

section
variable (hlen : r.payload.length = 4) (hring : field r.payload 0 1 < 4) (hfitted : field r.payload 0 1 < Config.rings (s.accept r).ident.variant)
include hlen hring hfitted

/-- R293 and R464. -/
theorem exec_ringReadStatus_reads (hruns : s.fate ⟨0x0501, true, 1, false, .E, false⟩ r = .runs) (hzero : field r.payload 1 3 = 0)
    (hgate : (s.accept r).gateCheck ⟨13, 0, 0, (s.accept r).privOf r.session, if r.tenant < 512 then some r.tenant else none⟩ = none) :
    let a := s.accept r
    let k := field r.payload 0 1
    let pl := a.plan k
    exec (.ringReadStatus r) s = .next (replied ⟨0x0501, true, 1, false, .E, false⟩ r a 0
      (be 2 (a.ring k).table.length ++ be 2 ((a.ring k).stations.filter fun v => v.state == StationState.active).length
        ++ be 4 pl.outputSweep ++ be 2 pl.occupancy ++ be 2 ((a.ring k).cut.getD 0xFFFF)
        ++ be 1 ((if (a.port (2 * k)).linkUp then 1 else 0) + (if (a.port (2 * k + 1)).linkUp then 2 else 0)) ++ [0] ++ be 2 pl.sweeps.length
        ++ pl.sweeps.flatMap fun e => be 2 e.1 ++ [0, 0] ++ be 4 e.2)) := by
  refine receive_replies hruns ?_
  simp only [State.ringThere_holds hfitted, sized_holds hlen, zeros_hold hzero, State.ringField_holds hring hfitted, State.throughGate_admits hgate,
    except_ok_bind, ok]

/-- R305. -/
theorem exec_ringReadStation_reads (hruns : s.fate ⟨0x0503, true, 1, false, .E, false⟩ r = .runs) (hzero : field r.payload 2 2 = 0) :
    exec (.ringReadStation r) s = .next (replied ⟨0x0503, true, 1, false, .E, false⟩ r (s.accept r) 0
      (((s.accept r).station (field r.payload 0 1) (field r.payload 1 1)).words (field r.payload 1 1))) := by
  refine receive_replies hruns ?_
  simp only [State.ringThere_holds hfitted, sized_holds hlen, zeros_hold hzero, State.ringField_holds hring hfitted, except_ok_bind, ok]

end

/-! ### The station table -/

section
variable {k : Chunk} {l1 : Loading} (hruns : s.fate ⟨0x0502, true, 2, false, .O, false⟩ r = .runs) (hchunk : chunkOf r.payload = .ok k)
  (hselect : field r.payload 6 1 = k.select) (hfitted : k.select < Config.rings (s.accept r).ident.variant) (hring : k.select < 4)
  (hfree : (s.accept r).pairUpdate = false) (hloading : ((s.accept r).ring k.select).loading = none)
  (hadd : (⟨r.session, [], false⟩ : Loading).add k = .ok l1)
include hruns hchunk hselect hfitted hring hfree hloading hadd

/-- R465: a chunk before the last one is kept. -/
theorem exec_ringLoadConfig_adds (hlast : k.last = false) :
    exec (.ringLoadConfig r) s = .next (replied ⟨0x0502, true, 2, false, .O, false⟩ r
      ((s.accept r).modRing k.select fun y => { y with loading := some l1 }) 0 []) := by
  refine receive_replies hruns ?_
  simp only [hselect, State.ringThere_holds hfitted, hchunk, need_holds (decide_eq_true hring), State.noPairUpdate_holds hfree, hloading,
    Option.getD_none, beq_self_eq_true, Bool.true_or, need_holds rfl, hadd, hlast, except_ok_bind, Bool.false_eq_true, if_true, if_false, ok]

/-- R465: the last chunk completes the table, which takes effect at the first tick 1 ms on and goes to the partner. -/
theorem exec_ringLoadConfig_stages {t : List StationCfg} (hlast : k.last = true) (htable : stationTable (assemble l1.chunks) = .ok t)
    (hroom : t.length + (s.accept r).stationsElsewhere k.select ≤ Config.stations (s.accept r).ident.variant)
    (hkeeps : (s.accept r).tableKeeps k.select t = true) :
    let a := s.accept r
    exec (.ringLoadConfig r) s = .next (replied ⟨0x0502, true, 2, false, .O, false⟩ r ((a.modRing k.select fun y =>
      { y with loading := none, staged := some (a.tickIn 1000000, t) }).tellPartner (.stationTable (a.tickIn 1000000) k.select t)) 0 []) := by
  refine receive_replies hruns ?_
  simp only [hselect, State.ringThere_holds hfitted, hchunk, need_holds (decide_eq_true hring), State.noPairUpdate_holds hfree, hloading,
    Option.getD_none, beq_self_eq_true, Bool.true_or, need_holds rfl, hadd, hlast, htable, need_holds (decide_eq_true hroom), need_holds hkeeps,
    except_ok_bind, if_true, ok]

end

/-! ### Acyclic requests -/

/-- What becomes of an acyclic request that passes its checks: it ends STATION-GONE at once where its station is not ACTIVE (R304, R315; log 51), the
owner takes it up (R309, R311), another module forwards it (R311). -/
def State.routeAcyc (s : State) (q : AcycReq) (k : Ticket) : Answer :=
  if (s.station q.ring q.station).state ≠ .active then ok ((s.count 0x2602).fire (836 + 8 * q.ring)) (acycReply 2 [])
  else if s.owns then .ok (.later (s.offerAcyc q (some k) 0))
  else .ok (.later (s.forwardAcyc q k))

section
variable {q : AcycReq} {k : Ticket}

theorem State.routeAcyc_gone (hgone : (s.station q.ring q.station).state ≠ .active) :
    s.routeAcyc q k = .ok (.reply ((s.count 0x2602).fire (836 + 8 * q.ring)) 0 (acycReply 2 [])) := if_pos hgone

theorem State.routeAcyc_owner (hactive : (s.station q.ring q.station).state = .active) (howns : s.owns = true) :
    s.routeAcyc q k = .ok (.later (s.offerAcyc q (some k) 0)) := by
  rw [State.routeAcyc, if_neg (not_not_intro hactive), if_pos howns]

theorem State.routeAcyc_other (hactive : (s.station q.ring q.station).state = .active) (howns : s.owns = false) :
    s.routeAcyc q k = .ok (.later (s.forwardAcyc q k)) := by
  rw [State.routeAcyc, if_neg (not_not_intro hactive), if_neg (Bool.eq_false_iff.mp howns)]

end

/-- The acyclic request that a payload spells (R464); only one that writes carries data. -/
def acyclicReqOf (p : List Byte) : AcycReq :=
  ⟨field p 0 1, field p 1 1, field p 4 1, field p 5 1, field p 6 2, field p 8 2, if field p 4 1 = 2 then (p.drop 12).take (field p 8 2) else []⟩

section
variable (hzeroSlot : field r.payload 2 2 = 0) (hzeroEnd : field r.payload 10 2 = 0) (hdata : field r.payload 8 2 ≤ 1024)
  (hring : field r.payload 0 1 < 4) (hfitted : field r.payload 0 1 < Config.rings (s.accept r).ident.variant)
include hzeroSlot hzeroEnd hdata hring hfitted

/-- R464: a request whose length is that of its operation, and whose padding is zero, is routed. -/
theorem State.ringAcyclic_routes
    (hruns : s.fate ⟨0x0504, true, acyclicPriv (field r.payload 4 1), false, .E, false⟩ r = .runs)
    (hop : field r.payload 4 1 = 1 ∨ field r.payload 4 1 = 2 ∨ field r.payload 4 1 = 3)
    (hlen : r.payload.length = 12 + if field r.payload 4 1 = 2 then up4 (field r.payload 8 2) else 0)
    (hpad : field r.payload 4 1 = 2 → (r.payload.drop (12 + field r.payload 8 2)).all (· == 0) = true) :
    let k := r.ticket ⟨0x0504, true, acyclicPriv (field r.payload 4 1), false, .E, false⟩
    s.ringAcyclic r = ((s.accept r).answer k ((s.accept r).routeAcyc (acyclicReqOf r.payload) k)).closeLast r.session := by
  have hlength : (decide (12 ≤ r.payload.length)
      && r.payload.length == 12 + if field r.payload 4 1 = 2 then up4 (field r.payload 8 2) else 0) = true :=
    Bool.and_eq_true_iff.mpr ⟨decide_eq_true (hlen ▸ Nat.le_add_right ..), beq_iff_eq.mpr hlen⟩
  have hpadding : ((r.payload.drop (12 + field r.payload 8 2)).all (· == 0) || field r.payload 4 1 != 2) = true := by
    rw [Bool.or_eq_true, bne_iff_ne]
    exact (Decidable.em (field r.payload 4 1 = 2)).imp_left hpad
  have hknown : (field r.payload 4 1 == 1 || field r.payload 4 1 == 2 || field r.payload 4 1 == 3) = true := by simpa [or_assoc] using hop
  refine (State.receive_runs hruns).trans ?_
  simp only [State.ringThere_holds hfitted, need_holds hlength, zeros_hold hzeroSlot, zeros_hold hzeroEnd, need_holds hpadding,
    State.ringField_holds hring hfitted, need_holds hknown, need_holds (decide_eq_true hdata), except_ok_bind]
  rfl

/-! #### Requests without data -/

section
variable {i : Instr} (hi : (i = .acyclicRead r ∧ field r.payload 4 1 = 1) ∨ (i = .alarmFetch r ∧ field r.payload 4 1 = 3))
  (hruns : s.fate ⟨0x0504, true, acyclicPriv (field r.payload 4 1), false, .E, false⟩ r = .runs) (hlen : r.payload.length = 12)
include hi hruns hlen

/-- ALARM_FETCH is routed as ACYCLIC_READ is. -/
theorem exec_acyclicRead_routes :
    let k := r.ticket ⟨0x0504, true, acyclicPriv (field r.payload 4 1), false, .E, false⟩
    exec i s = .next (((s.accept r).answer k ((s.accept r).routeAcyc ⟨field r.payload 0 1, field r.payload 1 1, field r.payload 4 1,
      field r.payload 5 1, field r.payload 6 2, field r.payload 8 2, []⟩ k)).closeLast r.session) := by
  have hexec : exec i s = .next (s.ringAcyclic r) := by rcases hi with ⟨rfl, -⟩ | ⟨rfl, -⟩ <;> rfl
  have hop : field r.payload 4 1 = 1 ∨ field r.payload 4 1 = 3 := hi.imp And.right And.right
  have hread : field r.payload 4 1 ≠ 2 := by omega
  rw [hexec, State.ringAcyclic_routes hzeroSlot hzeroEnd hdata hring hfitted hruns (by omega) (by rw [if_neg hread]; exact hlen) (absurd · hread),
    acyclicReqOf, if_neg hread]

/-- R315: no station answers (log 51). -/
theorem exec_acyclicRead_gone (hgone : ((s.accept r).station (field r.payload 0 1) (field r.payload 1 1)).state ≠ .active) :
    exec i s = .next (replied ⟨0x0504, true, acyclicPriv (field r.payload 4 1), false, .E, false⟩ r
      (((s.accept r).count 0x2602).fire (836 + 8 * field r.payload 0 1)) 0 (acycReply 2 [])) := by
  rw [exec_acyclicRead_routes hzeroSlot hzeroEnd hdata hring hfitted hi hruns hlen, State.routeAcyc_gone hgone]
  rfl

section
variable (hactive : ((s.accept r).station (field r.payload 0 1) (field r.payload 1 1)).state = .active)
include hactive

/-- R311. -/
theorem exec_acyclicRead_owner (howns : (s.accept r).owns = true) :
    exec i s = .next (((s.accept r).offerAcyc ⟨field r.payload 0 1, field r.payload 1 1, field r.payload 4 1, field r.payload 5 1,
      field r.payload 6 2, field r.payload 8 2, []⟩
        (some (r.ticket ⟨0x0504, true, acyclicPriv (field r.payload 4 1), false, .E, false⟩)) 0).closeLast r.session) := by
  rw [exec_acyclicRead_routes hzeroSlot hzeroEnd hdata hring hfitted hi hruns hlen, State.routeAcyc_owner hactive howns]
  rfl

/-- R311. -/
theorem exec_acyclicRead_other (howns : (s.accept r).owns = false) :
    exec i s = .next (((s.accept r).forwardAcyc ⟨field r.payload 0 1, field r.payload 1 1, field r.payload 4 1, field r.payload 5 1,
      field r.payload 6 2, field r.payload 8 2, []⟩
        (r.ticket ⟨0x0504, true, acyclicPriv (field r.payload 4 1), false, .E, false⟩)).closeLast r.session) := by
  rw [exec_acyclicRead_routes hzeroSlot hzeroEnd hdata hring hfitted hi hruns hlen, State.routeAcyc_other hactive howns]
  rfl

end
end

/-! #### Writing -/

/-- R311 and R464. -/
theorem exec_acyclicWrite_owner (hop : field r.payload 4 1 = 2) (hruns : s.fate ⟨0x0504, true, 2, false, .E, false⟩ r = .runs)
    (hlen : r.payload.length = 12 + up4 (field r.payload 8 2)) (hpad : (r.payload.drop (12 + field r.payload 8 2)).all (· == 0) = true)
    (hactive : ((s.accept r).station (field r.payload 0 1) (field r.payload 1 1)).state = .active) (howns : (s.accept r).owns = true) :
    exec (.acyclicWrite r) s = .next (((s.accept r).offerAcyc ⟨field r.payload 0 1, field r.payload 1 1, 2, field r.payload 5 1,
      field r.payload 6 2, field r.payload 8 2, (r.payload.drop 12).take (field r.payload 8 2)⟩
        (some (r.ticket ⟨0x0504, true, 2, false, .E, false⟩)) 0).closeLast r.session) := by
  have hpriv : acyclicPriv (field r.payload 4 1) = 2 := if_pos hop
  refine congrArg Host.Outcome.next ?_
  rw [State.ringAcyclic_routes hzeroSlot hzeroEnd hdata hring hfitted (by rw [hpriv]; exact hruns) (Or.inr (Or.inl hop))
    (by rw [if_pos hop]; exact hlen) fun _ => hpad, hpriv, acyclicReqOf, if_pos hop, hop, State.routeAcyc_owner hactive howns]
  rfl

end

/-! #### Giving up -/

/-- R464: the transaction that the sequence started ends ABORTED. -/
theorem exec_ringAcyclicAbort_aborts {x : Acyc} (hstarted : s.acyclicOf r.session (field r.payload 0 4) = some x)
    (hopen : (s.accept r).acyclicOf r.session (field r.payload 0 4) = some x) (hlen : r.payload.length = 4)
    (hruns : s.fate ⟨0x0505, true, acyclicPriv x.req.op, false, .E, false⟩ r = .runs) :
    exec (.ringAcyclicAbort r) s = .next (replied ⟨0x0505, true, acyclicPriv x.req.op, false, .E, false⟩ r ((s.accept r).endAcyc x 4 []) 0 []) := by
  change execRingAcyclicAbort r s = _
  simp only [execRingAcyclicAbort, hstarted, Option.map_some, Option.getD_some]
  refine receive_replies hruns ?_
  simp only [sized_holds hlen, hopen, except_ok_bind, ok]

end

/-! ### The obligation -/

/-- Settles O44: each clause is the lemma of its command's outcome. -/
theorem ringCommands : Obligations.RingCommands := by
  unfold Obligations.RingCommands
  intro s r
  refine ⟨?status, ?table, ?station, ?read, ?write, ?abort⟩
  case status => exact fun hruns hlen hzero hring hfitted hgate => exec_ringReadStatus_reads hlen hring hfitted hruns hzero hgate
  case table =>
    exact fun k l1 hruns hchunk hselect hfitted hring hfree hloading hadd =>
      ⟨exec_ringLoadConfig_adds hruns hchunk hselect hfitted hring hfree hloading hadd,
        fun t => exec_ringLoadConfig_stages hruns hchunk hselect hfitted hring hfree hloading hadd⟩
  case station => exact fun hruns hlen hzero hring hfitted => exec_ringReadStation_reads hlen hring hfitted hruns hzero
  case read =>
    exact fun i hi hruns hlen hzeroSlot hzeroEnd hdata hring hfitted =>
      ⟨exec_acyclicRead_gone hzeroSlot hzeroEnd hdata hring hfitted hi hruns hlen,
        exec_acyclicRead_owner hzeroSlot hzeroEnd hdata hring hfitted hi hruns hlen,
        exec_acyclicRead_other hzeroSlot hzeroEnd hdata hring hfitted hi hruns hlen⟩
  case write =>
    exact fun hop hruns hlen hzeroSlot hzeroEnd hdata hring hfitted hpad hactive howns =>
      exec_acyclicWrite_owner hzeroSlot hzeroEnd hdata hring hfitted hop hruns hlen hpad hactive howns
  case abort => exact fun x hstarted hopen hlen hruns => exec_ringAcyclicAbort_aborts hstarted hopen hlen hruns

end Sys2Proof.Machine
end

section
/-! PROOFS. The process image keeps its canonical form in every step (R329): the engine does not touch the published image, and whatever a Gelit
request or an event writes there is written by an operation that keeps the form. -/
namespace Sys2Proof.Machine
open Sys2Proof.Claims

/-- The published image is in its canonical form (log 6). -/
def ImageOk (s : State) : Prop := Cells.wf s.image.base = true

theorem leaves_imageOk {t : State} (h : Cells.wf t.image.base = true) : Leaves ImageOk (.next t) := .next h

theorem base_wf_of_eq {s t : State} (hbase : t.image.base = s.image.base) (h : Cells.wf s.image.base = true) :
    Cells.wf t.image.base = true := hbase.symm ▸ h

/-- Both ways of a choice between states. -/
theorem ite_base_wf {c : Prop} [Decidable c] {a b : State} (ha : Cells.wf a.image.base = true) (hb : Cells.wf b.image.base = true) :
    Cells.wf (if c then a else b).image.base = true := by
  split <;> assumption

/-- What both branches leave of the published image, a choice between them leaves. -/
theorem ite_base_eq {c : Prop} [Decidable c] {a b : State} {m : List Host.Cell} (ha : a.image.base = m) (hb : b.image.base = m) :
    (if c then a else b).image.base = m := ite_keep (fun u => u.image.base) ha hb

/-- Sessions that close one after the other; a change that one of them held is given up with it. -/
theorem closeSessions_wf (nos : List Nat) {s : State} (h : Cells.wf s.image.base = true) :
    Cells.wf (nos.foldl (fun (s : State) n => s.closeSession n) s).image.base = true :=
  foldl_wf _ _ _ h fun _ _ hs => State.closeSession_wf _ _ hs

/-! ### The engine's instructions -/

/-- The published image is frozen for the engine. -/
theorem exec_engine_base {i : Instr} {x : Exec} {s : State} (hi : engineOf i = some x) :
    Leaves (fun t => t.image.base = s.image.base) (exec i s) := by
  intro t ht
  have hfrozen : t.frozen = s.frozen := exec_engine_frozen hi t ht
  change t.frozen.image.base = s.frozen.image.base
  rw [hfrozen]

/-! ### Gelit requests -/

theorem State.openSession_base {s t : State} {r : Req} {c : Cmd} {g : OpenGrant} (h : s.openSession r c g = .ok t) :
    t.image.base = s.image.base := by
  revert h
  unfold State.openSession
  repeat' refine except_bind_all (p := fun t => t.image.base = s.image.base) fun _ t => ?_
  rintro ⟨⟩
  rw [State.sendReply_base, State.submit_base]
  split <;> split <;> simp

theorem State.applyStaged_base (s : State) (unit : Nat) (staged : List (Nat × Int)) :
    (s.applyStaged unit staged).1.image.base = s.image.base := by
  unfold State.applyStaged
  extract_lets pair side at_ tell s1 s2
  have htell (u : State) (m : Mirror) : (tell u m).image.base = u.image.base := ite_base_eq rfl (State.send_base ..)
  have h1 : s1.image.base = s.image.base := ite_base_eq rfl ((htell _ _).trans (State.setValues_base ..))
  have h2 : s2.image.base = s.image.base := ite_base_eq h1 ((htell _ _).trans h1)
  exact (State.restartUnit_base ..).trans h2

section
variable {s : State} (h : Cells.wf s.image.base = true)
include h

theorem exec_sessionOpen_wf (r : Req) (g : OpenGrant) : Leaves ImageOk (exec (.sessionOpen r g) s) := by
  refine leaves_imageOk (State.receive_wf _ _ _ _ _ h fun t k ht => ?_)
  rw [Answer.all_later]
  split
  · rw [State.sendReply_base]
    exact ht
  next hopen => exact base_wf_of_eq (State.openSession_base hopen) ht

theorem exec_funcRestart_wf (r : Req) : Leaves ImageOk (exec (.funcRestart r) s) := by
  refine leaves_imageOk (State.receive_wf _ _ _ _ _ h fun t k ht => ?_)
  repeat' (first | with_reducible refine Answer.all_bind _ _ _ fun _ _ => ?_ | with_reducible refine State.throughGate_wf _ _ _ _ _ _ ht ?_)
  have happlied (u : State) (hu : Cells.wf u.image.base = true) (unit : Nat) (staged : List (Nat × Int)) :=
    base_wf_of_eq (State.applyStaged_base u unit staged) hu
  have hreplied := happlied (t.finish k 0 (be 8 0)) (by rwa [State.finish_base])
  split
  · exact ite_base_wf (closeSessions_wf _ (hreplied _ _)) (hreplied _ _)
  · exact happlied t ht _ _

/-- R547: a new authority ends every session. -/
theorem exec_secAuthorityInstall_wf (r : Req) (pointOk : Bool) : Leaves ImageOk (exec (.secAuthorityInstall r pointOk) s) := by
  refine leaves_imageOk (State.receive_wf _ _ _ _ _ h fun t k ht => ?_)
  repeat' with_reducible refine Answer.all_bind _ _ _ fun _ _ => ?_
  exact closeSessions_wf _ (by simpa using ht)

/-- Every Gelit request: its checks change nothing, and neither does a denied access; each way through its body is judged by itself. -/
theorem exec_gelit_wf {i : Instr} {c : Cmd} {r : Req} (hi : gelitOf s i = some (c, r)) : Leaves ImageOk (exec i s) := by
  cases i
  all_goals first | contradiction | clear hi
  case sessionOpen r g => exact exec_sessionOpen_wf h r g
  case funcRestart r => exact exec_funcRestart_wf h r
  case secAuthorityInstall r pointOk => exact exec_secAuthorityInstall_wf h r pointOk
  all_goals
    refine leaves_imageOk (State.receive_wf _ _ _ _ _ h fun t k ht => ?_)
    try dsimp only
    repeat' (first
      | with_reducible refine Answer.all_bind _ _ _ fun _ _ => ?_
      | with_reducible refine State.throughGate_wf _ _ _ _ _ _ ht ?_
      | split)
    all_goals simp [ht, foldl_base]

end

/-! ### Events

First the events with a chain of updates that leave the published image alone, then those that do one operation after the other along a list; the
others are their branches alone. -/

/-- R297: what a station answers concerns the rings and messages. -/
theorem exec_discoverResponse_base (f : DiscRsp) (s : State) : Leaves (fun t => t.image.base = s.image.base) (exec (.discoverResponse f) s) := by
  refine .next (ite_base_eq rfl (ite_base_eq (State.discardFrame_base ..) ?_))
  extract_lets s1
  have h1 : s1.image.base = s.image.base := State.seePair_base ..
  split
  · exact h1
  · extract_lets old fresh s2 s3 s4
    have h2 : s2.image.base = s.image.base := h1
    refine ite_base_eq ?_ (ite_base_eq ?_ (ite_base_eq (ite_base_eq ?_ ?_) ?_))
    all_goals simpa [s4, s3] using h2

/-- R588: an expiry is recorded and told. -/
theorem exec_watchdogExpiry_base (task : Nat) (s : State) : Leaves (fun t => t.image.base = s.image.base) (exec (.watchdogExpiry task) s) := by
  refine .next ?_
  split
  · rfl
  · refine ite_base_eq rfl (ite_base_eq ?_ ?_)
    all_goals simp

theorem exec_canFrameReceived_base (k : Fin 4) (f : CanFrame) (remote own : Bool) (t : Nat) (s : State) :
    Leaves (fun u => u.image.base = s.image.base) (exec (.canFrameReceived k f remote own t) s) := by
  refine .next ?_
  extract_lets s0 g rx s1 s2 s3
  have h0 : s0.image.base = s.image.base := State.advanceTo_base ..
  have h1 : s1.image.base = s.image.base := ite_base_eq h0 h0
  have h2 : s2.image.base = s.image.base := (State.canSeen_base ..).trans h1
  have h3 : s3.image.base = s.image.base := ite_base_eq h2 ((State.canViolation_base ..).trans h2)
  exact ite_base_eq h0 ((State.canFilter_base ..).trans h3)

theorem exec_canTxError_base (k : Fin 4) (peerSaw : Bool) (s : State) :
    Leaves (fun t => t.image.base = s.image.base) (exec (.canTxError k peerSaw) s) := by
  refine .next (ite_base_eq rfl ?_)
  split
  · rfl
  · extract_lets s1 s2
    have h2 : s2.image.base = s.image.base := ite_base_eq (State.canLose_base ..) rfl
    exact ite_base_eq ((State.canFault_base ..).trans h2) h2

section
variable {s : State} (h : Cells.wf s.image.base = true)
include h

/-- R349, R355, R358, R367: a module alone claims, gives up its join, or may own. -/
theorem exec_pathSilent_wf (path : Fin 3) : Leaves ImageOk (exec (.pathSilent path) s) := by
  refine leaves_imageOk ?_
  extract_lets p flag last quiet elsewhere s1 s2 s3
  have h1 : Cells.wf s1.image.base = true := h
  have h3 : Cells.wf s3.image.base = true := ite_base_wf h1 (by simpa using h1)
  refine ite_base_wf h (ite_base_wf h1 (ite_base_wf ?takeOver (ite_base_wf ?ownerLost (ite_base_wf ?orphaned ?tryOwn))))
  case takeOver => exact base_wf_of_eq (State.takeOver_base ..) h3
  case ownerLost => exact State.ownerLost_wf _ h3
  case orphaned => exact base_wf_of_eq (State.updateOrphaned_base ..) h3
  case tryOwn => exact State.tryOwn_wf _ h3

theorem exec_marginCheckEnd_wf : Leaves ImageOk (exec .marginCheckEnd s) :=
  leaves_imageOk (ite_base_wf h (foldl_wf State.judgeMargin _ s h fun _ _ hs => State.judgeMargin_wf _ _ hs))

theorem exec_pairSettingsApply_wf : Leaves ImageOk (exec .pairSettingsApply s) :=
  leaves_imageOk (foldl_wf _ _ _ h fun _ _ hs => State.applyPair_wf _ _ _ hs)

/-- R548: a revoked certificate's sessions close. -/
theorem exec_revocationApply_wf : Leaves ImageOk (exec .revocationApply s) := by
  refine leaves_imageOk (foldl_wf _ _ _ h fun s x hs => ?_)
  rw [State.finishOpt_base]
  exact State.applyRevoke_wf _ _ hs

theorem exec_backgroundCycle_wf (ring : Fin 4) : Leaves ImageOk (exec (.backgroundCycle ring) s) := by
  refine leaves_imageOk ?_
  extract_lets period at_ secs frames s1 s2
  have h2 : Cells.wf s2.image.base = true := base_wf_of_eq (foldl_base _ (fun s k => State.modStation_base s ring k _) _ _) h
  exact ite_base_wf h (ite_base_wf (base_wf_of_eq (foldl_base _ State.emit_base _ _) h2) h2)

theorem exec_releaseCheckpoint_wf (strand : Nat) (lane1 : Option (BitVec 64)) : Leaves ImageOk (exec (.releaseCheckpoint strand lane1) s) := by
  refine leaves_imageOk ?_
  extract_lets ts compared same held s1
  have h1 : Cells.wf s1.image.base = true := base_wf_of_eq (foldl_base _ State.assemble_base _ _) h
  clear_value held s1
  refine ite_base_wf h ?_
  split
  · exact h1
  · refine ite_base_wf (State.persistent_wf _ _ ?_) ?_
    all_goals exact base_wf_of_eq (foldl_base _ (fun _ _ => State.modTask_base ..) _ _) (by simpa using h1)

/-- Every event: each way through its effect is judged by itself. -/
theorem exec_event_wf {i : Instr} (hg : gelitOf s i = none) (he : engineOf i = none) : Leaves ImageOk (exec i s) := by
  cases i
  all_goals first | contradiction | clear hg he
  case discoverResponse => exact fun t ht => base_wf_of_eq (exec_discoverResponse_base _ s t ht) h
  case watchdogExpiry => exact fun t ht => base_wf_of_eq (exec_watchdogExpiry_base _ s t ht) h
  case canFrameReceived => exact fun t ht => base_wf_of_eq (exec_canFrameReceived_base _ _ _ _ _ s t ht) h
  case canTxError => exact fun t ht => base_wf_of_eq (exec_canTxError_base _ _ s t ht) h
  case pathSilent => exact exec_pathSilent_wf h _
  case marginCheckEnd => exact exec_marginCheckEnd_wf h
  case pairSettingsApply => exact exec_pairSettingsApply_wf h
  case revocationApply => exact exec_revocationApply_wf h
  case backgroundCycle => exact exec_backgroundCycle_wf h _
  case releaseCheckpoint => exact exec_releaseCheckpoint_wf h _ _
  all_goals
    refine leaves_imageOk ?_
    try dsimp only
    repeat' (first | with_reducible refine ite_base_wf ?_ ?_ | split)
    all_goals simp [h, foldl_base]

/-- Every command keeps the canonical form. -/
theorem exec_imageOk (i : Instr) : Leaves ImageOk (exec i s) := by
  cases he : engineOf i with
  | some x => exact fun t ht => base_wf_of_eq (exec_engine_base he t ht) h
  | none =>
    cases hg : gelitOf s i with
    | some q => exact exec_gelit_wf h hg
    | none => exact exec_event_wf h hg he

end

/-! ### The obligation -/

/-- Settles O54: every command keeps the canonical form, and so does every step. -/
theorem imageCanonicalKept : Obligations.ImageCanonicalKept := by
  unfold Obligations.ImageCanonicalKept
  exact fun _ t hs ht => step_leaves (p := ImageOk) (fun _ _ h => h) (fun _ _ _ h => h) (fun i _ h => exec_imageOk h i) hs t ht

end Sys2Proof.Machine
end

section
/-! PROOFS. Acyclic transfers (R311, R312, R313, R315): what a response frame, a retry and a mirrored request do, and what a response that is filed
ends: one lemma for each outcome. -/
namespace Sys2Proof.Machine

/-! ### Response frames -/

section
variable {s : State} {f : AcycFrame} (hport : s.portOn f.hdr.port = true) (hup : s.up = true)
include hport hup

/-- R312: responses before statuses, each block in its order. -/
theorem exec_acycResponseFrame_takes (hgood : f.hdr.good = true) (htype : f.hdr.frameType = 0x82) :
    exec (.acycResponseFrame f) s = .next (f.statuses.foldl (fun s x => s.takeStatus (f.hdr.port / 2) x)
      (f.responses.foldl (fun s r => s.takeResponse (f.hdr.port / 2) r) s)) := by
  change execAcycResponseFrame f s = _
  simp [execAcycResponseFrame, hport, hup, hgood, htype]

theorem exec_acycResponseFrame_discards (hbad : f.hdr.good = false ∨ f.hdr.frameType ≠ 0x82) :
    exec (.acycResponseFrame f) s = .next (s.discardFrame f.hdr.port) := by
  change execAcycResponseFrame f s = _
  have hguard : (!f.hdr.good || decide (f.hdr.frameType ≠ 0x82)) = true := by simpa using hbad
  simp only [execAcycResponseFrame, hport, hup, hguard, Bool.not_true, Bool.or_false, Bool.false_eq_true, if_false, if_true]

end

/-! ### Retries -/

section
variable {s : State} {tag : Nat} {x : Acyc} (hx : NMap.get s.acyc tag = some x)
include hx

/-- R315: 100 ms run from the transmission of the request. -/
theorem exec_acyclicRetry_early (hearly : s.clk.ring < x.deadline ∨ s.unsent x = true) : exec (.acyclicRetry tag) s = .next s := by
  change execAcyclicRetry tag s = _
  have hguard : s.clk.ring < x.deadline ∨ (x.attempts = 0 ∧ x.purpose ≠ 2) ∨ s.unsent x = true := hearly.imp_right .inr
  simp only [execAcyclicRetry, hx, if_pos hguard]

section
variable (hown : x.purpose ≠ 2) (hdue : x.deadline ≤ s.clk.ring) (hsent : s.unsent x = false)
include hown hdue hsent

/-- R315: a request that was asked at least once and whose deadline has come ends with TIMEOUT after three attempts, and is asked again before. -/
theorem exec_acyclicRetry_due (hasked : 0 < x.attempts) :
    exec (.acyclicRetry tag) s = .next (if 3 ≤ x.attempts then s.endAcyc x 1 [] else s.queueAcyc x) := by
  change execAcyclicRetry tag s = _
  simp [execAcyclicRetry, hx, Nat.not_lt.mpr hdue, Nat.ne_of_gt hasked, hown, hsent]

theorem exec_acyclicRetry_timeout (hspent : 3 ≤ x.attempts) : exec (.acyclicRetry tag) s = .next (s.endAcyc x 1 []) := by
  rw [exec_acyclicRetry_due hx hown hdue hsent (by omega), if_pos hspent]

theorem exec_acyclicRetry_again (hasked : 0 < x.attempts) (hleft : x.attempts < 3) : exec (.acyclicRetry tag) s = .next (s.queueAcyc x) := by
  rw [exec_acyclicRetry_due hx hown hdue hsent hasked, if_neg (Nat.not_le.mpr hleft)]

end
end

/-! ### What a response ends -/

section
variable {s : State} {ring : Nat} {r : AcycRsp}

/-- R313: the transaction ends on both modules. -/
theorem State.takeResponse_answered {x : Acyc} (hx : s.answered ring r = some x) (hasked : 0 < x.attempts) :
    s.takeResponse ring r =
      if s.alone = true then s.endResponse ring x r else (s.endResponse ring x r).send 3 (.mirror (.acycDone ring r)) := by
  have hkept : (some x).filter (fun x => decide (0 < x.attempts)) = some x := Option.filter_some_pos (decide_eq_true hasked)
  rw [State.takeResponse, hx, hkept]

theorem State.takeResponse_unanswered (hnone : s.answered ring r = none) : s.takeResponse ring r = s := by
  simp [State.takeResponse, hnone]

theorem State.endMirrored_unanswered (hnone : s.answered ring r = none) : s.endMirrored ring r = s := by
  simp [State.endMirrored, hnone]

end

/-! ### The mirror of a request -/

/-- R311: a request that this module has not forwarded itself. -/
theorem exec_acyclicMirror_takes {s : State} {tx : Acyc} (hmode : s.mode = .standby ∨ s.mode = .joining)
    (hforeign : (s.acyc.map (·.2)).find? (fun x => x.purpose == 2 && x.req == tx.req) = none) :
    let x : Acyc := { tx with mirrored := true, ticket := none, purpose := 0 }
    let a := s.modStation tx.req.ring tx.req.station fun v =>
      { v with acycSeq := (tx.seq + 1) % 65536, outstanding := (v.outstanding.filter (· != tx.tag)) ++ [tx.tag] }
    exec (.acyclicMirror tx) s = .next (if a.transmits then a.queueAcyc x else { a with acyc := NMap.set a.acyc x.tag x }) := by
  change execAcyclicMirror tx s = _
  have hguard : ¬ (s.mode != .standby && s.mode != .joining) = true := by rcases hmode with h | h <;> simp [h]
  simp only [execAcyclicMirror, if_neg hguard, hforeign, Option.bind_none]

/-! ### The obligation -/

/-- Settles O23: each clause is the lemma of its outcome. -/
theorem acyclicTransfers : Obligations.AcyclicTransfers := by
  unfold Obligations.AcyclicTransfers
  intro s
  refine ⟨?takes, ?discards, ?due, ?early, ?answered, ?unanswered, ?mirror⟩
  case takes => exact fun f => exec_acycResponseFrame_takes
  case discards => exact fun f => exec_acycResponseFrame_discards
  case due =>
    exact fun tag x hx hown hdue hsent => ⟨exec_acyclicRetry_timeout hx hown hdue hsent, exec_acyclicRetry_again hx hown hdue hsent⟩
  case early => exact fun tag x => exec_acyclicRetry_early
  case answered => exact fun ring r x => State.takeResponse_answered
  case unanswered => exact fun ring r hnone => ⟨State.takeResponse_unanswered hnone, State.endMirrored_unanswered hnone⟩
  case mirror => exact fun tx => exec_acyclicMirror_takes

end Sys2Proof.Machine
end

section
/-! PROOFS. What the partner mirrors (R346, R391, R432, R463, R465, R471, R473, R507, R538, R548) and forwards (R300, R311, R575): beside a partner a
module that runs does what the message's kind says. -/
namespace Sys2Proof.Machine

/-- A message of the partner is heard beside it while the module runs. -/
theorem hears_partner {s : State} (hsolo : s.solo = false) (hup : s.up = true) : ¬ (s.solo || !s.up) = true := by
  simp [hsolo, hup]

/-- An event that a solo module, or one that does not run, passes over: a module that hears its partner does what the event says. -/
theorem next_of_heard {s : State} (hheard : ¬ (s.solo || !s.up) = true) (t : State) :
    (.next (if s.solo || !s.up then s else t) : Host.Outcome State Fault Refusal) = .next t :=
  congrArg _ (if_neg hheard)

/-! ### Mirrored commands with a choice in them -/

section
variable {s : State} (hheard : ¬ (s.solo || !s.up) = true)
include hheard

/-- R471: a value of PAIR scope waits for its instant. -/
theorem exec_commandMirror_settings_pair {at_ unit : Nat} (values : List (Nat × Int)) (hunit : unit < 256) :
    exec (.commandMirror (.settings at_ unit values)) s =
      .next (s.modSettings fun c => { c with applies := c.applies ++ [(at_, unit, values)] }) :=
  (next_of_heard hheard _).trans (congrArg _ (if_neg (Nat.not_le.mpr hunit)))

/-- Values of SIDE scope come under the number of the other side's unit, and are taken at once (log 44). -/
theorem exec_commandMirror_settings_side {at_ unit : Nat} (values : List (Nat × Int)) (hunit : 256 ≤ unit) :
    exec (.commandMirror (.settings at_ unit values)) s = .next ((s.setValues unit values).canUnlike (unit - 288)) :=
  (next_of_heard hheard _).trans (congrArg _ (if_pos hunit))

/-- R469: a unit that runs again at the partner; with a CAN controller the serving role may move (R507). -/
theorem exec_commandMirror_quiesce_ends (unit : Nat) :
    let a := s.modPair fun p => { p with peerQuiesced := p.peerQuiesced.filter (· != unit) }
    exec (.commandMirror (.quiesce unit false)) s = .next (if 0x20 ≤ unit ∧ unit ≤ 0x23 then a.canRestarted (unit - 0x20) else a) := by
  intro a
  have hcan : (!false && decide (0x20 ≤ unit) && decide (unit ≤ 0x23)) = true ↔ 0x20 ≤ unit ∧ unit ≤ 0x23 := by simp
  exact (next_of_heard hheard _).trans (congrArg _ (ite_congr (propext hcan) (fun _ => rfl) fun _ => rfl))

/-- R571: the standby activates with the owner (log 59). -/
theorem exec_commandMirror_activate (hmode : s.mode = .standby) (hstate : s.update.state = 1 ∨ s.update.state = 2) :
    exec (.commandMirror .activate) s =
      .next (s.modUpdate fun u => { u with state := 3, scopePair := true, pairStep := 1, bytes := 0 }) :=
  (next_of_heard hheard _).trans (congrArg _ (if_pos ⟨hmode, hstate⟩))

/-! ### Requests that the owner decides -/

/-- R311. -/
theorem exec_forwardedRequest_acyclic (q : AcycReq) :
    exec (.forwardedRequest (.acyclic q)) s = .next (if s.mode = .owner then s.offerAcyc q none 0 else s) := next_of_heard hheard _

section
variable (howner : s.mode = .owner)
include howner

/-- R575: the one slot of the pair is granted where it is free. -/
theorem exec_forwardedRequest_slot_granted (kind id : Nat) (hfree : s.slot = none) :
    exec (.forwardedRequest (.slot kind id)) s = .next { s with slot := some ⟨kind, s.front.side.other, id⟩ } :=
  ((next_of_heard hheard _).trans (congrArg _ (if_pos howner))).trans (by rw [hfree])

/-- R575: otherwise its holder is named. -/
theorem exec_forwardedRequest_slot_held (kind id : Nat) {x : Slot} (hheld : s.slot = some x) :
    exec (.forwardedRequest (.slot kind id)) s = .next (s.send 3 (.forward (.slot x.holder x.id))) :=
  ((next_of_heard hheard _).trans (congrArg _ (if_pos howner))).trans (by rw [hheld])

end

/-! ### The slot as the owner tells it -/

section
variable (hmode : s.mode ≠ .owner)
include hmode

/-- R575: what the owner tells of its holder. A proof test starts on a synchronised standby (log 52), a change begins here too. -/
theorem exec_forwardedRequest_slot_told (kind id : Nat) :
    let a : State := { s with slot := some ⟨kind, s.front.side.other, id⟩ }
    exec (.forwardedRequest (.slot kind id)) s = .next (
      if kind = 2 ∧ s.mode = .standby ∧ s.pair.synchronised = true then a.startProof
      else if kind = 4 ∧ (s.change.state = 0 ∨ 5 ≤ s.change.state) then { a with change := { changeReset with state := 1, tenant := id } }
      else a) :=
  (next_of_heard hheard _).trans (congrArg _ (if_neg hmode))

theorem exec_forwardedRequest_slot_kept {kind : Nat} (id : Nat) (hproof : kind ≠ 2) (hchange : kind ≠ 4) :
    exec (.forwardedRequest (.slot kind id)) s = .next { s with slot := some ⟨kind, s.front.side.other, id⟩ } := by
  rw [exec_forwardedRequest_slot_told hheard hmode, if_neg fun h => hproof h.1, if_neg fun h => hchange h.1]

theorem exec_forwardedRequest_slot_change (id : Nat) (hidle : s.change.state = 0 ∨ 5 ≤ s.change.state) :
    exec (.forwardedRequest (.slot 4 id)) s =
      .next { s with slot := some ⟨4, s.front.side.other, id⟩, change := { changeReset with state := 1, tenant := id } } := by
  rw [exec_forwardedRequest_slot_told hheard hmode, if_neg fun h => absurd h.1 (by decide), if_pos ⟨rfl, hidle⟩]

end

theorem exec_forwardedRequest_slot_proof (id : Nat) (hmode : s.mode = .standby) (hsync : s.pair.synchronised = true) :
    exec (.forwardedRequest (.slot 2 id)) s = .next ({ s with slot := some ⟨2, s.front.side.other, id⟩ } : State).startProof := by
  rw [exec_forwardedRequest_slot_told hheard (by simp [hmode]), if_pos ⟨rfl, hmode, hsync⟩]

end

/-! ### The slot is released -/

/-- The slot after the holder of a kind has released it: free where that kind held it, and otherwise as it was. -/
def State.slotWithout (s : State) (kind : Nat) : State := { s with slot := if (s.slot.map (·.holder)) = some kind then none else s.slot }

section
variable {s : State} (hheard : ¬ (s.solo || !s.up) = true)
include hheard

theorem exec_forwardedRequest_release_frees {kind : Nat} (hupdate : kind ≠ 1) (hchange : kind ≠ 4) :
    exec (.forwardedRequest (.release kind)) s = .next (s.slotWithout kind) := by
  change execForwardedRequest (.release kind) s = _
  simp only [execForwardedRequest, if_neg hheard, beq_iff_eq, hupdate, hchange, false_and, if_false, State.slotWithout]

/-- What a change held the slot for ends with it (log 37). -/
theorem exec_forwardedRequest_release_change (hmode : s.mode ≠ .owner) :
    exec (.forwardedRequest (.release 4)) s = .next ((s.slotWithout 4).abortChange (s.slotWithout 4).change.lastResult) := by
  change execForwardedRequest (.release 4) s = _
  simp only [execForwardedRequest, if_neg hheard, beq_iff_eq, true_and, if_pos hmode, State.slotWithout]

/-- At the owner an update of the pair ends (log 59). -/
theorem exec_forwardedRequest_release_update_owner (hmode : s.mode = .owner) :
    exec (.forwardedRequest (.release 1)) s =
      .next (if (s.slotWithout 1).pairUpdate then (s.slotWithout 1).endUpdate 7 7 else s.slotWithout 1) := by
  change execForwardedRequest (.release 1) s = _
  simp [execForwardedRequest, hheard, hmode, State.slotWithout]

section
variable (hmode : s.mode ≠ .owner)
include hmode

/-- R564: staging that no session of this module runs is given up. -/
theorem exec_forwardedRequest_release_update_aborts (hsession : s.update.session = none) (hstate : s.update.state = 1 ∨ s.update.state = 2) :
    exec (.forwardedRequest (.release 1)) s = .next (s.slotWithout 1).abortUpdate := by
  change execForwardedRequest (.release 1) s = _
  simp [execForwardedRequest, hheard, hmode, hsession, hstate, State.slotWithout]

section
variable (hrunning : ¬ (s.update.session = none ∧ (s.update.state = 1 ∨ s.update.state = 2)))
include hrunning

theorem exec_forwardedRequest_release_update_other (hpair : s.pairUpdate = false) :
    exec (.forwardedRequest (.release 1)) s = .next (s.slotWithout 1) := by
  change execForwardedRequest (.release 1) s = _
  simp [execForwardedRequest, hheard, hmode, hrunning, hpair, State.slotWithout]

/-- An update of the pair has ended here too once both modules run the same generation (log 59). -/
theorem exec_forwardedRequest_release_update_done (hpair : s.pairUpdate = true)
    (hsame : (s.pair.peerIdent.map (·.generation)) = some s.ident.generation) :
    exec (.forwardedRequest (.release 1)) s =
      .next ((s.slotWithout 1).modUpdate fun u => { u with state := 6, pairStep := 6, bridge := false, session := none }) := by
  change execForwardedRequest (.release 1) s = _
  simp [execForwardedRequest, hheard, hmode, hrunning, hpair, hsame, State.slotWithout]

end
end
end

/-! ### The obligation -/

/-- Settles O26: a message whose kind leaves no choice does what the kind says, and each other clause is the lemma of its outcome. -/
theorem partnerMessages : Obligations.PartnerMessages := by
  unfold Obligations.PartnerMessages
  refine ⟨?mirrored, ?forwarded⟩
  case mirrored =>
    intro s hsolo hup
    have hheard := hears_partner hsolo hup
    refine ⟨?hostWrite, ?settingsPair, ?settingsSide, ?gateEntry, ?revoke, ?stationTable, ?alarm, ?lanternProgram, ?quiesceBegins, ?quiesceEnds,
      ?canServe, ?canLost, ?acycDone, ?healthAck, ?activate, ?changeAbort, ?assign, ?delays, ?start, ?stop, ?unload⟩
    case settingsPair => exact fun _ _ => exec_commandMirror_settings_pair hheard
    case settingsSide => exact fun _ _ => exec_commandMirror_settings_side hheard
    case quiesceEnds => exact exec_commandMirror_quiesce_ends hheard
    case activate => exact exec_commandMirror_activate hheard
    all_goals
      intros
      exact next_of_heard hheard _
  case forwarded =>
    intro s hsolo hup
    have hheard := hears_partner hsolo hup
    refine ⟨?acyclic, ?acyclicOther, ?assignOwner, ?granted, ?held, ?kept, ?proof, ?change, ?frees, ?freesChange, ?freesUpdateOwner, ?freesUpdate⟩
    case acyclic => exact fun q howner => (exec_forwardedRequest_acyclic hheard q).trans (congrArg _ (if_pos howner))
    case acyclicOther => exact fun q hmode => (exec_forwardedRequest_acyclic hheard q).trans (congrArg _ (if_neg hmode))
    case assignOwner => exact fun ring station => next_of_heard hheard _
    case granted => exact fun kind id howner => exec_forwardedRequest_slot_granted hheard howner kind id
    case held => exact fun kind id x howner => exec_forwardedRequest_slot_held hheard howner kind id
    case kept => exact fun kind id hmode => exec_forwardedRequest_slot_kept hheard hmode id
    case proof => exact exec_forwardedRequest_slot_proof hheard
    case change => exact fun id hmode => exec_forwardedRequest_slot_change hheard hmode id
    case frees => exact fun kind => exec_forwardedRequest_release_frees hheard
    case freesChange => exact exec_forwardedRequest_release_change hheard
    case freesUpdateOwner => exact exec_forwardedRequest_release_update_owner hheard
    case freesUpdate =>
      exact fun hmode => ⟨exec_forwardedRequest_release_update_aborts hheard hmode, fun hrunning =>
        ⟨exec_forwardedRequest_release_update_other hheard hmode hrunning, exec_forwardedRequest_release_update_done hheard hmode hrunning⟩⟩

end Sys2Proof.Machine
end

section
/-! PROOFS. The partner link and the supply (R335, R340 to R342, R348), and the partner lost and seen again (R349, R350, R356, R365 to R367): one
lemma for each outcome of an event. -/
namespace Sys2Proof.Machine

/-! ### The link -/

/-- The module once a heartbeat is heard (R340): the link is no longer silent, the partner's free blocks are known, credits have come back, and with
both lanes lost both are in service again (log 57). -/
def State.heartbeatHeard (s : State) (free credits : List Nat) : State :=
  { s with
    pair := { s.pair with
      lastLink := some s.clk.local_, linkSilent := false, peerFree := free }
    link := { s.link with
      lane0 := s.link.lane0 || (!s.link.lane0 && !s.link.lane1), lane1 := s.link.lane1 || (!s.link.lane0 && !s.link.lane1)
      classes := returnCredits s.link.classes credits } }

theorem exec_linkHeartbeat_unheard {s : State} (health : BitVec 64) (epoch tick : Nat) (free credits : List Nat)
    (hdeaf : s.solo = true ∨ s.up = false) : exec (.linkHeartbeat health epoch tick free credits) s = .next s :=
  congrArg _ (if_pos (by simpa using hdeaf))

section
variable {s : State} (hheard : ¬ (s.solo || !s.up) = true)
include hheard

/-- R340: in a state that the partner's health does not send elsewhere, that health is all that a heartbeat brings. -/
theorem exec_linkHeartbeat_heard (health : BitVec 64) (epoch tick : Nat) (free credits : List Nat)
    (hmode : (((s.heartbeatHeard free credits).takeHealth health epoch).mode = .standbyFaulted
      ∨ ((s.heartbeatHeard free credits).takeHealth health epoch).mode = .lantern
      ∨ (((s.heartbeatHeard free credits).takeHealth health epoch).mode = .standby ∧ s.pair.linkSilent = false))) :
    exec (.linkHeartbeat health epoch tick free credits) s = .next ((s.heartbeatHeard free credits).takeHealth health epoch) := by
  refine (next_of_heard hheard _).trans (congrArg _ ?_)
  extract_lets before back link pair s1 s2
  change s2.mode = .standbyFaulted ∨ s2.mode = .lantern ∨ s2.mode = .standby ∧ _ at hmode
  change _ = s2
  clear_value s2
  rcases hmode with hmode | hmode | ⟨hmode, hlink⟩
  · simp [hmode]
  · simp [hmode]
  · simp [hmode, back, hlink]

/-- R342: after the third resend the lane is lost. -/
theorem exec_linkFrameResend_loses (lane : Fin 2) {cls : Fin 5} {seq : Nat}
    (hspent : 3 ≤ (((s.link.classes[cls.val]?).bind fun c => NMap.get c.unacked seq)).getD 0) :
    exec (.linkFrameResend lane cls seq) s = .next (s.loseLane lane) :=
  (next_of_heard hheard _).trans (congrArg _ (if_pos hspent))

/-- R342: before that the frame is sent again and counted. -/
theorem exec_linkFrameResend_counts (lane : Fin 2) {cls : Fin 5} {seq : Nat}
    (hleft : (((s.link.classes[cls.val]?).bind fun c => NMap.get c.unacked seq)).getD 0 < 3) :
    exec (.linkFrameResend lane cls seq) s = .next ((s.modLink fun l =>
      { l with
        classes := modAt l.classes cls fun c =>
          { c with unacked := NMap.set c.unacked seq ((((s.link.classes[cls.val]?).bind fun c => NMap.get c.unacked seq)).getD 0 + 1) }
        resends0 := if lane = 0 then satInc l.resends0 else l.resends0
        resends1 := if lane = 0 then l.resends1 else satInc l.resends1 }).count (0x4000 + lane)) :=
  (next_of_heard hheard _).trans (congrArg _ (if_neg (Nat.not_le.mpr hleft)))

end

/-! ### Memory and the supply -/

section
variable {s : State} (hup : s.up = true)
include hup

/-- An event that only a module that runs takes notice of. -/
theorem next_of_up (t : State) : (.next (if !s.up then s else t) : Host.Outcome State Fault Refusal) = .next t := by
  simp [hup]

/-- R348: a feed is lost, and with every monitored feed the power. -/
theorem exec_feedLost_present {feed : Fin 2} (hpresent : (if feed = 0 then s.feeds.present1 else s.feeds.present2) = true) :
    exec (.feedLost feed) s =
      .next (if (s.feedChange feed false).feedsGone then (s.feedChange feed false).failPower else s.feedChange feed false) := by
  change execFeedLost feed s = _
  simp only [execFeedLost, hpresent, hup, Bool.not_true, Bool.or_false, Bool.false_eq_true, if_false]

/-- R348: a feed is restored; a module that still runs on its hold-up restarts (log 58). -/
theorem exec_feedRestored_absent {feed : Fin 2} (habsent : (if feed = 0 then s.feeds.present1 else s.feeds.present2) = false) :
    exec (.feedRestored feed) s = .next (
      if (s.feedChange feed true).front.powerFail && !(s.feedChange feed true).feedsGone then
        ((s.feedChange feed true).modFront fun f => { f with powerFail := false }).restart .powerFail
      else s.feedChange feed true) := by
  change execFeedRestored feed s = _
  simp only [execFeedRestored, habsent, hup, Bool.not_true, Bool.false_eq_true, if_false]

theorem exec_feedRestored_running {feed : Fin 2} (habsent : (if feed = 0 then s.feeds.present1 else s.feeds.present2) = false)
    (hpower : (s.feedChange feed true).front.powerFail = false) : exec (.feedRestored feed) s = .next (s.feedChange feed true) := by
  rw [exec_feedRestored_absent hup habsent, hpower]
  rfl

theorem exec_feedRestored_restarts {feed : Fin 2} (habsent : (if feed = 0 then s.feeds.present1 else s.feeds.present2) = false)
    (hpower : (s.feedChange feed true).front.powerFail = true) (hfed : (s.feedChange feed true).feedsGone = false) :
    exec (.feedRestored feed) s =
      .next (((s.feedChange feed true).modFront fun f => { f with powerFail := false }).restart .powerFail) := by
  rw [exec_feedRestored_absent hup habsent, hpower, hfed]
  rfl

end

/-! ### A silent link -/

/-- The owner was seen beside the link: HEALTHY stands, or a frame of a ring is younger than the last heartbeat. -/
def State.seenBeside (s : State) (heard : Nat) : Bool :=
  s.pair.peerHealthy || (match s.pair.lastRing with | some r => decide (heard + 100000 < r) | none => false)

/-- The module once its link, last heard at an instant, has been silent for 3 ms (R349); a standby whose owner was seen beside it is no longer synchronised (R367). -/
def State.linkGone (s : State) (heard : Nat) : State := s.modPair fun p =>
  { p with linkSilent := true, linkWasSilent := true, synchronised := p.synchronised && !(s.mode == .standby && s.seenBeside heard),
           holdoffFrom := none, holdoffDue := false }

/-- A module that is ISOLATED (R349): recorded and told beside a partner; nothing that the partner said stands any more. -/
def State.leftAlone (s : State) : State :=
  (if s.solo then s else (s.record 349 1 sevWarning 898 noSource []).fire 898).modPair fun p => { p with peerHealth := 0, peerClaim := false }

/-- What a module that is alone becomes (R355, R358, R367, R571). -/
def State.standAlone (s : State) : State :=
  if s.mode = .standby then s.takeOver .silenceClaim else if s.mode = .joining then s.ownerLost
  else if s.mode = .owner then s.updateOrphaned else s.tryOwn

section
variable {s : State}

theorem exec_pathSilent_again (hsilent : s.pair.linkSilent = true) : exec (.pathSilent 0) s = .next s := by
  change execPathSilent 0 s = _
  simp [execPathSilent, hsilent]

section
variable (hup : s.up = true) {t : Nat} (hlast : s.pair.lastLink = some t) (hdue : t + 3000000 ≤ s.clk.local_) (hfirst : s.pair.linkSilent = false)
include hup hlast hdue hfirst

/-- R349: a link that falls silent leaves the module alone where the other paths are silent too. -/
theorem exec_pathSilent_link :
    exec (.pathSilent 0) s = .next (if !(s.linkGone t).isolated then s.linkGone t else (s.linkGone t).leftAlone.standAlone) := by
  have hquiet : t + 3000000 ≤ s.clk.local_ + 50000 := by omega
  have hlink : exec (.pathSilent 0) s = .next (
      if !(s.linkGone (s.pair.lastLink.getD 0)).isolated then s.linkGone (s.pair.lastLink.getD 0)
      else (s.linkGone (s.pair.lastLink.getD 0)).leftAlone.standAlone) :=
    congrArg _ (if_neg (by simp [hup, hlast, hquiet, hfirst]))
  rwa [hlast, Option.getD_some] at hlink

theorem exec_pathSilent_other_paths (hseen : (s.linkGone t).isolated = false) : exec (.pathSilent 0) s = .next (s.linkGone t) := by
  rw [exec_pathSilent_link hup hlast hdue hfirst, hseen]
  rfl

theorem exec_pathSilent_alone (halone : (s.linkGone t).isolated = true) :
    exec (.pathSilent 0) s = .next (s.linkGone t).leftAlone.standAlone := by
  rw [exec_pathSilent_link hup hlast hdue hfirst, halone]
  rfl

end

/-! ### The discretes and the messages of the pair -/

/-- The module once HEALTHY of its partner has fallen (R350): recorded and told. -/
def State.healthyGone (s : State) : State :=
  ((s.modPair fun p => { p with peerHealthy := false, lastDisc := some s.clk.local_ }).record 350 1 sevWarning 897 noSource []).fire 897

/-- The partner takes part no more: the full share falls to this module (R497), and nothing waits for the partner (R19, R84). -/
def State.withoutPartner (s : State) : State := ((if s.io.half then s.fullShare else s).stopWaiting).checksAlone

/-- R350: a module that does not join goes on without its partner. -/
theorem exec_healthyLost_goes_on (hhealthy : s.pair.peerHealthy = true) (hmode : s.healthyGone.withoutPartner.mode ≠ .joining) :
    exec .healthyLost s = .next s.healthyGone.withoutPartner := by
  refine congrArg _ ((if_neg ?_).trans (if_neg fun h => hmode h.1))
  simp [hhealthy]

/-- R350; a standby that has lost the link sees its owner again and is no longer synchronised (R367). -/
theorem exec_healthyPresent_seen :
    exec .healthyPresent s = .next (s.modPair fun p => { p with
      peerHealthy := true, discSilent := false, lastDisc := some s.clk.local_
      synchronised := p.synchronised && !(s.mode == .standby && p.linkSilent) }) := by
  refine congrArg Host.Outcome.next ?_
  by_cases hlost : s.mode = .standby ∧ s.pair.linkSilent = true
  · exact (if_pos hlost).trans (by simp [State.modPair, hlost])
  · have hsync : (s.mode == .standby && s.pair.linkSilent) = false := by simpa using hlost
    exact (if_neg hlost).trans (by simp [State.modPair, hsync])

/-- R350: a claim that falls, that stood already, or that rises outside LANTERN is noted. -/
theorem exec_ownerClaimChange_noted {level : Bool} (hnoted : level = false ∨ s.pair.peerClaim = true ∨ s.mode ≠ .lantern) :
    exec (.ownerClaimChange level) s = .next (s.modPair fun p => { p with peerClaim := level }) := by
  refine congrArg _ (if_neg ?_)
  rcases hnoted with h | h | h <;> simp [h]

/-- R366. -/
theorem exec_handoverPulse_standby (hmode : s.mode = .standby) (hup : s.up = true) (hplan : s.pair.handover = none) :
    exec .handoverPulse s = .next (s.takeOver .none) := by
  change execHandoverPulse s = _
  simp [execHandoverPulse, hmode, hup, hplan]

theorem exec_handoverPulse_lantern (hmode : s.mode = .lantern) (hshare : s.io.half = false) : exec .handoverPulse s = .next s := by
  change execHandoverPulse s = _
  simp [execHandoverPulse, hmode, hshare]

end

/-! ### The obligation -/

/-- Settles O30: each clause is the lemma of its event's outcome. -/
theorem linkAndPaths : Obligations.LinkAndPaths := by
  unfold Obligations.LinkAndPaths
  refine ⟨?link, ?paths⟩
  case link =>
    intro s
    refine ⟨?heartbeat, ?heartbeatUnheard, ?resend, ?repair, ?uncorrectable, ?patrol, ?lost1, ?lost2, ?restored1, ?restored2⟩
    case heartbeat =>
      exact fun health epoch tick free credits hsolo hup =>
        exec_linkHeartbeat_heard (hears_partner hsolo hup) health epoch tick free credits
    case heartbeatUnheard => exact fun health epoch tick free credits => exec_linkHeartbeat_unheard health epoch tick free credits
    case resend =>
      exact fun lane cls seq hsolo hup => ⟨exec_linkFrameResend_loses (hears_partner hsolo hup) lane,
        exec_linkFrameResend_counts (hears_partner hsolo hup) lane, next_of_heard (hears_partner hsolo hup) _⟩
    case repair => exact fun _ => rfl
    case uncorrectable => exact fun hup => next_of_up hup _
    case patrol => exact fun _ _ hup => next_of_up hup _
    case lost1 => exact fun hup => exec_feedLost_present (feed := 0) hup
    case lost2 => exact fun hup => exec_feedLost_present (feed := 1) hup
    case restored1 => exact fun hup habsent _ => exec_feedRestored_running (feed := 0) hup habsent
    case restored2 => exact fun hup habsent => exec_feedRestored_restarts (feed := 1) hup habsent
  case paths =>
    intro s
    refine ⟨?silent, ?silentAgain, ?healthyLost, ?healthyPresent, ?claim, ?pulse, ?pulseLantern, ?leaving, ?identityAsked, ?identityRead⟩
    case silent =>
      intro hup t hlast hdue hfirst elsewhere a
      refine ⟨exec_pathSilent_other_paths hup hlast hdue hfirst, fun halone (hsolo : (s.linkGone t).solo = false) => ?_⟩
      rw [exec_pathSilent_alone hup hlast hdue hfirst halone, State.leftAlone, hsolo]
      rfl
    case silentAgain => exact exec_pathSilent_again
    case healthyLost => exact fun hhealthy _ => exec_healthyLost_goes_on hhealthy
    case healthyPresent => exact exec_healthyPresent_seen
    case claim => exact fun level => exec_ownerClaimChange_noted
    case pulse => exact exec_handoverPulse_standby
    case pulseLantern => exact exec_handoverPulse_lantern
    case leaving => exact fun hsolo hup => next_of_heard (hears_partner hsolo hup) _
    case identityAsked => exact fun hsolo hup => next_of_heard (hears_partner hsolo hup) _
    case identityRead => exact fun _ hsolo hup => next_of_heard (hears_partner hsolo hup) _

end Sys2Proof.Machine
end

section
/-! PROOFS. Ring time as the standby follows it, and the closures (R349, R427, R428): one lemma for each outcome of an event. -/
namespace Sys2Proof.Machine

/-! ### Frames of the partner -/

/-- R427: the owner's ring time taken from a RING-TIME frame; a synchronised standby also compares the shifts that it carries (R290). -/
def State.takeRingTime (s : State) (f : PartnerFrame) : State :=
  let b := s.followFrame (f.ringTime + s.pathDelay f.hdr.port)
  if b.mode = .standby ∧ b.pair.synchronised = true then b.checkShifts (f.hdr.port / 2) f.hdr.tick f.shifts else b

section
variable {s : State} {f : PartnerFrame} (hup : s.up = true) (hport : s.portOn f.hdr.port = true)
include hup hport

/-- R269 and R273. -/
theorem exec_partnerRingFrame_bad (hbad : f.hdr.good = false ∨ 5 < f.hdr.frameType) :
    exec (.partnerRingFrame f) s = .next (s.discardFrame f.hdr.port) := by
  have hdiscarded : (!f.hdr.good || decide (5 < f.hdr.frameType)) = true := by simpa using hbad
  exact congrArg _ ((if_neg (by simp [hup, hport])).trans (if_pos hdiscarded))

section
variable (hgood : f.hdr.good = true) (htype : f.hdr.frameType ≤ 5)
include hgood htype

/-- A good frame is passed over where this side sent it, and otherwise seen. -/
theorem exec_partnerRingFrame_good :
    exec (.partnerRingFrame f) s = .next (
      if f.hdr.senderSide = s.front.side then s
      else
        let a := s.seenOnRing.seePair f.hdr.epoch f.hdr.ownerSide
        if f.hdr.frameType = 1 ∧ (f.hdr.port % 2 == 1 || !(a.ring (f.hdr.port / 2)).closed a.clk.local_) = true
          ∧ (a.mode = .standby ∨ a.mode = .joining ∨ a.mode = .standbyFaulted) then a.takeRingTime f
        else a) := by
  have hkept : ¬ (!f.hdr.good || decide (5 < f.hdr.frameType)) = true := by simpa [hgood] using htype
  exact congrArg _ ((if_neg (by simp [hup, hport])).trans (if_neg hkept))

theorem exec_partnerRingFrame_own (hside : f.hdr.senderSide = s.front.side) : exec (.partnerRingFrame f) s = .next s :=
  (exec_partnerRingFrame_good hup hport hgood htype).trans (congrArg _ (if_pos hside))

variable (hside : f.hdr.senderSide ≠ s.front.side)
include hside

/-- R349: an owner and a module in LANTERN see the pair in the frame, and take no ring time from it. -/
theorem exec_partnerRingFrame_seen
    (hmode : (s.seenOnRing.seePair f.hdr.epoch f.hdr.ownerSide).mode = .owner
      ∨ (s.seenOnRing.seePair f.hdr.epoch f.hdr.ownerSide).mode = .lantern) :
    exec (.partnerRingFrame f) s = .next (s.seenOnRing.seePair f.hdr.epoch f.hdr.ownerSide) := by
  refine (exec_partnerRingFrame_good hup hport hgood htype).trans (congrArg _ ((if_neg hside).trans (if_neg ?_)))
  rintro ⟨-, -, hfollows⟩
  rcases hmode with h | h <;> simp [h] at hfollows

/-- R427: ring time moves after a RING-TIME frame of the closure, or of the line while there is no closure. -/
theorem exec_partnerRingFrame_follows (htick : f.hdr.frameType = 1)
    (hdirect : f.hdr.port % 2 = 1 ∨ ((s.seenOnRing.seePair f.hdr.epoch f.hdr.ownerSide).ring (f.hdr.port / 2)).closed
      (s.seenOnRing.seePair f.hdr.epoch f.hdr.ownerSide).clk.local_ = false)
    (hmode : (s.seenOnRing.seePair f.hdr.epoch f.hdr.ownerSide).mode = .standby
      ∨ (s.seenOnRing.seePair f.hdr.epoch f.hdr.ownerSide).mode = .joining
      ∨ (s.seenOnRing.seePair f.hdr.epoch f.hdr.ownerSide).mode = .standbyFaulted) :
    exec (.partnerRingFrame f) s = .next ((s.seenOnRing.seePair f.hdr.epoch f.hdr.ownerSide).takeRingTime f) := by
  refine (exec_partnerRingFrame_good hup hport hgood htype).trans (congrArg _ ((if_neg hside).trans (if_pos ⟨htick, ?_, hmode⟩)))
  simpa using hdirect

end
end

/-! ### Closures -/

section
variable {s : State}

/-- R428: a HEARTBEAT on an odd port is seen, its HEALTH word taken, and the instant of its arrival kept. -/
theorem exec_closureHeartbeat_taken {hdr : RingHdr} (health : BitVec 64) (stored stamp : Nat) (hup : s.up = true)
    (hport : s.portOn hdr.port = true) (hodd : hdr.port % 2 = 1) (hgood : hdr.good = true) (htype : hdr.frameType = 6) :
    exec (.closureHeartbeat hdr health stored stamp) s =
      .next (((s.seenOnRing.seePair hdr.epoch hdr.ownerSide).takeHealth health hdr.epoch).modRing (hdr.port / 2) fun r =>
        { r with closureAt := some stamp }) :=
  congrArg _ ((if_neg (by simp [hup, hport, hodd])).trans (if_neg (by simp [hgood, htype])))

/-- R376: the HEALTH word of a partner that is no OWNER names no pair. -/
theorem State.takeHealth_not_owner {health : BitVec 64} (epoch : Nat) (hstate : (health.extractLsb' 0 3).toNat ≠ 3) :
    s.takeHealth health epoch = s.modPair fun p =>
      { p with peerHealth := health, peerEpoch := epoch, divergence := p.divergence || (health.getLsbD 36 && !p.peerHealth.getLsbD 36) } :=
  if_neg hstate

/-! ### Holdover -/

/-- R427. -/
theorem exec_ringTimeHoldover_holds {t : Nat} (hseen : s.time.ringSeen = some t) (hmode : s.mode = .standby)
    (hsilent : t + 50000 ≤ s.clk.local_) :
    exec .ringTimeHoldover s = .next (s.modTime fun x => { x with ringHoldover := true }) := by
  change execRingTimeHoldover s = _
  rw [execRingTimeHoldover, hseen]
  exact congrArg _ (if_pos ⟨hmode, hsilent⟩)

theorem exec_ringTimeHoldover_other (hmode : s.mode ≠ .standby) : exec .ringTimeHoldover s = .next s := by
  change execRingTimeHoldover s = _
  unfold execRingTimeHoldover
  cases s.time.ringSeen with
  | none => rfl
  | some t => exact congrArg _ (if_neg fun h => hmode h.1)

end

/-! ### The obligation -/

/-- Settles O27: each clause is the lemma of its event's outcome. -/
theorem ringTimeFollowing : Obligations.RingTimeFollowing := by
  unfold Obligations.RingTimeFollowing
  intro s hup
  refine ⟨?bad, ?own, ?tick, ?heartbeat, ?health, ?delay, ?holdover, exec_ringTimeHoldover_other⟩
  case bad => exact fun f hport => exec_partnerRingFrame_bad hup hport
  case own => exact fun f hport => exec_partnerRingFrame_own hup hport
  case tick =>
    intro f hport hgood htick hside a hdirect
    exact ⟨exec_partnerRingFrame_follows hup hport hgood (by omega) hside htick hdirect,
      exec_partnerRingFrame_seen hup hport hgood (by omega) hside⟩
  case heartbeat => exact fun hdr health stored stamp => exec_closureHeartbeat_taken health stored stamp hup
  case health => exact fun health epoch => State.takeHealth_not_owner epoch
  case delay => exact fun ring sent arrived peerSent peerArrived => next_of_up hup _
  case holdover => exact fun t => exec_ringTimeHoldover_holds

end Sys2Proof.Machine
end

section
/-! PROOFS. Seating, feeds, power and the lever (R365, R385 to R388, R400, R402, R404, R612), and bring-up (R387 to R392, R397, R399, R568): one lemma
for each outcome of an event. -/
namespace Sys2Proof.Machine

theorem State.not_stopped {s : State} (hup : s.up = true) : ¬ (!s.up) = true := by simp [hup]

/-! ### Feeds and the SEATED contacts -/

section
variable {s : State}

/-- R385. -/
theorem exec_feedSwitchClose_closes {feed : Fin 2} (hseated : s.front.seated = true)
    (hpresent : (if feed = 0 then s.feeds.present1 else s.feeds.present2) = true) :
    exec (.feedSwitchClose feed) s =
      .next (s.modFeeds fun f => if feed = 0 then { f with switch1 := true } else { f with switch2 := true }) :=
  congrArg _ (if_pos (Bool.and_eq_true_iff.mpr ⟨hseated, hpresent⟩))

theorem exec_feedSwitchClose_unseated (hseated : s.front.seated = false) (feed : Fin 2) : exec (.feedSwitchClose feed) s = .next s :=
  congrArg _ (if_neg (by simp [hseated]))

section
variable (hseated : s.front.seated = false)
include hseated

/-- R386: a module that still runs on its hold-up restarts (R402). -/
theorem exec_seatedMade_powered (hpower : s.front.powered = true) :
    exec .seatedMade s = .next ((s.modFront fun f => { f with seated := true }).restart .seatedLost) :=
  congrArg _ ((if_neg (Bool.eq_false_iff.mp hseated)).trans (if_pos hpower))

theorem exec_seatedMade_unpowered (hpower : s.front.powered = false) :
    exec .seatedMade s = .next { s.modFront fun f => { f with seated := true } with mode := .seated } :=
  congrArg _ ((if_neg (Bool.eq_false_iff.mp hseated)).trans (if_neg (Bool.eq_false_iff.mp hpower)))

end

/-- The module once its SEATED contacts have opened (R386): the switches of its feeds open, and it counts as removed (R398). -/
def State.unseat (s : State) : State :=
  { s with front := { s.front with seated := false }, feeds := { s.feeds with switch1 := false, switch2 := false },
           lantern := { s.lantern with removedSince := true } }

/-- What a module that is pulled while it runs leaves (R402): an owner beside a partner hands over at once, any other stops transmitting and
driving. -/
def State.pulled (s : State) : State :=
  let b := if s.mode = .owner ∧ ¬ s.solo then s.emergency else s.silencePorts.releaseLocal
  ({ b with mode := .unseated, cause := .seatedLost, time := { b.time with ppsOut := false } } : State).record 402 1 sevFault noSource noSource []

section
variable (hseated : s.front.seated = true)
include hseated

theorem exec_seatedLost_stopped (hup : s.unseat.up = false) : exec .seatedLost s = .next { s.unseat with mode := .unseated } :=
  congrArg _ ((if_neg (by simp [hseated])).trans (if_pos (congrArg not hup)))

theorem exec_seatedLost_running (hup : s.unseat.up = true) : exec .seatedLost s = .next s.unseat.pulled :=
  congrArg _ ((if_neg (by simp [hseated])).trans (if_neg (State.not_stopped hup)))

end

/-! ### The extraction lever -/

/-- The module whose lever has been opened. -/
def State.leverOpened (s : State) : State := s.modFront fun f => { f with leverOpen := true }

theorem exec_leverOpen_again (hopen : s.front.leverOpen = true) : exec .leverOpen s = .next s := congrArg _ (if_pos hopen)

section
variable (hclosed : s.front.leverOpen = false)
include hclosed

theorem exec_leverOpen_stopped (hup : s.leverOpened.up = false) : exec .leverOpen s = .next s.leverOpened :=
  congrArg _ ((if_neg (Bool.eq_false_iff.mp hclosed)).trans (if_pos (congrArg not hup)))

section
variable (hup : s.leverOpened.up = true)
include hup

/-- R400: a module that runs without owning leaves. -/
theorem exec_leverOpen_leaves (hmode : s.mode = .standby ∨ s.mode = .joining ∨ s.mode = .standbyFaulted) :
    exec .leverOpen s = .next (s.leverOpened.leverStops.leave .lever false) := by
  have hother : ¬ (s.mode = .owner ∧ ¬ s.leverOpened.solo) ∧ ¬ (s.mode = .owner ∨ s.mode = .testHold) := by
    rcases hmode with h | h | h <;> simp [h]
  exact congrArg _ ((if_neg (Bool.eq_false_iff.mp hclosed)).trans ((if_neg (State.not_stopped hup)).trans
    ((if_neg hother.1).trans ((if_neg hother.2).trans (if_pos hmode)))))

/-- R400: a module in TEST-HOLD leaves with a key. -/
theorem exec_leverOpen_testHold (hmode : s.mode = .testHold) :
    exec .leverOpen s = .next (
      if s.leverOpened.reader.present.isSome then s.leverOpened.leverStops.leave .lever true else s.leverOpened.leverRefuse) := by
  have hother : ¬ (s.mode = .owner ∧ ¬ s.leverOpened.solo) := by simp [hmode]
  exact congrArg _ ((if_neg (Bool.eq_false_iff.mp hclosed)).trans ((if_neg (State.not_stopped hup)).trans
    ((if_neg hother).trans (if_pos (Or.inr hmode)))))

/-- R365: an owner beside a synchronised standby hands over before it leaves. -/
theorem exec_leverOpen_hands_over (hmode : s.mode = .owner) (hsolo : s.leverOpened.solo = false)
    (hpeer : s.leverOpened.peerStandbySync = true) (hplan : s.leverOpened.pair.handover = none) :
    exec .leverOpen s = .next (s.leverOpened.leverStops.proposeHandover .lever true none) := by
  refine congrArg _ ((if_neg (Bool.eq_false_iff.mp hclosed)).trans ((if_neg (State.not_stopped hup)).trans
    ((if_pos ⟨hmode, Bool.eq_false_iff.mp hsolo⟩).trans ((if_pos hpeer).trans ?_))))
  rw [State.leverOpened] at hplan
  rw [hplan]
  rfl

end
end

/-- R404. -/
theorem exec_leverClose_running (hopen : s.front.leverOpen = true) (hmode : s.mode ≠ .lantern) :
    exec .leverClose s =
      .next (s.modFront fun f => { f with leverOpen := false, leverRefused := false, safeToRemove := false }) := by
  have hother : ¬ (s.mode == .lantern && s.lantern.hold == .leverOpen) = true := by simp [hmode]
  exact congrArg _ ((if_neg (by simp [hopen])).trans (if_neg hother))

/-! ### Power -/

/-- R388: the power start phase ends with a feed's switch closed. -/
theorem exec_resetReleased_starts (hpower : s.front.powered = false) (hseated : s.front.seated = true)
    (hfed : s.feeds.switch1 = true ∨ s.feeds.switch2 = true) : exec .resetReleased s = .next s.powerUp := by
  have hready : (!s.front.powered && s.front.seated && (s.feeds.switch1 || s.feeds.switch2)) = true := by simpa [hpower, hseated] using hfed
  exact congrArg _ (if_pos hready)

theorem exec_resetReleased_powered (hpower : s.front.powered = true) : exec .resetReleased s = .next s :=
  congrArg _ (if_neg (by simp [hpower]))

/-- R387: an identity that changes in the seat is recorded. -/
theorem exec_slotIdChange_records (id : Nat) (side : Side) (parity : Bool) (hup : s.up = true) :
    exec (.slotIdChange id side parity) s =
      .next (s.record 387 2 sevInfo noSource noSource [(4, id), (4, side.bit), (4, if parity then 1 else 0)]) := congrArg _ (if_pos hup)

end

/-! ### The loader and bring-up -/

section
variable {s : State}

section
variable (hup : s.up = true)
include hup

/-- R387 and R388: the loader leaves the module in LANTERN with the identity that it read; a part that fails its hash is fetched (R389). -/
theorem exec_loaderDone_enters (id : Nat) (side : Side) (parity testHold : Bool) (badPart : Nat) (hmode : s.mode = .seated) :
    let a : State :=
      { s with
        mode := .lantern
        front := { s.front with slotId := id, side := side, parityOk := parity }
        lantern := { s.lantern with phase := .bringup, hold := .none, testHoldPin := testHold, enteredAt := s.clk.local_ } }
    let b := if parity then a else a.record 387 1 sevFault noSource noSource [(4, id)]
    exec (.loaderDone id side parity testHold badPart) s = .next (if badPart = 0 then b else b.beginFetch badPart).lanternStart :=
  congrArg _ (if_neg (by simp [hup, hmode]))

/-- R397 and R399: bring-up ends in the state that its checks name, or in TEST-HOLD where its contact asks for it and no partner is seen. -/
theorem exec_bringupComplete_leaves (hmode : s.mode = .lantern) (hopen : s.lantern.bringupComplete = false) (hphase : s.lantern.phase = .bringup) :
    let a := (s.modLantern fun l => { l with bringupComplete := true, completeAt := s.clk.local_, overruns := 0 }).startUnits
    exec .bringupComplete s = .next (
      if a.lantern.testHoldPin = true ∧ a.front.parityOk = true then
        if a.pair.peerHealthy = true ∨ a.pair.peerClaim = true then a.modLantern fun l => { l with phase := .held, hold := .testHoldRefused }
        else a.enterTestHold
      else a.leaveLantern (if a.partnerSeen then a.pair.peerIdent else none)) := by
  intro a
  refine congrArg _ ((if_neg (by simp [hup, hmode, hopen, hphase])).trans ?_)
  exact ite_congr (propext Bool.and_eq_true_iff) (fun _ => ite_congr (propext Bool.or_eq_true_iff) (fun _ => rfl) fun _ => rfl) fun _ => rfl

/-- The module whose bring-up has overrun once more (R389): counted and recorded. -/
def State.bringupOverran (s : State) : State :=
  (s.modLantern fun l => { l with overruns := s.lantern.overruns + 1 }).record 389 1 sevWarning noSource noSource [(4, s.lantern.overruns + 1)]

section
variable (hmode : s.mode = .seated ∨ (s.mode = .lantern ∧ s.lantern.bringupComplete = false))
include hmode

/-- R389: a restart, and at the third overrun in a row HELD. -/
theorem exec_bringupPhaseOverrun_counted :
    exec .bringupPhaseOverrun s = .next (
      if s.lantern.overruns + 1 < 3 then s.bringupOverran.restart s.bringupOverran.cause
      else { s.bringupOverran with
        mode := .lantern, lantern := { s.bringupOverran.lantern with phase := .held, hold := .bringupTimeout, overruns := 0 } }) := by
  have hbringup : (s.mode == .seated || (s.mode == .lantern && !s.lantern.bringupComplete)) = true := by simpa using hmode
  exact congrArg _ (if_neg (by simp [hup, hbringup]))

theorem exec_bringupPhaseOverrun_restarts (hfew : s.lantern.overruns + 1 < 3) :
    exec .bringupPhaseOverrun s = .next (s.bringupOverran.restart s.bringupOverran.cause) :=
  (exec_bringupPhaseOverrun_counted hup hmode).trans (congrArg _ (if_pos hfew))

theorem exec_bringupPhaseOverrun_holds (hspent : 3 ≤ s.lantern.overruns + 1) :
    exec .bringupPhaseOverrun s = .next { s.bringupOverran with
      mode := .lantern, lantern := { s.bringupOverran.lantern with phase := .held, hold := .bringupTimeout, overruns := 0 } } :=
  (exec_bringupPhaseOverrun_counted hup hmode).trans (congrArg _ (if_neg (Nat.not_lt.mpr hspent)))

end

/-! ### Parts from the partner -/

section
variable (hmode : s.mode = .lantern) (hphase : s.lantern.phase = .fetching)
include hmode hphase

/-- R568: parts that fail a check, or are those of another hardware type (R7), are no valid parts. -/
theorem exec_partFetchDone_invalid {good : Bool} {m : FetchedManifest} (hbad : good = false ∨ m.typeCode ≠ Config.typeCode s.ident.variant) :
    exec (.partFetchDone good m) s = .next s.partInvalid := by
  have hrefused : (!good || m.typeCode != Config.typeCode s.ident.variant) = true := by simpa using hbad
  exact congrArg _ ((if_neg (by simp [hup, hmode, hphase])).trans (if_pos hrefused))

/-- R568: good parts are active after a restart. -/
theorem exec_partFetchDone_good (g : Nat) :
    exec (.partFetchDone true ⟨g, Config.typeCode s.ident.variant⟩) s = .next ((({ s with
      ident := { s.ident with generation := g }
      update := { s.update with state := 6, endCause := 6, part := 0, fetchFrom := none, recordSeq := s.update.recordSeq + 1,
                                scopePair := false, bridge := false } } : State).record 568 1 sevWarning noSource noSource
        [(4, g)]).restart .none) :=
  congrArg _ ((if_neg (by simp [hup, hmode, hphase])).trans (if_neg (by simp)))

omit hup in
/-- R568: no partner has answered for 10 s. -/
theorem exec_partFetchTimeout_late {t : Nat} (hfrom : s.update.fetchFrom = some t) (hlate : t + 10000000000 ≤ s.clk.local_) :
    exec .partFetchTimeout s = .next s.partInvalid := by
  change execPartFetchTimeout s = _
  rw [execPartFetchTimeout, hfrom]
  exact congrArg _ (if_pos ⟨hmode, hphase, by omega⟩)

end

/-! ### The lantern task -/

/-- R390 and R391: the lantern task that is armed starts its first cycle at the last of the 100 ms instants since the entry into LANTERN. -/
theorem exec_lanternCycle_starts {t : Task} (hmode : s.mode = .lantern) (htask : s.takeLanternNext.task lanternTask = some t)
    (hrunning : s.takeLanternNext.lantern.running = true) (hst : t.st = .armed) (hidle : t.inCycle = false) :
    let a := s.takeLanternNext
    let m := a.lantern.enteredAt + (a.clk.local_ - a.lantern.enteredAt) / 100000000 * 100000000
    exec .lanternCycle s = .next ((a.modTask lanternTask fun u =>
      { u.begin m 0 a.clk.local_ .notSpeculating with inputs := ((a.versionOf t).inputs.map a.localNow).eraseDups, snap := none }).tryOwn) := by
  refine congrArg _ ((if_neg (by simp [hup, hmode])).trans ?_)
  have hdue : ¬ (!s.takeLanternNext.lantern.running || !(t.st == .armed || decide (t.startAt < s.takeLanternNext.lantern.enteredAt
      + (s.takeLanternNext.clk.local_ - s.takeLanternNext.lantern.enteredAt) / 100000000 * 100000000))
      || t.inCycle && !t.transited || t.st == .faulted) = true := by simp [hrunning, hst, hidle]
  simp only [htask, if_neg hdue, if_pos hst]

end

/-! ### Outside LANTERN -/

section
variable (hmode : s.mode ≠ .lantern)
include hmode

theorem exec_partFetchTimeout_other : exec .partFetchTimeout s = .next s := by
  change execPartFetchTimeout s = _
  unfold execPartFetchTimeout
  cases s.update.fetchFrom with
  | none => rfl
  | some t => exact congrArg _ (if_neg fun h => hmode h.1)

theorem exec_lanternCycle_other : exec .lanternCycle s = .next s := congrArg _ (if_pos (by simp [hmode]))

theorem exec_bringupComplete_other : exec .bringupComplete s = .next s := congrArg _ (if_pos (by simp [hmode]))

end

/-- R568: the partner's parts are sent; no update of the pair notes that they were asked for. -/
theorem exec_partFetchRequest_sends (hup : s.up = true) (hsolo : s.solo = false) (hphase : s.lantern.phase ≠ .fetching)
    (hfree : (s.send 5 (.parts s.ident.generation)).pairUpdate = false) :
    exec .partFetchRequest s = .next (s.send 5 (.parts s.ident.generation)) := by
  have hgives : ¬ (s.solo || !s.up || s.lantern.phase == .fetching) = true := by simp [hsolo, hup, hphase]
  exact congrArg _ ((if_neg hgives).trans (if_pos (by rw [hfree]; rfl)))

end

/-! ### The obligation -/

/-- Settles O33: each clause is the lemma of its event's outcome. -/
theorem seatingAndBringUp : Obligations.SeatingAndBringUp := by
  unfold Obligations.SeatingAndBringUp
  refine ⟨?seating, ?bringup⟩
  case seating =>
    intro s
    refine ⟨exec_feedSwitchClose_closes (feed := 0), exec_feedSwitchClose_closes (feed := 1), exec_feedSwitchClose_unseated, ?made, ?lost,
      rfl, ?opened, ?closed, rfl, exec_resetReleased_starts, exec_resetReleased_powered, exec_slotIdChange_records, rfl⟩
    case made => exact fun hseated => ⟨exec_seatedMade_powered hseated, exec_seatedMade_unpowered hseated⟩
    case lost => exact fun hseated => ⟨exec_seatedLost_stopped hseated, exec_seatedLost_running hseated⟩
    case opened =>
      exact fun hclosed => ⟨exec_leverOpen_stopped hclosed, exec_leverOpen_leaves hclosed, exec_leverOpen_testHold hclosed,
        exec_leverOpen_hands_over hclosed⟩
    case closed => exact fun hopen => ⟨exec_leverOpen_again hopen, exec_leverClose_running hopen⟩
  case bringup =>
    intro s hup
    refine ⟨exec_loaderDone_enters hup, exec_bringupComplete_leaves hup, ?overrun, ?fetch, ?other, ?lantern, ?request⟩
    case overrun => exact fun hmode => ⟨exec_bringupPhaseOverrun_restarts hup hmode, exec_bringupPhaseOverrun_holds hup hmode⟩
    case fetch =>
      exact fun hmode hphase => ⟨fun m => exec_partFetchDone_invalid hup hmode hphase (Or.inl rfl),
        fun g typeCode hother => exec_partFetchDone_invalid hup hmode hphase (Or.inr hother), exec_partFetchDone_good hup hmode hphase,
        fun t => exec_partFetchTimeout_late hmode hphase⟩
    case other => exact fun hmode => ⟨exec_partFetchTimeout_other hmode, exec_lanternCycle_other hmode, exec_bringupComplete_other hmode⟩
    case lantern => exact fun hmode t htask hrunning hst hidle => exec_lanternCycle_starts hup hmode htask hrunning hst hidle
    case request => exact fun hsolo hphase _ => exec_partFetchRequest_sends hup hsolo hphase

end Sys2Proof.Machine
end

section
/-! PROOFS. What the commands of the functional units answer (R346, R459, R469 to R474): one lemma for each outcome of a command. -/
namespace Sys2Proof.Machine
open Sys2Proof.Claims

/-! ### What the commands ask -/

/-- R3: the unit is fitted. -/
theorem State.unitThere_holds {s : State} {unit : Nat} (hfitted : Config.unitAbsent s.ident.variant unit = false) (off : Nat) :
    s.unitThere off unit = .ok () := if_neg (Bool.eq_false_iff.mp hfitted)

theorem State.unitField_holds {s : State} {p : List Byte} (hfitted : Config.unitAbsent s.ident.variant (field p 0 1) = false) :
    s.unitField p = .ok (field p 0 1) := by
  rw [State.unitField, State.unitThere_holds hfitted]
  rfl

/-- R470: a unit that nobody has quiesced here is no session's own. -/
theorem State.mine_unquiesced {s : State} {unit : Nat} (hquiesce : s.quiesce unit = none) (session : Nat) :
    s.mine unit session = .error quiesceRequired := by
  rw [State.mine, hquiesce]

section
variable {s : State} {r : Req} (hfitted : Config.unitAbsent (s.accept r).ident.variant (field r.payload 0 1) = false)
  (hunit : Config.unitExists (field r.payload 0 1) = true)
include hfitted hunit

/-! ### A session begins and ends -/

/-- R469 and R473: the unit is quiesced where its function may be given up. -/
theorem exec_funcQuiesce_quiesces (hruns : s.fate ⟨0x0201, true, 2, false, .E, false⟩ r = .runs) (hlen : r.payload.length = 4)
    (hzero : field r.payload 1 3 = 0) (howner : field r.payload 0 1 ≠ 0x60 ∨ (s.accept r).owns = true)
    (hcarries : 0x10 ≤ field r.payload 0 1 → field r.payload 0 1 ≤ 0x33 → (s.accept r).partnerCarries = true)
    (hfree : (s.accept r).quiesceFree (field r.payload 0 1) r.session = .ok ()) :
    exec (.funcQuiesce r) s = .next (replied ⟨0x0201, true, 2, false, .E, false⟩ r
      ((s.accept r).quiesceUnit (field r.payload 0 1) r.session) 0 (be 2 60 ++ [0, 0])) := by
  have hmay : (field r.payload 0 1 != 0x60 || (s.accept r).owns) = true := by simpa using howner
  have hserved : (!(decide (0x10 ≤ field r.payload 0 1) && decide (field r.payload 0 1 ≤ 0x33)) || (s.accept r).partnerCarries) = true := by
    rw [Bool.or_eq_true, Bool.not_eq_true', Bool.and_eq_false_imp, decide_eq_true_iff, decide_eq_false_iff_not]
    exact or_iff_not_imp_left.mpr fun hside => hcarries (by omega) (by omega)
  refine receive_replies hruns ?_
  simp only [State.unitThere_holds hfitted, need_holds hmay, need_holds hserved, sized_holds hlen, zeros_hold hzero, need_holds hunit, hfree,
    except_ok_bind, ok]

section
variable (hlen : r.payload.length = 4) (hzero : field r.payload 1 3 = 0)
include hlen hzero

section
variable (hruns : s.fate ⟨0x0204, true, 2, false, .E, false⟩ r = .runs)
include hruns

/-- R469: what is staged is dropped with the quiesce. -/
theorem exec_funcDiscard_restarts (hmine : ((s.accept r).mine (field r.payload 0 1) r.session).isOk = true) :
    exec (.funcDiscard r) s = .next (replied ⟨0x0204, true, 2, false, .E, false⟩ r ((s.accept r).restartUnit (field r.payload 0 1)) 0 []) := by
  obtain ⟨q, hq⟩ := except_isOk hmine
  refine receive_replies hruns ?_
  simp only [State.unitField_holds hfitted, sized_holds hlen, zeros_hold hzero, need_holds hunit, hq, except_ok_bind, ok]

/-- R470. -/
theorem exec_funcDiscard_unquiesced (hquiesce : (s.accept r).quiesce (field r.payload 0 1) = none) :
    exec (.funcDiscard r) s = .next (replied ⟨0x0204, true, 2, false, .E, false⟩ r (s.accept r) 0x0D errorPlain) := by
  refine receive_refuses (e := quiesceRequired) hruns ?_
  simp only [State.unitField_holds hfitted, sized_holds hlen, zeros_hold hzero, need_holds hunit, State.mine_unquiesced hquiesce,
    except_ok_bind, except_error_bind]

end

/-- R469 and R471: what is staged takes effect, and the unit restarts; the reply names APPLY_AT. -/
theorem exec_funcRestart_applies {q : Quiesced} (hruns : s.fate ⟨0x0203, true, 2, false, .E, false⟩ r = .runs)
    (hmine : (s.accept r).mine (field r.payload 0 1) r.session = .ok q)
    (hlimits : (s.accept r).limitsOk (field r.payload 0 1) q.staged = true) (hother : field r.payload 0 1 ≠ 0x50)
    (hgate : (s.accept r).gateCheck ⟨10, 0, 1, (s.accept r).privOf r.session, if r.tenant < 512 then some r.tenant else none⟩ = none) :
    let t := (s.accept r).applyStaged (field r.payload 0 1) q.staged
    exec (.funcRestart r) s = .next (replied ⟨0x0203, true, 2, false, .E, false⟩ r t.1 0 (be 8 t.2)) := by
  refine receive_replies hruns ?_
  simp only [State.unitField_holds hfitted, sized_holds hlen, zeros_hold hzero, need_holds hunit, hmine, need_holds hlimits,
    State.throughGate_admits hgate, if_neg hother, except_ok_bind, ok]

end

/-! ### Settings -/

/-- R469 and R474: one setting is staged, and the lease starts again. -/
theorem exec_funcStage_stages {q : Quiesced} {e : Nat} {v : Int} (hruns : s.fate ⟨0x0202, true, 2, false, .E, false⟩ r = .runs)
    (hlen : r.payload.length = 12) (hcount : field r.payload 2 2 = 1) (hzero : field r.payload 1 1 = 0) (hzeroEntry : field r.payload 6 2 = 0)
    (hentry : stageEntries r.payload 1 = [(e, v)])
    (hscope : (s.accept r).owns = true ∨ pairScope (field r.payload 0 1) (e / 256) = false)
    (hthere : settingThere (s.accept r).ident.variant (field r.payload 0 1) e = true)
    (hrange : settingOk (s.accept r).ident.variant (field r.payload 0 1) e v = true) (hother : field r.payload 0 1 ≠ 0)
    (hmine : (s.accept r).mine (field r.payload 0 1) r.session = .ok q) (hroom : (NMap.set q.staged e v).length ≤ 64) :
    let a := s.accept r
    exec (.funcStage r) s = .next (replied ⟨0x0202, true, 2, false, .E, false⟩ r (a.modSettings fun x =>
      { x with quiesced := x.quiesced.map fun y =>
        if y.unit = field r.payload 0 1 then { y with staged := NMap.set q.staged e v, lease := a.clk.local_ + 60000000000 } else y }) 0
      (be 2 (NMap.set q.staged e v).length ++ [0, 0])) := by
  have hentries : stageEntries r.payload (min 1 ((r.payload.length - 4) / 8)) = [(e, v)] := by rwa [hlen]
  have hmay : ((s.accept r).owns || !pairScope (field r.payload 0 1) (e / 256)) = true := by simpa using hscope
  have hreserved : allGood [0] (fun k => field r.payload (6 + 8 * k) 2 != 0) (fun k => reservedAt (6 + 8 * k)) = .ok () :=
    allGood_single (bne_eq_false_iff_eq.mpr hzeroEntry) _
  have hsettings : allGood [(e, v)] (fun x => !settingThere (s.accept r).ident.variant (field r.payload 0 1) x.1)
      (fun k => badParam (4 + 8 * k)) = .ok () := allGood_single (by simp [hthere]) _
  have hvalues : allGood [(e, v)] (fun x => !settingOk (s.accept r).ident.variant (field r.payload 0 1) x.1 x.2
      || (field r.payload 0 1 == 0 && x.1 / 256 == 3
        && decide ((Config.tags (s.accept r).ident.variant : Int) - x.2 < (s.accept r).tagsReserved)))
      (fun k => badParam (8 + 8 * k)) = .ok () := allGood_single (by simp [hrange, hother]) _
  refine receive_replies hruns ?_
  simp only [hcount, hentries, State.unitThere_holds hfitted, List.any_cons, List.any_nil, Bool.or_false, need_holds hmay,
    sized_holds (n := 4 + 8 * 1) hlen, zeros_hold hzero, List.range_one, hreserved, need_holds hunit, hsettings, hvalues, hmine,
    List.foldl_cons, List.foldl_nil, need_holds (decide_eq_true hroom), except_ok_bind, ok]

/-- R459: one setting, as it stands and as it is staged. -/
theorem exec_funcRead_reads (hruns : s.fate ⟨0x0205, true, 1, false, .E, false⟩ r = .runs) (hlen : r.payload.length = 8)
    (hcount : field r.payload 2 2 = 1) (hzero : field r.payload 1 1 = 0) (hzeroEntry : field r.payload 6 2 = 0)
    (hthere : settingThere (s.accept r).ident.variant (field r.payload 0 1) (field r.payload 4 2) = true)
    (hgate : (s.accept r).gateCheck ⟨10, 0, 0, (s.accept r).privOf r.session, if r.tenant < 512 then some r.tenant else none⟩ = none) :
    exec (.funcRead r) s = .next (replied ⟨0x0205, true, 1, false, .E, false⟩ r (s.accept r) 0
      (be 2 1 ++ [0, 0] ++ (s.accept r).readEntry (field r.payload 0 1) (field r.payload 4 2))) := by
  have hsize : (r.payload.length == 4 + 4 * 1 && decide (40 + 12 * 1 ≤ 16384)) = true := by simp [hlen]
  have hreserved : allGood [0] (fun k => field r.payload (6 + 4 * k) 2 != 0) (fun k => reservedAt (6 + 4 * k)) = .ok () :=
    allGood_single (bne_eq_false_iff_eq.mpr hzeroEntry) _
  have hsettings : allGood [field r.payload 4 2] (fun e => !settingThere (s.accept r).ident.variant (field r.payload 0 1) e)
      (fun k => badParam (4 + 4 * k)) = .ok () := allGood_single (by simp [hthere]) _
  refine receive_replies hruns ?_
  simp only [State.unitField_holds hfitted, hcount, need_holds hsize, zeros_hold hzero, List.range_one, hreserved, need_holds hunit,
    List.map_cons, List.map_nil, Nat.mul_zero, Nat.add_zero, hsettings, State.throughGate_admits hgate, List.flatMap_singleton, except_ok_bind, ok]

/-! ### The state of a unit -/

section
variable (hruns : s.fate ⟨0x0206, true, 1, false, .E, false⟩ r = .runs) (hlen : r.payload.length = 4) (hzero : field r.payload 1 3 = 0)
include hruns hlen hzero

/-- R459: a unit that is quiesced here, with the seconds left of its lease. -/
theorem exec_funcStatus_quiesced {q : Quiesced} (hquiesce : (s.accept r).quiesce (field r.payload 0 1) = some q) :
    exec (.funcStatus r) s = .next (replied ⟨0x0206, true, 1, false, .E, false⟩ r (s.accept r) 0
      (be 1 1 ++ be 1 (s.accept r).front.side.bit ++ be 2 ((q.lease - (s.accept r).clk.local_ + 999999999) / 1000000000) ++ be 4 q.session
        ++ be 2 q.staged.length ++ [0, 0])) := by
  refine receive_replies hruns ?_
  simp only [State.unitField_holds hfitted, sized_holds hlen, zeros_hold hzero, need_holds hunit, hquiesce, except_ok_bind, ok]

/-- R459: a unit that runs on both modules. -/
theorem exec_funcStatus_runs (hquiesce : (s.accept r).quiesce (field r.payload 0 1) = none)
    (hpeer : (s.accept r).pair.peerQuiesced.contains (field r.payload 0 1) = false) :
    exec (.funcStatus r) s = .next (replied ⟨0x0206, true, 1, false, .E, false⟩ r (s.accept r) 0
      (be 2 0 ++ be 2 0 ++ be 4 0 ++ be 2 0 ++ [0, 0])) := by
  refine receive_replies hruns ?_
  simp only [State.unitField_holds hfitted, sized_holds hlen, zeros_hold hzero, need_holds hunit, hquiesce, hpeer, Bool.false_eq_true, if_false,
    except_ok_bind, ok]

end
end

/-! ### The obligation -/

/-- Settles O40: each clause is the lemma of its command's outcome. -/
theorem unitCommands : Obligations.UnitCommands := by
  unfold Obligations.UnitCommands
  intro s r a p u hfitted hunit
  refine ⟨exec_funcQuiesce_quiesces hfitted hunit, fun q e v => exec_funcStage_stages hfitted hunit, ?restart, ?discard, ?unquiesced,
    exec_funcRead_reads hfitted hunit, ?status⟩
  case restart => exact fun q hruns hlen hzero => exec_funcRestart_applies hfitted hunit hlen hzero hruns
  case discard => exact fun hruns hlen hzero => exec_funcDiscard_restarts hfitted hunit hlen hzero hruns
  case unquiesced => exact fun hruns hlen hzero => exec_funcDiscard_unquiesced hfitted hunit hlen hzero hruns
  case status =>
    exact fun hruns hlen hzero => ⟨fun q => exec_funcStatus_quiesced hfitted hunit hruns hlen hzero,
      exec_funcStatus_runs hfitted hunit hruns hlen hzero⟩

end Sys2Proof.Machine
end

section
/-! PROOFS. What the commands of the pair and of time answer (R355, R364, R373, R375, R376, R378, R398, R420, R432, R434, R466): one lemma for each
outcome of a command. -/
namespace Sys2Proof.Machine
open Sys2Proof.Claims

section
variable {s : State} {r : Req}

/-! ### The state of the pair -/

/-- R376 and R466. -/
theorem exec_pairStatus_reads (hruns : s.fate ⟨0x0601, true, 1, false, .E, false⟩ r = .runs) (hp : r.payload = []) :
    let a := s.accept r
    exec (.pairStatus r) s = .next (replied ⟨0x0601, true, 1, false, .E, false⟩ r a 0
      (be 8 a.health.toNat ++ be 8 a.pair.peerHealth.toNat ++ be 4 a.pair.epoch ++ be 1 a.pair.ownerSide.bit ++ [0, 0, 0]
        ++ be 4 (if a.mode = .standby then a.holdoffLeft else 0))) := by
  refine receive_replies hruns ?_
  simp only [sized_empty hp, except_ok_bind, ok]

section
variable (hruns : s.fate ⟨0x0605, true, 2, false, .E, false⟩ r = .runs) (hlen : r.payload.length = 8)
include hruns hlen

/-- R376: the bits are cleared on both modules. -/
theorem exec_pairHealthAck_clears (hmask : BitVec.ofNat 64 (field r.payload 0 8) &&& ~~~ackBits = 0) :
    exec (.pairHealthAck r) s = .next (replied ⟨0x0605, true, 2, false, .E, false⟩ r
      (((s.accept r).ackHealth (BitVec.ofNat 64 (field r.payload 0 8))).tellPartner (.healthAck (BitVec.ofNat 64 (field r.payload 0 8)))) 0 []) := by
  refine receive_replies hruns ?_
  simp only [sized_holds hlen, need_holds (beq_iff_eq.mpr hmask), except_ok_bind, ok]

/-- R466: a bit that no acknowledgement clears. -/
theorem exec_pairHealthAck_refuses (hmask : BitVec.ofNat 64 (field r.payload 0 8) &&& ~~~ackBits ≠ 0) :
    exec (.pairHealthAck r) s =
      .next (replied ⟨0x0605, true, 2, false, .E, false⟩ r (s.accept r) (badParam 0).1 (badParam 0).2) := by
  refine receive_refuses hruns ?_
  simp only [sized_holds hlen, need_fails (beq_eq_false_iff_ne.mpr hmask), except_ok_bind, except_error_bind]

end

/-! ### Ownership -/

section
variable (hruns : s.fate ⟨0x0602, true, 2, false, .OL, false⟩ r = .runs) (hp : r.payload = []) (hmode : (s.accept r).mode = .lantern)
  (hcomplete : (s.accept r).lantern.bringupComplete = true) (hheld : (s.accept r).heldBack = false)
  (halone : (s.accept r).ownerSeen = false) (hmay : (s.accept r).mayOwn = true)
include hruns hp hmode hcomplete hheld halone hmay

/-- R355: ownership is assumed where no key is needed, or with the key that is (R398, R556). -/
theorem exec_pairAssume_owns (hkey : (!(s.accept r).keyNeeded || (s.accept r).keyAt 2) = true) :
    let a := s.accept r
    let b := (if a.keyNeeded then a.useKey r.session else a).ownFromLantern .assume
    exec (.pairAssume r) s = .next (replied ⟨0x0602, true, 2, false, .OL, false⟩ r b 0 (be 4 b.pair.epoch)) := by
  refine receive_replies hruns ?_
  simp only [sized_empty hp, hmode, hcomplete, hheld, halone, hmay, beq_self_eq_true, Bool.not_false, Bool.and_self, need_holds rfl,
    need_holds hkey, except_ok_bind, ok]

theorem exec_pairAssume_without_key (hneeded : (s.accept r).keyNeeded = false) :
    exec (.pairAssume r) s = .next (replied ⟨0x0602, true, 2, false, .OL, false⟩ r ((s.accept r).ownFromLantern .assume) 0
      (be 4 ((s.accept r).ownFromLantern .assume).pair.epoch)) := by
  have howns := exec_pairAssume_owns hruns hp hmode hcomplete hheld halone hmay (by simp [hneeded])
  simpa only [hneeded, Bool.false_eq_true, if_false] using howns

theorem exec_pairAssume_with_key (hneeded : (s.accept r).keyNeeded = true) (hkey : (s.accept r).keyAt 2 = true) :
    let b := ((s.accept r).useKey r.session).ownFromLantern .assume
    exec (.pairAssume r) s = .next (replied ⟨0x0602, true, 2, false, .OL, false⟩ r b 0 (be 4 b.pair.epoch)) := by
  have howns := exec_pairAssume_owns hruns hp hmode hcomplete hheld halone hmay (by simp [hkey])
  simpa only [hneeded, if_true] using howns

/-- R398: a first ownership that needs a key which is not there. -/
theorem exec_pairAssume_denied (hneeded : (s.accept r).keyNeeded = true) (hkey : (s.accept r).keyAt 2 = false) :
    exec (.pairAssume r) s = .next (replied ⟨0x0602, true, 2, false, .OL, false⟩ r (s.accept r) 8 (denied 3).2) := by
  refine receive_refuses (e := denied 3) hruns ?_
  simp only [sized_empty hp, hmode, hcomplete, hheld, halone, hmay, beq_self_eq_true, Bool.not_false, Bool.and_self, need_holds rfl,
    hneeded, hkey, Bool.not_true, Bool.or_self, need_fails rfl, except_ok_bind, except_error_bind]

end

/-- R364: the handover is proposed, and the reply waits for H. -/
theorem exec_pairHandover_proposes (hruns : s.fate ⟨0x0603, true, 2, false, .O, false⟩ r = .runs) (hp : r.payload = [])
    (hmode : (s.accept r).mode = .owner) (hmay : (s.accept r).mayHandOver = true) (hplan : (s.accept r).pair.handover = none) :
    exec (.pairHandover r) s = .next (((s.accept r).proposeHandover .command false
      (some (r.ticket ⟨0x0603, true, 2, false, .O, false⟩))).closeLast r.session) := by
  refine receive_waits hruns ?_
  simp only [sized_empty hp, hmode, hmay, hplan, beq_self_eq_true, Option.isNone_none, Bool.and_self, need_holds rfl, except_ok_bind]

section
variable (hruns : s.fate ⟨0x0604, true, 2, false, .E, false⟩ r = .runs) (hp : r.payload = [])
include hruns hp

/-- R373: a module whose fault is gone and whose self-test passes joins again. -/
theorem exec_pairRejoin_joins (hmode : (s.accept r).mode = .standbyFaulted) (hgone : (s.accept r).causePersists = false) :
    exec (.pairRejoin r true) s = .next (replied ⟨0x0604, true, 2, false, .E, false⟩ r (s.accept r).rejoin 0 []) := by
  refine receive_replies hruns ?_
  simp only [sized_empty hp, hmode, hgone, beq_self_eq_true, Bool.not_false, Bool.and_self, need_holds rfl, except_ok_bind, ok]

/-- R373: the self-test fails again. -/
theorem exec_pairRejoin_fails :
    exec (.pairRejoin r false) s = .next (replied ⟨0x0604, true, 2, false, .E, false⟩ r (s.accept r) 0x0B errorPlain) := by
  refine receive_refuses (e := wrongState) hruns ?_
  simp only [sized_empty hp, Bool.and_false, need_fails rfl, except_ok_bind, except_error_bind]

end

section
variable (hruns : s.fate ⟨0x0606, true, 2, false, .E, false⟩ r = .runs) (hp : r.payload = []) (hslot : (s.accept r).slot = none)
  (hquiesced : (s.accept r).settings.quiesced = []) (hpeerQuiesced : (s.accept r).pair.peerQuiesced = [])
include hruns hp hslot hquiesced hpeerQuiesced

/-- R576: the proof test takes the free slot while nothing is quiesced; on the standby it starts at once. -/
theorem exec_pairProofTest_takes (hready : ((s.accept r).mode == ModState.standby && (s.accept r).pair.synchronised
      || (s.accept r).mode == ModState.owner && !(s.accept r).solo && (s.accept r).peerStandbySync) = true) :
    exec (.pairProofTest r) s = .next (replied ⟨0x0606, true, 2, false, .E, false⟩ r
      (if (s.accept r).mode = .standby then ((s.accept r).takeSlot 2 r.session).startProof else (s.accept r).takeSlot 2 r.session) 0 []) := by
  have hnothing : (s.accept r).noQuiesce = .ok () := by rw [State.noQuiesce, hquiesced, hpeerQuiesced]
  refine receive_replies hruns ?_
  simp only [sized_empty hp, need_holds hready, State.slotFree_holds hslot, hnothing, except_ok_bind, ok]

/-- R375. -/
theorem exec_pairProofTest_standby (hmode : (s.accept r).mode = .standby) (hsync : (s.accept r).pair.synchronised = true) :
    exec (.pairProofTest r) s =
      .next (replied ⟨0x0606, true, 2, false, .E, false⟩ r ((s.accept r).takeSlot 2 r.session).startProof 0 []) := by
  rw [exec_pairProofTest_takes hruns hp hslot hquiesced hpeerQuiesced (by simp [hmode, hsync]), if_pos hmode]

/-- R378: the owner's proof test is that of its synchronised standby. -/
theorem exec_pairProofTest_owner (hmode : (s.accept r).mode = .owner) (hsolo : (s.accept r).solo = false)
    (hpeer : (s.accept r).peerStandbySync = true) :
    exec (.pairProofTest r) s = .next (replied ⟨0x0606, true, 2, false, .E, false⟩ r ((s.accept r).takeSlot 2 r.session) 0 []) := by
  rw [exec_pairProofTest_takes hruns hp hslot hquiesced hpeerQuiesced (by simp [hmode, hsolo, hpeer]), if_neg (by simp [hmode])]

end

/-! ### Time bases, domains and plant time -/

/-- R434. -/
theorem exec_timeRead_reads (hruns : s.fate ⟨0x0701, true, 1, false, .E, false⟩ r = .runs) (hp : r.payload = []) :
    exec (.timeRead r) s = .next (replied ⟨0x0701, true, 1, false, .E, false⟩ r (s.accept r) 0
      ((s.accept r).timeBases ++ (s.accept r).timeStatus)) := by
  refine receive_replies hruns ?_
  simp only [sized_empty hp, except_ok_bind, ok]

/-- R434: the status of a domain that is fitted. -/
theorem exec_timeDomainStatus_reads (hruns : s.fate ⟨0x0702, true, 1, false, .E, false⟩ r = .runs) (hlen : r.payload.length = 4)
    (hzero : field r.payload 1 3 = 0) (hdomain : field r.payload 0 1 < 2)
    (hfitted : field r.payload 0 1 ≠ 1 ∨ (s.accept r).ident.variant ≠ .nk920) :
    exec (.timeDomainStatus r) s = .next (replied ⟨0x0702, true, 1, false, .E, false⟩ r (s.accept r) 0
      ((s.accept r).domain (field r.payload 0 1)).status) := by
  have hthere : (field r.payload 0 1 != 1 || (s.accept r).ident.variant != .nk920) = true := by simpa using hfitted
  refine receive_replies hruns ?_
  simp only [need_holds hthere, sized_holds hlen, zeros_hold hzero, need_holds (decide_eq_true hdomain), except_ok_bind, ok]

section
variable (hruns : s.fate ⟨0x0703, true, 2, false, .E, false⟩ r = .runs) (hlen : r.payload.length = 8)
include hruns hlen

/-- R420: plant time starts at the value given, at the rate of the selected domain. -/
theorem exec_timeSetPlant_starts (hvalid : (s.accept r).time.plantValid = false) :
    exec (.timeSetPlant r) s = .next (replied ⟨0x0703, true, 2, false, .E, false⟩ r
      ((s.accept r).initPlant (field r.payload 0 8) ((s.accept r).domain (s.accept r).time.selected).base.rate) 0 []) := by
  refine receive_replies hruns ?_
  simp only [sized_holds hlen, need_holds (congrArg not hvalid), except_ok_bind, ok]

/-- R420: plant time that is valid is not set. -/
theorem exec_timeSetPlant_refuses (hvalid : (s.accept r).time.plantValid = true) :
    exec (.timeSetPlant r) s = .next (replied ⟨0x0703, true, 2, false, .E, false⟩ r (s.accept r) 0x0B errorPlain) := by
  refine receive_refuses (e := wrongState) hruns ?_
  simp only [sized_holds hlen, need_fails (congrArg not hvalid), except_ok_bind, except_error_bind]

end

/-! ### Alarms -/

/-- R432: the alarm is written on both modules and has fired nothing. -/
theorem exec_timeAlarmWrite_writes (hruns : s.fate ⟨0x0704, true, 2, false, .O, false⟩ r = .runs) (hlen : r.payload.length = 20)
    (hzero : field r.payload 3 1 = 0) (hno : field r.payload 0 1 < 16) (henable : field r.payload 1 1 < 2) (hbase : field r.payload 2 1 < 2)
    (hperiod : field r.payload 12 8 = 0 ∨ (1000000 ≤ field r.payload 12 8 ∧ field r.payload 12 8 ≤ 86400000000000)) :
    let no := field r.payload 0 1
    let al : Alarm := ⟨field r.payload 1 1, field r.payload 2 1, field r.payload 4 8, field r.payload 12 8⟩
    exec (.timeAlarmWrite r) s = .next (replied ⟨0x0704, true, 2, false, .O, false⟩ r (((s.accept r).modTime fun x =>
      { x with alarms := modAt x.alarms no fun _ => al, alarmDone := modAt x.alarmDone no fun _ => none,
               alarmHeld := x.alarmHeld.filter (· != no) }).tellPartner (.alarm no al)) 0 []) := by
  have hper : (field r.payload 12 8 == 0
      || decide (1000000 ≤ field r.payload 12 8) && decide (field r.payload 12 8 ≤ 86400000000000)) = true := by simpa using hperiod
  refine receive_replies hruns ?_
  simp only [sized_holds hlen, zeros_hold hzero, need_holds (decide_eq_true hno), need_holds (decide_eq_true henable),
    need_holds (decide_eq_true hbase), need_holds hper, except_ok_bind, ok]

/-- R432 and R466. -/
theorem exec_timeAlarmRead_reads {al : Alarm} (hruns : s.fate ⟨0x0705, true, 1, false, .E, false⟩ r = .runs) (hlen : r.payload.length = 4)
    (hzero : field r.payload 1 3 = 0) (hno : field r.payload 0 1 < 16) (halarm : (s.accept r).time.alarms[field r.payload 0 1]? = some al) :
    exec (.timeAlarmRead r) s = .next (replied ⟨0x0705, true, 1, false, .E, false⟩ r (s.accept r) 0
      (be 1 (field r.payload 0 1) ++ be 1 al.enable ++ be 1 al.base ++ [0] ++ be 8 al.at_ ++ be 8 al.period)) := by
  refine receive_replies hruns ?_
  simp only [sized_holds hlen, zeros_hold hzero, need_holds (decide_eq_true hno), halarm, Option.getD_some, except_ok_bind, ok]

end

/-! ### The obligation -/

/-- Settles O45: each clause is the lemma of its command's outcome. -/
theorem pairAndTimeCommands : Obligations.PairAndTimeCommands := by
  unfold Obligations.PairAndTimeCommands
  intro s r
  refine ⟨?noPayload, ?healthAck, exec_timeDomainStatus_reads, ?setPlant, exec_timeAlarmWrite_writes, fun al => exec_timeAlarmRead_reads⟩
  case noPayload =>
    intro hp
    refine ⟨fun hruns => exec_pairStatus_reads hruns hp, ?assume, ?handover, ?rejoin, ?proofTest, fun hruns => exec_timeRead_reads hruns hp⟩
    case assume =>
      exact fun hruns hmode hcomplete hheld halone hmay => ⟨exec_pairAssume_without_key hruns hp hmode hcomplete hheld halone hmay,
        exec_pairAssume_with_key hruns hp hmode hcomplete hheld halone hmay,
        exec_pairAssume_denied hruns hp hmode hcomplete hheld halone hmay⟩
    case handover => exact fun hruns => exec_pairHandover_proposes hruns hp
    case rejoin => exact fun hruns => ⟨exec_pairRejoin_joins hruns hp, exec_pairRejoin_fails hruns hp⟩
    case proofTest =>
      exact fun hruns hslot hquiesced hpeerQuiesced => ⟨exec_pairProofTest_standby hruns hp hslot hquiesced hpeerQuiesced,
        exec_pairProofTest_owner hruns hp hslot hquiesced hpeerQuiesced⟩
  case healthAck => exact fun hruns hlen => ⟨exec_pairHealthAck_clears hruns hlen, exec_pairHealthAck_refuses hruns hlen⟩
  case setPlant => exact fun hruns hlen => ⟨exec_timeSetPlant_starts hruns hlen, exec_timeSetPlant_refuses hruns hlen⟩

end Sys2Proof.Machine
end

section
/-! PROOFS. How a step takes its command (R441), and that every command completes: whatever executes answers a next state. -/
namespace Sys2Proof.Machine

/-- No command stops: each arm answers a next state, whatever its operands. -/
theorem exec_safe (c : Instr) (s : State) : Safe (exec c s) := by
  cases c
  all_goals exact ⟨_, rfl⟩

theorem step_front {c : Instr} {rest : List Instr} {s : State} (h : s.pending = c :: rest) : step s = exec c { s with pending := rest } := by
  rw [step, h]

theorem step_idle {s : State} (h : s.pending = []) : step s = s.idle := by
  rw [step, h]

/-- Settles O51: the two branches of a step, and the two of a module that idles. -/
theorem stepTakesFront : Obligations.StepTakesFront := by
  unfold Obligations.StepTakesFront
  refine ⟨fun c rest s => step_front, fun s hempty hnone => ?_, fun s w t hempty hturn => ?_⟩
  · rw [step_idle hempty, State.idle, hnone]
  · rw [step_idle hempty, State.idle, hturn]

/-- Settles O53: a step executes a command, or a request that waited, which is one of the commands, or leaves the module as it is. -/
theorem everyCommandCompletes : Obligations.EveryCommandCompletes := by
  unfold Obligations.EveryCommandCompletes
  refine ⟨exec_safe, fun s => ?_⟩
  unfold step
  split
  · unfold State.idle
    split
    next x _ => exact State.runWaiting_of_exec (fun i => exec_safe i x.2) x.1
    · exact ⟨s, rfl⟩
  · exact exec_safe _ _

end Sys2Proof.Machine
end

section
/-! PROOFS. The checks of a Gelit datagram (R439 to R442, R448 to R450): every Gelit command is received under its row of the command tables, and
there the first check that fails decides. -/
namespace Sys2Proof.Machine
open Sys2Proof.Claims

/-- Every Gelit command is received under its row; what comes with it and what it does are its own. -/
theorem exec_gelit_receives {i : Instr} {s : State} {c : Cmd} {r : Req} (hi : gelitOf s i = some (c, r)) :
    ∃ v body, exec i s = .next (s.receive c v r body) := by
  cases i
  all_goals first | contradiction | obtain ⟨rfl, rfl⟩ := Prod.mk.inj (Option.some.inj hi)
  all_goals exact ⟨_, _, rfl⟩

/-- Settles O38: the reception acts by the fate of the datagram, and only one that runs reaches the command's body. -/
theorem gelitChecks : Obligations.GelitChecks := by
  unfold Obligations.GelitChecks
  intro i s c r hi
  obtain ⟨v, body, hexec⟩ := exec_gelit_receives hi
  rw [hexec]
  refine ⟨?ignored, ?drop, ?noSession, ?halfOpen, ?again, ?pending, ?replayed, ?refused, ?waits⟩
  case ignored => intro h; rw [State.receive, h]
  case drop => intro n h; rw [State.receive, h]
  case noSession => intro h; rw [State.receive, h]
  case halfOpen => intro h; rw [State.receive, h]
  case again => intro rep h; rw [State.receive, h]
  case pending => intro h; rw [State.receive, h]
  case replayed => intro h; rw [State.receive, h]
  case refused => intro st b h; rw [State.receive, h]; rfl
  case waits => intro h; exact ⟨v, by rw [State.receive, h]⟩

end Sys2Proof.Machine
end

section
/-! PROOFS. The sequence numbers of a session (R450): which are accepted, what a repeat gets, and that an accepted one is not accepted again. -/
namespace Sys2Proof.Machine

/-! ### What a session makes of a sequence -/

/-- A sequence is new where it is above H, or within 64 below it and not accepted before. -/
def Session.fresh (x : Session) (seq : Nat) : Prop := x.highest < seq ∨ (x.highest < seq + 64 ∧ seq ∉ x.accepted)

section
variable {x : Session} {r : Req} (hready : x.ready ≠ some r.seq)
include hready

theorem Session.judge_fresh (h : x.fresh r.seq) : x.judge r = none := by
  have hnew : x.highest < r.seq ∨ (x.highest < r.seq + 64 ∧ ¬ x.accepted.contains r.seq = true) := by
    simpa [Session.fresh] using h
  rw [Session.judge, if_neg fun h => hready h.1, if_pos hnew]

theorem Session.judge_not_fresh (h : ¬ x.fresh r.seq) :
    x.judge r = some (match x.stored.find? fun d => d.seq == r.seq && d.tag == r.tag with | some d => .again d.reply | none => .replayed) := by
  have hold : ¬ (x.highest < r.seq ∨ (x.highest < r.seq + 64 ∧ ¬ x.accepted.contains r.seq = true)) := by
    simpa [Session.fresh] using h
  rw [Session.judge, if_neg fun h => hready h.1, if_neg hold]
  split <;> simp [*]

theorem Session.judge_eq_none_iff : x.judge r = none ↔ x.fresh r.seq := by
  refine ⟨fun h => ?_, Session.judge_fresh hready⟩
  by_contra hold
  rw [Session.judge_not_fresh hready hold] at h
  cases h

theorem Session.not_fresh_of_judge (h : x.judge r ≠ none) : ¬ x.fresh r.seq := mt (Session.judge_eq_none_iff hready).mpr h

/-- A repeat of a stored request gets what is stored. -/
theorem Session.judge_stored {d : Stored} (h : ¬ x.fresh r.seq) (hd : (x.stored.find? fun d => d.seq == r.seq && d.tag == r.tag) = some d) :
    x.judge r = some (.again d.reply) := by
  rw [Session.judge_not_fresh hready h, hd]

/-- A request that is not stored, or repeated under another tag. -/
theorem Session.judge_replayed (h : ¬ x.fresh r.seq) (hd : ∀ d ∈ x.stored, ¬ (d.seq = r.seq ∧ d.tag = r.tag)) :
    x.judge r = some .replayed := by
  have hnone : (x.stored.find? fun d => d.seq == r.seq && d.tag == r.tag) = none := by
    simpa [List.find?_eq_none] using hd
  rw [Session.judge_not_fresh hready h, hnone]

/-! ### Accepting -/

theorem Session.take_eq (now : Nat) :
    x.take r now = { x with
      highest := max x.highest r.seq, lastAt := now
      accepted := (r.seq :: x.accepted).filter fun n => decide (max x.highest r.seq < n + 64)
      stored := (⟨r.seq, r.tag, none⟩ :: x.stored).take 16 } := if_neg hready

theorem Session.take_highest (now : Nat) : (x.take r now).highest = max x.highest r.seq := by
  rw [Session.take_eq hready]

theorem Session.take_stored (now : Nat) : (x.take r now).stored = (⟨r.seq, r.tag, none⟩ :: x.stored).take 16 := by
  rw [Session.take_eq hready]

theorem Session.take_ready (now : Nat) : (x.take r now).ready = x.ready := by
  rw [Session.take_eq hready]

theorem Session.mem_take_accepted (now n : Nat) :
    n ∈ (x.take r now).accepted ↔ (n = r.seq ∨ n ∈ x.accepted) ∧ max x.highest r.seq < n + 64 := by
  rw [Session.take_eq hready, List.mem_filter, List.mem_cons, decide_eq_true_iff]

/-- An accepted sequence is not new. -/
theorem Session.take_not_fresh (now : Nat) : ¬ (x.take r now).fresh r.seq := by
  rw [Session.fresh, Session.take_highest hready, Session.mem_take_accepted hready]
  simp

end

/-- What is not new stays so, whatever is accepted after it: H only rises, and what is within 64 of it stays listed. -/
theorem Session.take_keeps_not_fresh {x : Session} {n : Nat} (hready : x.ready = none) (h : ¬ x.fresh n) (r : Req) (now : Nat) :
    ¬ (x.take r now).fresh n := by
  have hr : x.ready ≠ some r.seq := by simp [hready]
  rw [Session.fresh, Session.take_highest hr, Session.mem_take_accepted hr]
  have hold : n ≤ x.highest ∧ (x.highest < n + 64 → n ∈ x.accepted) := by simpa [Session.fresh] using h
  obtain ⟨hle, hlisted⟩ := hold
  rintro (hnew | ⟨hnear, hmissing⟩)
  · omega
  · exact hmissing ⟨.inr (hlisted (by omega)), hnear⟩

/-- The same along any number of requests. -/
theorem Session.takes_keep_not_fresh (more : List (Req × Nat)) {x : Session} {n : Nat} (hready : x.ready = none) (h : ¬ x.fresh n) :
    (more.foldl (fun x p => x.take p.1 p.2) x).ready = none ∧ ¬ (more.foldl (fun x p => x.take p.1 p.2) x).fresh n := by
  induction more generalizing x with
  | nil => exact ⟨hready, h⟩
  | cons p more ih =>
    have hp : (x.take p.1 p.2).ready = none := (Session.take_ready (by simp [hready]) _).trans hready
    exact ih hp (Session.take_keeps_not_fresh hready h _ _)

/-! ### The stored reply, and the check of R439 -/

theorem State.session_modSession {s : State} {no : Nat} {f : Session → Session} {x : Session} (hno : ∀ y : Session, (f y).no = y.no)
    (h : s.session no = some x) : (s.modSession no f).session no = some (f x) := by
  have hsame (y : Session) : (if y.no = no then f y else y).no = y.no := by split <;> simp [hno]
  have hx : x.no = no := by simpa using List.find?_some (p := fun y : Session => y.no == no) h
  change List.find? (fun y : Session => y.no == no) _ = some x at h
  change List.find? (fun y : Session => y.no == no) (s.gelit.sessions.map _) = _
  rw [List.find?_map, show ((fun y : Session => y.no == no) ∘ fun y => if y.no = no then f y else y) = fun y => y.no == no from
    funext fun y => by simp [hsame], h]
  simp [hx]

theorem State.session_sendReply (s : State) (rep : Reply) (no : Nat) : (s.sendReply rep).session no = s.session no := by
  rw [State.sendReply]
  split <;> rfl

/-- R441 and R450: the reply of a command is stored with its request. -/
theorem State.session_finish {s : State} {k : Ticket} {x : Session} (h : s.session k.session = some x) (status : Nat) (body : List Byte) :
    (s.finish k status body).session k.session = some { x with stored := x.stored.map fun d =>
      if d.seq = k.seq then { d with reply := some ⟨k.source, k.session, k.seq, k.tenant, k.opcode, status, true, body⟩ } else d } := by
  rw [State.finish, h]
  dsimp only
  rw [State.session_sendReply]
  exact State.session_modSession (fun _ => rfl) h

/-- R439, check 6: the datagram of an open session that passes the checks before it is judged by its sequence. -/
theorem State.fate_eq_judge {s : State} {c : Cmd} {r : Req} {x : Session} {f : Fate} (hup : s.up = true) (hseated : s.mode ≠ .seated)
    (hunseated : s.mode ≠ .unseated) (hlow : 36 ≤ r.udpLen) (hhigh : r.udpLen ≤ 16384) (hlen : r.udpLen = r.length) (hver : r.version = 2)
    (hflags : r.flags % 2 = 0) (hsession : r.session ≠ 0) (hop : c.op ≠ 1) (hx : s.session r.session = some x) (htag : r.tagOk = true)
    (hopen : x.isOpen = true) (hf : x.judge r = some f) : s.fate c r = f := by
  have hsize : ¬ (r.udpLen < 36 ∨ 16384 < r.udpLen ∨ r.udpLen ≠ r.length) := by omega
  have hversion : ¬ (r.version ≠ 2 ∨ r.flags % 2 = 1) := by omega
  rw [State.fate, if_neg (by simp [hup, hseated, hunseated]), if_neg hsize, if_neg hversion, if_neg (by simp [hsession, hop]), if_neg hop, hx]
  simp [htag, hopen, hf]

/-! ### The obligation -/

/-- Settles O59: the lemmas of R450, one for each clause. -/
theorem sequenceRule : Obligations.SequenceRule := by
  unfold Obligations.SequenceRule
  refine ⟨?judged, ?taken, ?repeated, ?never, ?finished, ?fate⟩
  case judged =>
    exact fun x r hready => ⟨Session.judge_eq_none_iff hready,
      fun hold d => Session.judge_stored hready (Session.not_fresh_of_judge hready hold),
      fun hold => Session.judge_replayed hready (Session.not_fresh_of_judge hready hold)⟩
  case taken =>
    exact fun x r now hready => ⟨Session.take_highest hready now, Session.take_stored hready now, Session.mem_take_accepted hready now⟩
  case repeated =>
    intro x r q now hready hseq htag
    have hr : x.ready ≠ some r.seq := by simp [hready]
    refine Session.judge_stored (d := ⟨r.seq, r.tag, none⟩) (by simp [Session.take_ready hr, hready]) (hseq ▸ Session.take_not_fresh hr now) ?_
    rw [Session.take_stored hr]
    simp [hseq, htag]
  case never =>
    intro x r q now more hready hseq
    have hr : x.ready ≠ some r.seq := by simp [hready]
    obtain ⟨hnone, hold⟩ := Session.takes_keep_not_fresh more ((Session.take_ready hr now).trans hready) (Session.take_not_fresh hr now)
    exact mt (Session.judge_eq_none_iff (by simp [hnone])).mp (hseq ▸ hold)
  case finished => exact fun s k status body x h => ⟨_, State.session_finish h status body, rfl⟩
  case fate => exact fun s c r x f => State.fate_eq_judge

end Sys2Proof.Machine
end

section
/-! PROOFS. Commands execute first in, first out: no command touches the queue, and a step takes its front. -/
namespace Sys2Proof.Machine
open Sys2Proof.Claims

/-- The queue is the one given. -/
def QueueIs (q : List Instr) (s : State) : Prop := s.pending = q

theorem leaves_queueIs {q : List Instr} {t : State} (h : t.pending = q) : Leaves (QueueIs q) (.next t) := .next h

/-- Both ways of a choice between states. -/
theorem ite_pending {c : Prop} [Decidable c] {a b : State} {q : List Instr} (ha : a.pending = q) (hb : b.pending = q) :
    (if c then a else b).pending = q := ite_keep State.pending ha hb

/-- Whatever instruction of the engine executes, it leaves the queue as it is. -/
theorem exec_engine_pending {i : Instr} {x : Exec} {s : State} (hi : engineOf i = some x) : Leaves (QueueIs s.pending) (exec i s) := by
  cases i
  all_goals first | contradiction | refine .next ?_
  case squashedCoprocComplete => exact State.modTask_pending ..
  case opAgree => exact runTogether_pending ..
  case opImmin | opImminw =>
    change State.pending _ = _
    split
    · exact runTogether_pending ..
    · exact runEngine_pending ..
  case undefinedOpcode => exact runUndefined_pending ..
  all_goals exact runEngine_pending ..

/-! ### Gelit requests -/

theorem State.openSession_pending {s t : State} {r : Req} {c : Cmd} {g : OpenGrant} (h : s.openSession r c g = .ok t) :
    t.pending = s.pending := by
  revert h
  unfold State.openSession
  repeat' refine except_bind_all (p := fun t => t.pending = s.pending) fun _ t => ?_
  rintro ⟨⟩
  rw [State.sendReply_pending, State.submit_pending]
  split <;> split <;> simp

theorem State.applyStaged_pending (s : State) (unit : Nat) (staged : List (Nat × Int)) :
    (s.applyStaged unit staged).1.pending = s.pending := by
  unfold State.applyStaged
  extract_lets pair side at_ tell s1 s2
  have htell (u : State) (m : Mirror) : (tell u m).pending = u.pending := ite_pending rfl (State.send_pending ..)
  have h1 : s1.pending = s.pending := ite_pending rfl ((htell _ _).trans (State.setValues_pending ..))
  have h2 : s2.pending = s.pending := ite_pending h1 ((htell _ _).trans h1)
  exact (State.restartUnit_pending ..).trans h2

section
variable {s : State}

theorem exec_sessionOpen_pending (r : Req) (g : OpenGrant) : Leaves (QueueIs s.pending) (exec (.sessionOpen r g) s) := by
  refine leaves_queueIs (State.receive_pending _ _ _ _ _ fun t k => ?_)
  rw [Answer.all_later]
  split
  · exact State.sendReply_pending ..
  next hopen => exact State.openSession_pending hopen

theorem exec_funcRestart_pending (r : Req) : Leaves (QueueIs s.pending) (exec (.funcRestart r) s) := by
  refine leaves_queueIs (State.receive_pending _ _ _ _ _ fun t k => ?_)
  repeat' (first | with_reducible refine Answer.all_bind _ _ _ fun _ _ => ?_ | with_reducible refine State.throughGate_pending _ _ _ _ _ _ ?_)
  have hreplied (unit : Nat) (staged : List (Nat × Int)) : ((t.finish k 0 (be 8 0)).applyStaged unit staged).1.pending = t.pending :=
    (State.applyStaged_pending ..).trans (State.finish_pending ..)
  split
  · exact ite_pending ((foldl_pending _ State.closeSession_pending _ _).trans (hreplied _ _)) (hreplied _ _)
  · exact State.applyStaged_pending ..

/-- Every Gelit request: its checks change nothing, and neither does a denied access; each way through its body is judged by itself. -/
theorem exec_gelit_pending {i : Instr} {c : Cmd} {r : Req} (hi : gelitOf s i = some (c, r)) : Leaves (QueueIs s.pending) (exec i s) := by
  cases i
  all_goals first | contradiction | clear hi
  case sessionOpen r g => exact exec_sessionOpen_pending r g
  case funcRestart r => exact exec_funcRestart_pending r
  case dataRead | dataReadProvisional => exact leaves_queueIs (State.receive_pending _ _ _ _ _ fun t k => State.readData_pending ..)
  case debugHalt | debugStep | debugRun | debugSetBreak | debugClearBreak => exact leaves_queueIs (State.debugControl_pending ..)
  all_goals
    refine leaves_queueIs (State.receive_pending _ _ _ _ _ fun t k => ?_)
    try dsimp only
    repeat' (first
      | with_reducible refine Answer.all_bind _ _ _ fun _ _ => ?_
      | with_reducible refine State.throughGate_pending _ _ _ _ _ _ ?_
      | split)
    all_goals simp [foldl_pending]

/-! ### Events -/

theorem exec_watchdogExpiry_pending (task : Nat) : Leaves (QueueIs s.pending) (exec (.watchdogExpiry task) s) := by
  refine leaves_queueIs ?_
  split
  · rfl
  · refine ite_pending rfl (ite_pending ?_ ?_)
    all_goals simp

theorem exec_discoverResponse_pending (f : DiscRsp) : Leaves (QueueIs s.pending) (exec (.discoverResponse f) s) := by
  refine leaves_queueIs (ite_pending rfl (ite_pending (State.discardFrame_pending ..) ?_))
  extract_lets s1
  have h1 : s1.pending = s.pending := State.seePair_pending ..
  split
  · exact h1
  · extract_lets old fresh s2 s3 s4
    have h2 : s2.pending = s.pending := h1
    refine ite_pending ?_ (ite_pending ?_ (ite_pending (ite_pending ?_ ?_) ?_))
    all_goals simpa [s4, s3] using h2

theorem exec_canFrameReceived_pending (k : Fin 4) (f : CanFrame) (remote own : Bool) (t : Nat) :
    Leaves (QueueIs s.pending) (exec (.canFrameReceived k f remote own t) s) := by
  refine leaves_queueIs ?_
  extract_lets s0 g rx s1 s2 s3
  have h0 : s0.pending = s.pending := State.advanceTo_pending ..
  have h1 : s1.pending = s.pending := ite_pending h0 h0
  have h2 : s2.pending = s.pending := (State.canSeen_pending ..).trans h1
  have h3 : s3.pending = s.pending := ite_pending h2 ((State.canViolation_pending ..).trans h2)
  exact ite_pending h0 ((State.canFilter_pending ..).trans h3)

theorem exec_canTxError_pending (k : Fin 4) (peerSaw : Bool) : Leaves (QueueIs s.pending) (exec (.canTxError k peerSaw) s) := by
  refine leaves_queueIs (ite_pending rfl ?_)
  split
  · rfl
  · extract_lets s1 s2
    have h2 : s2.pending = s.pending := ite_pending (State.canLose_pending ..) rfl
    exact ite_pending ((State.canFault_pending ..).trans h2) h2

theorem exec_pathSilent_pending (path : Fin 3) : Leaves (QueueIs s.pending) (exec (.pathSilent path) s) := by
  refine leaves_queueIs ?_
  extract_lets p flag last quiet elsewhere s1 s2 s3
  have h1 : s1.pending = s.pending := rfl
  have h3 : s3.pending = s.pending := ite_pending h1 (by simpa using h1)
  clear_value s1 s3
  repeat' with_reducible refine ite_pending ?_ ?_
  all_goals simp [h1, h3]

theorem exec_backgroundCycle_pending (ring : Fin 4) : Leaves (QueueIs s.pending) (exec (.backgroundCycle ring) s) := by
  refine leaves_queueIs ?_
  extract_lets period at_ secs frames s1 s2
  have h2 : s2.pending = s.pending := foldl_pending _ (fun s k => State.modStation_pending s ring k _) _ _
  exact ite_pending rfl (ite_pending ((foldl_pending _ State.emit_pending _ _).trans h2) h2)

theorem exec_releaseCheckpoint_pending (strand : Nat) (lane1 : Option (BitVec 64)) :
    Leaves (QueueIs s.pending) (exec (.releaseCheckpoint strand lane1) s) := by
  refine leaves_queueIs ?_
  extract_lets ts compared same held s1
  have h1 : s1.pending = s.pending := foldl_pending _ State.assemble_pending _ _
  clear_value held s1
  refine ite_pending rfl ?_
  split
  · exact h1
  · refine ite_pending ((State.persistent_pending ..).trans ?_) ?_
    all_goals exact (foldl_pending _ (fun _ _ => State.modTask_pending ..) _ _).trans (by simpa using h1)

/-- Every event: each way through its effect is judged by itself. -/
theorem exec_event_pending {i : Instr} (hg : gelitOf s i = none) (he : engineOf i = none) : Leaves (QueueIs s.pending) (exec i s) := by
  cases i
  all_goals first | contradiction | clear hg he
  case pathSilent => exact exec_pathSilent_pending _
  case backgroundCycle => exact exec_backgroundCycle_pending _
  case watchdogExpiry => exact exec_watchdogExpiry_pending _
  case discoverResponse => exact exec_discoverResponse_pending _
  case canFrameReceived => exact exec_canFrameReceived_pending _ _ _ _ _
  case canTxError => exact exec_canTxError_pending _ _
  case releaseCheckpoint => exact exec_releaseCheckpoint_pending _ _
  all_goals
    refine leaves_queueIs ?_
    try dsimp only
    repeat' (first | with_reducible refine ite_pending ?_ ?_ | split)
    all_goals simp [foldl_pending]

end

/-- No command puts another on the queue, or takes one off it. -/
theorem exec_pending (i : Instr) (s : State) : Leaves (QueueIs s.pending) (exec i s) := by
  cases he : engineOf i with
  | some x => exact exec_engine_pending he
  | none =>
    cases hg : gelitOf s i with
    | some q => exact exec_gelit_pending hg
    | none => exact exec_event_pending hg he

/-- Settles O52: the step takes the front off the queue, and what executes leaves the rest. -/
theorem queueInOrder : Obligations.QueueInOrder := by
  unfold Obligations.QueueInOrder
  intro s
  change Leaves (QueueIs s.pending.tail) (step s)
  unfold step
  split
  next hempty =>
    rw [hempty]
    unfold State.idle
    split
    next x hx =>
      obtain ⟨no, f, hx2⟩ := State.nextWaiting_some hx
      have hqueue : x.2.pending = [] := by rw [hx2, State.modSession_pending, hempty]
      exact State.runWaiting_of_exec (q := Leaves (QueueIs [])) (fun i => hqueue ▸ exec_pending i x.2) x.1
    · exact leaves_queueIs hempty
  next c rest hfront =>
    rw [hfront]
    exact exec_pending c { s with pending := rest }

end Sys2Proof.Machine
end

section
/-! PROOFS. The expiries of the watchdogs, the services of the privileged ones, and the partner's notices of them (R585 to R588, R591 to R593): one
lemma for each outcome of an event. -/
namespace Sys2Proof.Machine

/-! ### Watchdogs of tasks -/

/-- The evidence of an expiry that comes at the present instant (R588). -/
def Watchdog.expireAt (w : Watchdog) (now rs : Nat) (t : Task) : Watchdog :=
  { w with
    expiries := satInc w.expiries, expired := true, lastExpiry := now, origin := now, runState := rs,
    pcValid := rs != 3, pc := if rs = 3 then 0 else t.lane0.regs.pc.toNat,
    expiredAt := if t.st = .running then some (w.expiredAt.getD now) else w.expiredAt }

theorem State.modWd_congr {s : State} {n : Nat} {f g : Watchdog → Watchdog} (h : ∀ w, f w = g w) : s.modWd n f = s.modWd n g :=
  congrArg (s.modWd n) (funext h)

section
variable {n : Nat} {s : State} {t : Task} (ht : s.task n = some t)
include ht

/-- R585, R588 and R593. -/
theorem exec_watchdogExpiry_expires (hperiod : t.wd.period ≠ 0) (hdue : t.wd.origin + t.wd.period * 1000 ≤ s.clk.local_) :
    let rs := s.runState t
    let b := ((s.modWd n fun w => w.expireAt s.clk.local_ rs t).count 0x7000).record 588 1 2 0xFFFF t.tenant
      [(4, n), (4, if rs = 3 then 0 else t.lane0.regs.pc.toNat), (4, rs), (8, t.wd.lastService)]
    exec (.watchdogExpiry n) s = .next (if s.alone then b else b.send 3 (.expiryNotice n)) := by
  have hreached : ¬ (t.wd.period = 0 ∨ s.clk.local_ + 50000 < t.wd.origin + t.wd.period * 1000) := by omega
  change execWatchdogExpiry n s = _
  simp only [execWatchdogExpiry, ht, if_neg hreached, Nat.max_eq_right hdue]
  rw [State.modWd_congr (g := fun w => w.expireAt s.clk.local_ (s.runState t) t) fun w => ?_]
  · rfl
  · rw [Watchdog.expireAt]
    cases w.expiredAt <;> rfl

/-- R583: a period of 0 switches the watchdog off. -/
theorem exec_watchdogExpiry_off (hperiod : t.wd.period = 0) : exec (.watchdogExpiry n) s = .next s := by
  change execWatchdogExpiry n s = _
  simp [execWatchdogExpiry, ht, hperiod]

end

/-! ### Privileged watchdogs -/

section
variable {u : Fin 8} {t : Nat} {s : State} {w : PrivWd} (hup : (s.advanceTo t).up = true) (hw : (s.advanceTo t).privWds[u.val]? = some w)
include hup hw

/-- R591: a service before the window opens acts as an expiry. -/
theorem exec_privilegedWatchdogService_early
    (hearly : (s.advanceTo t).clk.local_ < w.lastService + (s.advanceTo t).windowNs (Config.privPeriod u.val / 1000)) :
    exec (.privilegedWatchdogService u t) s = .next (({ s.advanceTo t with
      privWds := modAt (s.advanceTo t).privWds u.val fun w => { w with early := satInc w.early } } : State).expirePrivileged u.val 0 false) := by
  change execPrivilegedWatchdogService u t s = _
  simp [execPrivilegedWatchdogService, hup, hw, hearly]

/-- R591: a service in the window starts the measurement again. -/
theorem exec_privilegedWatchdogService_timely
    (hopen : w.lastService + (s.advanceTo t).windowNs (Config.privPeriod u.val / 1000) ≤ (s.advanceTo t).clk.local_) :
    exec (.privilegedWatchdogService u t) s = .next { s.advanceTo t with privWds := modAt (s.advanceTo t).privWds u.val fun w =>
      { w with lastService := (s.advanceTo t).clk.local_, expired := false
               lastGap := sat32 (((s.advanceTo t).clk.local_ - w.lastService) / 1000) } } := by
  change execPrivilegedWatchdogService u t s = _
  simp [execPrivilegedWatchdogService, hup, hw, Nat.not_lt.mpr hopen]

end

/-! ### The obligation -/

/-- Settles O18: each clause is the lemma of its event's outcome. -/
theorem watchdogEvents : Obligations.WatchdogEvents := by
  unfold Obligations.WatchdogEvents
  refine ⟨?expires, ?off, ?privileged, ?service, fun n c s => ⟨rfl, rfl⟩⟩
  case expires => exact fun n s t ht => exec_watchdogExpiry_expires ht
  case off => exact fun n s t ht => exec_watchdogExpiry_off ht
  case privileged => exact fun u s ev valid hup => congrArg _ (if_pos hup)
  case service =>
    exact fun u t s w hup hw => ⟨exec_privilegedWatchdogService_early hup hw, exec_privilegedWatchdogService_timely hup hw⟩

end Sys2Proof.Machine
end

section
/-! PROOFS. The PTP domains (R412, R413, R415 to R417): one lemma for each outcome of a message or an interval. -/
namespace Sys2Proof.Machine

/-! ### Sync and Follow_Up -/

section
variable {d : Fin 2} {m : PtpMsg} {s : State}

section
variable (hat : s.ptpAt d m.port = true) (hslave : (s.ptpForward d 0 m).ptpSlave d m = true)
  (hport : (s.ptpForward d 0 m).setting 0x50 1 0 ≠ 0 ∨ ((s.ptpForward d 0 m).domain d).activePort = m.port
    ∨ ((s.ptpForward d 0 m).domain d).portState ≠ 9)
include hat hslave hport

/-- A Sync of the domain's master, at a port that its servo listens to. -/
theorem exec_ptpSync_heard (rate : Int) : exec (.ptpSync d m rate) s = .next (
    if m.twoStep then (s.ptpForward d 0 m).modDomain d fun x => { x with twoStep := some m }
    else (s.ptpForward d 0 m).applySync d m.rxTime m.stamp m.correction rate m.port) := by
  have hheard : ¬ (!(s.ptpForward d 0 m).ptpSlave d m || ((s.ptpForward d 0 m).setting 0x50 1 0 == 0
      && ((s.ptpForward d 0 m).domain d).activePort != m.port && ((s.ptpForward d 0 m).domain d).portState == 9)) = true := by
    rcases hport with h | h | h <;> simp [hslave, h]
  exact congrArg _ ((if_neg (by simp [hat])).trans (if_neg hheard))

/-- R416: a one-step Sync is used at once. -/
theorem exec_ptpSync_one_step (rate : Int) (hstep : m.twoStep = false) :
    exec (.ptpSync d m rate) s = .next ((s.ptpForward d 0 m).applySync d m.rxTime m.stamp m.correction rate m.port) := by
  rw [exec_ptpSync_heard hat hslave hport, hstep]
  rfl

/-- R413: the Sync of a two-step master waits for its Follow_Up. -/
theorem exec_ptpSync_two_step (rate : Int) (hstep : m.twoStep = true) :
    exec (.ptpSync d m rate) s = .next ((s.ptpForward d 0 m).modDomain d fun x => { x with twoStep := some m }) := by
  rw [exec_ptpSync_heard hat hslave hport, hstep]
  rfl

end

theorem exec_ptpFollowUp_completes (rate : Int) {y : PtpMsg} (hslave : s.ptpSlave d m = true) (hy : (s.domain d).twoStep = some y)
    (hseq : y.seq = m.seq) (hsource : y.source = m.source) :
    exec (.ptpFollowUp d m rate) s = .next ((s.modDomain d fun x => { x with twoStep := none }).applySync d y.rxTime m.stamp
      (y.correction + m.correction) rate y.port) := by
  change execPtpFollowUp d m rate s = _
  simp [execPtpFollowUp, hslave, hy, hseq, hsource]

/-! ### Path delays -/

theorem exec_ptpDelayReq_master (hat : s.ptpAt d m.port = true) (hmaster : ((s.ptpForward d 1 m).domain d).portState = 6)
    (he2e : (s.ptpForward d 1 m).ptp d 2 = 0) :
    exec (.ptpDelayReq d m) s = .next ((s.ptpForward d 1 m).ptpSend
      ⟨d, m.port, 9, m.seq, ((s.ptpForward d 1 m).domain d).base.valueAt m.rxTime, m.correction.toNat⟩) :=
  congrArg _ ((if_neg (by simp [hat])).trans (if_pos ⟨hmaster, he2e⟩))

theorem exec_ptpDelayResp_measures {t : Nat} (hslave : s.ptpSlave d m = true) (hsent : (s.domain d).delaySent = some t) :
    exec (.ptpDelayResp d m) s = .next (s.modDomain d fun x => { x with
      delaySent := none, meanPath := (x.offset + x.meanPath + (m.stamp - m.correction - x.base.valueAt t)) / 2 }) := by
  change execPtpDelayResp d m s = _
  simp [execPtpDelayResp, hslave, hsent]

section
variable {t : Nat} (hat : s.ptpAt d m.port = true) (hsent : (s.domain d).delaySent = some t)
include hat hsent

theorem exec_ptpPdelayResp_one_step (hstep : m.twoStep = false) :
    exec (.ptpPdelayResp d m) s = .next (s.modDomain d fun x => { x with
      delaySent := none, meanPath := (((m.rxTime : Int) - (t : Int)) - m.correction) / 2 }) := by
  change execPtpPdelayResp d m s = _
  simp [execPtpPdelayResp, hat, hsent, hstep]

theorem exec_ptpPdelayResp_two_step (hstep : m.twoStep = true) :
    exec (.ptpPdelayResp d m) s = .next (s.modDomain d fun x => { x with twoStep := some m }) := by
  change execPtpPdelayResp d m s = _
  simp [execPtpPdelayResp, hat, hsent, hstep]

theorem exec_ptpPdelayRespFollowUp_completes {y : PtpMsg} (hy : (s.domain d).twoStep = some y) (hseq : y.seq = m.seq)
    (hsource : y.source = m.source) :
    exec (.ptpPdelayRespFollowUp d m) s = .next (s.modDomain d fun x => { x with
      delaySent := none, twoStep := none
      meanPath := (((y.rxTime : Int) - (t : Int)) - (m.stamp - y.stamp) - y.correction - m.correction) / 2 }) := by
  change execPtpPdelayRespFollowUp d m s = _
  simp [execPtpPdelayRespFollowUp, hat, hsent, hy, hseq, hsource]

end

end

/-! ### Announce -/

section
variable {d : Fin 2} {s : State}

/-- What the Announce of the best master makes of its domain (R417). -/
def Domain.follow (x : Domain) (m : PtpMsg) (now : Nat) : Domain :=
  { x with
    master := some m.source, lastAnnounce := some now, activePort := m.port
    portState := if x.master = some m.source ∧ x.portState = 9 then 9 else 8
    utcValid := m.utcValid, leap61 := m.leap61, leap59 := m.leap59, gmClass := m.gmClass, gmIdentity := m.gmIdentity
    utcOffset := m.utcOffset, stepsRemoved := m.stepsRemoved }

/-- R413 and R417: the best master of those known at the port. -/
theorem exec_ptpAnnounce_best {m : PtpMsg} (hat : s.ptpAt d m.port = true)
    (hknown : (s.domain d).foreign.contains (m.port, m.source) = true) :
    let b := (s.modDomain d fun x => { x with foreign := (s.domain d).foreign }).modDomain d fun x => x.follow m s.clk.local_
    exec (.ptpAnnounce d m true) s = .next (if b.time.selected = d then b.takeUtc else b) := by
  change execPtpAnnounce d m true s = _
  simp only [execPtpAnnounce, hat, hknown, Bool.not_true, Bool.false_eq_true, Bool.true_or, if_true, if_false]
  rfl

theorem exec_ptpAnnounce_elsewhere {m : PtpMsg} (best : Bool) (hat : s.ptpAt d m.port = false) : exec (.ptpAnnounce d m best) s = .next s :=
  congrArg _ (if_pos (by simp [hat]))

/-- R417: the receipt time-out of a LOCKED domain. -/
theorem exec_announceReceiptTimeout_loses {t : Nat} (hon : s.ptpOn d = true) (hmaster : (s.domain d).portState ≠ 6)
    (hlocked : (s.domain d).locked = true) (hlast : (s.domain d).lastAnnounce = some t)
    (hdue : t + (s.ptp d 10).toNat * (if s.ptp d 2 = 2 then 1000000000 else 1000000000 * 2 ^ (s.ptp d 9).toNat) ≤ s.clk.local_) :
    exec (.announceReceiptTimeout d) s = .next ((s.modDomain d fun x =>
      { x with locked := false, holdover := true, portState := 4, master := none, lastAnnounce := none, good := 0, bad := 0,
               lockedSince := none, outSince := some s.clk.local_ }).ptpChange d 4) := by
  have hreached := Nat.le_trans hdue (Nat.le_add_right _ 50000)
  change execAnnounceReceiptTimeout d s = _
  simp [-mul_ite, execAnnounceReceiptTimeout, hon, hmaster, hlocked, hlast, hreached]

theorem exec_announceReceiptTimeout_early {t : Nat} (hlast : (s.domain d).lastAnnounce = some t)
    (hearly : s.clk.local_ + 50000 < t + (s.ptp d 10).toNat * (if s.ptp d 2 = 2 then 1000000000 else 1000000000 * 2 ^ (s.ptp d 9).toNat)) :
    exec (.announceReceiptTimeout d) s = .next s := by
  have hnot := Nat.not_le.mpr hearly
  change execAnnounceReceiptTimeout d s = _
  simp [-mul_ite, execAnnounceReceiptTimeout, hlast, hnot]

/-! ### A domain's own intervals -/

section
variable (hmaster : (s.domain d).portState = 6) (hon : s.ptpOn d = true)
include hmaster hon

theorem exec_ptpSyncInterval_master : exec (.ptpSyncInterval d) s = .next (((s.ptpPorts d).foldl (fun u p =>
    u.ptpSend ⟨d, p, 0, (s.domain d).seqSync, (s.domain d).base.valueAt u.clk.local_, 0⟩) s).modDomain d fun y =>
      { y with seqSync := (y.seqSync + 1) % 65536 }) :=
  congrArg _ (if_neg (by simp [hmaster, hon]))

theorem exec_ptpAnnounceInterval_master : exec (.ptpAnnounceInterval d) s = .next (((s.ptpPorts d).foldl (fun u p =>
    u.ptpSend ⟨d, p, 11, (s.domain d).seqAnnounce, 0, 0⟩) s).modDomain d fun y => { y with seqAnnounce := (y.seqAnnounce + 1) % 65536 }) :=
  congrArg _ (if_neg (by simp [hmaster, hon]))

end

theorem exec_ptpSyncInterval_other (hother : (s.domain d).portState ≠ 6) : exec (.ptpSyncInterval d) s = .next s :=
  congrArg _ (if_pos (.inl hother))

theorem exec_ptpAnnounceInterval_other (hother : (s.domain d).portState ≠ 6) : exec (.ptpAnnounceInterval d) s = .next s :=
  congrArg _ (if_pos (.inl hother))

/-- R415: a slave of DEFAULT-E2E asks its master for the delay. -/
theorem exec_ptpDelayInterval_asks (hon : s.ptpOn d = true) (he2e : s.ptp d 2 = 0) (hmaster : (s.domain d).master ≠ none) :
    exec (.ptpDelayInterval d) s = .next ((s.ptpSend ⟨d, (s.domain d).activePort, 1, (s.domain d).seqDelay, (s.domain d).base.valueAt s.clk.local_, 0⟩).modDomain d
      fun y => { y with seqDelay := (y.seqDelay + 1) % 65536, delaySent := some s.clk.local_ }) := by
  change execPtpDelayInterval d s = _
  simp [execPtpDelayInterval, hon, he2e, hmaster]

theorem exec_ptpDelayInterval_alone (he2e : s.ptp d 2 = 0) (hmaster : (s.domain d).master = none) :
    exec (.ptpDelayInterval d) s = .next s :=
  congrArg _ (if_pos (.inr ⟨by simp [he2e], hmaster⟩))

end

/-! ### The obligation -/

/-- Settles O28: each clause is the lemma of its message's outcome. -/
theorem ptpDomains : Obligations.PtpDomains := by
  unfold Obligations.PtpDomains
  refine ⟨fun d m s => ⟨?sync, ?followUp, ?pdelayReq, ?delayReq, ?delayResp, ?pdelayResp⟩,
    fun d s => ⟨?best, ?elsewhere, ?master, ?other, ?asks, ?alone, ?timeout⟩⟩
  case sync =>
    exact fun rate hat hslave hport => ⟨exec_ptpSync_one_step hat hslave hport rate, exec_ptpSync_two_step hat hslave hport rate⟩
  case followUp => exact fun rate y => exec_ptpFollowUp_completes rate
  case pdelayReq => exact fun hat => congrArg _ (if_pos hat)
  case delayReq => exact exec_ptpDelayReq_master
  case delayResp => exact fun t => exec_ptpDelayResp_measures
  case pdelayResp =>
    exact fun t hat hsent => ⟨exec_ptpPdelayResp_one_step hat hsent, exec_ptpPdelayResp_two_step hat hsent,
      fun y => exec_ptpPdelayRespFollowUp_completes hat hsent⟩
  case best => exact fun m => exec_ptpAnnounce_best
  case elsewhere => exact fun m best => exec_ptpAnnounce_elsewhere best
  case master => exact fun hmaster hon => ⟨exec_ptpSyncInterval_master hmaster hon, exec_ptpAnnounceInterval_master hmaster hon⟩
  case other => exact fun hother => ⟨exec_ptpSyncInterval_other hother, exec_ptpAnnounceInterval_other hother⟩
  case asks => exact exec_ptpDelayInterval_asks
  case alone => exact fun _ => exec_ptpDelayInterval_alone
  case timeout =>
    exact fun t hon hmaster hlocked hlast => ⟨exec_announceReceiptTimeout_loses hon hmaster hlocked hlast,
      exec_announceReceiptTimeout_early hlast⟩

end Sys2Proof.Machine
end

section
/-! PROOFS. The inputs and outputs of time (R405, R406, R414, R421, R423, R430 to R432): one lemma for each outcome of an event. -/
namespace Sys2Proof.Machine

section
variable {s : State}

/-! ### The 10 MHz reference -/

section
variable (hup : s.up = true) (href : s.ref10m = true)
include hup href

theorem exec_ref10mValid_notes : exec .ref10mValid s = .next (s.modTime fun x => { x with refValid := true }) :=
  congrArg _ (if_pos (by simp [hup, href]))

/-- R406: the loop has settled. -/
theorem exec_ref10mLocked_locks (hvalid : s.time.refValid = true) (hfree : s.time.refLocked = false) :
    exec .ref10mLocked s = .next ((s.modTime fun x => { x with refLocked := true, refHoldover := false }).fire 966) :=
  congrArg _ (if_pos (by simp [hup, href, hvalid, hfree]))

/-- R406: the loop holds its last value. -/
theorem exec_ref10mLost_holds (hhad : s.time.refValid = true ∨ s.time.refLocked = true) :
    exec .ref10mLost s = .next (((s.modTime fun x =>
      { x with refValid := false, refLocked := false, refHoldover := true }).record 406 1 sevWarning 966 noSource []).fire 966) :=
  congrArg _ (if_pos (by simp [hup, href, hhad]))

end

/-! ### PPS in -/

/-- R431: an edge 1 s after the one before it, to within 100 µs, shows the pulse present. -/
theorem exec_ppsInEdge_follows {t l : Nat} (hup : (s.advanceTo t).up = true) (hlast : (s.advanceTo t).time.ppsInLast = some l) :
    exec (.ppsInEdge t) s = .next ((s.advanceTo t).modTime fun x => { x with
      ppsInPresent := decide (((t : Int) - l - 1000000000).natAbs ≤ 100000), ppsInLast := some t,
      ppsInOffset := if x.plantValid then secondOffset (x.plant.valueAt t) else 0 }) := by
  change execPpsInEdge t s = _
  simp [execPpsInEdge, hup, State.modTime, hlast]

section
variable {t : Nat} (hlast : s.time.ppsInLast = some t)
include hlast

theorem exec_ppsInLoss_lost (hdue : t + 2000000000 ≤ s.clk.local_) :
    exec .ppsInLoss s = .next (s.modTime fun x => { x with ppsInPresent := false }) := by
  change execPpsInLoss s = _
  simp only [execPpsInLoss, hlast, if_pos (Nat.le_trans hdue (Nat.le_add_right _ 50000))]

theorem exec_ppsInLoss_early (hearly : s.clk.local_ + 50000 < t + 2000000000) : exec .ppsInLoss s = .next s := by
  change execPpsInLoss s = _
  simp only [execPpsInLoss, hlast, if_neg (Nat.not_le.mpr hearly)]

end

/-! ### The plant ports -/

/-- R414: a port that loses its link leaves the domains that it carries to the other, where that one has its link. -/
theorem exec_plantPortLinkChange_changes {port : Fin 2} {up : Bool} (hchange : (s.time.plantLink[port.val]?).getD false ≠ up) :
    let a := s.modTime fun x => { x with
      plantLink := modAt x.plantLink port fun _ => up
      domains := x.domains.map fun d =>
        if (up = false ∧ d.activePort = port.val) ∧ (x.plantLink[1 - port.val]?).getD false = true then { d with activePort := 1 - port.val } else d }
    exec (.plantPortLinkChange port up) s = .next ((a.record 414 1 (if up then sevInfo else sevWarning) 969 noSource
      [(4, port), (4, if up then 1 else 0)]).fire 969) := by
  change execPlantPortLinkChange port up s = _
  rw [execPlantPortLinkChange, if_neg hchange]
  simp only [Bool.and_eq_true, Bool.not_eq_true', beq_iff_eq]

/-! ### Leap seconds -/

section
variable (hup : s.up = true)
include hup

/-- R423: an inserted second ends. -/
theorem exec_leapSecond_ends (hin : s.time.inLeap = true) (ins : Bool) :
    exec (.leapSecond ins) s = .next (s.modTime fun x => { x with inLeap := false, utcOffset := s.utcOffset + 1, utcKnown := true }) :=
  congrArg _ ((if_neg (by simp [hup])).trans (if_pos hin))

theorem exec_leapSecond_inserts (hin : s.time.inLeap = false) (hleap : (s.domain s.time.selected).leap61 = true) :
    exec (.leapSecond true) s = .next (s.modTime fun x => { x with inLeap := true }) := by
  change execLeapSecond true s = _
  simp [execLeapSecond, hup, hin, hleap]

theorem exec_leapSecond_deletes (hin : s.time.inLeap = false) (hleap : (s.domain s.time.selected).leap59 = true) :
    exec (.leapSecond false) s = .next (s.modTime fun x => { x with utcOffset := s.utcOffset - 1, utcKnown := true }) := by
  change execLeapSecond false s = _
  simp [execLeapSecond, hup, hin, hleap]

/-! ### Selection -/

/-- R421: the preferred domain has been LOCKED for SELECT_DELAY. -/
theorem exec_selectDelayExpiry_returns {t : Nat} (hauto : s.setting 0x42 2 0 = 1) (hvariant : s.ident.variant ≠ .nk920)
    (hrunning : s.isQuiesced 0x42 = false) (haway : s.time.selected ≠ s.settingNat 0x42 1 0)
    (hlocked : (s.domain (s.settingNat 0x42 1 0)).locked = true) (hsince : (s.domain (s.settingNat 0x42 1 0)).lockedSince = some t)
    (hdue : t + s.settingNat 0x42 3 0 * 1000000000 ≤ s.clk.local_) :
    exec .selectDelayExpiry s = .next (s.selectDomain (s.settingNat 0x42 1 0)) := by
  have hreached := Nat.le_trans hdue (Nat.le_add_right _ 50000)
  change execSelectDelayExpiry s = _
  simp [execSelectDelayExpiry, hauto, hvariant, hrunning, hup, haway, hlocked, hsince, hreached]

/-! ### Time alarms -/

section
variable {no : Fin 16} {a : Alarm} {due : Nat} (ha : s.time.alarms[no.val]? = some a) (henable : a.enable = 1)
  (hnext : s.alarmDue no a = some due)
include ha henable hnext

/-- R432: an alarm of ring time. -/
theorem exec_timeAlarm_ring (hbase : a.base ≠ 0) (hdue : due ≤ s.clk.ring) : exec (.timeAlarm no) s = .next (s.fireAlarm no due due) := by
  have hreached := Nat.le_trans hdue (Nat.le_add_right _ 50000)
  change execTimeAlarm no s = _
  simp [execTimeAlarm, ha, hup, henable, hbase, hnext, hreached]

/-- R432: an alarm of plant time fires at its instant in ring time. -/
theorem exec_timeAlarm_plant (hbase : a.base = 0) (hvalid : s.time.plantValid = true)
    (hdue : due ≤ (s.time.plant.valueAt s.clk.local_).toNat) :
    exec (.timeAlarm no) s = .next (s.fireAlarm no due (s.clk.ring + due - (s.time.plant.valueAt s.clk.local_).toNat)) := by
  have hreached := Nat.le_trans hdue (Nat.le_add_right _ 50000)
  change execTimeAlarm no s = _
  simp [execTimeAlarm, ha, hup, henable, hbase, hvalid, hnext, hreached]

end

end

end

/-! ### The obligation -/

/-- Settles O29: each clause is the lemma of its event's outcome. -/
theorem timeInputs : Obligations.TimeInputs := by
  unfold Obligations.TimeInputs
  intro s
  refine ⟨?reference, rfl, rfl, rfl, ?ppsEdge, ?ppsLoss, ?link, ?leapEnds, ?leapInserts, ?leapDeletes, ?select, ?alarm⟩
  case reference =>
    exact fun hup href => ⟨exec_ref10mValid_notes hup href, exec_ref10mLocked_locks hup href, exec_ref10mLost_holds hup href⟩
  case ppsEdge => exact fun t l => exec_ppsInEdge_follows
  case ppsLoss => exact fun t hlast => ⟨exec_ppsInLoss_lost hlast, exec_ppsInLoss_early hlast⟩
  case link => exact fun port up => exec_plantPortLinkChange_changes
  case leapEnds => exact exec_leapSecond_ends
  case leapInserts => exact exec_leapSecond_inserts
  case leapDeletes => exact exec_leapSecond_deletes
  case select => exact fun hauto hvariant hrunning hup t => exec_selectDelayExpiry_returns hup hauto hvariant hrunning
  case alarm =>
    exact fun no a due ha hup henable hnext => ⟨exec_timeAlarm_ring hup ha henable hnext, exec_timeAlarm_plant hup ha henable hnext⟩

end Sys2Proof.Machine
end

section
/-! PROOFS. The local channels (R482 to R489, R494, R497, R498) and HART transactions (R499 to R501): one lemma for each outcome of an event. -/
namespace Sys2Proof.Machine

section
variable {s : State}

/-! ### Digital channels -/

/-- R488. -/
theorem exec_shareChange_drives (hdrives : s.drivesLocal = true) (half : Bool) :
    exec (.shareChange half) s = .next (s.modPair fun p => { p with shareTick := some (s.clk.tick + 1, half) }) := congrArg _ (if_pos hdrives)

theorem exec_shareChange_other (hdrives : s.drivesLocal = false) (half : Bool) : exec (.shareChange half) s = .next s :=
  congrArg _ (if_neg (Bool.eq_false_iff.mp hdrives))

/-- R482 and R483: an edge, with its stamp, and its fire where the channel selects it. -/
theorem exec_diEdge_taken {ch : Fin 32} {level : Bool} {t : Nat} (hup : (s.advanceTo t).up = true)
    (hvariant : (s.advanceTo t).ident.variant ≠ .nk920) (hedge : (s.advanceTo t).io.di.getLsbD ch ≠ level) :
    let a := (s.advanceTo t).modIo fun io => { io with di := putBit io.di ch level }
    exec (.diEdge ch level t) s = .next (if a.setting 0x30 3 ch = 3 ∨ a.setting 0x30 3 ch = (if level then 1 else 2) then
      a.fireAt ch (if a.mode = .lantern then t / 1000 * 1000 else a.ringAt (t / 100 * 100)) else a) := by
  change execDiEdge ch level t s = _
  rw [execDiEdge, if_neg (by simp only [hup, hvariant, hedge, Bool.not_true, Bool.false_or, Bool.or_eq_true, beq_iff_eq, or_self, not_false_eq_true])]
  simp only [beq_iff_eq]

theorem exec_diEdge_no_edge {ch : Fin 32} {level : Bool} {t : Nat} (hsame : (s.advanceTo t).io.di.getLsbD ch = level) :
    exec (.diEdge ch level t) s = .next (s.advanceTo t) := congrArg _ (if_pos (by rw [hsame, beq_self_eq_true, Bool.or_true]))

/-- R486: no condition of the fault is left. -/
theorem exec_doFaultClear_clears (hup : s.up = true) (hcool : s.io.thermal = 0) (hsupply : s.io.lplusOk = true) :
    exec .doFaultClear s = .next (s.setDoFault false) := congrArg _ (if_pos (by simp [hup, hcool, hsupply]))

theorem exec_doFaultClear_stands (hcause : s.io.thermal ≠ 0 ∨ s.io.lplusOk = false) : exec .doFaultClear s = .next s := by
  refine congrArg _ (if_neg ?_)
  rcases hcause with h | h
  · simp only [beq_eq_false_iff_ne.mpr h, Bool.and_false, Bool.false_and, Bool.false_eq_true, not_false_eq_true]
  · simp [h]

/-! ### Analogue channels -/

section
variable (hup : s.up = true)
include hup

/-- R494: the status of an enabled channel follows its converter. -/
theorem exec_aiStatusChange_follows {ch : Fin 8} (code : Nat) (fault : Bool) (henabled : s.setting 0x32 1 ch = 1) :
    let a := s.modIo fun io => { io with ai := modAt io.ai ch fun _ => aiMeasured code fault }
    exec (.aiStatusChange ch code fault) s = .next (
      if (s.io.aiCh ch).open_ ≠ (aiMeasured code fault).open_ ∨ (s.io.aiCh ch).converterFault ≠ fault then a.channelChange 0x32 ch else a) :=
  congrArg _ (if_neg (by simp [hup, henabled]))

/-- R497. -/
theorem exec_aoLoopLow_takes_share {ch : Fin 4} (hhalf : s.io.half = true) (hthere : (s.io.ao[ch.val]?).isSome = true) :
    exec (.aoLoopLow ch) s = .next s.fullShare := congrArg _ (if_pos (by simp only [hup, hhalf, hthere, Bool.and_self]))

section
variable {ch : Fin 4} {on : Bool}

/-- R498. -/
theorem exec_openLoop_changes (hchange : (s.aoCh ch).openLoop ≠ on) :
    exec (.openLoop ch on) s = .next ((s.modAo ch fun c => { c with openLoop := on }).channelChange 0x33 ch) :=
  congrArg _ (if_neg (by simp [hup, hchange]))

/-- R498. -/
theorem exec_stageFault_changes (hchange : (s.aoCh ch).stageFault ≠ on) :
    exec (.stageFault ch on) s = .next ((s.modAo ch fun c => { c with stageFault := on }).channelChange 0x33 ch) :=
  congrArg _ (if_neg (by simp [hup, hchange]))

end

end

theorem exec_openLoop_same {ch : Fin 4} {on : Bool} (hsame : (s.aoCh ch).openLoop = on) : exec (.openLoop ch on) s = .next s :=
  congrArg _ (if_pos (by simp [hsame]))

/-! ### HART -/

section
variable {ch : Fin 12} {x : HartTx} (hactive : (s.hartCh ch).active = some x)
include hactive

/-- R500: the answer of command 0 gives the identifier. -/
theorem exec_hartResponse_identifies (code : Nat) (data : List Byte) (huid : (s.hartCh ch).uid = false) :
    exec (.hartResponse ch code data) s = .next (s.modHart ch fun h => { h with uid := true }) := by
  change execHartResponse ch code data s = _
  simp [execHartResponse, hactive, huid]

/-- R500: the answer of a transaction of this module ends it DONE. -/
theorem exec_hartResponse_ends (code : Nat) (data : List Byte) (huid : (s.hartCh ch).uid = true) {k : Ticket} (hticket : x.ticket = some k) :
    exec (.hartResponse ch code data) s =
      .next (((s.modHart ch fun h => { h with active := none, held := h.held }).finishOpt (some k) 0 (hartBody 0 code data)).hartNext ch) := by
  change execHartResponse ch code data s = _
  simp [execHartResponse, hactive, huid, hticket]

/-- R500: an attempt is repeated, up to three. -/
theorem exec_hartAttemptTimeout_repeats (fe : Bool) (hleft : x.attempts < 3) :
    exec (.hartAttemptTimeout ch fe) s = .next (s.modHart ch fun h =>
      { h with active := some { x with attempts := x.attempts + 1, frameErrors := x.frameErrors + (if fe then 1 else 0) } }) := by
  change execHartAttemptTimeout ch fe s = _
  simp only [execHartAttemptTimeout, hactive, if_pos hleft]

/-- R500: after three attempts the transaction ends, COMM-ERROR where each of them had a frame error (log 50). -/
theorem exec_hartAttemptTimeout_ends (fe : Bool) (hspent : 3 ≤ x.attempts) :
    let result := if x.frameErrors + (if fe then 1 else 0) = 3 then 2 else 1
    exec (.hartAttemptTimeout ch fe) s = .next (((s.modHart ch fun h =>
      { h with active := none, uid := if result = 1 then false else h.uid }).finishOpt x.ticket 0 (hartBody result 0 [])).hartNext ch) := by
  change execHartAttemptTimeout ch fe s = _
  simp only [execHartAttemptTimeout, hactive, if_neg (Nat.not_lt.mpr hspent)]

end

/-- R499: what nothing asked for is a burst. -/
theorem exec_hartResponse_burst {ch : Fin 12} (code : Nat) (data : List Byte) (hidle : (s.hartCh ch).active = none)
    (hmirrors : (s.hartCh ch).mirrors = []) :
    exec (.hartResponse ch code data) s = .next (s.modHart ch fun h => { h with bursts := h.bursts + 1 }) := by
  change execHartResponse ch code data s = _
  simp only [execHartResponse, hidle, hmirrors]

end

/-! ### The obligation -/

/-- Settles O32: each clause is the lemma of its event's outcome. -/
theorem localChannels : Obligations.LocalChannels := by
  unfold Obligations.LocalChannels
  refine ⟨fun s => ⟨exec_shareChange_drives, exec_shareChange_other, ?edge, ?noEdge, rfl, fun ch => ⟨rfl, rfl⟩, ?faultSet,
      exec_doFaultClear_clears, exec_doFaultClear_stands⟩,
    fun s => ⟨?status, ?loopLow, ?loops, ?transaction, ?burst, fun req => rfl, fun ch => rfl⟩⟩
  case edge => exact fun ch level t => exec_diEdge_taken
  case noEdge => exact fun ch level t => exec_diEdge_no_edge
  case faultSet => exact fun hup => congrArg _ (if_pos hup)
  case status => exact fun ch code fault hup => exec_aiStatusChange_follows hup code fault
  case loopLow => exact fun ch hup => exec_aoLoopLow_takes_share hup
  case loops => exact fun ch on hup => ⟨exec_openLoop_changes hup, exec_openLoop_same, exec_stageFault_changes hup⟩
  case transaction =>
    exact fun ch code data x hactive => ⟨exec_hartResponse_identifies hactive code data,
      fun huid k => exec_hartResponse_ends hactive code data huid,
      fun fe => ⟨exec_hartAttemptTimeout_repeats hactive fe, exec_hartAttemptTimeout_ends hactive fe⟩⟩
  case burst => exact fun ch code data => exec_hartResponse_burst code data

end Sys2Proof.Machine
end

section
/-! PROOFS. The CAN controllers (R502, R503, R505, R508, R510, R512, R518 to R520) and the time-triggered schedule (R518, R522 to R524): one lemma for
each outcome of an event. -/
namespace Sys2Proof.Machine

section
variable {k : Fin 4} {s : State}

/-! ### Reception -/

/-- R512: a data frame of another node, outside RATE-DETECT. -/
theorem exec_canFrameReceived_filters (f : CanFrame) (t : Nat) (hruns : (s.advanceTo t).canRuns k = true)
    (hmode : (s.advanceTo t).canSetting k 2 ≠ 2) :
    let a := (s.advanceTo t).canSeen k f
    exec (.canFrameReceived k f false false t) s = .next (
      (if (a.ctl k).isReference f then
        a.modCan k fun c =>
          c.takeReference ((s.advanceTo t).ringAt t) (((f.data[0]?).getD 0).toNat % max 1 ((c.sched.map (·.cycles)).getD 1)) (f.id % 8) false
       else a.canViolation k f ((s.advanceTo t).ringAt t)).canFilter k f ((s.advanceTo t).ringAt t)) := by
  change execCanFrameReceived k f false false t s = _
  rw [execCanFrameReceived, if_neg (by simp [hruns])]
  simp only [if_neg hmode, Bool.false_eq_true, if_false]

/-- R512: the controller's own frames are not matched. -/
theorem exec_canFrameReceived_own (f : CanFrame) (remote : Bool) (t : Nat) : exec (.canFrameReceived k f remote true t) s = .next (s.advanceTo t) :=
  congrArg _ (if_pos (by simp))

/-! ### Transmission -/

section
variable {x : CanTx} (hdrives : s.canDrives k = true) (hnext : (s.ctl k).nextTx = some x)
include hdrives hnext

/-- R505: a loop delay above 400 ns. -/
theorem exec_canTxComplete_long_loop (seen : Bool) {loop : Nat} (hbrs : x.frame.brs = true) (hloop : 400 < loop) :
    exec (.canTxComplete k ⟨seen, loop⟩) s = .next (s.modCan k fun c =>
      { c with
        longLoops := satInc c.longLoops
        sending := c.sending.map fun y => if y = x then { y with frame := { y.frame with brs := false } } else y }) := by
  change execCanTxComplete k ⟨seen, loop⟩ s = _
  simp [execCanTxComplete, hdrives, hnext, hbrs, hloop]

/-- R510 and R519: the frame is sent, and the partner has seen it or not. -/
theorem exec_canTxComplete_sent (seen : Bool) {loop : Nat} (hshort : x.frame.brs = false ∨ loop ≤ 400) :
    let a := (s.modCan k fun c =>
        { c with
          sending := c.sending.erase x, txOk := satInc c.txOk, failRun := 0, tec := c.tec - 1
          state := if c.tec - 1 < 128 ∧ c.rec_ < 128 then 1 else c.state
          matched := if seen then min 16 (c.matched + 1) else 0, missed := if seen then 0 else c.missed + 1 }).finishOpt x.ticket 0 []
    exec (.canTxComplete k ⟨seen, loop⟩) s = .next (if 16 ≤ (a.ctl k).matched ∧ a.canMatches k = true then a.setRedundant k true
      else if 3 ≤ (a.ctl k).missed then a.setRedundant k false else a) := by
  have hsent : ¬ (x.frame.brs && decide (400 < loop)) = true := by
    rcases hshort with h | h <;> simp [h]
  change execCanTxComplete k ⟨seen, loop⟩ s = _
  simp only [execCanTxComplete, hdrives, hnext, if_neg hsent, Bool.not_true, Bool.false_eq_true, if_false]

/-- R508 and R519: an attempt failed. -/
theorem exec_canTxError_fails (peerSaw : Bool) :
    let a := s.modCan k fun c =>
        { c with
          errorFrames := satInc c.errorFrames, failRun := c.failRun + 1, tec := min 255 (c.tec + 8)
          state := if 128 ≤ c.tec + 8 then 2 else c.state }
    let b := if x.timed = true ∨ s.canSetting k 7 ≤ x.attempts then a.canLose k x
      else a.modCan k fun c =>
          { c with
            retransmissions := satInc c.retransmissions
            sending := c.sending.map fun y => if y = x then { y with attempts := y.attempts + 1 } else y }
    exec (.canTxError k peerSaw) s = .next (if 16 ≤ (b.ctl k).failRun ∧ peerSaw = true then b.canFault k else b) := by
  change execCanTxError k peerSaw s = _
  simp only [execCanTxError, hdrives, hnext, Bool.not_true, Bool.false_eq_true, if_false]

end

section
variable (hruns : s.canRuns k = true)
include hruns

/-- R502 and R508: what waits is lost, and the serving role moves. -/
theorem exec_canBusOff_loses : exec (.canBusOff k) s = .next (((s.canLoseAll k).modCan k fun c =>
    { c with state := 3, busOffs := satInc c.busOffs, tec := 255, failRun := 0 }).canFault k) := congrArg _ (if_neg (by simp [hruns]))

/-- R503. -/
theorem exec_dominantTimeout_faults : exec (.dominantTimeout k) s = .next (s.canFault k) := congrArg _ (if_pos hruns)

/-- R518. -/
theorem exec_canMirror_holds (f : CanFrame) : exec (.canMirror k f) s = .next (s.modCan k fun c =>
    if c.serving then { c with sending := c.sending ++ [⟨f, none, none, false, 0⟩] } else { c with mirrors := c.mirrors ++ [f] }) :=
  congrArg _ (if_neg (by simp [hruns]))

/-- R520: the next rate of the list. -/
theorem exec_rateDetectTimeout_next (hmode : s.canSetting k 2 = 2) (hsearching : (s.ctl k).rateFound = false) :
    exec (.rateDetectTimeout k) s = .next (s.modCan k fun c => { c with
      rateFrames := 0, rateIndex := (c.rateIndex + 1) % (if c.dataPhase then canDataRates.length else canNominalRates.length) }) :=
  congrArg _ (if_pos (by simp [hruns, hmode, hsearching]))

end

/-- A controller that is not on the bus has no bus-off, no dominant bit and no rate to look for. -/
theorem exec_can_off_bus (hoff : s.canRuns k = false) :
    exec (.canBusOff k) s = .next s ∧ exec (.dominantTimeout k) s = .next s ∧ exec (.rateDetectTimeout k) s = .next s :=
  ⟨congrArg _ (if_pos (by simp [hoff])), congrArg _ (if_neg (by simp [hoff])), congrArg _ (if_neg (by simp [hoff]))⟩

/-- R502. -/
theorem exec_canBusOffRecovery_recovers (hup : s.up = true) (hoff : (s.ctl k).state = 3) (hunit : s.isQuiesced (0x20 + k) = false) :
    exec (.canBusOffRecovery k) s = .next (s.modCan k fun c => { c with state := 1, tec := 0, rec_ := 0 }) :=
  congrArg _ (if_pos (by simp [hup, hoff, hunit]))

/-! ### References -/

section
variable (hmaster : s.canMaster k = true)
include hmaster

/-- R522: no master of higher priority is heard. -/
theorem basicCycle_own (hfirst : (s.ctl k).ttSync = false ∨ (s.ctl k).timeMaster = true ∨ s.canSetting k 9 ≤ (s.ctl k).masterPriority) :
    ¬ (!s.canMaster k || ((s.ctl k).ttSync && !(s.ctl k).timeMaster && decide ((s.ctl k).masterPriority < s.canSetting k 9))) = true := by
  rcases hfirst with h | h | h <;> simp [hmaster, h]

theorem exec_referenceWatchTimeout_sends (hfree : (s.ctl k).timeMaster = false ∨ (s.ctl k).missedRefs = 0) :
    exec (.referenceWatchTimeout k) s = .next (s.sendReference k) := by
  refine congrArg _ (if_pos ?_)
  rcases hfree with h | h <;> simp [hmaster, h]

end

theorem exec_basicCycleStart_other (hother : s.canMaster k = false) (ok : Bool) : exec (.basicCycleStart k ok) s = .next s :=
  congrArg _ (if_pos (by simp [hother]))

theorem exec_referenceWatchTimeout_other (hother : s.canMaster k = false) : exec (.referenceWatchTimeout k) s = .next s :=
  congrArg _ (if_neg (by simp [hother]))

/-! ### Windows and periods -/

section
variable {x : CanSched} (hsched : (s.ctl k).sched = some x)
include hsched

theorem exec_ttWindow_queues {w : Nat} {o : CanObject} (hdrives : s.canDrives k = true) (hsync : (s.ctl k).ttSync = true)
    (hobject : x.objectAt w (s.ctl k).cycleCount = some o) : exec (.ttWindow k w) s = .next (s.queueObject k o true) := by
  change execTtWindow k w s = _
  simp [execTtWindow, hsched, hdrives, hsync, hobject]

theorem exec_periodMs_queues {n : Nat} {o : CanObject} (hruns : s.canRuns k = true) (hcomputes : s.computes = true)
    (hobject : (x.objects.find? fun o => o.object == n && decide (0 < o.period)) = some o) :
    exec (.periodMs k n) s = .next (s.queueObject k o false) := by
  change execPeriodMs k n s = _
  simp [execPeriodMs, hsched, hruns, hcomputes, hobject]

end

theorem exec_ttWindow_no_schedule (hsched : (s.ctl k).sched = none) (n : Nat) :
    exec (.ttWindow k n) s = .next s ∧ exec (.periodMs k n) s = .next s := by
  change execTtWindow k n s = _ ∧ execPeriodMs k n s = _
  simp [execTtWindow, execPeriodMs, hsched]

end

/-! ### The obligation -/

/-- Settles O34: each clause is the lemma of its event's outcome. -/
theorem canEvents : Obligations.CanEvents := by
  unfold Obligations.CanEvents
  refine ⟨fun k s => ⟨?received, ?own, ?longLoop, ?sent, ?failed, ?running, exec_can_off_bus, exec_canBusOffRecovery_recovers⟩,
    fun k s => ⟨?cycle, exec_basicCycleStart_other, exec_referenceWatchTimeout_sends, exec_referenceWatchTimeout_other, ?window, ?period,
      exec_ttWindow_no_schedule, rfl⟩⟩
  case received => exact exec_canFrameReceived_filters
  case own => exact exec_canFrameReceived_own
  case longLoop => exact fun x seen loop hdrives hnext => exec_canTxComplete_long_loop hdrives hnext seen
  case sent => exact fun x seen loop hdrives hnext => exec_canTxComplete_sent hdrives hnext seen
  case failed => exact fun x peerSaw hdrives hnext => exec_canTxError_fails hdrives hnext peerSaw
  case running =>
    exact fun hruns => ⟨exec_canBusOff_loses hruns, exec_dominantTimeout_faults hruns, exec_canMirror_holds hruns,
      exec_rateDetectTimeout_next hruns⟩
  case cycle =>
    exact fun hmaster hfirst => ⟨congrArg _ (if_neg (basicCycle_own hmaster hfirst)), congrArg _ (if_neg (basicCycle_own hmaster hfirst))⟩
  case window => exact fun x w o hsched => exec_ttWindow_queues hsched
  case period => exact fun x n o hsched => exec_periodMs_queues hsched

end Sys2Proof.Machine
end

section
/-! PROOFS. The key reader (R549 to R556), the signature engine (R542, R543) and the times that end sessions (R436, R448, R449): one lemma for each
outcome of an event. -/
namespace Sys2Proof.Machine

section
variable {s : State}

/-! ### Challenges and answers -/

/-- R549 and R550. -/
theorem exec_keyChallenge_starts (nonce : List Byte) (hup : s.up = true) (hidle : s.reader.challenging = false)
    (hselected : s.reader.selected = none) (hflooded : s.reader.flooded = false) (hlockout : s.reader.lockout = false)
    (hquiet : s.reader.waitQuiet = false) :
    exec (.keyChallenge nonce) s = .next (s.modReader fun r =>
      { r with
        nonce := nonce, challenging := true, answers := [], collided := [], identified := [], received := none, verdicts := [],
        waitQuiet := false, quietFrom := none }) :=
  congrArg _ (if_pos (by simp [hup, hidle, hselected, hflooded, hlockout, hquiet]))

/-- R555. -/
theorem exec_keyChallenge_locked (nonce : List Byte) (hlockout : s.reader.lockout = true) : exec (.keyChallenge nonce) s = .next s :=
  congrArg _ (if_neg (by simp [hlockout]))

/-- R550 and R553: two answers in one slot, or a garbled one (log 43), are a collision. -/
theorem exec_tagSerialAnswer_slot (slot : Fin 16) (serial : Word) (crcOk : Bool) (hquiet : s.reader.waitQuiet = false)
    (hchallenging : s.reader.challenging = true) :
    exec (.tagSerialAnswer slot serial crcOk) s = .next (s.modReader fun r =>
      if crcOk = false ∨ r.collided.contains slot.val = true ∨ (r.answers.any fun a => a.1 == slot.val) = true then
        { r with
          answers := r.answers.filter fun a => a.1 != slot.val
          collided := if r.collided.contains slot.val then r.collided else r.collided ++ [slot.val] }
      else { r with answers := NMap.set r.answers slot serial }) := by
  change execTagSerialAnswer slot serial crcOk s = _
  simp only [execTagSerialAnswer, hquiet, hchallenging, Bool.not_true, Bool.false_eq_true, if_false, Bool.or_eq_true, Bool.not_eq_true',
    or_assoc]

section
variable (hchallenging : s.reader.challenging = true)
include hchallenging

/-- What the end of the slots makes of the reader's answers. -/
theorem exec_keySlotsEnd_challenging : exec .keySlotsEnd s = .next (s.modReader fun r =>
    if !r.collided.isEmpty then { r with challenging := false, answers := [], collided := [] }
    else match r.answers with
      | [] => r.idle
      | a :: as => { r with challenging := false, identified := (a :: as).map (·.2), selected := some a.2 }) :=
  congrArg _ (if_neg (by simp [hchallenging]))

/-- R553. -/
theorem exec_keySlotsEnd_collided (hcollided : s.reader.collided ≠ []) :
    exec .keySlotsEnd s = .next (s.modReader fun r => { r with challenging := false, answers := [], collided := [] }) := by
  rw [exec_keySlotsEnd_challenging hchallenging]
  simp [State.modReader, hcollided]

/-- R550: no tag answered. -/
theorem exec_keySlotsEnd_empty (hclear : s.reader.collided = []) (hnone : s.reader.answers = []) :
    exec .keySlotsEnd s = .next (s.modReader Reader.idle) := by
  rw [exec_keySlotsEnd_challenging hchallenging]
  simp [State.modReader, hclear, hnone]

/-- R550: the first tag that answered is asked. -/
theorem exec_keySlotsEnd_selects {a : Nat × Word} {as : List (Nat × Word)} (hclear : s.reader.collided = [])
    (hanswers : s.reader.answers = a :: as) :
    exec .keySlotsEnd s = .next (s.modReader fun r =>
      { r with challenging := false, identified := (a :: as).map (·.2), selected := some a.2 }) := by
  rw [exec_keySlotsEnd_challenging hchallenging]
  simp [State.modReader, hclear, hanswers]

end

/-! ### Credentials -/

/-- R549 and R551: its two verifications go to the signature engine. -/
theorem exec_credential_submits {c : Credential} (hselected : s.reader.selected = some c.serial) (hfirst : s.reader.received = none)
    (hcrc : c.crcOk = true) (hflooded : s.reader.flooded = false) :
    exec (.credential c) s =
      .next ((s.modReader fun r => { r with received := some c }).submit [⟨if c.curve = 2 then 1 else 0, true⟩, ⟨0, true⟩]) :=
  congrArg _ (if_pos (by simp [hselected, hfirst, hcrc, hflooded]))

section
variable {c : Credential} (hreceived : s.reader.received = some c) (honly : s.reader.identified = [c.serial])
include hreceived honly

/-- R552 and R556: the one key of the presentation is valid. -/
theorem exec_keyVerifyDone_present (hvalid : s.credentialFault c = 0) :
    exec .keyVerifyDone s = .next ((((s.modReader fun r =>
      { r with received := none, selected := none, verdicts := r.verdicts ++ [(c.serial, true)] }).keyPresent c).modReader fun r =>
        { r.idle with waitQuiet := false, quietFrom := none })) := by
  change execKeyVerifyDone s = _
  simp [execKeyVerifyDone, hreceived, honly, hvalid]

/-- R552 and R555: it is not. -/
theorem exec_keyVerifyDone_fails (hfault : s.credentialFault c ≠ 0) :
    exec .keyVerifyDone s = .next (((s.failedAttempt c.serial (s.credentialFault c)).modReader fun r =>
      { r with received := none, selected := none, verdicts := r.verdicts ++ [(c.serial, false)] }).modReader fun r =>
        { r.idle with waitQuiet := false, quietFrom := none }) := by
  change execKeyVerifyDone s = _
  simp [execKeyVerifyDone, hreceived, honly, hfault, beq_eq_false_iff_ne.mpr hfault]

end

theorem exec_keyVerifyDone_nothing (hreceived : s.reader.received = none) : exec .keyVerifyDone s = .next s := by
  change execKeyVerifyDone s = _
  simp only [execKeyVerifyDone, hreceived]

/-! ### Flooding -/

/-- R554. -/
theorem exec_lightFlooding_discards (hchallenging : s.reader.challenging = true) :
    exec .lightFlooding s = .next (s.modReader fun r => { r with
      challenging := false, answers := [], collided := [], identified := [], selected := none, received := none, verdicts := [],
      flooded := true, floods := r.floods + 1 }) := congrArg _ (if_pos (by simp [hchallenging]))

section
variable (hflooded : s.reader.flooded = true)
include hflooded

theorem exec_floodQuiet_retries (hleft : s.reader.retries < 3) :
    exec .floodQuiet s = .next (s.modReader fun r => { r with flooded := false, retries := r.retries + 1 }) :=
  congrArg _ ((if_neg (by simp [hflooded])).trans (if_pos hleft))

theorem exec_floodQuiet_ends (hspent : 3 ≤ s.reader.retries) :
    exec .floodQuiet s = .next ((s.record 554 1 sevInfo noSource noSource []).modReader Reader.idle) :=
  congrArg _ ((if_neg (by simp [hflooded])).trans (if_neg (Nat.not_lt.mpr hspent)))

end

/-! ### The signature engine -/

/-- R542 and R543: the oldest operation ends. -/
theorem exec_signatureOperationDone_ends (p : Precheck) (valid : Bool) {o : SigOp} {rest : List SigOp} (hops : s.keys.ops = o :: rest) :
    exec (.signatureOperationDone p valid) s = .next (s.modKeys fun k =>
      { k with ops := rest, lastResult := (o.result p valid).1, lastTimeNs := if (o.result p valid).2 then 12000 else o.time }) := by
  change execSignatureOperationDone p valid s = _
  simp only [execSignatureOperationDone, hops]

theorem exec_signatureOperationDone_idle (hops : s.keys.ops = []) (p : Precheck) (valid : Bool) :
    exec (.signatureOperationDone p valid) s = .next s := by
  change execSignatureOperationDone p valid s = _
  simp only [execSignatureOperationDone, hops]

/-! ### Times of sessions -/

section
variable {n : Nat} {x : Session} (hx : s.session n = some x)
include hx

/-- R449. -/
theorem exec_sessionIdleExpiry_closes (hopen : x.isOpen = true) (hdue : x.lastAt + s.settingNat 0x50 5 0 * 1000000000 ≤ s.clk.local_) :
    exec (.sessionIdleExpiry n) s = .next (s.closeSession n) := by
  have hreached := Nat.le_trans hdue (Nat.le_add_right _ 50000)
  change execSessionIdleExpiry n s = _
  simp only [execSessionIdleExpiry, hx, hopen, decide_eq_true hreached, Bool.and_self, if_true]

theorem exec_sessionIdleExpiry_early (hearly : s.clk.local_ + 50000 < x.lastAt + s.settingNat 0x50 5 0 * 1000000000) :
    exec (.sessionIdleExpiry n) s = .next s := by
  change execSessionIdleExpiry n s = _
  simp only [execSessionIdleExpiry, hx, decide_eq_false (Nat.not_le.mpr hearly), Bool.and_false, Bool.false_eq_true, if_false]

/-- R448. -/
theorem exec_halfOpenExpiry_closes (hhalf : x.isOpen = false) (hdue : x.openedAt + 5000000000 ≤ s.clk.local_) :
    exec (.halfOpenExpiry n) s = .next (s.closeSession n) := by
  have hreached := Nat.le_trans hdue (Nat.le_add_right _ 50000)
  change execHalfOpenExpiry n s = _
  simp only [execHalfOpenExpiry, hx, hhalf, decide_eq_true hreached, Bool.not_false, Bool.and_self, if_true]

theorem exec_halfOpenExpiry_open (hopen : x.isOpen = true) : exec (.halfOpenExpiry n) s = .next s := by
  change execHalfOpenExpiry n s = _
  simp only [execHalfOpenExpiry, hx, hopen, Bool.not_true, Bool.false_and, Bool.false_eq_true, if_false]

end

end

/-! ### The obligation -/

/-- Settles O36: each clause is the lemma of its event's outcome. -/
theorem keysAndSignatures : Obligations.KeysAndSignatures := by
  unfold Obligations.KeysAndSignatures
  refine ⟨fun s => ⟨exec_keyChallenge_starts, exec_keyChallenge_locked, exec_tagSerialAnswer_slot, ?slotsEnd, ?credential, ?verdict,
      exec_keyVerifyDone_nothing, exec_lightFlooding_discards, ?quiet, rfl, rfl⟩,
    fun s => ⟨?operation, exec_signatureOperationDone_idle, ?sessions, fun src => rfl⟩⟩
  case slotsEnd =>
    exact fun hchallenging => ⟨exec_keySlotsEnd_collided hchallenging, exec_keySlotsEnd_empty hchallenging,
      fun a as => exec_keySlotsEnd_selects hchallenging⟩
  case credential => exact fun c => exec_credential_submits
  case verdict => exact fun c hreceived honly => ⟨exec_keyVerifyDone_present hreceived honly, exec_keyVerifyDone_fails hreceived honly⟩
  case quiet => exact fun hflooded => ⟨exec_floodQuiet_retries hflooded, exec_floodQuiet_ends hflooded⟩
  case operation => exact fun p valid o rest => exec_signatureOperationDone_ends p valid
  case sessions =>
    exact fun n x hx => ⟨exec_sessionIdleExpiry_closes hx, fun _ => exec_sessionIdleExpiry_early hx, exec_halfOpenExpiry_closes hx,
      exec_halfOpenExpiry_open hx⟩

end Sys2Proof.Machine
end

section
/-! PROOFS. What the commands of a session and of the module answer (R442, R446, R448, R449, R451, R454 to R458): one lemma for each outcome of a
command. -/
namespace Sys2Proof.Machine
open Sys2Proof.Claims

/-- R556: a command that needs a key finds it at the module. -/
theorem State.needKey_holds {s : State} (hkey : s.keyAt 2 = true) : s.needKey = .ok () := need_holds hkey _

theorem State.needKey_fails {s : State} (hkey : s.keyAt 2 = false) : s.needKey = .error (denied 3) := need_fails hkey _

/-- A payload of four zero bytes: its two fields, and its length. -/
theorem fields_of_zero_word {p : List Byte} (hp : p = [0, 0, 0, 0]) : field p 0 2 = 0 ∧ field p 2 2 = 0 ∧ p.length = 4 := by
  subst hp
  exact ⟨rfl, rfl, rfl⟩

section
variable {s : State} {r : Req}

/-! ### Sessions -/

/-- R446. -/
theorem exec_sessionOpen_opens (g : OpenGrant) (t : State) (hruns : s.fate cmdSessionOpen r = .runs)
    (hopens : (s.accept r).openSession r cmdSessionOpen g = .ok t) : exec (.sessionOpen r g) s = .next (t.closeLast r.session) := by
  refine receive_waits hruns ?_
  simp only [hopens]

/-- R448: a session that sent no chain is confirmed by the second step alone. -/
theorem exec_sessionConfirm_opens (sigOk : Bool) {x : Session} (hruns : s.fate cmdSessionConfirm r = .runs)
    (hx : (s.accept r).session r.session = some x) (hhalf : x.isOpen = false) (hchain : x.chainSent = false) (hp : r.payload = [0, 0, 0, 0])
    (hseq : r.seq = 1) :
    exec (.sessionConfirm r sigOk) s = .next (replied cmdSessionConfirm r ((s.accept r).modSession r.session fun x => { x with isOpen := true }) 0
      (be 1 x.priv ++ be 1 (if x.moduleWide then 1 else 0) ++ be 2 x.tenantFirst ++ be 2 x.tenantLast ++ [0, 0]
          ++ be 4 ((s.accept r).settingNat 0x50 5 0))) := by
  obtain ⟨hnone, hzero, hlen⟩ := fields_of_zero_word hp
  have hsize : (decide (4 ≤ r.payload.length) && r.payload.length == 4 + up4 0) = true := by rw [hlen]; rfl
  refine receive_replies hruns ?_
  simp only [hx, hhalf, hchain, hnone, need_holds hsize, zeros_hold hzero, hseq, Bool.not_false, beq_self_eq_true, need_holds rfl, except_ok_bind,
    Bool.false_and, Bool.false_eq_true, if_false, ok]

/-- R442 and R454: a code that no table names. -/
theorem exec_unknownOpcode_refused (op : Nat) (hfate : s.fate ⟨op, false, 0, false, .EL, true⟩ r = .refused 1 errorPlain) (hop : op ≠ 1) :
    exec (.unknownOpcode r op) s = .next (replied ⟨op, false, 0, false, .EL, true⟩ r (s.accept r) 1 errorPlain) := by
  change execUnknownOpcode r op s = _
  rw [execUnknownOpcode, State.receive, hfate]
  exact congrArg _ (if_neg hop)

section
variable (hp : r.payload = [])
include hp

/-- R449. -/
theorem exec_sessionClose_closes (hruns : s.fate ⟨0x0003, true, 1, false, .EL, true⟩ r = .runs) :
    exec (.sessionClose r) s = .next ((((s.accept r).finish (r.ticket ⟨0x0003, true, 1, false, .EL, true⟩) 0 []).closeSession
      r.session).closeLast r.session) := by
  refine receive_waits hruns ?_
  simp only [sized_empty hp, except_ok_bind]

/-! ### Identity and state -/

/-- R7 and R456. -/
theorem exec_moduleIdentity_reads (hruns : s.fate ⟨0x0004, true, 1, false, .EL, true⟩ r = .runs) :
    let a := s.accept r
    exec (.moduleIdentity r) s = .next (replied ⟨0x0004, true, 1, false, .EL, true⟩ r a 0
      (be 2 (Config.typeCode a.ident.variant) ++ be 1 a.ident.fuse ++ be 1 a.front.side.bit ++ be 8 a.ident.serial
        ++ be 4 a.ident.generation ++ be 1 a.front.slotId ++ be 1 2 ++ [0, 0])) := by
  refine receive_replies hruns ?_
  simp only [sized_empty hp, except_ok_bind, ok]

/-- R457. -/
theorem exec_moduleCapability_reads (hruns : s.fate ⟨0x0005, true, 1, false, .EL, true⟩ r = .runs) :
    let v := (s.accept r).ident.variant
    exec (.moduleCapability r) s = .next (replied ⟨0x0005, true, 1, false, .EL, true⟩ r (s.accept r) 0
      (unitMap v ++ be 1 (Config.strands v) ++ be 1 (Config.rings v) ++ be 1 (Config.domains v) ++ be 1 (Config.cans v)
        ++ be 4 (Config.tags v) ++ be 2 (Config.stations v) ++ [0, 0] ++ be 4 (Config.signals v))) := by
  refine receive_replies hruns ?_
  simp only [sized_empty hp, except_ok_bind, ok]

/-- R458. -/
theorem exec_moduleState_reads (hruns : s.fate ⟨0x0101, true, 1, false, .EL, true⟩ r = .runs) :
    let a := s.accept r
    exec (.moduleState r) s = .next (replied ⟨0x0101, true, 1, false, .EL, true⟩ r a 0
      (be 1 a.mode.code ++ be 1 a.front.side.bit ++ be 2 a.forces.length ++ be 4 a.pair.epoch ++ be 4 a.lanternStatus
        ++ be 1 a.gelit.sessions.length ++ be 1 ((a.slot.map (·.holder)).getD 0) ++ be 1 ((a.slot.map (·.side.bit)).getD 0) ++ [0]
        ++ be 8 a.health.toNat ++ be 8 a.clk.local_)) := by
  refine receive_replies hruns ?_
  simp only [sized_empty hp, except_ok_bind, ok]

/-! ### Test hold and restart -/

section
variable (hruns : s.fate ⟨0x0102, true, 2, false, .solo, false⟩ r = .runs)
include hruns

/-- R399 and R458. -/
theorem exec_moduleTestHold_holds (hkey : (s.accept r).keyAt 2 = true) :
    exec (.moduleTestHold r) s =
      .next (replied ⟨0x0102, true, 2, false, .solo, false⟩ r ((s.accept r).useKey r.session).commandTestHold 0 []) := by
  refine receive_replies hruns ?_
  simp only [sized_empty hp, State.needKey_holds hkey, except_ok_bind, ok]

theorem exec_moduleTestHold_denied (hkey : (s.accept r).keyAt 2 = false) :
    exec (.moduleTestHold r) s = .next (replied ⟨0x0102, true, 2, false, .solo, false⟩ r (s.accept r) (denied 3).1 (denied 3).2) := by
  refine receive_refuses hruns ?_
  simp only [sized_empty hp, State.needKey_fails hkey, except_ok_bind, except_error_bind]

end

section
variable (hruns : s.fate ⟨0x0103, true, 2, false, .E, false⟩ r = .runs)
include hruns

/-- R458: an owner of a pair hands over first. -/
theorem exec_moduleRestart_hands_over (hmode : (s.accept r).mode = .owner) (hpair : (s.accept r).solo = false)
    (hmay : (s.accept r).mayHandOver = true) :
    exec (.moduleRestart r) s = .next (((s.accept r).proposeHandover .command false
      (some (r.ticket ⟨0x0103, true, 2, false, .E, false⟩))).closeLast r.session) := by
  refine receive_waits hruns ?_
  simp only [sized_empty hp, hmode, hpair, hmay, need_holds rfl, Bool.false_eq_true, not_false_eq_true, and_self, if_true, except_ok_bind]

/-- R458: another module replies and restarts. -/
theorem exec_moduleRestart_restarts (hmode : (s.accept r).mode ≠ .owner) :
    exec (.moduleRestart r) s = .next ((State.restartFor .command
      ((s.accept r).finish (r.ticket ⟨0x0103, true, 2, false, .E, false⟩) 0 [])).closeLast r.session) := by
  have hnoKey : ((s.accept r).mode != .owner || (s.accept r).keyAt 2) = true := by simp [hmode]
  refine receive_waits hruns ?_
  simp only [sized_empty hp, hmode, need_holds hnoKey, false_and, if_false, except_ok_bind]

end

end

end

/-! ### The obligation -/

/-- Settles O39: each clause is the lemma of its command's outcome. -/
theorem sessionAndModuleCommands : Obligations.SessionAndModuleCommands := by
  unfold Obligations.SessionAndModuleCommands
  intro s r
  refine ⟨exec_sessionOpen_opens, fun sigOk x => exec_sessionConfirm_opens sigOk, exec_unknownOpcode_refused, fun hp => ⟨exec_sessionClose_closes hp,
    exec_moduleIdentity_reads hp, exec_moduleCapability_reads hp, exec_moduleState_reads hp, ?testHold, ?restart⟩⟩
  case testHold => exact fun hruns => ⟨exec_moduleTestHold_holds hp hruns, exec_moduleTestHold_denied hp hruns⟩
  case restart => exact fun hruns => ⟨exec_moduleRestart_hands_over hp hruns, exec_moduleRestart_restarts hp hruns⟩

end Sys2Proof.Machine
end

section
/-! PROOFS. What the commands of local channels, HART and CAN answer (R467, R500, R501, R511, R514, R518, R519, R521, R526): one lemma for each
outcome of a command. -/
namespace Sys2Proof.Machine
open Sys2Proof.Claims

section
variable {s : State} {r : Req}

/-- A check of the bytes after the data: they are zero (R440). -/
theorem padding_zero {p : List Byte} (h : ∀ b ∈ p, b = 0) : p.all (· == 0) = true := by simpa [List.all_eq_true] using h

theorem State.answer_reply (s t : State) (k : Ticket) (status : Nat) (b : List Byte) :
    s.answer k (.ok (.reply t status b)) = t.finish k status b := rfl

theorem State.answer_later (s t : State) (k : Ticket) : s.answer k (.ok (.later t)) = t := rfl

/-! ### Local I/O -/

section
variable (hvariant : (s.accept r).ident.variant = .nk960)
include hvariant

/-- R467. -/
theorem exec_localRead_reads (hruns : s.fate ⟨0x0801, true, 1, false, .E, false⟩ r = .runs) (hp : r.payload = [])
    (hgate : (s.accept r).gateCheck ⟨13, 0, 0, (s.accept r).privOf r.session, if r.tenant < 512 then some r.tenant else none⟩ = none) :
    let a := s.accept r
    exec (.localRead r) s = .next (replied ⟨0x0801, true, 1, false, .E, false⟩ r a 0
      (be 4 a.io.di.toNat ++ be 2 a.io.doCmd.toNat ++ be 2 a.io.readback.toNat
        ++ be 1 (if a.io.doFault then 1 else 0) ++ [0, 0, 0]
        ++ ((List.range 8).flatMap fun k => be 2 (a.io.aiCh k).code ++ be 1 (a.aiStatus k) ++ [0])
        ++ (List.range 4).flatMap fun k => be 2 (a.aoCh k).code ++ be 1 (a.aoStatus k) ++ [0])) := by
  have hlocal : (Variant.nk960 != .nk920) = true := rfl
  refine receive_replies hruns ?_
  simp only [hvariant, need_holds hlocal, sized_empty hp, State.throughGate_admits hgate, beq_self_eq_true, if_true, except_ok_bind, ok]

/-! ### HART -/

/-- The HART request that a payload spells (R500). -/
def hartReqOf (p : List Byte) : HartReq := ⟨field p 0 1, field p 1 1, field p 2 2, (p.drop 8).take (field p 4 2)⟩

/-- What becomes of a HART request that passes its checks (R500, R501). -/
def State.routeHart (s : State) (q : HartReq) (k : Ticket) : Answer :=
  match (s.hartCh q.ch).held.find? fun x => x.1 == q && decide (s.clk.local_ < x.2.2.2) with
  | some x => ok s (hartBody 0 x.2.1 x.2.2.1)
  | none =>
    if !s.hartOn q then ok s (hartBody 5 0 [])
    else if s.hartFault q then ok s (hartBody 6 0 [])
    else if 4 ≤ (s.hartCh q.ch).queue.length then ok s (hartBody 3 0 [])
    else .ok (.later ((s.modHart q.ch fun h => { h with queue := h.queue ++ [⟨q, some k, 0, 0, 0⟩] }).hartNext q.ch))

section
variable (hruns : s.fate ⟨0x0802, true, 2, false, .O, false⟩ r = .runs) (hlen : r.payload.length = 8 + up4 (field r.payload 4 2))
  (hzero : field r.payload 6 2 = 0) (hpad : ∀ b ∈ r.payload.drop (8 + field r.payload 4 2), b = 0) (hkind : field r.payload 0 1 < 2)
  (hchannel : field r.payload 1 1 < if field r.payload 0 1 = 0 then 8 else 4) (hdata : field r.payload 4 2 ≤ 255)
  (hgate : (s.accept r).gateCheck ⟨13, 0, 1, (s.accept r).privOf r.session, if r.tenant < 512 then some r.tenant else none⟩ = none)
include hruns hlen hzero hpad hkind hchannel hdata hgate

/-- R500: a request that is well formed, and that its gate admits, is routed. -/
theorem exec_hartTransact_routes :
    let k := r.ticket ⟨0x0802, true, 2, false, .O, false⟩
    exec (.hartTransact r) s = .next (((s.accept r).answer k ((s.accept r).routeHart (hartReqOf r.payload) k)).closeLast r.session) := by
  refine congrArg _ ((State.receive_runs hruns).trans ?_)
  simp only [hvariant, beq_self_eq_true, need_holds rfl, hlen, zeros_hold hzero, need_holds (padding_zero hpad), need_holds (decide_eq_true hkind),
    need_holds (decide_eq_true hchannel), need_holds (decide_eq_true hdata), State.throughGate_admits hgate, except_ok_bind]
  rfl

/-- R501: a reply that is held for this request. -/
theorem exec_hartTransact_held {x : HartReq × Nat × List Byte × Nat}
    (hheld : (((s.accept r).hartCh (hartReqOf r.payload).ch).held.find? fun x =>
      x.1 == hartReqOf r.payload && decide ((s.accept r).clk.local_ < x.2.2.2)) = some x) :
    exec (.hartTransact r) s =
      .next (replied ⟨0x0802, true, 2, false, .O, false⟩ r (s.accept r) 0 (hartBody 0 x.2.1 x.2.2.1)) := by
  rw [exec_hartTransact_routes hvariant hruns hlen hzero hpad hkind hchannel hdata hgate, State.routeHart, hheld]
  rfl

section
variable (hnone : (((s.accept r).hartCh (hartReqOf r.payload).ch).held.find? fun x =>
    x.1 == hartReqOf r.payload && decide ((s.accept r).clk.local_ < x.2.2.2)) = none)
  (hon : (s.accept r).hartOn (hartReqOf r.payload) = true) (hgood : (s.accept r).hartFault (hartReqOf r.payload) = false)
include hnone hon hgood

/-- R500: the transaction waits in its channel's queue, and starts where it is the first. -/
theorem exec_hartTransact_queues (hroom : ((s.accept r).hartCh (hartReqOf r.payload).ch).queue.length < 4) :
    let q := hartReqOf r.payload
    exec (.hartTransact r) s = .next ((((s.accept r).modHart q.ch fun h =>
      { h with queue := h.queue ++ [⟨q, some (r.ticket ⟨0x0802, true, 2, false, .O, false⟩), 0, 0, 0⟩] }).hartNext q.ch).closeLast r.session) := by
  rw [exec_hartTransact_routes hvariant hruns hlen hzero hpad hkind hchannel hdata hgate, State.routeHart, hnone]
  simp only [hon, hgood, if_neg (Nat.not_le.mpr hroom), Bool.not_true, Bool.false_eq_true, if_false]
  rfl

/-- R500: the queue of the channel is full. -/
theorem exec_hartTransact_busy (hfull : 4 ≤ ((s.accept r).hartCh (hartReqOf r.payload).ch).queue.length) :
    exec (.hartTransact r) s = .next (replied ⟨0x0802, true, 2, false, .O, false⟩ r (s.accept r) 0 (hartBody 3 0 [])) := by
  rw [exec_hartTransact_routes hvariant hruns hlen hzero hpad hkind hchannel hdata hgate, State.routeHart, hnone]
  simp only [hon, hgood, if_pos hfull, Bool.not_true, Bool.false_eq_true, if_false]
  rfl

end

end

end

/-! ### CAN -/

section
variable (hcan : field r.payload 0 1 < 4) (hthere : (s.accept r).canThere (field r.payload 0 1) = .ok ())
include hcan hthere

section
variable (hgate : (s.accept r).gateCheck ⟨13, 0, 0, (s.accept r).privOf r.session, if r.tenant < 512 then some r.tenant else none⟩ = none)
include hgate

/-- R526. -/
theorem exec_canStatus_reads (hruns : s.fate ⟨0x0901, true, 1, false, .E, false⟩ r = .runs) (hlen : r.payload.length = 4)
    (hzero : field r.payload 1 3 = 0) :
    exec (.canStatus r) s =
      .next (replied ⟨0x0901, true, 1, false, .E, false⟩ r (s.accept r) 0 ((s.accept r).canStatusWords (field r.payload 0 1))) := by
  refine receive_replies hruns ?_
  simp only [hthere, sized_holds hlen, zeros_hold hzero, need_holds (decide_eq_true hcan), State.throughGate_admits hgate, except_ok_bind, ok]

/-- R511: filter elements from FIRST on. -/
theorem exec_canFilterRead_reads (hruns : s.fate ⟨0x0903, true, 1, false, .E, false⟩ r = .runs) (hlen : r.payload.length = 8)
    (hzero : field r.payload 1 1 = 0) (hend : field r.payload 6 2 = 0) (hfirst : field r.payload 2 2 < 512)
    (hlast : field r.payload 2 2 + field r.payload 4 2 ≤ 512) :
    exec (.canFilterRead r) s = .next (replied ⟨0x0903, true, 1, false, .E, false⟩ r (s.accept r) 0
      ((List.range (field r.payload 4 2)).flatMap fun j =>
        let e := (NMap.get ((s.accept r).ctl (field r.payload 0 1)).filters (field r.payload 2 2 + j)).getD (0, 0)
        be 4 e.1.toNat ++ be 4 e.2.toNat)) := by
  refine receive_replies hruns ?_
  simp only [hthere, sized_holds hlen, zeros_hold hzero, zeros_hold hend, need_holds (decide_eq_true hcan), need_holds (decide_eq_true hfirst),
    need_holds (decide_eq_true hlast), State.throughGate_admits hgate, except_ok_bind, ok]

/-- R514: the records that are returned leave their queue. -/
theorem exec_canReceive_takes (hruns : s.fate ⟨0x0905, true, 1, false, .E, false⟩ r = .runs) (hlen : r.payload.length = 4)
    (hqueue : field r.payload 1 1 < 8) :
    let a := s.accept r
    let k := field r.payload 0 1
    let rs := (((a.ctl k).queues[field r.payload 1 1]?).getD []).take (field r.payload 2 2)
    exec (.canReceive r) s = .next (replied ⟨0x0905, true, 1, false, .E, false⟩ r
      (a.modCan k fun c => { c with queues := modAt c.queues (field r.payload 1 1) fun l => l.drop rs.length }) 0
      (be 2 rs.length ++ [0, 0] ++ rs.flatMap CanRec.wire)) := by
  refine receive_replies hruns ?_
  simp only [hthere, sized_holds hlen, need_holds (decide_eq_true hcan), need_holds (decide_eq_true hqueue), State.throughGate_admits hgate,
    except_ok_bind, ok]

end

section
variable (hgate : (s.accept r).gateCheck ⟨13, 0, 1, (s.accept r).privOf r.session, if r.tenant < 512 then some r.tenant else none⟩ = none)
include hgate

/-- R511: one filter element, of a quiesced controller. -/
theorem exec_canFilterWrite_writes (hruns : s.fate ⟨0x0902, true, 2, false, .E, false⟩ r = .runs) (hlen : r.payload.length = 16)
    (hone : field r.payload 4 2 = 1) (hzero : field r.payload 1 1 = 0) (hend : field r.payload 6 2 = 0) (hfirst : field r.payload 2 2 < 512)
    (hgood : filterBad (field r.payload 8 4) (field r.payload 12 4) = false)
    (hquiesced : (s.accept r).isQuiesced (0x20 + field r.payload 0 1) = true) :
    exec (.canFilterWrite r) s = .next (replied ⟨0x0902, true, 2, false, .E, false⟩ r ((s.accept r).modCan (field r.payload 0 1) fun x =>
      { x with filters := NMap.set x.filters (field r.payload 2 2) (BitVec.ofNat 32 (field r.payload 8 4), BitVec.ofNat 32 (field r.payload 12 4)) })
      0 []) := by
  have hsize : (r.payload.length == 8 + 8 * 1) = true := by rw [hlen]; rfl
  have hlast : field r.payload 2 2 + 1 ≤ 512 := hfirst
  have hquiet : (s.accept r).canQuiesced (field r.payload 0 1) = .ok () := need_holds hquiesced _
  have hall (err : Nat → Refused) : allGood (List.range 1)
      (fun j => filterBad (field r.payload (8 + 8 * j) 4) (field r.payload (12 + 8 * j) 4)) err = .ok () := by
    simp [allGood, firstBad, hgood]
  refine receive_replies hruns ?_
  simp only [hthere, hone, need_holds hsize, zeros_hold hzero, zeros_hold hend, need_holds (decide_eq_true hcan), need_holds (decide_eq_true hfirst),
    need_holds (decide_eq_true hlast), hall, hquiet, State.throughGate_admits hgate, except_ok_bind, ok]
  rfl

/-! #### Sending -/

/-- The classical frame with a base identifier that a payload spells (R502). -/
def baseFrameOf (p : List Byte) : CanFrame :=
  ⟨field p 4 4, false, false, false, false, field p 8 1, (p.drop 12).take (field p 8 1)⟩

section
variable (hruns : s.fate ⟨0x0904, true, 2, false, .O, false⟩ r = .runs) (hflags : field r.payload 1 1 = 0) (hid : field r.payload 4 4 < 2048)
  (hshort : field r.payload 8 1 ≤ 8) (hlen : r.payload.length = 12 + up4 (field r.payload 8 1)) (hzero : field r.payload 2 2 = 0)
  (hend : field r.payload 9 3 = 0) (hpad : ∀ b ∈ r.payload.drop (12 + field r.payload 8 1), b = 0)
  (hroom : (((s.accept r).ctl (field r.payload 0 1)).sending.filter fun x => x.ticket.isSome).length < 64)
include hruns hflags hid hshort hlen hzero hend hpad hroom

/-- R518 and R519: a frame that passes the checks waits at a controller that runs in NORMAL mode, and is lost at once at another. -/
theorem exec_canSend_routes :
    let a := s.accept r
    let k := field r.payload 0 1
    let t := r.ticket ⟨0x0904, true, 2, false, .O, false⟩
    let b := a.modCan k fun c => { c with sending := c.sending ++ [⟨baseFrameOf r.payload, some t, none, false, 0⟩] }
    exec (.canSend r) s = .next ((a.answer t (if !a.canRuns k || a.canSetting k 2 != 0 then .ok (.reply (a.canLostNow k) 0x0B errorPlain)
      else .ok (.later (if b.alone then b else b.send 3 (.canMirror k (baseFrameOf r.payload)))))).closeLast r.session) := by
  have hsize : (r.payload.length == 12 + up4 (field r.payload 8 1)) = true := by rw [hlen, beq_self_eq_true]
  have hwide : field r.payload 4 4 < 536870912 := by omega
  have hlength : canLength false (field r.payload 8 1) = true := by simp [canLength, hshort]
  refine congrArg _ ((State.receive_runs hruns).trans ?_)
  simp only [hthere, hflags, need_holds hsize, zeros_hold hzero, zeros_hold hend, need_holds (decide_eq_true hwide),
    need_holds (padding_zero hpad), need_holds (decide_eq_true hcan), need_holds (decide_eq_true hroom), State.throughGate_admits hgate,
    Nat.zero_mod, Nat.zero_div, show ((0 : Nat) == 1) = false from rfl, show decide ((0 : Nat) < 8) = true from rfl, Bool.not_false, Bool.or_true,
    decide_eq_true hid, hlength, need_holds rfl, except_ok_bind]
  rfl

/-- R518: the frame waits to be sent, and the partner holds it too. -/
theorem exec_canSend_waits (hrunning : (s.accept r).canRuns (field r.payload 0 1) = true)
    (hmode : (s.accept r).canSetting (field r.payload 0 1) 2 = 0) :
    let a := s.accept r
    let k := field r.payload 0 1
    let b := a.modCan k fun c =>
      { c with sending := c.sending ++ [⟨baseFrameOf r.payload, some (r.ticket ⟨0x0904, true, 2, false, .O, false⟩), none, false, 0⟩] }
    exec (.canSend r) s = .next ((if b.alone then b else b.send 3 (.canMirror k (baseFrameOf r.payload))).closeLast r.session) := by
  have hroute := exec_canSend_routes hcan hthere hgate hruns hflags hid hshort hlen hzero hend hpad hroom
  simpa only [hrunning, hmode, Bool.not_true, Bool.false_or, bne_self_eq_false, Bool.false_eq_true, if_false, State.answer_later] using hroute

/-- R519: a controller that does not run (log 49). -/
theorem exec_canSend_lost (hoff : (s.accept r).canRuns (field r.payload 0 1) = false) :
    exec (.canSend r) s = .next (replied ⟨0x0904, true, 2, false, .O, false⟩ r ((s.accept r).canLostNow (field r.payload 0 1)) 0x0B errorPlain) := by
  have hroute := exec_canSend_routes hcan hthere hgate hruns hflags hid hshort hlen hzero hend hpad hroom
  simpa only [hoff, Bool.not_false, Bool.true_or, if_true, State.answer_reply, replied] using hroute

end

/-! #### Schedules -/

/-- R521: a schedule without windows and objects, of a quiesced controller. -/
theorem exec_canScheduleWrite_empty (hruns : s.fate ⟨0x0906, true, 2, false, .E, false⟩ r = .runs) (hlen : r.payload.length = 20)
    (hwindows : field r.payload 6 1 = 0) (hobjects : field r.payload 7 1 = 0) (hzero : field r.payload 1 3 = 0) (hend : field r.payload 16 4 = 0)
    (hformat : field r.payload 4 1 = 1) (hcycles : powers64.contains (field r.payload 5 1) = true) (hbasic : field r.payload 8 4 = 0)
    (hpriority : field r.payload 12 4 % 8 = 0) (href : field r.payload 12 4 < 2048)
    (hquiesced : (s.accept r).isQuiesced (0x20 + field r.payload 0 1) = true) :
    exec (.canScheduleWrite r) s = .next (replied ⟨0x0906, true, 2, false, .E, false⟩ r ((s.accept r).modCan (field r.payload 0 1) fun c =>
      { c with sched := some ⟨field r.payload 5 1, 0, field r.payload 12 4, false, [], []⟩ }) 0 []) := by
  have hsize : (decide (20 ≤ r.payload.length) && r.payload.length == 20 + 8 * 0 + 16 * 0) = true := by rw [hlen]; rfl
  have hwide : field r.payload 12 4 < 1073741824 := by omega
  have hbase : (field r.payload 12 4 / 536870912 == 1) = false := by rw [Nat.div_eq_of_lt (by omega)]; rfl
  have hrefGood : (field r.payload 12 4 % 8 == 0 && (false || decide (field r.payload 12 4 < 2048))) = true := by simp [hpriority, href]
  have hid : field r.payload 12 4 % 536870912 = field r.payload 12 4 := Nat.mod_eq_of_lt (by omega)
  have hnoWindow : schedWindows r.payload 0 = [] := rfl
  have hnoObject : schedObjects r.payload 0 0 = [] := rfl
  have hnone {α : Type} (bad : α → Bool) (err : Nat → Refused) : allGood [] bad err = .ok () := rfl
  have hquiet : (s.accept r).canQuiesced (field r.payload 0 1) = .ok () := need_holds hquiesced _
  refine receive_replies hruns ?_
  simp only [hthere, hwindows, hobjects, hbasic, hformat, need_holds hsize, zeros_hold hzero, zeros_hold hend, need_holds (decide_eq_true hwide),
    need_holds (decide_eq_true hcan), need_holds hcycles, hbase, need_holds hrefGood, hid, hnoWindow, hnoObject, List.range_zero, List.zipIdx_nil,
    hnone, hquiet, State.throughGate_admits hgate, beq_self_eq_true, Bool.or_true, Bool.true_or, Bool.and_true, decide_true, Nat.zero_le,
    need_holds rfl, except_ok_bind, ok]

end

end

end

/-! ### The obligation -/

/-- Settles O46: each clause is the lemma of its command's outcome. -/
theorem localAndCanCommands : Obligations.LocalAndCanCommands := by
  unfold Obligations.LocalAndCanCommands
  intro s r
  refine ⟨?localRead, ?hart, fun hcan hthere => ⟨?status, ?filterWrite, ?filterRead, ?send, ?receive, ?schedule⟩⟩
  case localRead => exact fun hruns hvariant => exec_localRead_reads hvariant hruns
  case hart =>
    exact fun hruns hvariant hlen hzero hpad hkind hchannel hdata hgate =>
      ⟨fun x => exec_hartTransact_held hvariant hruns hlen hzero hpad hkind hchannel hdata hgate,
        fun hnone hon hgood => ⟨exec_hartTransact_queues hvariant hruns hlen hzero hpad hkind hchannel hdata hgate hnone hon hgood,
          exec_hartTransact_busy hvariant hruns hlen hzero hpad hkind hchannel hdata hgate hnone hon hgood⟩⟩
  case status => exact fun hruns hlen hzero hgate => exec_canStatus_reads hcan hthere hgate hruns hlen hzero
  case filterWrite =>
    exact fun hruns hlen hone hzero hend hfirst hgood hquiesced hgate =>
      exec_canFilterWrite_writes hcan hthere hgate hruns hlen hone hzero hend hfirst hgood hquiesced
  case filterRead =>
    exact fun hruns hlen hzero hend hfirst hlast hgate => exec_canFilterRead_reads hcan hthere hgate hruns hlen hzero hend hfirst hlast
  case send =>
    exact fun hruns hflags hid hshort _ hlen hzero hend hpad hroom hgate =>
      ⟨exec_canSend_waits hcan hthere hgate hruns hflags hid hshort hlen hzero hend hpad hroom,
        exec_canSend_lost hcan hthere hgate hruns hflags hid hshort hlen hzero hend hpad hroom⟩
  case receive => exact fun hruns hlen hqueue hgate => exec_canReceive_takes hcan hthere hgate hruns hlen hqueue
  case schedule =>
    exact fun hruns hlen hwindows hobjects hzero hend hformat hcycles hbasic hpriority href hquiesced hgate =>
      exec_canScheduleWrite_empty hcan hthere hgate hruns hlen hwindows hobjects hzero hend hformat hcycles hbasic hpriority href hquiesced

end Sys2Proof.Machine
end

section
/-! PROOFS. What the commands of security answer (R444, R537 to R539, R541, R543, R546 to R548, R556): one lemma for each outcome of a command. -/
namespace Sys2Proof.Machine
open Sys2Proof.Claims

section
variable {s : State} {r : Req}

/-! ### Gate entries -/

/-- R541. -/
theorem exec_secGateRead_reads (hruns : s.fate ⟨0x0A01, true, 2, false, .E, false⟩ r = .runs) (hlen : r.payload.length = 4)
    (hzero : field r.payload 3 1 = 0) (hgate : field r.payload 0 1 < 16) (hfirst : field r.payload 1 1 ≤ 64)
    (hlast : field r.payload 1 1 + field r.payload 2 1 ≤ 65) :
    let a := s.accept r
    exec (.secGateRead r) s = .next (replied ⟨0x0A01, true, 2, false, .E, false⟩ r a 0
      ((List.range (field r.payload 2 1)).flatMap fun k =>
        if field r.payload 1 1 + k = 64 then ((a.gates[field r.payload 0 1]?).getD (Config.gate (field r.payload 0 1))).statusBlock
        else (a.gateEntry (field r.payload 0 1) (field r.payload 1 1 + k)).bytes)) := by
  refine receive_replies hruns ?_
  simp only [sized_holds hlen, zeros_hold hzero, need_holds (decide_eq_true hgate), need_holds (decide_eq_true hfirst),
    need_holds (decide_eq_true hlast), except_ok_bind, ok]

/-- The gate entry that a payload spells (R532). -/
def gateEntOf (p : List Byte) : GateEnt :=
  ⟨field p 4 4, field p 8 4, field p 12 4 % 512, field p 12 4 / 512, field p 16 4 % 4096, field p 16 4 / 4096 % 2 == 1, field p 16 4 / 8192 == 1⟩

/-- What becomes of a gate entry that passes the checks of its fields (R538, R539): a system entry is locked, a locked host entry is written in its
stored copies with a key, and one that would meet another is refused. -/
def State.stageGateEntry (s : State) (r : Req) (k : Ticket) (g i : Nat) (e : GateEnt) : Answer := do
  need (decide (32 ≤ i)) (denied 6)
  let locked := ((NMap.get (s.hostAfter g false) i).getD GateEnt.none).lock
  need (!locked || s.keyAt 2) (denied 6)
  need (!(s.hostAfter g locked).any fun x => x.1 != i && x.2.meets e) (badParam 4)
  let at_ := s.tickIn 1000000
  let s1 := if locked then s.useKey r.session else s
  .ok (.later (({ s1 with gateWrites := s1.gateWrites ++ [⟨at_, g, i, e, locked, some k⟩] } : State).tellPartner (.gateEntry at_ g i e locked)))

section
variable (hruns : s.fate ⟨0x0A02, true, 2, false, .O, false⟩ r = .runs) (hlen : r.payload.length = 20) (hzero : field r.payload 2 2 = 0)
  (hbase : field r.payload 4 4 < 16777216) (hlimit : field r.payload 8 4 < 16777216) (htenant : field r.payload 12 4 < 2048)
  (hperm : field r.payload 16 4 < 16384) (hgate : field r.payload 0 1 < 16) (hindex : field r.payload 1 1 < 64)
  (hgood : gateEntryBad (field r.payload 0 1) (gateEntOf r.payload) = none) (hupdate : (s.accept r).pairUpdate = false)
include hruns hlen hzero hbase hlimit htenant hperm hgate hindex hgood hupdate

/-- R532 and R538: an entry whose fields are good. -/
theorem exec_secGateWrite_judges :
    let k := r.ticket ⟨0x0A02, true, 2, false, .O, false⟩
    exec (.secGateWrite r) s = .next (((s.accept r).answer k
      ((s.accept r).stageGateEntry r k (field r.payload 0 1) (field r.payload 1 1) (gateEntOf r.payload))).closeLast r.session) := by
  unfold gateEntOf at hgood ⊢
  refine congrArg _ ((State.receive_runs hruns).trans ?_)
  simp only [sized_holds hlen, zeros_hold hzero, need_holds (decide_eq_true hbase), need_holds (decide_eq_true hlimit),
    need_holds (decide_eq_true htenant), need_holds (decide_eq_true hperm), need_holds (decide_eq_true hgate), need_holds (decide_eq_true hindex),
    hgood, State.noPairUpdate_holds hupdate, except_ok_bind]
  rfl

/-- R536 and R538: a system entry is locked. -/
theorem exec_secGateWrite_locked (hsystem : field r.payload 1 1 < 32) :
    exec (.secGateWrite r) s = .next (replied ⟨0x0A02, true, 2, false, .O, false⟩ r (s.accept r) 8 (denied 6).2) := by
  have hlocked : decide (32 ≤ field r.payload 1 1) = false := decide_eq_false (Nat.not_le.mpr hsystem)
  rw [exec_secGateWrite_judges hruns hlen hzero hbase hlimit htenant hperm hgate hindex hgood hupdate, State.stageGateEntry, need_fails hlocked]
  rfl

/-- R538: a host entry that is not locked, and that meets no other, waits for its tick on both modules. -/
theorem exec_secGateWrite_stages (hhost : 32 ≤ field r.payload 1 1)
    (hfree : ((NMap.get ((s.accept r).hostAfter (field r.payload 0 1) false) (field r.payload 1 1)).getD GateEnt.none).lock = false)
    (halone : (((s.accept r).hostAfter (field r.payload 0 1) false).any fun x =>
      x.1 != field r.payload 1 1 && x.2.meets (gateEntOf r.payload)) = false) :
    let a := s.accept r
    let g := field r.payload 0 1
    let i := field r.payload 1 1
    let e := gateEntOf r.payload
    exec (.secGateWrite r) s = .next ((({ a with gateWrites := a.gateWrites ++
        [⟨a.tickIn 1000000, g, i, e, false, some (r.ticket ⟨0x0A02, true, 2, false, .O, false⟩)⟩] } : State).tellPartner
      (.gateEntry (a.tickIn 1000000) g i e false)).closeLast r.session) := by
  rw [exec_secGateWrite_judges hruns hlen hzero hbase hlimit htenant hperm hgate hindex hgood hupdate]
  simp only [State.stageGateEntry, need_holds (decide_eq_true hhost), hfree, halone, Bool.not_false, Bool.true_or, need_holds rfl,
    Bool.false_eq_true, if_false, except_ok_bind, State.answer_later]

end

/-! ### Installation -/

theorem curve_known {n : Nat} (hcurve : n = 1 ∨ n = 2) : (n == 1 || n == 2) = true := by simpa using hcurve

section
variable (hruns : s.fate ⟨0x0A03, true, 2, false, .EL, true⟩ r = .runs) (hcurve : field r.payload 0 1 = 1 ∨ field r.payload 0 1 = 2)
  (hlen : r.payload.length = 4 + curveBytes (field r.payload 0 1)) (hzero : field r.payload 1 3 = 0)
include hruns hcurve hlen hzero

/-- R547: an authority needs a key at the module. -/
theorem exec_secAuthorityInstall_denied (hkey : (s.accept r).keyAt 2 = false) :
    exec (.secAuthorityInstall r true) s = .next (replied ⟨0x0A03, true, 2, false, .EL, true⟩ r (s.accept r) 8 (denied 3).2) := by
  have hsize : (r.payload.length == 4 + curveBytes (field r.payload 0 1)) = true := beq_iff_eq.mpr hlen
  refine receive_refuses (e := denied 3) hruns ?_
  simp only [hsize, Bool.true_or, need_holds rfl, zeros_hold hzero, need_holds (curve_known hcurve), State.needKey_fails hkey, except_ok_bind,
    except_error_bind]

/-- R547: it starts a new authority, and ends every session. -/
theorem exec_secAuthorityInstall_installs (hkey : (s.accept r).keyAt 2 = true) :
    let b := ((((s.accept r).useKey r.session).modKeys fun x =>
      { x with authority := some (field r.payload 0 1, r.payload.drop 4), moduleCert := none, revoked := [], revoking := [] }).record 547 1 sevInfo
        noSource noSource [(4, r.session), (4, field r.payload 0 1)]).finish (r.ticket ⟨0x0A03, true, 2, false, .EL, true⟩) 0 []
    exec (.secAuthorityInstall r true) s =
      .next (((b.gelit.sessions.map (·.no)).foldl (fun (s : State) n => s.closeSession n) b).closeLast r.session) := by
  have hsize : (r.payload.length == 4 + curveBytes (field r.payload 0 1)) = true := beq_iff_eq.mpr hlen
  refine receive_waits hruns ?_
  simp only [hsize, Bool.true_or, need_holds rfl, zeros_hold hzero, need_holds (curve_known hcurve), State.needKey_holds hkey, except_ok_bind]

end

/-- R444 and R547: a certificate for this module under the installed authority. -/
theorem exec_secModuleCertInstall_installs {x : Cert} {k : List Byte} (hruns : s.fate ⟨0x0A04, true, 2, false, .EL, true⟩ r = .runs)
    (hlen : 56 ≤ r.payload.length) (hcurve : field r.payload 1 1 = 1) (hissuer : field r.payload 21 1 = 1 ∨ field r.payload 21 1 = 2)
    (hcert : takeCert r.payload = some (x, [])) (hscope : field r.payload 20 1 < 2) (hzero : field r.payload 22 2 = 0) (hformat : x.format = 1)
    (hkind : x.kind = 3) (hpriv : x.privMax = 0) (hsubject : x.subject = serialSubject (s.accept r).ident.serial)
    (hstatic : x.key = (s.accept r).keys.staticKey) (hkey : (s.accept r).keyAt 2 = true)
    (hauthority : (s.accept r).keys.authority = some (x.issuerCurve, k)) :
    exec (.secModuleCertInstall r true) s = .next (replied ⟨0x0A04, true, 2, false, .EL, true⟩ r
      (((((s.accept r).useKey r.session).submit [⟨if x.issuerCurve = 2 then 1 else 0, false⟩]).modKeys fun y =>
        { y with moduleCert := some r.payload }).record 547 2 sevInfo noSource noSource [(4, r.session), (4, x.serial.toNat)]) 0 []) := by
  refine receive_replies hruns ?_
  simp only [need_holds (decide_eq_true hlen), hcurve, need_holds (curve_known hissuer), hcert, need_holds (decide_eq_true hscope), zeros_hold hzero, hformat,
    hkind, hpriv, hsubject, hstatic, State.needKey_holds hkey, hauthority, beq_self_eq_true, Bool.and_self, need_holds rfl, except_ok_bind, ok]

/-! ### Revocation and keys -/

section
variable (hruns : s.fate ⟨0x0A05, true, 2, false, .O, false⟩ r = .runs) (hlen : r.payload.length = 4) (hkey : (s.accept r).keyAt 2 = true)
include hruns hlen hkey

/-- R548: a serial that is listed already. -/
theorem exec_secRevoke_listed (hlisted : BitVec.ofNat 32 (field r.payload 0 4) ∈ (s.accept r).keys.revoked) :
    exec (.secRevoke r) s = .next (replied ⟨0x0A05, true, 2, false, .O, false⟩ r ((s.accept r).useKey r.session) 0 []) := by
  have hcontains := List.contains_iff_mem.mpr hlisted
  refine receive_replies hruns ?_
  simp only [sized_holds hlen, hcontains, Bool.true_or, need_holds rfl, State.needKey_holds hkey, if_true, except_ok_bind, ok]

/-- R548: another one waits for its tick on both modules. -/
theorem exec_secRevoke_stages (hnew : BitVec.ofNat 32 (field r.payload 0 4) ∉ (s.accept r).keys.revoked)
    (hroom : (s.accept r).keys.revoked.length + (s.accept r).keys.revoking.length < 1024) :
    let w := BitVec.ofNat 32 (field r.payload 0 4)
    let b := (s.accept r).useKey r.session
    exec (.secRevoke r) s = .next (((b.modKeys fun x =>
      { x with revoking := x.revoking ++ [(b.tickIn 1000000, w, some (r.ticket ⟨0x0A05, true, 2, false, .O, false⟩))] }).tellPartner
      (.revoke (b.tickIn 1000000) w)).closeLast r.session) := by
  have hcontains : (s.accept r).keys.revoked.contains (BitVec.ofNat 32 (field r.payload 0 4)) = false :=
    Bool.eq_false_iff.mpr (mt List.contains_iff_mem.mp hnew)
  refine receive_waits hruns ?_
  simp only [sized_holds hlen, hcontains, Bool.false_or, need_holds (decide_eq_true hroom), State.needKey_holds hkey, Bool.false_eq_true, if_false,
    except_ok_bind]
  rfl

end

section
variable (hruns : s.fate ⟨0x0A06, true, 1, false, .EL, true⟩ r = .runs) (hp : r.payload = [])
  (hgate : (s.accept r).gateCheck ⟨12, 0, 0, (s.accept r).privOf r.session, if r.tenant < 512 then some r.tenant else none⟩ = none)
include hruns hp hgate

/-- R556: the key that is present, and when its presence ends. -/
theorem exec_secKeyStatus_present {x : KeyPresent} (hpresent : (s.accept r).reader.present = some x)
    (hlasts : (s.accept r).clk.local_ < x.until_) :
    let a := s.accept r
    exec (.secKeyStatus r) s = .next (replied ⟨0x0A06, true, 1, false, .EL, true⟩ r a 0 (be 1 1 ++ be 1 x.priv ++ [0, 0]
      ++ be 4 (min ((a.cal + (x.until_ - a.clk.local_ : Nat)) / 1000000000).toNat x.expiry))) := by
  refine receive_replies hruns ?_
  simp only [sized_empty hp, State.throughGate_admits hgate, hpresent, if_pos hlasts, except_ok_bind, ok]

theorem exec_secKeyStatus_none (hnone : (s.accept r).reader.present = none) :
    exec (.secKeyStatus r) s = .next (replied ⟨0x0A06, true, 1, false, .EL, true⟩ r (s.accept r) 0 (be 8 0)) := by
  refine receive_replies hruns ?_
  simp only [sized_empty hp, State.throughGate_admits hgate, hnone, except_ok_bind, ok]

end

end

/-! ### The obligation -/

/-- Settles O47: each clause is the lemma of its command's outcome. -/
theorem securityCommands : Obligations.SecurityCommands := by
  unfold Obligations.SecurityCommands
  intro s r
  refine ⟨exec_secGateRead_reads, ?gateWrite, ?authority, fun x k => exec_secModuleCertInstall_installs, ?revoke, ?keyStatus⟩
  case gateWrite =>
    exact fun hruns hlen hzero hbase hlimit htenant hperm hgate hindex hgood hupdate =>
      ⟨exec_secGateWrite_locked hruns hlen hzero hbase hlimit htenant hperm hgate hindex hgood hupdate,
        exec_secGateWrite_stages hruns hlen hzero hbase hlimit htenant hperm hgate hindex hgood hupdate⟩
  case authority =>
    exact fun hruns hcurve hlen hzero => ⟨exec_secAuthorityInstall_denied hruns hcurve hlen hzero,
      exec_secAuthorityInstall_installs hruns hcurve hlen hzero⟩
  case revoke => exact fun hruns hlen hkey => ⟨exec_secRevoke_listed hruns hlen hkey, exec_secRevoke_stages hruns hlen hkey⟩
  case keyStatus => exact fun hruns hp hgate => ⟨fun x => exec_secKeyStatus_present hruns hp hgate, exec_secKeyStatus_none hruns hp hgate⟩

end Sys2Proof.Machine
end

section
/-! PROOFS. What the commands of an update and of the almanac answer (R454, R561 to R566, R574, R575, R578 to R581): one lemma for each outcome of a
command. -/
namespace Sys2Proof.Machine
open Sys2Proof.Claims

section
variable {s : State} {r : Req}

/-! ### Staging -/

/-- R561 and R575: an update takes the pair's slot, or in LANTERN and JOINING the module's own (log 53). -/
theorem exec_updateBegin_begins (hruns : s.fate ⟨0x0B01, true, 2, false, .EL, false⟩ r = .runs) (hp : r.payload = [])
    (hfree : (s.accept r).updateFree = .ok ()) :
    let a := s.accept r
    let own := a.mode == .lantern || a.mode == .joining
    let b := a.modUpdate fun u =>
      { u with
        state := 1, pairStep := 0, part := 0, scopePair := false, endCause := 0, targetGen := 0, bytes := 0, session := some r.session
        manifest := [], manifestDone := false, parts := [], partsDone := [], retryFrom := none, ownSlot := own }
    exec (.updateBegin r) s = .next (replied ⟨0x0B01, true, 2, false, .EL, false⟩ r (if own then b else b.takeSlot 1 r.session) 0 []) := by
  refine receive_replies hruns ?_
  simp only [sized_empty hp, hfree, except_ok_bind, ok]

/-- R454, R561 and R562: a chunk is staged, and the owner of a pair forwards it. -/
theorem exec_updateWrite_stages {k : Chunk} {u : Update} (hruns : s.fate ⟨0x0B02, true, 2, false, .EL, false⟩ r = .runs)
    (hchunk : chunkOf r.payload = .ok k) (hselect : k.select ≤ 7) (hmine : (s.accept r).updateMine r.session = .ok ())
    (hstage : (s.accept r).update.stage k = .ok u) :
    let a := s.accept r
    exec (.updateWrite r) s = .next (replied ⟨0x0B02, true, 2, false, .EL, false⟩ r
      (if a.mode = .owner then ({ a with update := u } : State).forwardChunk k.select k else { a with update := u }) 0 []) := by
  refine receive_replies hruns ?_
  simp only [hchunk, need_holds (decide_eq_true hselect), hmine, hstage, except_ok_bind, ok]

/-- R563. -/
theorem exec_updateVerify_judges (sig : Bool) (bad : Nat) (agrees : Bool) (hruns : s.fate ⟨0x0B03, true, 2, false, .EL, false⟩ r = .runs)
    (hp : r.payload = []) (hmine : (s.accept r).updateMine r.session = .ok ()) :
    let a := s.accept r
    let v := a.verifyResult sig bad (agrees || a.mode != .owner || a.solo)
    exec (.updateVerify r sig bad agrees) s = .next (replied ⟨0x0B03, true, 2, false, .EL, false⟩ r
      ((a.submit [⟨1, false⟩]).modUpdate fun u => { u with state := if v.1 = 0 then 2 else 1, lastResult := v.1 }) (if v.1 = 0 then 0 else 5)
      (be 1 v.1 ++ be 1 v.2 ++ be 1 (if a.pairCapable then 1 else 0) ++ [0] ++ be 4 (manifestGen a.update.manifestBytes)
        ++ be 4 a.ident.generation)) := by
  refine receive_replies hruns ?_
  simp only [sized_empty hp, hmine, except_ok_bind]

/-! ### Activation -/

theorem State.noQuiesce_holds {s : State} (hquiesced : s.settings.quiesced = []) (hpeer : s.pair.peerQuiesced = []) : s.noQuiesce = .ok () := by
  rw [State.noQuiesce, hquiesced, hpeer]

section
variable (hruns : s.fate ⟨0x0B04, true, 2, false, .EL, false⟩ r = .runs) (hlen : r.payload.length = 4) (hzero : field r.payload 1 3 = 0)
  (hstate : (s.accept r).update.state = 2) (hmine : (s.accept r).updateMine r.session = .ok ())
  (hquiesced : (s.accept r).settings.quiesced = []) (hpeer : (s.accept r).pair.peerQuiesced = [])
  (hgen : (s.accept r).ident.generation ≤ (s.accept r).update.targetGen)
include hruns hlen hzero hstate hmine hquiesced hpeer hgen

/-- R565 and R566: SCOPE 0, a newer generation on a module that does not own. -/
theorem exec_updateActivateModule_starts (hscope : field r.payload 0 1 = 0) (hmay : (s.accept r).soleMayUpdate = true)
    (howns : (s.accept r).owns = false) :
    exec (.updateActivateModule r) s = .next (replied ⟨0x0B04, true, 2, false, .EL, false⟩ r ((s.accept r).modUpdate fun u =>
      { u with state := 3, scopePair := false, pairStep := 0, bytes := 0, part := u.firstToWrite }) 0 []) := by
  have hnewer : decide ((s.accept r).update.targetGen < (s.accept r).ident.generation) = false := decide_eq_false (Nat.not_lt.mpr hgen)
  refine receive_replies hruns ?_
  simp only [sized_holds hlen, zeros_hold hzero, hscope, show decide ((0 : Nat) < 2) = true from rfl, show ((0 : Nat) == 1) = false from rfl, hstate,
    hmine, hmay, State.noQuiesce_holds hquiesced hpeer, hnewer, howns, beq_self_eq_true, Bool.not_false, Bool.and_false, Bool.or_false, Bool.true_or,
    Bool.false_eq_true, if_false, need_holds rfl, except_ok_bind, ok]

/-- R565 and R571: SCOPE 1, which the partner activates too. -/
theorem exec_updateActivatePair_starts (hscope : field r.payload 0 1 = 1) (hmay : (s.accept r).pairMayUpdate = true) :
    exec (.updateActivatePair r) s = .next (replied ⟨0x0B04, true, 2, false, .EL, false⟩ r (((s.accept r).modUpdate fun u =>
      { u with state := 3, scopePair := true, pairStep := 1, bytes := 0, part := u.firstToWrite }).tellPartner .activate) 0 []) := by
  have hnewer : decide ((s.accept r).update.targetGen < (s.accept r).ident.generation) = false := decide_eq_false (Nat.not_lt.mpr hgen)
  refine receive_replies hruns ?_
  simp only [sized_holds hlen, zeros_hold hzero, hscope, show decide ((1 : Nat) < 2) = true from rfl, hstate, hmine, hmay,
    State.noQuiesce_holds hquiesced hpeer, hnewer, beq_self_eq_true, Bool.not_true, Bool.not_false, Bool.false_and, Bool.or_false, Bool.true_or,
    if_true, Bool.false_eq_true, if_false, need_holds rfl, except_ok_bind, ok]

end

/-- R564. -/
theorem exec_updateAbort_aborts (hruns : s.fate ⟨0x0B05, true, 2, false, .EL, false⟩ r = .runs) (hp : r.payload = [])
    (hstate : (s.accept r).update.state = 1 ∨ (s.accept r).update.state = 2) :
    exec (.updateAbort r) s = .next (replied ⟨0x0B05, true, 2, false, .EL, false⟩ r (s.accept r).abortUpdate 0 []) := by
  have hrunning : ((s.accept r).update.state == 1 || (s.accept r).update.state == 2) = true := by simpa using hstate
  refine receive_replies hruns ?_
  simp only [sized_empty hp, need_holds hrunning, except_ok_bind, ok]

/-- R574. -/
theorem exec_updateStatus_reads (hruns : s.fate ⟨0x0B06, true, 1, false, .EL, false⟩ r = .runs) (hp : r.payload = []) :
    let a := s.accept r
    let u := a.update
    exec (.updateStatus r) s = .next (replied ⟨0x0B06, true, 1, false, .EL, false⟩ r a 0
      (be 4 (u.state % 16 + 16 * (u.pairStep % 16) + 256 * (u.lastResult % 256) + 65536 * (u.part % 8)
          + (if u.scopePair then 524288 else 0) + 1048576 * (u.endCause % 256))
        ++ be 4 u.targetGen ++ be 4 a.ident.generation ++ be 4 a.partnerGen ++ be 4 (sat32 u.bytes) ++ be 4 u.loader)) := by
  refine receive_replies hruns ?_
  simp only [sized_empty hp, except_ok_bind, ok]

/-! ### The almanac -/

section
variable (hgate : (s.accept r).gateCheck ⟨11, 0, 0, (s.accept r).privOf r.session, if r.tenant < 512 then some r.tenant else none⟩ = none)
include hgate

/-- R578 and R579: records from a sequence on. -/
theorem exec_almanacRead_reads (hruns : s.fate ⟨0x0C01, true, 1, false, .EL, false⟩ r = .runs) (hlen : r.payload.length = 12)
    (hzero : field r.payload 10 2 = 0) (hcount : field r.payload 8 2 ≤ 255) :
    let a := s.accept r
    let xs := (a.almanac.records.filter fun x => decide (field r.payload 0 8 ≤ x.seq)).take (field r.payload 8 2)
    exec (.almanacRead r) s = .next (replied ⟨0x0C01, true, 1, false, .EL, false⟩ r a 0 (be 8 (((xs.head?).map (·.seq)).getD a.almanac.next)
      ++ be 8 (((xs.getLast?).map (·.seq + 1)).getD a.almanac.next) ++ be 2 xs.length ++ be 6 0 ++ xs.flatMap Rec.bytes)) := by
  refine receive_replies hruns ?_
  simp only [sized_holds hlen, zeros_hold hzero, need_holds (decide_eq_true hcount), State.throughGate_admits hgate, except_ok_bind, ok]

/-- R579. -/
theorem exec_almanacStatus_reads (hruns : s.fate ⟨0x0C03, true, 1, false, .E, false⟩ r = .runs) (hp : r.payload = []) :
    let a := s.accept r
    exec (.almanacStatus r) s = .next (replied ⟨0x0C03, true, 1, false, .E, false⟩ r a 0
      (be 8 (((a.almanac.records.head?).map (·.seq)).getD a.almanac.next)
        ++ be 8 (((a.almanac.records.getLast?).map (·.seq)).getD (a.almanac.next - 1)))) := by
  refine receive_replies hruns ?_
  simp only [sized_empty hp, State.throughGate_admits hgate, except_ok_bind, ok]

end

section
variable (sig : Bool) (hruns : s.fate ⟨0x0C02, true, 2, false, .E, false⟩ r = .runs) (hp : r.payload = [0, 0, 0, 0])
include hruns hp

/-- R580: a clear without a token asks for a key, and goes up to the newest record. -/
theorem exec_almanacClear_with_key (hkey : (s.accept r).keyAt 2 = true) :
    let a := s.accept r
    exec (.almanacClear r sig) s = .next (replied ⟨0x0C02, true, 2, false, .E, false⟩ r
      ((a.clearAlmanac (a.almanac.next - 1) a.keySerial r.session).useKey r.session) 0 []) := by
  obtain ⟨hnone, hzero, hlen⟩ := fields_of_zero_word hp
  refine receive_replies hruns ?_
  simp only [hnone, hlen, zeros_hold hzero, State.needKey_holds hkey, Nat.le_refl, decide_true, Nat.add_zero, beq_self_eq_true, Bool.true_or,
    Bool.and_self, need_holds rfl, if_true, except_ok_bind, ok]

theorem exec_almanacClear_denied (hkey : (s.accept r).keyAt 2 = false) :
    exec (.almanacClear r sig) s = .next (replied ⟨0x0C02, true, 2, false, .E, false⟩ r (s.accept r) 8 (denied 3).2) := by
  obtain ⟨hnone, hzero, hlen⟩ := fields_of_zero_word hp
  refine receive_refuses (e := denied 3) hruns ?_
  simp only [hnone, hlen, zeros_hold hzero, State.needKey_fails hkey, Nat.le_refl, decide_true, Nat.add_zero, beq_self_eq_true, Bool.true_or,
    Bool.and_self, need_holds rfl, if_true, except_ok_bind, except_error_bind]

end

end

/-! ### The obligation -/

/-- Settles O48: each clause is the lemma of its command's outcome. -/
theorem updateAndAlmanacCommands : Obligations.UpdateAndAlmanacCommands := by
  unfold Obligations.UpdateAndAlmanacCommands
  intro s r
  refine ⟨exec_updateBegin_begins, fun k u => exec_updateWrite_stages, exec_updateVerify_judges, ?activate, exec_updateAbort_aborts,
    exec_updateStatus_reads, ?read, ?clear, fun hruns hp hgate => exec_almanacStatus_reads hgate hruns hp⟩
  case activate =>
    exact fun hruns hlen hzero hstate hmine hquiesced hpeer =>
      ⟨fun hscope hmay hgen => exec_updateActivateModule_starts hruns hlen hzero hstate hmine hquiesced hpeer hgen hscope hmay,
        fun hscope hmay hgen => exec_updateActivatePair_starts hruns hlen hzero hstate hmine hquiesced hpeer hgen hscope hmay⟩
  case read => exact fun hruns hlen hzero hcount hgate => exec_almanacRead_reads hgate hruns hlen hzero hcount
  case clear => exact fun sig hruns hp => ⟨exec_almanacClear_with_key sig hruns hp, exec_almanacClear_denied sig hruns hp⟩

end Sys2Proof.Machine
end
